-- ==== Sys2Proof/Word.lean ====
section
/-! DEFINITION. The words the part exchanges with the outside: bytes, digit strings and link indices. Only types stand
here; every operation on them is in Decode.lean or under Machine/. -/

namespace Sys2Proof

/-- One byte as it is clocked on the request port, the NAV line or the cell bus (R209). -/
abbrev Byte := BitVec 8

/-- A string of decimal digits, first digit first: a SID or an HNC (00_scope.md, Identifiers; R209). Two strings are
equal when they hold the same digits in the same number (R8, R30). -/
abbrev Digits := List (Fin 10)

/-- One of the four ways to shore, 0–3 (00_scope.md, Identifiers). -/
abbrev Link := Fin 4

/-- One of the four tariff zones, 0–3 (00_scope.md, Identifiers). -/
abbrev TariffZone := Fin 4

/-- A set of links, bit n standing for link n (R209). -/
abbrev LinkSet := BitVec 4

end Sys2Proof
end

