-- ==== Sys2Proof/Config.lean ====
section
/-! DEFINITION. What the part's build fixes: the capacities of 00_scope.md, the limits of its counters, and the two
open constants: the revision of the part, which the spec names without giving it, and the data wire after a device reset. -/

namespace Sys2Proof.Config

/-- Visitor entries (R1). -/
def visitorSlots : Nat := 4096
/-- Accounts (R45). -/
def accounts : Nat := 4608
/-- Partner records (R29). -/
def partners : Nat := 64
/-- Tariff plans (R37). -/
def plans : Nat := 16
/-- Entries of the exchange table (R77). -/
def exchanges : Nat := 64
/-- Links (R99). -/
def links : Nat := 4
/-- Routes (R122). -/
def routes : Nat := 32
/-- Zones of the zone table: circles 0–30 and the default zone 31 (R155). -/
def zones : Nat := 32
/-- The index of the default zone (R155). -/
def defaultZone : Nat := 31
/-- Radio units (R170). -/
def units : Nat := 16
/-- Request tags (R194). -/
def tags : Nat := 16
/-- Notices the notice queue holds (R198). -/
def noticeCapacity : Nat := 128
/-- Fixes the fix FIFO holds (R152). -/
def fifoCapacity : Nat := 2
/-- The upper limit of every 48-bit counter and of the unreported charge (R45). -/
def counterMax : Nat := 281474976710655
/-- The upper limit of a 16-bit saturating discard count (R146, R193). -/
def discardMax : Nat := 65535
/-- The lower limit of a quota part's remaining (R68). -/
def remainingMin : Int := -549755813888
/-- The upper limit of a quota part's remaining (R68). -/
def remainingMax : Int := 549755813887
/-- The vendor code IDENT gives (R207). -/
def vendorCode : Nat := 0x4D6E
/-- The part code IDENT gives (R207). -/
def partCode : Nat := 7420
/-- The reference of the NAV bit clock (R148), samples a second at divisor 0 times 16. -/
def navClock : Nat := 14745600

/-- The revision of the part. R207 puts it in the IDENT answer and no file of spec/ gives its value, so nothing
constrains it (log entry 1). (DESIGN CHOICE.) -/
opaque revision : Byte

/-- What the part's checks of the data wire find after each device reset, in the form of `Rdc.wire`. Both wires are released
after a reset (R191), and whether a unit takes the data wire low before a check is the unit's own act, so nothing
constrains it (R169; DESIGN CHOICE, log entry 6). -/
opaque wireAtReset : Nat → List Nat

end Sys2Proof.Config
end

