-- ==== Sys2Proof/Syntax.lean ====
section
/-! DEFINITION. The commands the part takes, one constructor for each row of spec/opcode_table.json: the requests of the
port (with the fields of R212 at their wire widths), the raw transactions of the port, the events of the NAV line, of the
cell bus and of the part's own timers. -/

namespace Sys2Proof

/-- VOICE, DATA or MESSAGE (00_scope.md, Identifiers). -/
inductive TrafficClass
  | voice | data | message
  deriving DecidableEq, Repr

/-- How a cell bus transaction failed: the unit's last failure (R168). -/
inductive BusFailure
  | address | command | argument | status | bus
  deriving DecidableEq, Repr

/-- The frame that carries a request, less its sync byte, kind, payload and CRC: the tag (0–15 once the tag check of R193
has passed), the payload length byte as it arrived, and how many bytes the party clocked in the whole transaction (R192). -/
structure Frame where
  tag     : Fin 16
  len     : Nat
  clocked : Nat
  deriving DecidableEq, Repr

/-- The five bytes of a preference list field: a count and four link bytes (R209). -/
structure PrefField where
  count : Byte
  l0 : Byte
  l1 : Byte
  l2 : Byte
  l3 : Byte
  deriving DecidableEq, Repr

/-- The payload of PSET (R212). -/
structure PsetFields where
  hnc       : BitVec 24
  admission : Byte
  checkFail : Byte
  charging  : Byte
  plan      : Byte
  route     : Byte
  grace     : BitVec 32
  request   : BitVec 32
  reorder   : BitVec 16
  retryWait : BitVec 16
  deriving DecidableEq, Repr

/-- One listed rate record of TWRITE (R212). -/
structure RateField where
  zone  : Byte
  cls   : Byte
  step  : BitVec 24
  price : BitVec 32
  deriving DecidableEq, Repr

/-- The payload of LCONF (R212). -/
structure LconfFields where
  link      : Byte
  cost      : BitVec 16
  staleTime : BitVec 24
  holdTime  : BitVec 16
  probe     : Byte
  delayT    : BitVec 16
  lossT     : BitVec 16
  levelT    : Byte
  debDelay  : Byte
  debLoss   : Byte
  debLevel  : Byte
  mask      : Byte
  deriving DecidableEq, Repr

/-- The payload of RCONF (R212). -/
structure RconfFields where
  route   : Byte
  bicast  : BitVec 16
  prepare : Byte
  release : Byte
  voice   : PrefField
  data    : PrefField
  message : PrefField
  deriving DecidableEq, Repr

/-- The payload of ZSET (R212). -/
structure ZsetFields where
  zone       : Byte
  enable     : Byte
  east       : BitVec 24
  north      : BitVec 24
  radius     : BitVec 24
  hysteresis : BitVec 16
  policy     : Byte
  tariff     : Byte
  permit     : Byte
  entry      : Byte
  deriving DecidableEq, Repr

/-- The payload of DSET (R212). -/
structure DsetFields where
  pollInterval   : Byte
  muteDeadline   : BitVec 16
  muteHold       : BitVec 16
  idlePassenger  : BitVec 32
  idleCrew       : BitVec 32
  idleEmergency  : BitVec 32
  positionStale  : Byte
  stalePolicy    : Byte
  control        : PrefField
  crewRoute      : Byte
  emergencyRoute : Byte
  timeout        : BitVec 16
  lowWater       : BitVec 16
  alertMask      : Byte
  busSpeed       : Byte
  deriving DecidableEq, Repr

/-- The three samples at the middle of one bit of the NAV line (R148), bit 0 the first; a set bit is a high line. -/
abbrev Samples := BitVec 3

/-- One byte time on the NAV line: the samples of the start bit, of the eight data bits (least significant bit first) and
of the stop bit, and whether the line is still low at the end of the stop bit time (R148). -/
structure LineByte where
  start    : Samples
  d0 : Samples
  d1 : Samples
  d2 : Samples
  d3 : Samples
  d4 : Samples
  d5 : Samples
  d6 : Samples
  d7 : Samples
  stop     : Samples
  lowAtEnd : Bool
  deriving DecidableEq, Repr

/-- The commands of the BD7420, one constructor for each row of spec/opcode_table.json. A request carries its frame and
its payload fields at the widths of R212; an event carries what its rule says arrives with it. The completions of the cell
bus also carry `wire`: what the part's checks of the data wire will find from then on, check by check, each as the number of
clock pulses after which the wire is high, whether a unit held it from this transaction on or took it while the bus was
idle; empty for a wire at rest (R169; log entry 6). -/
inductive Instr
  -- Chapter 1, the visitor register
  | admitVisitor (f : Frame) (sid : BitVec 64) (cls : Byte) (unit : Byte)
  | refresh (f : Frame) (handle : BitVec 16) (unit : Byte)
  | detach (f : Frame) (handle : BitVec 16)
  | vread (f : Frame) (sel : Byte) (name : BitVec 64)
  | purge (f : Frame) (scope : Byte) (hnc : BitVec 24)
  -- Chapter 2, partners and tariff plans
  | pset (f : Frame) (p : PsetFields)
  | pdel (f : Frame) (hnc : BitVec 24)
  | pread (f : Frame) (sel : Byte) (name : BitVec 24)
  | twrite (f : Frame) (plan : Byte) (flags : Byte) (factor : BitVec 16) (records : List RateField)
  | topen (f : Frame) (plan : Byte)
  | tcommit (f : Frame) (plan : Byte) (check : BitVec 16)
  | tread (f : Frame) (plan : Byte)
  -- Chapter 3, metering and rating
  | usage (f : Frame) (handle : BitVec 16) (cls : Byte) (dir : Byte) (amount : BitVec 24) (link : Byte)
  | aread (f : Frame) (sel : Byte) (name : BitVec 64)
  | settle (f : Frame) (account : BitVec 16)
  | collect (f : Frame) (account : BitVec 16)
  | uaread (f : Frame)
  -- Chapter 4, quota and shore exchanges
  | xfetch (f : Frame)
  | xanswer (f : Frame) (ref : BitVec 16) (result : Byte) (units : BitVec 32) (validity : BitVec 16) (final : Byte)
  | xfail (f : Frame) (ref : BitVec 16)
  -- Chapter 5, shore links
  | lconf (f : Frame) (c : LconfFields)
  | lenable (f : Frame) (link : Byte)
  | ldisable (f : Frame) (link : Byte)
  | lmeasure (f : Frame) (link : Byte) (delay : BitVec 32) (loss : BitVec 16) (level : BitVec 16)
  | lloss (f : Frame) (link : Byte)
  | lhold (f : Frame) (link : Byte)
  | lrelease (f : Frame) (link : Byte)
  | ldrill (f : Frame) (link : Byte) (monitor : Byte) (duration : BitVec 16)
  | lread (f : Frame) (link : Byte) (clear : Byte)
  -- Chapter 6, routes and link handover
  | rconf (f : Frame) (r : RconfFields)
  | rpin (f : Frame) (route : Byte) (cls : Byte) (link : Byte)
  | runpin (f : Frame) (route : Byte) (cls : Byte)
  | hready (f : Frame) (route : Byte) (cls : Byte) (link : Byte)
  | hdone (f : Frame) (route : Byte) (cls : Byte) (link : Byte)
  | rread (f : Frame) (route : Byte)
  | lookup (f : Frame) (handle : BitVec 16) (cls : Byte)
  -- Chapter 7, navigation and zones
  | navconf (f : Frame) (divisor : Byte) (enable : Byte)
  | fixpost (f : Frame) (east : BitVec 24) (north : BitVec 24) (quality : Byte)
  | nread (f : Frame)
  | zset (f : Frame) (z : ZsetFields)
  | zread (f : Frame) (zone : Byte)
  -- Chapter 8, radio units and the cell bus
  | rmute (f : Frame)
  | rrelease (f : Frame)
  | ucmdExclude (f : Frame) (unit : Byte)
  | ucmdInclude (f : Frame) (unit : Byte)
  | ucmdProbe (f : Frame) (unit : Byte)
  | uread (f : Frame) (unit : Byte)
  -- Chapter 9, the request port
  | start (f : Frame)
  | stop (f : Frame)
  | dset (f : Frame) (d : DsetFields)
  | clock (f : Frame) (time : BitVec 32)
  | ident (f : Frame) (clear : Byte)
  | nfetch (f : Frame)
  | resync (f : Frame)
  /-- A frame that passed R193's byte checks, as it arrived: its tag, kind and payload. -/
  | unknownRequest (tag : Fin 16) (clocked : Nat) (kind : Byte) (payload : List Byte)
  /-- A whole transaction as it was shifted in, to be judged by R193. -/
  | frameDiscard (shifted : List Byte)
  /-- A transaction of `clocked` bytes FFh. -/
  | answerRead (clocked : Nat)
  | deviceReset
  -- the NAV line
  /-- The bytes of the NAV line up to and including the one that completes a message. -/
  | navMessage (bytes : List LineByte)
  | navFramingError (b : LineByte)
  | navBreak (b : LineByte)
  -- what the blocks do on their own, and the expiry of their timers
  | fixEvaluation
  | purgeWalkStep
  | retireTimerExpiry (slot : Nat)
  | grantExpiry (slot : Nat)
  | retryWaitExpiry (slot : Nat)
  | answerTimerExpiry (entry : Nat)
  | staleTimerExpiry (link : Link)
  | holdTimerExpiry (link : Link)
  | drillTimerExpiry (link : Link)
  | prepareTimerExpiry (route : Nat) (cls : TrafficClass)
  | bicastTimerExpiry (route : Nat) (cls : TrafficClass)
  | releaseTimerExpiry (route : Nat) (cls : TrafficClass)
  | positionStaleTimerExpiry
  | muteDeadlineExpiry
  | pollTimerExpiry
  -- completions on the cell bus
  | commandAnswered (wire : List Nat)
  | commandNoack (failure : BusFailure) (wire : List Nat)
  | pollAnswered (first : Byte) (second : Byte) (wire : List Nat)
  | pollNoack (failure : BusFailure) (wire : List Nat)
  -- the NAV line and ship time
  | navByte (b : LineByte)
  | shipTimeTick
  deriving DecidableEq, Repr

end Sys2Proof
end

