-- ==== Sys2Proof/Decode.lean ====
section
/-! DEFINITION. From bytes to commands and back: the byte order and the CRC, the judging of a transaction (R193), the
request payloads of R212, and the judging of one byte time on the NAV line (R148). The opcode table gives no row any bits,
so a table word spells no command. -/

namespace Sys2Proof

/-! ### Bytes (R209) -/

/-- Byte `i` of a byte string, 0 past its end. -/
def byteAt (bs : List Byte) (i : Nat) : Byte := bs.getD i 0

/-- The number a byte string stands for, most significant byte first (R209). -/
def beNat (bs : List Byte) : Nat := bs.foldl (fun a b => a * 256 + b.toNat) 0

/-- `n` bytes of a number, most significant byte first (R209). -/
def beBytes : Nat → Nat → List Byte
  | 0, _ => []
  | n + 1, v => BitVec.ofNat 8 (v / 256 ^ n) :: beBytes n v

/-- The field of `n` bytes that starts at byte `i`, read as a word of `w` bits. -/
def fieldAt (w n : Nat) (bs : List Byte) (i : Nat) : BitVec w := BitVec.ofNat w (beNat ((bs.drop i).take n))

/-! ### The CRC (R41, R211) -/

/-- One place of the remainder's shift (R41, step 3). -/
def crcShift (r : BitVec 16) : BitVec 16 := if r.msb then (r <<< 1) ^^^ 0x1021#16 else r <<< 1

/-- One byte of the content folded into the remainder (R41, steps 2 and 3). -/
def crcByte (r : BitVec 16) (b : Byte) : BitVec 16 :=
  crcShift (crcShift (crcShift (crcShift (crcShift (crcShift (crcShift (crcShift (r ^^^ (b ++ 0#8)))))))))

/-- The CRC-16 of a byte string: remainder FFFFh at the start, 1021h at each carry, not inverted (R41). -/
def crc16 (bs : List Byte) : BitVec 16 := bs.foldl crcByte 0xFFFF#16

/-! ### The kinds of request (R212) -/

/-- The kind code of a request and the payload length R212 gives it. -/
structure RequestKind where
  code : Byte
  len  : Nat
  deriving DecidableEq, Repr

def kAdmit : RequestKind := ⟨0x10, 10⟩
def kRefresh : RequestKind := ⟨0x11, 3⟩
def kDetach : RequestKind := ⟨0x12, 2⟩
def kVread : RequestKind := ⟨0x13, 9⟩
def kPurge : RequestKind := ⟨0x14, 4⟩
def kPset : RequestKind := ⟨0x20, 20⟩
def kPdel : RequestKind := ⟨0x21, 3⟩
def kPread : RequestKind := ⟨0x22, 4⟩
/-- TWRITE's length follows its own count byte (R213). -/
def kTwrite (count : Nat) : RequestKind := ⟨0x24, 5 + 9 * count⟩
def kTopen : RequestKind := ⟨0x25, 1⟩
def kTcommit : RequestKind := ⟨0x26, 3⟩
def kTread : RequestKind := ⟨0x27, 1⟩
def kUsage : RequestKind := ⟨0x30, 8⟩
def kAread : RequestKind := ⟨0x31, 9⟩
def kSettle : RequestKind := ⟨0x32, 2⟩
def kCollect : RequestKind := ⟨0x33, 2⟩
def kUaread : RequestKind := ⟨0x34, 0⟩
def kXfetch : RequestKind := ⟨0x40, 0⟩
def kXanswer : RequestKind := ⟨0x41, 10⟩
def kXfail : RequestKind := ⟨0x42, 2⟩
def kLconf : RequestKind := ⟨0x50, 18⟩
def kLenable : RequestKind := ⟨0x51, 1⟩
def kLdisable : RequestKind := ⟨0x52, 1⟩
def kLmeasure : RequestKind := ⟨0x53, 9⟩
def kLloss : RequestKind := ⟨0x54, 1⟩
def kLhold : RequestKind := ⟨0x55, 1⟩
def kLrelease : RequestKind := ⟨0x56, 1⟩
def kLdrill : RequestKind := ⟨0x57, 4⟩
def kLread : RequestKind := ⟨0x58, 2⟩
def kRconf : RequestKind := ⟨0x60, 20⟩
def kRpin : RequestKind := ⟨0x61, 3⟩
def kRunpin : RequestKind := ⟨0x62, 2⟩
def kHready : RequestKind := ⟨0x63, 3⟩
def kHdone : RequestKind := ⟨0x64, 3⟩
def kRread : RequestKind := ⟨0x65, 1⟩
def kLookup : RequestKind := ⟨0x66, 3⟩
def kNavconf : RequestKind := ⟨0x70, 2⟩
def kFixpost : RequestKind := ⟨0x71, 7⟩
def kNread : RequestKind := ⟨0x72, 0⟩
def kZset : RequestKind := ⟨0x73, 17⟩
def kZread : RequestKind := ⟨0x74, 1⟩
def kRmute : RequestKind := ⟨0x80, 0⟩
def kRrelease : RequestKind := ⟨0x81, 0⟩
def kUcmd : RequestKind := ⟨0x82, 2⟩
def kUread : RequestKind := ⟨0x83, 1⟩
def kStart : RequestKind := ⟨0x90, 0⟩
def kStop : RequestKind := ⟨0x91, 0⟩
def kDset : RequestKind := ⟨0x92, 32⟩
def kClock : RequestKind := ⟨0x93, 4⟩
def kIdent : RequestKind := ⟨0x94, 1⟩
def kNfetch : RequestKind := ⟨0x95, 0⟩
def kResync : RequestKind := ⟨0x96, 0⟩

/-- The five bytes of a preference list field at byte `i` (R209). -/
def prefAt (p : List Byte) (i : Nat) : PrefField :=
  ⟨byteAt p i, byteAt p (i + 1), byteAt p (i + 2), byteAt p (i + 3), byteAt p (i + 4)⟩

/-- The bytes of a preference list field. -/
def prefBytes (f : PrefField) : List Byte := [f.count, f.l0, f.l1, f.l2, f.l3]

/-- `n` rate records of 9 bytes from byte `i` on (R212, TWRITE). -/
def ratesAt (p : List Byte) : Nat → Nat → List RateField
  | 0, _ => []
  | n + 1, i => ⟨byteAt p i, byteAt p (i + 1), fieldAt 24 3 p (i + 2), fieldAt 32 4 p (i + 5)⟩ :: ratesAt p n (i + 9)

/-- The 9 bytes of one listed rate record. -/
def rateBytes (r : RateField) : List Byte := [r.zone, r.cls] ++ beBytes 3 r.step.toNat ++ beBytes 4 r.price.toNat

/-- What the kind byte of a taken frame leads to (R195): no request of the part, UCMD with a command byte that is none of
its three, or a request with its fields. -/
inductive Taken
  | unknown
  | badCommand
  | request (i : Instr)
  deriving DecidableEq, Repr

/-- The request a taken frame names, with the fields of R212 read from its payload (R195, R209, R212). Where the payload is
shorter than its kind calls for, fields are read as 0: the length is then judged BAD_LENGTH before any field (R213). -/
def requestOf (f : Frame) (kind : Byte) (p : List Byte) : Taken :=
  match kind.toNat with
  | 0x10 => .request (.admitVisitor f (fieldAt 64 8 p 0) (byteAt p 8) (byteAt p 9))
  | 0x11 => .request (.refresh f (fieldAt 16 2 p 0) (byteAt p 2))
  | 0x12 => .request (.detach f (fieldAt 16 2 p 0))
  | 0x13 => .request (.vread f (byteAt p 0) (fieldAt 64 8 p 1))
  | 0x14 => .request (.purge f (byteAt p 0) (fieldAt 24 3 p 1))
  | 0x20 => .request (.pset f ⟨fieldAt 24 3 p 0, byteAt p 3, byteAt p 4, byteAt p 5, byteAt p 6, byteAt p 7,
              fieldAt 32 4 p 8, fieldAt 32 4 p 12, fieldAt 16 2 p 16, fieldAt 16 2 p 18⟩)
  | 0x21 => .request (.pdel f (fieldAt 24 3 p 0))
  | 0x22 => .request (.pread f (byteAt p 0) (fieldAt 24 3 p 1))
  | 0x24 => .request (.twrite f (byteAt p 0) (byteAt p 1) (fieldAt 16 2 p 2) (ratesAt p (byteAt p 4).toNat 5))
  | 0x25 => .request (.topen f (byteAt p 0))
  | 0x26 => .request (.tcommit f (byteAt p 0) (fieldAt 16 2 p 1))
  | 0x27 => .request (.tread f (byteAt p 0))
  | 0x30 => .request (.usage f (fieldAt 16 2 p 0) (byteAt p 2) (byteAt p 3) (fieldAt 24 3 p 4) (byteAt p 7))
  | 0x31 => .request (.aread f (byteAt p 0) (fieldAt 64 8 p 1))
  | 0x32 => .request (.settle f (fieldAt 16 2 p 0))
  | 0x33 => .request (.collect f (fieldAt 16 2 p 0))
  | 0x34 => .request (.uaread f)
  | 0x40 => .request (.xfetch f)
  | 0x41 => .request (.xanswer f (fieldAt 16 2 p 0) (byteAt p 2) (fieldAt 32 4 p 3) (fieldAt 16 2 p 7) (byteAt p 9))
  | 0x42 => .request (.xfail f (fieldAt 16 2 p 0))
  | 0x50 => .request (.lconf f ⟨byteAt p 0, fieldAt 16 2 p 1, fieldAt 24 3 p 3, fieldAt 16 2 p 6, byteAt p 8,
              fieldAt 16 2 p 9, fieldAt 16 2 p 11, byteAt p 13, byteAt p 14, byteAt p 15, byteAt p 16, byteAt p 17⟩)
  | 0x51 => .request (.lenable f (byteAt p 0))
  | 0x52 => .request (.ldisable f (byteAt p 0))
  | 0x53 => .request (.lmeasure f (byteAt p 0) (fieldAt 32 4 p 1) (fieldAt 16 2 p 5) (fieldAt 16 2 p 7))
  | 0x54 => .request (.lloss f (byteAt p 0))
  | 0x55 => .request (.lhold f (byteAt p 0))
  | 0x56 => .request (.lrelease f (byteAt p 0))
  | 0x57 => .request (.ldrill f (byteAt p 0) (byteAt p 1) (fieldAt 16 2 p 2))
  | 0x58 => .request (.lread f (byteAt p 0) (byteAt p 1))
  | 0x60 => .request (.rconf f ⟨byteAt p 0, fieldAt 16 2 p 1, byteAt p 3, byteAt p 4, prefAt p 5, prefAt p 10, prefAt p 15⟩)
  | 0x61 => .request (.rpin f (byteAt p 0) (byteAt p 1) (byteAt p 2))
  | 0x62 => .request (.runpin f (byteAt p 0) (byteAt p 1))
  | 0x63 => .request (.hready f (byteAt p 0) (byteAt p 1) (byteAt p 2))
  | 0x64 => .request (.hdone f (byteAt p 0) (byteAt p 1) (byteAt p 2))
  | 0x65 => .request (.rread f (byteAt p 0))
  | 0x66 => .request (.lookup f (fieldAt 16 2 p 0) (byteAt p 2))
  | 0x70 => .request (.navconf f (byteAt p 0) (byteAt p 1))
  | 0x71 => .request (.fixpost f (fieldAt 24 3 p 0) (fieldAt 24 3 p 3) (byteAt p 6))
  | 0x72 => .request (.nread f)
  | 0x73 => .request (.zset f ⟨byteAt p 0, byteAt p 1, fieldAt 24 3 p 2, fieldAt 24 3 p 5, fieldAt 24 3 p 8,
              fieldAt 16 2 p 11, byteAt p 13, byteAt p 14, byteAt p 15, byteAt p 16⟩)
  | 0x74 => .request (.zread f (byteAt p 0))
  | 0x80 => .request (.rmute f)
  | 0x81 => .request (.rrelease f)
  | 0x82 =>
    match (byteAt p 1).toNat with
    | 0 => .request (.ucmdExclude f (byteAt p 0))
    | 1 => .request (.ucmdInclude f (byteAt p 0))
    | 2 => .request (.ucmdProbe f (byteAt p 0))
    | _ => .badCommand
  | 0x83 => .request (.uread f (byteAt p 0))
  | 0x90 => .request (.start f)
  | 0x91 => .request (.stop f)
  | 0x92 => .request (.dset f ⟨byteAt p 0, fieldAt 16 2 p 1, fieldAt 16 2 p 3, fieldAt 32 4 p 5, fieldAt 32 4 p 9,
              fieldAt 32 4 p 13, byteAt p 17, byteAt p 18, prefAt p 19, byteAt p 24, byteAt p 25, fieldAt 16 2 p 26,
              fieldAt 16 2 p 28, byteAt p 30, byteAt p 31⟩)
  | 0x93 => .request (.clock f (fieldAt 32 4 p 0))
  | 0x94 => .request (.ident f (byteAt p 0))
  | 0x95 => .request (.nfetch f)
  | 0x96 => .request (.resync f)
  | _ => .unknown

/-- The frame, kind and payload bytes of a request, its fields laid out as R212 lists them; none for an event. -/
def payloadOf : Instr → Option (Frame × RequestKind × List Byte)
  | .admitVisitor f sid cls unit => some (f, kAdmit, beBytes 8 sid.toNat ++ [cls, unit])
  | .refresh f handle unit => some (f, kRefresh, beBytes 2 handle.toNat ++ [unit])
  | .detach f handle => some (f, kDetach, beBytes 2 handle.toNat)
  | .vread f sel name => some (f, kVread, sel :: beBytes 8 name.toNat)
  | .purge f scope hnc => some (f, kPurge, scope :: beBytes 3 hnc.toNat)
  | .pset f p => some (f, kPset, beBytes 3 p.hnc.toNat ++ [p.admission, p.checkFail, p.charging, p.plan, p.route] ++
      beBytes 4 p.grace.toNat ++ beBytes 4 p.request.toNat ++ beBytes 2 p.reorder.toNat ++ beBytes 2 p.retryWait.toNat)
  | .pdel f hnc => some (f, kPdel, beBytes 3 hnc.toNat)
  | .pread f sel name => some (f, kPread, sel :: beBytes 3 name.toNat)
  | .twrite f plan flags factor records => some (f, kTwrite records.length,
      [plan, flags] ++ beBytes 2 factor.toNat ++ [BitVec.ofNat 8 records.length] ++ records.flatMap rateBytes)
  | .topen f plan => some (f, kTopen, [plan])
  | .tcommit f plan check => some (f, kTcommit, plan :: beBytes 2 check.toNat)
  | .tread f plan => some (f, kTread, [plan])
  | .usage f handle cls dir amount link =>
      some (f, kUsage, beBytes 2 handle.toNat ++ [cls, dir] ++ beBytes 3 amount.toNat ++ [link])
  | .aread f sel name => some (f, kAread, sel :: beBytes 8 name.toNat)
  | .settle f account => some (f, kSettle, beBytes 2 account.toNat)
  | .collect f account => some (f, kCollect, beBytes 2 account.toNat)
  | .uaread f => some (f, kUaread, [])
  | .xfetch f => some (f, kXfetch, [])
  | .xanswer f ref result units validity final => some (f, kXanswer,
      beBytes 2 ref.toNat ++ [result] ++ beBytes 4 units.toNat ++ beBytes 2 validity.toNat ++ [final])
  | .xfail f ref => some (f, kXfail, beBytes 2 ref.toNat)
  | .lconf f c => some (f, kLconf, [c.link] ++ beBytes 2 c.cost.toNat ++ beBytes 3 c.staleTime.toNat ++
      beBytes 2 c.holdTime.toNat ++ [c.probe] ++ beBytes 2 c.delayT.toNat ++ beBytes 2 c.lossT.toNat ++
      [c.levelT, c.debDelay, c.debLoss, c.debLevel, c.mask])
  | .lenable f link => some (f, kLenable, [link])
  | .ldisable f link => some (f, kLdisable, [link])
  | .lmeasure f link delay loss level => some (f, kLmeasure,
      [link] ++ beBytes 4 delay.toNat ++ beBytes 2 loss.toNat ++ beBytes 2 level.toNat)
  | .lloss f link => some (f, kLloss, [link])
  | .lhold f link => some (f, kLhold, [link])
  | .lrelease f link => some (f, kLrelease, [link])
  | .ldrill f link monitor duration => some (f, kLdrill, [link, monitor] ++ beBytes 2 duration.toNat)
  | .lread f link clear => some (f, kLread, [link, clear])
  | .rconf f r => some (f, kRconf, [r.route] ++ beBytes 2 r.bicast.toNat ++ [r.prepare, r.release] ++
      prefBytes r.voice ++ prefBytes r.data ++ prefBytes r.message)
  | .rpin f route cls link => some (f, kRpin, [route, cls, link])
  | .runpin f route cls => some (f, kRunpin, [route, cls])
  | .hready f route cls link => some (f, kHready, [route, cls, link])
  | .hdone f route cls link => some (f, kHdone, [route, cls, link])
  | .rread f route => some (f, kRread, [route])
  | .lookup f handle cls => some (f, kLookup, beBytes 2 handle.toNat ++ [cls])
  | .navconf f divisor enable => some (f, kNavconf, [divisor, enable])
  | .fixpost f east north quality => some (f, kFixpost, beBytes 3 east.toNat ++ beBytes 3 north.toNat ++ [quality])
  | .nread f => some (f, kNread, [])
  | .zset f z => some (f, kZset, [z.zone, z.enable] ++ beBytes 3 z.east.toNat ++ beBytes 3 z.north.toNat ++
      beBytes 3 z.radius.toNat ++ beBytes 2 z.hysteresis.toNat ++ [z.policy, z.tariff, z.permit, z.entry])
  | .zread f zone => some (f, kZread, [zone])
  | .rmute f => some (f, kRmute, [])
  | .rrelease f => some (f, kRrelease, [])
  | .ucmdExclude f unit => some (f, kUcmd, [unit, 0])
  | .ucmdInclude f unit => some (f, kUcmd, [unit, 1])
  | .ucmdProbe f unit => some (f, kUcmd, [unit, 2])
  | .uread f unit => some (f, kUread, [unit])
  | .start f => some (f, kStart, [])
  | .stop f => some (f, kStop, [])
  | .dset f d => some (f, kDset, [d.pollInterval] ++ beBytes 2 d.muteDeadline.toNat ++ beBytes 2 d.muteHold.toNat ++
      beBytes 4 d.idlePassenger.toNat ++ beBytes 4 d.idleCrew.toNat ++ beBytes 4 d.idleEmergency.toNat ++
      [d.positionStale, d.stalePolicy] ++ prefBytes d.control ++ [d.crewRoute, d.emergencyRoute] ++
      beBytes 2 d.timeout.toNat ++ beBytes 2 d.lowWater.toNat ++ [d.alertMask, d.busSpeed])
  | .clock f time => some (f, kClock, beBytes 4 time.toNat)
  | .ident f clear => some (f, kIdent, [clear])
  | .nfetch f => some (f, kNfetch, [])
  | .resync f => some (f, kResync, [])
  | .unknownRequest _ _ _ _ | .frameDiscard _ | .answerRead _ | .deviceReset | .navMessage _ | .navFramingError _
  | .navBreak _ | .fixEvaluation | .purgeWalkStep | .retireTimerExpiry _ | .grantExpiry _ | .retryWaitExpiry _
  | .answerTimerExpiry _ | .staleTimerExpiry _ | .holdTimerExpiry _ | .drillTimerExpiry _ | .prepareTimerExpiry _ _
  | .bicastTimerExpiry _ _ | .releaseTimerExpiry _ _ | .positionStaleTimerExpiry | .muteDeadlineExpiry
  | .pollTimerExpiry | .commandAnswered _ | .commandNoack _ _ | .pollAnswered _ _ _ | .pollNoack _ _ | .navByte _
  | .shipTimeTick => none

/-! ### Transactions (R192, R193, R210) -/

/-- The four discard counts of the port (R193). -/
inductive DiscardCount
  | sync | frame | crc | clash
  deriving DecidableEq, Repr

/-- What R192 and R193 make of the bytes shifted in by one transaction. -/
inductive Verdict
  | noRequest
  | discard (c : DiscardCount)
  | taken (tag : Fin 16) (kind : Byte) (payload : List Byte)
  deriving DecidableEq, Repr

/-- The judging of a transaction: no request where every byte is FFh (R192), and otherwise the checks of R193 in their
order. `busy` is the tag table; RESYNC (kind 96h) is free of the clash check (R197). -/
def judge (busy : Fin 16 → Bool) (bs : List Byte) : Verdict :=
  if bs.all (· == 0xFF#8) then .noRequest
  else if byteAt bs 0 ≠ 0xA5#8 then .discard .sync
  else
    let len := (byteAt bs 3).toNat
    if bs.length < 6 || len > 120 || bs.length < len + 6 || (bs.drop (len + 6)).any (· != 0xFF#8) then .discard .frame
    else if crc16 ((bs.drop 1).take (len + 3)) ≠ fieldAt 16 2 bs (len + 4) then .discard .crc
    else if h : (byteAt bs 2).toNat < 16 then
      if busy ⟨(byteAt bs 2).toNat, h⟩ && byteAt bs 1 != kResync.code then .discard .clash
      else .taken ⟨(byteAt bs 2).toNat, h⟩ (byteAt bs 1) ((bs.drop 4).take len)
    else .discard .frame

/-- The bytes of a frame: sync, kind, tag, payload length, payload and the CRC over all but the sync byte (R210, R211). -/
def frameBytes (sync kind tag : Byte) (payload : List Byte) : List Byte :=
  let body := [kind, tag, BitVec.ofNat 8 payload.length] ++ payload
  [sync] ++ body ++ beBytes 2 (crc16 body).toNat

/-- The command a whole transaction stands for: the read of an answer, a frame to be discarded, or the request of a taken
frame (R192, R193, R195). -/
def commandOf (busy : Fin 16 → Bool) (bs : List Byte) : Instr :=
  match judge busy bs with
  | .noRequest => .answerRead bs.length
  | .discard _ => .frameDiscard bs
  | .taken tag kind payload =>
    match requestOf ⟨tag, payload.length, bs.length⟩ kind payload with
    | .request i => i
    | .unknown | .badCommand => .unknownRequest tag bs.length kind payload

/-- The transaction that carries a request: its frame, then FFh up to the number of bytes clocked (R192, R210). -/
def transactionOf (i : Instr) : Option (List Byte) :=
  match payloadOf i with
  | some (f, k, p) =>
    let bs := frameBytes 0xA5 k.code (BitVec.ofNat 8 f.tag.val) p
    some (bs ++ List.replicate (f.clocked - bs.length) 0xFF)
  | none => none

/-! ### One byte time on the NAV line (R148) -/

/-- The value of a bit: the value of at least two of its three samples. -/
def majority (x : Samples) : Bool := (x[0] && x[1]) || (x[0] && x[2]) || (x[1] && x[2])

/-- Whether the three samples of a bit agree. -/
def agreed (x : Samples) : Bool := x == 0#3 || x == 7#3

/-- What one byte time on the NAV line gives. A break is also a framing error (R148). -/
inductive LineOutcome
  | falseStart
  | good (b : Byte)
  | noisy (b : Byte)
  | framing
  | broken
  deriving DecidableEq, Repr

/-- The byte the majorities of the data bits give, least significant bit first (R148). -/
def lineValue (x : LineByte) : Byte :=
  BitVec.ofNat 8 ((majority x.d0).toNat + 2 * (majority x.d1).toNat + 4 * (majority x.d2).toNat +
    8 * (majority x.d3).toNat + 16 * (majority x.d4).toNat + 32 * (majority x.d5).toNat + 64 * (majority x.d6).toNat +
    128 * (majority x.d7).toNat)

/-- Whether the samples of every bit agree, start and stop bits included. -/
def lineClean (x : LineByte) : Bool :=
  agreed x.start && agreed x.d0 && agreed x.d1 && agreed x.d2 && agreed x.d3 && agreed x.d4 && agreed x.d5 &&
    agreed x.d6 && agreed x.d7 && agreed x.stop

/-- The outcome of one byte time (R148): a start bit judged high is a false start; a stop bit judged low is a framing error,
and a break if all 8 data bits are low and the line is still low at the end of the stop bit time. -/
def lineOutcome (x : LineByte) : LineOutcome :=
  if majority x.start then .falseStart
  else if majority x.stop then (if lineClean x then .good (lineValue x) else .noisy (lineValue x))
  else if lineValue x == 0 && x.lowAtEnd then .broken
  else .framing

/-- The samples of a clean bit. -/
def cleanBit (b : Bool) : Samples := if b then 7#3 else 0#3

/-- A byte sent cleanly on the NAV line (R148, R229). -/
def cleanLine (b : Byte) : LineByte :=
  ⟨0#3, cleanBit b[0], cleanBit b[1], cleanBit b[2], cleanBit b[3], cleanBit b[4], cleanBit b[5], cleanBit b[6],
    cleanBit b[7], 7#3, false⟩

/-- The bit rate of the NAV line for a stored divisor (R148). -/
def navBitRate (divisor : Byte) : Nat := Config.navClock / (16 * (divisor.toNat + 1))

/-- The command a word spells by the table's bits. spec/opcode_table.json gives no row a "fixed" or a "fields" entry, so no
word spells a command. -/
def decodeTableWord (_nbits _w : Nat) : Option Instr := none

end Sys2Proof
end

