-- ==== Sys2Proof/Machine/Table.lean ====
section
/-! DEFINITION. The containers of the part's records. A numbered table is a list of (index, record) pairs in one canonical
form: indices strictly rising, and no entry equal to the record's reset value, so equal tables are equal lists. The small
fixed families (four links, four tariff zones, three traffic classes, three monitors) are structures. The form is the
model's own (DESIGN CHOICE, log entry 2). -/

namespace Sys2Proof.Machine

/-- A numbered table of records. An index the list does not name holds the reset value. -/
abbrev Table (α : Type) := List (Nat × α)

/-- The record at an index. -/
def tget {α : Type} (d : α) : Table α → Nat → α
  | [], _ => d
  | (k, v) :: t, i => if k = i then v else tget d t i

/-- The table without any entry at an index. -/
def terase {α : Type} : Table α → Nat → Table α
  | [], _ => []
  | (k, v) :: t, i => if k = i then terase t i else (k, v) :: terase t i

/-- The table with an entry put before the first larger index. -/
def tinsert {α : Type} : Table α → Nat → α → Table α
  | [], i, v => [(i, v)]
  | (k, w) :: t, i, v => if i < k then (i, v) :: (k, w) :: t else (k, w) :: tinsert t i v

/-- The table with one record replaced. A record at its reset value is not listed. -/
def tset {α : Type} [DecidableEq α] (d : α) (t : Table α) (i : Nat) (v : α) : Table α :=
  if v = d then terase t i else tinsert (terase t i) i v

/-- The table with every listed record changed by `g`. -/
def tmap {α : Type} (g : α → α) (t : Table α) : Table α := t.map fun e => (e.1, g e.2)

/-- The canonical form from index `lo` on: indices strictly rising, no record at its reset value. -/
def canonicalFrom {α : Type} [DecidableEq α] (d : α) : Nat → Table α → Bool
  | _, [] => true
  | lo, (k, v) :: t => decide (lo ≤ k) && decide (v ≠ d) && canonicalFrom d (k + 1) t

/-- The canonical form of a table. -/
def canonical {α : Type} [DecidableEq α] (d : α) (t : Table α) : Bool := canonicalFrom d 0 t

/-- The lowest index below `n`, from `i` on, whose record satisfies `p`; `fuel` is how many indices are left. -/
def firstIndex {α : Type} (d : α) (p : α → Bool) (t : Table α) : Nat → Nat → Option Nat
  | 0, _ => none
  | fuel + 1, i => if p (tget d t i) then some i else firstIndex d p t fuel (i + 1)

/-- How many listed records satisfy `p`. -/
def tcount {α : Type} (p : α → Bool) (t : Table α) : Nat := (t.filter fun e => p e.2).length

/-- Four values, one for each link or each tariff zone. -/
structure Quad (α : Type) where
  q0 : α
  q1 : α
  q2 : α
  q3 : α
  deriving DecidableEq, Repr

/-- The same value four times. -/
def quadOf {α : Type} (v : α) : Quad α := ⟨v, v, v, v⟩

/-- The value at an index. -/
def qget {α : Type} (q : Quad α) : Fin 4 → α
  | 0 => q.q0
  | 1 => q.q1
  | 2 => q.q2
  | 3 => q.q3

/-- One of the four values replaced. -/
def qset {α : Type} (q : Quad α) (i : Fin 4) (v : α) : Quad α :=
  match i with
  | 0 => { q with q0 := v }
  | 1 => { q with q1 := v }
  | 2 => { q with q2 := v }
  | 3 => { q with q3 := v }

/-- All four values changed by `g`. -/
def qmap {α : Type} (g : α → α) (q : Quad α) : Quad α := ⟨g q.q0, g q.q1, g q.q2, g q.q3⟩

/-- The four values in index order. -/
def qlist {α : Type} (q : Quad α) : List α := [q.q0, q.q1, q.q2, q.q3]

end Sys2Proof.Machine
end

