-- ==== Sys2Proof/Machine/State.lean ====
section
/-! DEFINITION. The state of the BD7420: the records each of its eight blocks keeps (00_scope.md), the lines of the part
that are not a function of those records, the queue of commands waiting, and the machine right after device reset. The
fields that are the model's own and not the spec's are named so. -/

namespace Sys2Proof.Machine

/-! ### Traffic classes, monitors -/

/-- Three values, one for each traffic class. -/
structure PerClass (α : Type) where
  voice   : α
  data    : α
  message : α
  deriving DecidableEq, Repr

/-- DELAY, LOSS or LEVEL: what a quality monitor of a link watches (R99). -/
inductive Monitor
  | delay | loss | level
  deriving DecidableEq, Repr

/-- Three values, one for each monitor. -/
structure PerMonitor (α : Type) where
  delay : α
  loss  : α
  level : α
  deriving DecidableEq, Repr

/-! ### VRG, the visitor register, with the parts of its entries that QXU keeps -/

/-- The service class of a visitor (00_scope.md, Identifiers). -/
inductive ServiceClass
  | passenger | crew | emergency
  deriving DecidableEq, Repr

/-- The states of an entry that is not FREE (section 1.3). -/
inductive VisitorState
  | authorizing | active | suspended | departing
  deriving DecidableEq, Repr

/-- Why a visitor was retired (R1). -/
inductive RetireReason
  | detached | idle | muteHold | evicted | purged | rejected | checkFailed | muted
  deriving DecidableEq, Repr

/-- OPEN, WAIT or SHUT (R68). -/
inductive Gate
  | opened | waiting | shut
  deriving DecidableEq, Repr

/-- The quota part of an ONLINE visitor (R68). -/
structure Quota where
  remaining : Int
  lastGrant : Nat
  expiry    : Option Nat
  final     : Bool
  retry     : Option Nat
  gate      : Gate
  deriving DecidableEq, Repr

/-- The reference of one use of an exchange entry (00_scope.md, Identifiers; R77). -/
structure XRef where
  entry : Nat
  use   : Byte
  deriving DecidableEq, Repr

/-- The fields of an entry that is not FREE (R1). -/
structure Visitor where
  state        : VisitorState
  cls          : ServiceClass
  partner      : Option Nat
  route        : Nat
  unit         : Nat
  quota        : Option Quota
  xref         : Option XRef
  deferred     : Bool
  retire       : Option Nat
  lastActivity : BitVec 32
  admitted     : BitVec 32
  deriving DecidableEq, Repr

/-- One entry of the visitor register. `visitor` is absent in a FREE slot; the SID, the account index and the retire reason
stay in a FREE slot as R3 says. -/
structure Slot where
  gen     : BitVec 4
  sid     : Option Digits
  account : Option Nat
  reason  : Option RetireReason
  visitor : Option Visitor
  deriving DecidableEq, Repr

/-- The scope of a purge (R25). -/
inductive PurgeScope
  | all
  | suspendedOnly
  | partner (index : Nat)
  deriving DecidableEq, Repr

/-- A request whose work is still in flight: its tag, and whether RESYNC has marked its answer to be discarded (R197). -/
structure InFlight where
  tag     : Fin 16
  dropped : Bool
  deriving DecidableEq, Repr

/-- The purge in flight (R25, R26). -/
structure Purge where
  scope    : PurgeScope
  position : Nat
  retired  : Nat
  req      : InFlight
  deriving DecidableEq, Repr

/-- What the visitor register holds (chapter 1). The activity order lists slots, oldest activity first (R4). -/
structure Vrg where
  slots    : Table Slot
  activity : List Nat
  purge    : Option Purge
  deriving DecidableEq, Repr

/-! ### CHU, the charging unit -/

/-- BAR, OPEN or CHECK (R29). -/
inductive Admission
  | bar | opened | check
  deriving DecidableEq, Repr

/-- OPEN or CLOSED (R29). -/
inductive CheckFail
  | opened | closed
  deriving DecidableEq, Repr

/-- OFFLINE or ONLINE (R29). -/
inductive Charging
  | offline | online
  deriving DecidableEq, Repr

/-- A partner record in use (R29). -/
structure Partner where
  hnc       : Digits
  admission : Admission
  checkFail : CheckFail
  charging  : Charging
  plan      : Nat
  route     : Nat
  grace     : Nat
  request   : Nat
  reorder   : Nat
  retryWait : Nat
  visitors  : Nat
  deriving DecidableEq, Repr

/-- A step size and a price per step (R37). -/
structure Rate where
  step  : Nat
  price : Nat
  deriving DecidableEq, Repr

/-- EDITING or READY (R37). -/
inductive PlanState
  | editing | ready
  deriving DecidableEq, Repr

/-- A tariff plan (R37). -/
structure Plan where
  state    : PlanState
  rates    : Quad (PerClass Rate)
  factor   : Nat
  stored   : BitVec 16
  partners : Nat
  deriving DecidableEq, Repr

/-- The five counters of one tariff zone in an account (R45). -/
structure Bucket where
  charge   : Nat
  seconds  : Nat
  up       : Nat
  down     : Nat
  messages : Nat
  deriving DecidableEq, Repr

/-- An account that is ACTIVE or DEPARTED (R45). -/
structure Account where
  departed   : Bool
  sid        : Digits
  hnc        : Digits
  opened     : BitVec 32
  settles    : BitVec 16
  buckets    : Quad Bucket
  remainder  : PerClass Nat
  carry      : PerClass Nat
  unreported : Nat
  saturated  : Bool
  late       : Bool
  unrepMark  : Bool
  deriving DecidableEq, Repr

/-- Four volume counters: the emergency or the unattributed usage of the device (R50, R51). -/
structure Volumes where
  seconds  : Nat
  up       : Nat
  down     : Nat
  messages : Nat
  deriving DecidableEq, Repr

/-- What the charging unit holds (chapters 2 and 3). A free partner record and a FREE account are absent; `armed` is the
low-water flag, ARMED or SPENT (R66). -/
structure Chu where
  partners     : Table (Option Partner)
  plans        : Table Plan
  accounts     : Table (Option Account)
  freeAccounts : Nat
  armed        : Bool
  emergency    : Volumes
  unattributed : Volumes
  deriving DecidableEq, Repr

/-! ### QXU, the quota and exchange unit -/

/-- AUTHORIZE, QUOTA or FINAL (R77). -/
inductive XKind
  | authorize | quota | final
  deriving DecidableEq, Repr

/-- An exchange in the table (R77). `sent` tells SENT from TO_SEND, `second` attempt 2 from attempt 1; `sid` and `cls` are
contents of AUTHORIZE and QUOTA, `request` of QUOTA, `reported` the charge captured at the last fetch. -/
structure Exchange where
  kind     : XKind
  slot     : Nat
  gen      : BitVec 4
  account  : Nat
  sent     : Bool
  second   : Bool
  link1    : Option Link
  link2    : Option Link
  timer    : Nat
  sid      : Digits
  cls      : ServiceClass
  request  : Nat
  reported : Option Nat
  deriving DecidableEq, Repr

/-- An entry of the exchange table: its use count, kept while it is free, and the exchange in it (R77). -/
structure XEntry where
  use : Byte
  ex  : Option Exchange
  deriving DecidableEq, Repr

/-- A place on the deferred list: a visitor and the kind of exchange it waits for (R96). -/
structure Waiting where
  slot : Nat
  kind : XKind
  deriving DecidableEq, Repr

/-- What the exchange unit holds (chapter 4), but for the parts of visitor entries it keeps. The creation order lists
entries, oldest first (R77). -/
structure Qxu where
  entries  : Table XEntry
  order    : List Nat
  deferred : List Waiting
  owed     : Bool
  deriving DecidableEq, Repr

/-! ### LMN, the link monitor -/

/-- The configuration of a link (R99). A set mask masks its monitor. -/
structure LinkConfig where
  cost      : Nat
  staleTime : Nat
  holdTime  : Nat
  probe     : Nat
  delayT    : Nat
  lossT     : Nat
  levelT    : Int
  debounce  : PerMonitor Nat
  mask      : PerMonitor Bool
  deriving DecidableEq, Repr

/-- FAILURE or OPERATOR (R100). -/
inductive HoldCause
  | failure | operator
  deriving DecidableEq, Repr

/-- The state of a link, with the hold cause that is present in HELD alone (R100). -/
inductive LinkState
  | off
  | probing
  | up
  | degraded
  | held (cause : HoldCause)
  deriving DecidableEq, Repr

/-- A monitor of a link: its condition (FAULT or GOOD), its debounce count and its latched fault-seen flag (R100). -/
structure MonitorState where
  fault : Bool
  count : Nat
  seen  : Bool
  deriving DecidableEq, Repr

/-- A drill: the drilled monitor and the seconds remaining (R100). -/
structure Drill where
  monitor : Monitor
  timer   : Nat
  deriving DecidableEq, Repr

/-- A measurement as taken (R106), with its ship time. -/
structure Measurement where
  delay : Nat
  loss  : Nat
  level : Int
  time  : BitVec 32
  deriving DecidableEq, Repr

/-- A link record (R99, R100). -/
structure LinkRec where
  cfg      : LinkConfig
  state    : LinkState
  good     : Nat
  monitors : PerMonitor MonitorState
  drill    : Option Drill
  last     : Option Measurement
  stale    : Option Nat
  hold     : Option Nat
  deriving DecidableEq, Repr

/-- What the link monitor holds (chapter 5). -/
structure Lmn where
  links : Quad LinkRec
  deriving DecidableEq, Repr

/-! ### RTE, the route engine -/

/-- Why a path last moved (R123). -/
inductive MoveReason
  | link | zone | pin | preference | recovery
  deriving DecidableEq, Repr

/-- The state of a path with the links and the timer that are present in it (R123). -/
inductive PathState
  | steady (current : Link)
  | preparing (current next : Link) (timer : Nat)
  | bicast (current next : Link) (timer : Nat)
  | releasing (current released : Link) (timer : Nat)
  | stranded
  deriving DecidableEq, Repr

/-- A path of a route (R123). -/
structure Path where
  prefs  : List Link
  pin    : Option Link
  state  : PathState
  reason : Option MoveReason
  deriving DecidableEq, Repr

/-- A route (R122). -/
structure Route where
  bicast  : Nat
  prepare : Nat
  release : Nat
  paths   : PerClass Path
  deriving DecidableEq, Repr

/-- What the route engine holds (chapter 6). -/
structure Rte where
  routes : Table Route
  deriving DecidableEq, Repr

/-! ### ZNE, the zone engine -/

/-- The receiver state with the message in reception, present in ASSEMBLING alone (R146): the bytes so far, the newest last,
and the noisy mark. -/
inductive Receiver
  | disabled
  | hunting
  | assembling (bytes : List Byte) (noisy : Bool)
  deriving DecidableEq, Repr

/-- Why a message was last discarded (R146). -/
inductive NavDiscard
  | framing | broken | check | quality | duplicate | overrun
  deriving DecidableEq, Repr

/-- The navigation receiver (R146). `lineBreak` is the line status BREAK. -/
structure Nav where
  rx         : Receiver
  divisor    : Byte
  lineBreak  : Bool
  lastSeq    : Option Byte
  discards   : Nat
  lastReason : Option NavDiscard
  deriving DecidableEq, Repr

/-- The source of a fix, with the sequence that a NAV fix alone carries (R152). -/
inductive FixSource
  | nav (seq : Byte)
  | host
  deriving DecidableEq, Repr

/-- A fix (R152). -/
structure Fix where
  source  : FixSource
  east    : Int
  north   : Int
  quality : Nat
  noisy   : Bool
  deriving DecidableEq, Repr

/-- SERVE or MUTE (R155). -/
inductive Policy
  | serve | mute
  deriving DecidableEq, Repr

/-- A zone (R155). Zone 31 uses its policy, tariff zone and permit mask alone. -/
structure Zone where
  enabled    : Bool
  east       : Int
  north      : Int
  radius     : Nat
  hysteresis : Nat
  policy     : Policy
  tariff     : TariffZone
  permit     : LinkSet
  entry      : Nat
  deriving DecidableEq, Repr

/-- NO_FIX, FIXED or STALE (R160). -/
inductive PositionState
  | noFix | fixed | stale
  deriving DecidableEq, Repr

/-- The evaluation part of the zone engine (R160). -/
structure Position where
  state     : PositionState
  zone      : Nat
  candidate : Option Nat
  confirm   : Nat
  stale     : Option Nat
  last      : Option Fix
  deriving DecidableEq, Repr

/-- What the zone engine holds (chapter 7). The FIFO lists fixes, oldest first. -/
structure Zne where
  nav   : Nav
  fifo  : List Fix
  zones : Table Zone
  pos   : Position
  deriving DecidableEq, Repr

/-! ### RDC, the radio controller -/

/-- The state of a radio unit (R170). -/
inductive UnitState
  | absent | serving | muted | faulty | unresponsive | excluded
  deriving DecidableEq, Repr

/-- A cell bus command, a MUTE or UNMUTE with its attempt: a pending mark, or the transaction on the bus (R168, R170). -/
inductive Mark
  | identify
  | poll
  | mute (attempt : Nat)
  | unmute (attempt : Nat)
  deriving DecidableEq, Repr

/-- The flags of the last answered POLL, with its ship time (R170). -/
structure UnitStatus where
  radiating : Bool
  fault     : Bool
  time      : BitVec 32
  deriving DecidableEq, Repr

/-- A record of the unit table (R170). Its "on the bus" field is `Rdc.onBus`, which names the one unit it is set for. -/
structure UnitRec where
  state       : UnitState
  misses      : Nat
  mark        : Option Mark
  lastStatus  : Option UnitStatus
  lastFailure : Option BusFailure
  deriving DecidableEq, Repr

/-- The radio state (R175). -/
inductive RadioState
  | muted | unmuting | serving | muting
  deriving DecidableEq, Repr

/-- The clock of the cell bus, 100 kHz or 400 kHz (sections 8.1 and 9.4). -/
inductive BusSpeed
  | khz100 | khz400
  deriving DecidableEq, Repr

/-- What the part drives on the two wires of the cell bus (R168): a fall of the data wire while the clock wire is high, one
clock pulse with the data wire left high or held low by the part, a rise of the data wire while the clock wire is high. -/
inductive BusSymbol
  | start
  | pulse (high : Bool)
  | stop
  deriving DecidableEq, Repr

/-- What the radio controller holds (chapter 8). `busFault` is the bus state FAULT (R169); `wire` is the data wire as the
next checks will find it, one number for each check, the clock pulses after which the wire is high, the last number
standing for every later check and no number for a wire that stays high (log entry 6); `speed` is the clock of the newest
transaction started (R205); `probe` is the START whose probe is running. The model's own are `sent` and `sentAt`, what the
part drove for the last transaction that left the bus and at which clock (R168, R205), `recovery`, what it drove at each
check of the data wire since then, with its clock (R169), and `resets`, which counts the device resets that make `wire`
open. -/
structure Rdc where
  units    : Table UnitRec
  busFault : Bool
  onBus    : Option (Nat × Mark)
  speed    : BusSpeed
  wire     : List Nat
  sent     : List BusSymbol
  sentAt   : BusSpeed
  recovery : List (BusSpeed × List BusSymbol)
  resets   : Nat
  radio    : RadioState
  opMute   : Bool
  rfoff    : Bool
  deadline : Option Nat
  poll     : Option Nat
  probe    : Option InFlight
  deriving DecidableEq, Repr

/-! ### RQP, the request port -/

/-- The record a notice is about (R198, R228). -/
inductive Subject
  | none
  | slot (index : Nat)
  | partner (index : Nat)
  | account (index : Nat)
  | exchange (index : Nat)
  | link (index : Link)
  | path (route : Nat) (cls : TrafficClass)
  | zone (index : Nat)
  | unit (index : Nat)
  deriving DecidableEq, Repr

/-- The seven notice kinds (R198). -/
inductive NoticeKind
  | visitor | exchange | link | handover | zone | radio | account
  deriving DecidableEq, Repr

/-- A notice as the queue holds it: kind, subject, detail code, the five detail values and the ship time (R198, R228). -/
structure Notice where
  kind    : NoticeKind
  subject : Subject
  detail  : Byte
  v1 : Byte
  v2 : Byte
  v3 : Byte
  v4 : Byte
  v5 : Byte
  time    : BitVec 32
  deriving DecidableEq, Repr

/-- An answer waiting in the answer queue: the kind and the tag of its request and its payload, result code first (R196,
R210). -/
structure Answer where
  kind    : Byte
  tag     : Fin 16
  payload : List Byte
  deriving DecidableEq, Repr

/-- MUTE or KEEP (section 9.4). -/
inductive StalePolicy
  | mute | keep
  deriving DecidableEq, Repr

/-- The device settings (section 9.4). Bit k − 1 of the alert mask masks the notice kind of code k (R217). -/
structure Settings where
  pollInterval   : Nat
  muteDeadline   : Nat
  muteHold       : Nat
  idlePassenger  : Nat
  idleCrew       : Nat
  idleEmergency  : Nat
  positionStale  : Nat
  stalePolicy    : StalePolicy
  control        : List Link
  crewRoute      : Nat
  emergencyRoute : Nat
  timeout        : Nat
  lowWater       : Nat
  alertMask      : BitVec 7
  busSpeed       : BusSpeed
  deriving DecidableEq, Repr

/-- CONFIG or SERVICE (R201). -/
inductive Mode
  | config | service
  deriving DecidableEq, Repr

/-- What the request port holds (chapter 9). `busy` lists the BUSY tags as a table of marks. `shiftedOut` is the model's
own: the bytes the part shifted out in the last transaction (R192). -/
structure Rqp where
  busy       : Table Bool
  answers    : List Answer
  notices    : List Notice
  overflow   : Bool
  dSync      : Nat
  dFrame     : Nat
  dCrc       : Nat
  dClash     : Nat
  mode       : Mode
  settings   : Settings
  shipTime   : BitVec 32
  shiftedOut : List Byte
  deriving DecidableEq, Repr

/-- The model's own count of the part's time base within the second and within the minute (log entry 4). -/
structure TimeBase where
  hundredths : Nat
  seconds    : Nat
  deriving DecidableEq, Repr

/-! ### The whole part -/

/-- The state of the part: its eight blocks, the time base and the queue of commands waiting, first in, first out. -/
structure State where
  rqp     : Rqp
  vrg     : Vrg
  chu     : Chu
  qxu     : Qxu
  lmn     : Lmn
  rte     : Rte
  zne     : Zne
  rdc     : Rdc
  base    : TimeBase
  pending : List Instr
  deriving DecidableEq, Repr

/-- Why the machine can stop with a fault. No rule of the spec stops the part, and no command of the model does: the type
has no constructor (safe: there is nothing to raise). -/
inductive Fault
  deriving DecidableEq, Repr

/-- Why a command has no outcome. -/
inductive Refusal
  /-- Raised by exec alone, for a row of the opcode table that has no meaning yet (safe: the machine stops). -/
  | notModelled (mnemonic : String)
  deriving DecidableEq, Repr

/-! ### The records at reset -/

/-- A slot no visitor has taken (R28). -/
def slotReset : Slot := ⟨0, none, none, none, none⟩

/-- A rate record after reset (R44). -/
def rateReset : Rate := ⟨1, 0⟩

/-- A plan after reset (R44). -/
def planReset : Plan := ⟨.editing, quadOf ⟨rateReset, rateReset, rateReset⟩, 1000, 0, 0⟩

/-- Counters at 0 (R67). -/
def volumesReset : Volumes := ⟨0, 0, 0, 0⟩

/-- A bucket with its counters at 0 (R46). -/
def bucketReset : Bucket := ⟨0, 0, 0, 0, 0⟩

/-- An exchange entry after reset (R98). -/
def xentryReset : XEntry := ⟨0, none⟩

/-- A monitor that is GOOD with count 0 and its flag clear (R105, R121). -/
def monitorReset : MonitorState := ⟨false, 0, false⟩

/-- The configuration of a link after reset (R121). -/
def linkConfigReset : LinkConfig :=
  ⟨1000, 300, 30, 3, 65535, 1000, -128, ⟨3, 3, 3⟩, ⟨false, false, false⟩⟩

/-- A link after reset (R121). -/
def linkReset : LinkRec :=
  ⟨linkConfigReset, .off, 0, ⟨monitorReset, monitorReset, monitorReset⟩, none, none, none, none⟩

/-- A path after reset (R124). -/
def pathReset : Path := ⟨[], none, .stranded, none⟩

/-- A route after reset (R124). -/
def routeReset : Route := ⟨0, 5, 5, ⟨pathReset, pathReset, pathReset⟩⟩

/-- The navigation receiver after reset (R146). -/
def navReset : Nav := ⟨.disabled, 7, false, none, 0, none⟩

/-- A zone after reset (R155). -/
def zoneReset : Zone := ⟨false, 0, 0, 0, 0, .mute, 0, 0, 1⟩

/-- The position after reset, and in CONFIG (R160, R165). -/
def positionReset : Position := ⟨.noFix, Config.defaultZone, none, 0, none, none⟩

/-- A unit after reset (R191). -/
def unitReset : UnitRec := ⟨.absent, 0, none, none, none⟩

/-- The device settings at their defaults (section 9.4). -/
def settingsReset : Settings :=
  ⟨5, 200, 1800, 7200, 7200, 7200, 10, .mute, [], 0, 0, 60, 0, 0, .khz100⟩

/-- The machine right after device reset (R28, R44, R67, R98, R121, R124, R146, R155, R160, R191, R208). (DESIGN
CHOICE: the model's own fields start at 0 and empty, log entry 8.) -/
def State.reset : State where
  rqp := ⟨[], [], [], false, 0, 0, 0, 0, .config, settingsReset, 0, []⟩
  vrg := ⟨[], [], none⟩
  chu := ⟨[], [], [], Config.accounts, true, volumesReset, volumesReset⟩
  qxu := ⟨[], [], [], false⟩
  lmn := ⟨quadOf linkReset⟩
  rte := ⟨[]⟩
  zne := ⟨navReset, [], [], positionReset⟩
  rdc := ⟨[], false, none, .khz100, Config.wireAtReset 0, [], .khz100, [], 0, .muted, false, true, none, none, none⟩
  base := ⟨0, 0⟩
  pending := []

end Sys2Proof.Machine
end

