-- ==== Sys2Proof/Machine/Ops.lean ====
section
/-! DEFINITION. The named operations over the records of the part: the block and record updates, the notices (R198), the
answer queue (R196), the tag table (R194) and the course of one request through the port (R192–R195). -/

namespace Sys2Proof.Machine

/-! ### Block updates -/

def State.withRqp (s : State) (b : Rqp) : State := { s with rqp := b }
def State.withVrg (s : State) (b : Vrg) : State := { s with vrg := b }
def State.withChu (s : State) (b : Chu) : State := { s with chu := b }
def State.withQxu (s : State) (b : Qxu) : State := { s with qxu := b }
def State.withLmn (s : State) (b : Lmn) : State := { s with lmn := b }
def State.withRte (s : State) (b : Rte) : State := { s with rte := b }
def State.withZne (s : State) (b : Zne) : State := { s with zne := b }
def State.withRdc (s : State) (b : Rdc) : State := { s with rdc := b }
def State.withBase (s : State) (b : TimeBase) : State := { s with base := b }
def State.withPending (s : State) (q : List Instr) : State := { s with pending := q }

/-! ### Records by index -/

def State.slot (s : State) (i : Nat) : Slot := tget slotReset s.vrg.slots i
def State.setSlot (s : State) (i : Nat) (v : Slot) : State :=
  s.withVrg { s.vrg with slots := tset slotReset s.vrg.slots i v }

def State.partner (s : State) (i : Nat) : Option Partner := tget none s.chu.partners i
def State.setPartner (s : State) (i : Nat) (v : Option Partner) : State :=
  s.withChu { s.chu with partners := tset none s.chu.partners i v }

def State.plan (s : State) (i : Nat) : Plan := tget planReset s.chu.plans i
def State.setPlan (s : State) (i : Nat) (v : Plan) : State :=
  s.withChu { s.chu with plans := tset planReset s.chu.plans i v }

def State.account (s : State) (i : Nat) : Option Account := tget none s.chu.accounts i
def State.setAccount (s : State) (i : Nat) (v : Option Account) : State :=
  s.withChu { s.chu with accounts := tset none s.chu.accounts i v }

def State.entry (s : State) (i : Nat) : XEntry := tget xentryReset s.qxu.entries i
def State.setEntry (s : State) (i : Nat) (v : XEntry) : State :=
  s.withQxu { s.qxu with entries := tset xentryReset s.qxu.entries i v }

def State.link (s : State) (i : Link) : LinkRec := qget s.lmn.links i
def State.setLink (s : State) (i : Link) (v : LinkRec) : State := s.withLmn { s.lmn with links := qset s.lmn.links i v }

def State.route (s : State) (i : Nat) : Route := tget routeReset s.rte.routes i
def State.setRoute (s : State) (i : Nat) (v : Route) : State :=
  s.withRte { s.rte with routes := tset routeReset s.rte.routes i v }

def State.zone (s : State) (i : Nat) : Zone := tget zoneReset s.zne.zones i
def State.setZone (s : State) (i : Nat) (v : Zone) : State :=
  s.withZne { s.zne with zones := tset zoneReset s.zne.zones i v }

def State.unit (s : State) (i : Nat) : UnitRec := tget unitReset s.rdc.units i
def State.setUnit (s : State) (i : Nat) (v : UnitRec) : State :=
  s.withRdc { s.rdc with units := tset unitReset s.rdc.units i v }

/-- The device settings (section 9.4). -/
def State.settings (s : State) : Settings := s.rqp.settings

/-- The value for a traffic class. -/
def cget {α : Type} (p : PerClass α) : TrafficClass → α
  | .voice => p.voice
  | .data => p.data
  | .message => p.message

/-- The value for a traffic class replaced. -/
def cset {α : Type} (p : PerClass α) (c : TrafficClass) (v : α) : PerClass α :=
  match c with
  | .voice => { p with voice := v }
  | .data => { p with data := v }
  | .message => { p with message := v }

/-- The value for a monitor. -/
def mget {α : Type} (p : PerMonitor α) : Monitor → α
  | .delay => p.delay
  | .loss => p.loss
  | .level => p.level

/-- The value for a monitor replaced. -/
def mset {α : Type} (p : PerMonitor α) (m : Monitor) (v : α) : PerMonitor α :=
  match m with
  | .delay => { p with delay := v }
  | .loss => { p with loss := v }
  | .level => { p with level := v }

/-- The path of one class of a route (R122). -/
def State.path (s : State) (r : Nat) (c : TrafficClass) : Path := cget (s.route r).paths c

/-- The path of one class of a route replaced. -/
def State.setPath (s : State) (r : Nat) (c : TrafficClass) (p : Path) : State :=
  s.setRoute r { s.route r with paths := cset (s.route r).paths c p }

/-- The visitor in a slot, absent in a FREE slot. -/
def State.visitor (s : State) (i : Nat) : Option Visitor := (s.slot i).visitor

/-- The visitor in a slot changed by `g`; a FREE slot is left as it is. -/
def State.updVisitor (s : State) (i : Nat) (g : Visitor → Visitor) : State :=
  match (s.slot i).visitor with
  | some v => s.setSlot i { s.slot i with visitor := some (g v) }
  | none => s

/-- The quota part of a visitor changed by `g`; a visitor without one is left as it is. -/
def State.updQuota (s : State) (i : Nat) (g : Quota → Quota) : State :=
  s.updVisitor i fun v => { v with quota := v.quota.map g }

/-- The quota part of the visitor in a slot. -/
def State.quota (s : State) (i : Nat) : Option Quota := (s.visitor i).bind (·.quota)

/-! ### Saturation and clamping (00_scope.md, Conventions) -/

/-- A sum that stops at an upper limit. -/
def satAdd (limit a b : Nat) : Nat := min limit (a + b)

/-- The nearest value in a range. -/
def clampNat (lo hi n : Nat) : Nat := max lo (min hi n)

/-- The nearest value in a range. -/
def clampInt (lo hi n : Int) : Int := max lo (min hi n)

/-! ### Notices (R198) -/

/-- A notice is given: it joins the tail of a queue of fewer than 128 with the ship time; otherwise it is dropped and the
overflow mark is set (R198). -/
def giveNotice (kind : NoticeKind) (subject : Subject) (detail v1 v2 v3 v4 v5 : Byte) (s : State) : State :=
  if s.rqp.notices.length < Config.noticeCapacity then
    s.withRqp { s.rqp with
      notices := s.rqp.notices ++ [⟨kind, subject, detail, v1, v2, v3, v4, v5, s.rqp.shipTime⟩] }
  else s.withRqp { s.rqp with overflow := true }

/-! ### The tag table and the answer queue (R194, R196) -/

/-- Whether a tag is BUSY (R194). -/
def State.tagBusy (s : State) (t : Fin 16) : Bool := tget false s.rqp.busy t.val

/-- A tag made BUSY or FREE (R194). -/
def setTag (t : Fin 16) (b : Bool) (s : State) : State :=
  s.withRqp { s.rqp with busy := tset false s.rqp.busy t.val b }

/-- An answer joins the tail of the answer queue (R196). -/
def pushAnswer (kind : Byte) (tag : Fin 16) (payload : List Byte) (s : State) : State :=
  s.withRqp { s.rqp with answers := s.rqp.answers ++ [⟨kind, tag, payload⟩] }

/-- The answer of a request that took time: it joins the queue, or is discarded if RESYNC marked it (R196, R197). -/
def answerInFlight (kind : Byte) (r : InFlight) (payload : List Byte) (s : State) : State :=
  if r.dropped then s else pushAnswer kind r.tag payload s

/-! ### Transactions (R192, R193) -/

/-- A discard count raised by 1, up to 65,535 (R193). -/
def countDiscard (c : DiscardCount) (s : State) : State :=
  match c with
  | .sync => s.withRqp { s.rqp with dSync := satAdd Config.discardMax s.rqp.dSync 1 }
  | .frame => s.withRqp { s.rqp with dFrame := satAdd Config.discardMax s.rqp.dFrame 1 }
  | .crc => s.withRqp { s.rqp with dCrc := satAdd Config.discardMax s.rqp.dCrc 1 }
  | .clash => s.withRqp { s.rqp with dClash := satAdd Config.discardMax s.rqp.dClash 1 }

/-- The bytes of an answer frame (R210). -/
def answerFrame (a : Answer) : List Byte := frameBytes 0x5A a.kind (BitVec.ofNat 8 a.tag.val) a.payload

/-- The empty frame (R192, R210). -/
def emptyFrame : List Byte := frameBytes 0x5A 0 0 []

/-- What `n` clocked bytes shift out of a frame: its bytes from the first, then FFh (R192). -/
def clockOut (frame : List Byte) (n : Nat) : List Byte := frame.take n ++ List.replicate (n - frame.length) 0xFF

/-- The outgoing half of a transaction of `n` bytes (R192): the oldest answer, or the empty frame, is shifted out; an answer
all of whose bytes were clocked leaves the queue and frees its tag. -/
def settleOut (n : Nat) (s : State) : State :=
  match s.rqp.answers with
  | [] => s.withRqp { s.rqp with shiftedOut := clockOut emptyFrame n }
  | a :: rest =>
    if (answerFrame a).length ≤ n then
      setTag a.tag false (s.withRqp { s.rqp with answers := rest, shiftedOut := clockOut (answerFrame a) n })
    else s.withRqp { s.rqp with shiftedOut := clockOut (answerFrame a) n }

/-! ### Result codes (R215) -/

/-- The result codes of an answer (R215). -/
inductive ResultCode
  | ok | clamped | pending | busy | full | noAccount | barred | notFound | stale | state | inUse | notReady | noSpare
  | noLink | mode | empty | badArg | badLength | unknown | checkMismatch
  deriving DecidableEq, Repr

/-- The value of a result code (R215). -/
def resultByte : ResultCode → Byte
  | .ok => 0x00
  | .clamped => 0x01
  | .pending => 0x02
  | .busy => 0x10
  | .full => 0x11
  | .noAccount => 0x12
  | .barred => 0x13
  | .notFound => 0x14
  | .stale => 0x15
  | .state => 0x16
  | .inUse => 0x17
  | .notReady => 0x18
  | .noSpare => 0x19
  | .noLink => 0x1A
  | .mode => 0x1B
  | .empty => 0x1C
  | .badArg => 0x20
  | .badLength => 0x21
  | .unknown => 0x22
  | .checkMismatch => 0x23

/-- OK, or CLAMPED where a value was clamped. -/
def okOrClamped (clamped : Bool) : ResultCode := if clamped then .clamped else .ok

/-- What the owning block gives back for a request: the state after its work, and the payload of its answer, absent while
the work is in flight (R195, R196). -/
abbrev Reply := State × Option (List Byte)

/-- A reply whose payload is the result code alone (R216). -/
def reply (r : ResultCode) (s : State) : Reply := (s, some [resultByte r])

/-- A reply whose payload is the result code and then the fields of its kind (R216). -/
def replyWith (r : ResultCode) (fields : List Byte) (s : State) : Reply := (s, some (resultByte r :: fields))

/-- A reply given: its answer joins the queue under the request's kind and tag, where the work has ended (R195, R196). -/
def deliver (k : RequestKind) (t : Fin 16) (r : Reply) : State :=
  match r with
  | (s, some payload) => pushAnswer k.code t payload s
  | (s, none) => s

/-- A frame that is taken: the outgoing answer is settled first, and the frame's tag becomes BUSY (R192, R194). -/
def arrive (f : Frame) (s : State) : State := setTag f.tag true (settleOut f.clocked s)

/-- Whether a frame fails the Frame check of R193: a length above 120, or a transaction that ends before its last CRC
byte. -/
def cutShort (f : Frame) : Bool := decide (120 < f.len) || decide (f.clocked < f.len + 6)

/-- One transaction that carries a request, whole (R192–R196, R213): the outgoing answer is settled; a frame cut short or
too long and a frame whose tag is BUSY are discarded; otherwise the tag becomes BUSY, a length other than the kind's is
answered BAD_LENGTH, and the owning block does the work and gives the answer. (DEDUCED: the work and its answer are
one step, log entry 7.) -/
def request (f : Frame) (k : RequestKind) (body : State → Reply) (s : State) : State :=
  if cutShort f then countDiscard .frame (settleOut f.clocked s)
  else if (settleOut f.clocked s).tagBusy f.tag then countDiscard .clash (settleOut f.clocked s)
  else if f.len ≠ k.len then deliver k f.tag (reply .badLength (arrive f s))
  else deliver k f.tag (body (arrive f s))

end Sys2Proof.Machine
end

