-- ==== Sys2Proof/Machine/Operands.lean ====
section
/-! DEFINITION. The operands of the requests: the named values, digit strings, handles, references and link sets that the
raw fields of R212 stand for. A code the tables do not give has no value (R214). -/

namespace Sys2Proof.Machine

/-- A link index, absent above 3. -/
def linkOf (b : Byte) : Option Link := if h : b.toNat < 4 then some ⟨b.toNat, h⟩ else none

/-- A tariff zone, absent above 3. -/
def tariffOf (b : Byte) : Option TariffZone := if h : b.toNat < 4 then some ⟨b.toNat, h⟩ else none

/-- A traffic class (R217). -/
def classOf (b : Byte) : Option TrafficClass :=
  match b.toNat with
  | 0 => some .voice
  | 1 => some .data
  | 2 => some .message
  | _ => none

/-- A service class (R217). -/
def serviceOf (b : Byte) : Option ServiceClass :=
  match b.toNat with
  | 0 => some .passenger
  | 1 => some .crew
  | 2 => some .emergency
  | _ => none

/-- An admission policy (R217). -/
def admissionOf (b : Byte) : Option Admission :=
  match b.toNat with
  | 0 => some .bar
  | 1 => some .opened
  | 2 => some .check
  | _ => none

/-- A check-fail policy (R217). -/
def checkFailOf (b : Byte) : Option CheckFail :=
  match b.toNat with
  | 0 => some .opened
  | 1 => some .closed
  | _ => none

/-- A charging mode (R217). -/
def chargingOf (b : Byte) : Option Charging :=
  match b.toNat with
  | 0 => some .offline
  | 1 => some .online
  | _ => none

/-- A monitor (R217). -/
def monitorOf (b : Byte) : Option Monitor :=
  match b.toNat with
  | 0 => some .delay
  | 1 => some .loss
  | 2 => some .level
  | _ => none

/-- A radio policy (R217). -/
def policyOf (b : Byte) : Option Policy :=
  match b.toNat with
  | 0 => some .serve
  | 1 => some .mute
  | _ => none

/-- A stale policy (R217). -/
def stalePolicyOf (b : Byte) : Option StalePolicy :=
  match b.toNat with
  | 0 => some .mute
  | 1 => some .keep
  | _ => none

/-- A cell bus speed (R217). -/
def busSpeedOf (b : Byte) : Option BusSpeed :=
  match b.toNat with
  | 0 => some .khz100
  | 1 => some .khz400
  | _ => none

/-- A shore result (R217). -/
inductive ShoreResult
  | accept | reject | grant | deny | ack
  deriving DecidableEq, Repr

/-- The shore result of a code (R217). -/
def shoreResultOf (b : Byte) : Option ShoreResult :=
  match b.toNat with
  | 0 => some .accept
  | 1 => some .reject
  | 2 => some .grant
  | 3 => some .deny
  | 4 => some .ack
  | _ => none

/-- A set of links; a set bit in positions 4–7 names a link above 3 (R209). -/
def linkSetOf (b : Byte) : Option LinkSet := if b.toNat < 16 then some (BitVec.ofNat 4 b.toNat) else none

/-- Whether bit 0 of an enable, clear or flag byte is set (R214). -/
def flagOf (b : Byte) : Bool := b[0]

/-- The slot a handle names (R209). -/
def handleSlot (h : BitVec 16) : Nat := h.toNat / 16

/-- The generation a handle carries (R209). -/
def handleGen (h : BitVec 16) : BitVec 4 := BitVec.ofNat 4 (h.toNat % 16)

/-- The exchange index of a reference (R209). -/
def refEntry (r : BitVec 16) : Nat := r.toNat / 256

/-- The use count of a reference (R209). -/
def refUse (r : BitVec 16) : Byte := BitVec.ofNat 8 (r.toNat % 256)

/-- The `n` nibbles of a packed field, first digit first. -/
def nibbles : Nat → Nat → List Nat
  | 0, _ => []
  | n + 1, v => v / 16 ^ n % 16 :: nibbles n v

/-- The digits that stand first in a list of nibbles. -/
def leadingDigits : List Nat → Digits
  | [] => []
  | n :: ns => if h : n < 10 then ⟨n, h⟩ :: leadingDigits ns else []

/-- The digit string of a packed field of `n` nibbles: digits first, then Fh to the end, with `lo` to `hi` digits
(R209). -/
def digitsOf (n lo hi v : Nat) : Option Digits :=
  let ns := nibbles n v
  let ds := leadingDigits ns
  if lo ≤ ds.length ∧ ds.length ≤ hi ∧ (ns.drop ds.length).all (· == 15) then some ds else none

/-- A SID of 6 to 15 decimal digits (R209). -/
def sidOf (v : BitVec 64) : Option Digits := digitsOf 16 6 15 v.toNat

/-- An HNC of 5 or 6 decimal digits (R209). -/
def hncOf (v : BitVec 24) : Option Digits := digitsOf 6 5 6 v.toNat

/-- The number a digit string packs to in `n` nibbles, Fh after the last digit (R209). -/
def packDigits : Nat → Digits → Nat
  | 0, _ => 0
  | n + 1, [] => 15 * 16 ^ n + packDigits n []
  | n + 1, d :: ds => d.val * 16 ^ n + packDigits n ds

/-- Whether no link stands twice in a list. -/
def distinctLinks : List Link → Bool
  | [] => true
  | l :: ls => !ls.contains l && distinctLinks ls

/-- The links of a list of link bytes, absent if one is above 3. -/
def linksOf : List Byte → Option (List Link)
  | [] => some []
  | b :: bs =>
    match linkOf b, linksOf bs with
    | some l, some ls => some (l :: ls)
    | _, _ => none

/-- The list of a preference field: its first `count` bytes, absent if it holds more than 4 links, a link above 3, or one
link twice (R125, R204, R209). -/
def prefsOf (p : PrefField) : Option (List Link) :=
  if p.count.toNat > 4 then none
  else
    match linksOf ([p.l0, p.l1, p.l2, p.l3].take p.count.toNat) with
    | some ls => if distinctLinks ls then some ls else none
    | none => none

end Sys2Proof.Machine
end

