-- ==== Sys2Proof/Machine/Encode.lean ====
section
/-! DEFINITION. The codes and widths of answer payloads and notice records (chapter 10): the code tables of R217, the general
rule of R216 for fields, and absent values sent as FFh bytes (R214). -/

namespace Sys2Proof.Machine

/-! ### Widths (R209, R214, R216) -/

/-- A number in `n` bytes. -/
def num (n v : Nat) : List Byte := beBytes n v

/-- A signed number in `n` bytes, two's complement (R209). -/
def snum (n : Nat) (v : Int) : List Byte := beBytes n (v % (256 ^ n : Nat)).toNat

/-- `n` bytes FFh: an absent value (R214). -/
def absent (n : Nat) : List Byte := List.replicate n 0xFF

/-- A number that may be absent. -/
def optNum (n : Nat) : Option Nat → List Byte
  | some v => num n v
  | none => absent n

/-- A set-or-clear mark or flag, 1 for set (R216). -/
def flag (b : Bool) : List Byte := [if b then 1 else 0]

/-- A code that may be absent. -/
def optByte : Option Byte → Byte
  | some b => b
  | none => 0xFF

/-- A packed SID (R209). -/
def sidBytes (d : Digits) : List Byte := num 8 (packDigits 16 d)

/-- A packed HNC (R209). -/
def hncBytes (d : Digits) : List Byte := num 3 (packDigits 6 d)

/-- A handle: the slot times 16 plus the generation (R209). -/
def handleNat (slot : Nat) (gen : BitVec 4) : Nat := slot * 16 + gen.toNat

/-- An exchange reference: the index in the high byte, the use count in the low byte (R209). -/
def refNat (entry : Nat) (use : Byte) : Nat := entry * 256 + use.toNat

/-- A link index as a byte. -/
def linkByte (l : Link) : Byte := BitVec.ofNat 8 l.val

/-- A link index that may be absent. -/
def optLink (l : Option Link) : Byte := optByte (l.map linkByte)

/-! ### The code tables (R217) -/

def classByte : TrafficClass → Byte
  | .voice => 0
  | .data => 1
  | .message => 2

def serviceByte : ServiceClass → Byte
  | .passenger => 0
  | .crew => 1
  | .emergency => 2

/-- Visitor state; an absent visitor is a FREE slot. -/
def visitorStateByte : Option VisitorState → Byte
  | none => 0
  | some .authorizing => 1
  | some .active => 2
  | some .suspended => 3
  | some .departing => 4

def reasonByte : RetireReason → Byte
  | .detached => 1
  | .idle => 2
  | .muteHold => 3
  | .evicted => 4
  | .purged => 5
  | .rejected => 6
  | .checkFailed => 7
  | .muted => 8

def admissionByte : Admission → Byte
  | .bar => 0
  | .opened => 1
  | .check => 2

def checkFailByte : CheckFail → Byte
  | .opened => 0
  | .closed => 1

def chargingByte : Charging → Byte
  | .offline => 0
  | .online => 1

/-- Account state of an account that is not FREE. -/
def accountStateByte (departed : Bool) : Byte := if departed then 2 else 1

def gateByte : Gate → Byte
  | .opened => 0
  | .waiting => 1
  | .shut => 2

def xkindByte : XKind → Byte
  | .authorize => 0
  | .quota => 1
  | .final => 2

def shoreResultByte : ShoreResult → Byte
  | .accept => 0
  | .reject => 1
  | .grant => 2
  | .deny => 3
  | .ack => 4

def linkStateByte : LinkState → Byte
  | .off => 0
  | .probing => 1
  | .up => 2
  | .degraded => 3
  | .held _ => 4

/-- The hold cause of a link state, FFh where there is none (R228, LINK). -/
def holdCauseByte : LinkState → Byte
  | .held .failure => 0
  | .held .operator => 1
  | .off | .probing | .up | .degraded => 0xFF

def monitorByte : Monitor → Byte
  | .delay => 0
  | .loss => 1
  | .level => 2

def pathStateByte : PathState → Byte
  | .steady _ => 0
  | .preparing _ _ _ => 1
  | .bicast _ _ _ => 2
  | .releasing _ _ _ => 3
  | .stranded => 4

def moveReasonByte : MoveReason → Byte
  | .link => 0
  | .zone => 1
  | .pin => 2
  | .preference => 3
  | .recovery => 4

def policyByte : Policy → Byte
  | .serve => 0
  | .mute => 1

def stalePolicyByte : StalePolicy → Byte
  | .mute => 0
  | .keep => 1

def positionByte : PositionState → Byte
  | .noFix => 0
  | .fixed => 1
  | .stale => 2

def unitStateByte : UnitState → Byte
  | .absent => 0
  | .serving => 1
  | .muted => 2
  | .faulty => 3
  | .unresponsive => 4
  | .excluded => 5

def radioByte : RadioState → Byte
  | .muted => 0
  | .unmuting => 1
  | .serving => 2
  | .muting => 3

def busSpeedByte : BusSpeed → Byte
  | .khz100 => 0
  | .khz400 => 1

/-- The code of a notice kind, 1 to 7. -/
def noticeKindByte : NoticeKind → Byte
  | .visitor => 1
  | .exchange => 2
  | .link => 3
  | .handover => 4
  | .zone => 5
  | .radio => 6
  | .account => 7

/-! ### Named values without a table: coded from 0 in the order their rule lists them (R216) -/

/-- EDITING or READY (R37). (DEDUCED, log entry 10.) -/
def planStateByte : PlanState → Byte
  | .editing => 0
  | .ready => 1

/-- CONFIG or SERVICE (R201). -/
def modeByte : Mode → Byte
  | .config => 0
  | .service => 1

/-- DISABLED, HUNTING, ASSEMBLING (R146). (DEDUCED, log entry 10.) -/
def receiverByte : Receiver → Byte
  | .disabled => 0
  | .hunting => 1
  | .assembling _ _ => 2

/-- FRAMING, BREAK, CHECK, QUALITY, DUPLICATE, OVERRUN (R146). (DEDUCED, log entry 10.) -/
def navDiscardByte : NavDiscard → Byte
  | .framing => 0
  | .broken => 1
  | .check => 2
  | .quality => 3
  | .duplicate => 4
  | .overrun => 5

/-- ADDRESS, COMMAND, ARGUMENT, STATUS, BUS (R168, R170). (DEDUCED, log entry 10.) -/
def failureByte : BusFailure → Byte
  | .address => 0
  | .command => 1
  | .argument => 2
  | .status => 3
  | .bus => 4

/-- none, IDENTIFY, POLL, MUTE, UNMUTE (R170), with the attempt of a MUTE or UNMUTE, FFh for the others. (DEDUCED: the
codes, log entry 10; the attempt byte of a mark that has no attempt, log entry 29.) -/
def markBytes : Option Mark → List Byte
  | none => [0, 0xFF]
  | some .identify => [1, 0xFF]
  | some .poll => [2, 0xFF]
  | some (.mute a) => [3, BitVec.ofNat 8 a]
  | some (.unmute a) => [4, BitVec.ofNat 8 a]

/-- RFOFF, asserted or released (R175); ALERT in the same order (R200). (DEDUCED, log entry 10.) -/
def levelByte (asserted : Bool) : Byte := if asserted then 0 else 1

/-! ### Records -/

/-- A preference list: its count, its links, and 0 in the unused bytes (R209, R214). -/
def prefsBytes (ls : List Link) : List Byte :=
  [BitVec.ofNat 8 ls.length] ++ ((ls.map linkByte) ++ [0, 0, 0, 0]).take 4

/-- A bucket of 30 bytes (R222). -/
def bucketBytes (b : Bucket) : List Byte :=
  num 6 b.charge ++ num 6 b.seconds ++ num 6 b.up ++ num 6 b.down ++ num 6 b.messages

/-- The four buckets, 120 bytes (R222). -/
def bucketsBytes (q : Quad Bucket) : List Byte :=
  bucketBytes q.q0 ++ bucketBytes q.q1 ++ bucketBytes q.q2 ++ bucketBytes q.q3

/-- The marks byte of an account (R222). -/
def marksByte (a : Account) : Byte := BitVec.ofNat 8 (a.saturated.toNat + 2 * a.late.toNat + 4 * a.unrepMark.toNat)

/-- Three values of one width. -/
def perClassBytes (n : Nat) (p : PerClass Nat) : List Byte := num n p.voice ++ num n p.data ++ num n p.message

/-- Four volume counters of 6 bytes. -/
def volumesBytes (v : Volumes) : List Byte := num 6 v.seconds ++ num 6 v.up ++ num 6 v.down ++ num 6 v.messages

/-- The settings as DSET lays them out (R212). -/
def settingsBytes (d : Settings) : List Byte :=
  num 1 d.pollInterval ++ num 2 d.muteDeadline ++ num 2 d.muteHold ++ num 4 d.idlePassenger ++ num 4 d.idleCrew ++
  num 4 d.idleEmergency ++ num 1 d.positionStale ++ [stalePolicyByte d.stalePolicy] ++ prefsBytes d.control ++
  num 1 d.crewRoute ++ num 1 d.emergencyRoute ++ num 2 d.timeout ++ num 2 d.lowWater ++
  [d.alertMask.setWidth 8, busSpeedByte d.busSpeed]

/-- The subject of a notice: its kind and its index (R228). -/
def subjectBytes : Subject → List Byte
  | .none => 0 :: num 2 0
  | .slot i => 1 :: num 2 i
  | .partner i => 2 :: num 2 i
  | .account i => 3 :: num 2 i
  | .exchange i => 4 :: num 2 i
  | .link l => 5 :: num 2 l.val
  | .path r c => [6, BitVec.ofNat 8 r, classByte c]
  | .zone i => 7 :: num 2 i
  | .unit i => 8 :: num 2 i

/-- A notice record of 14 bytes (R228). -/
def noticeBytes (n : Notice) : List Byte :=
  [noticeKindByte n.kind] ++ subjectBytes n.subject ++ [n.detail, n.v1, n.v2, n.v3, n.v4, n.v5] ++ num 4 n.time.toNat

/-! ### Cell bus bytes (R168, R230) -/

/-- The bytes the part sends after the START of a transaction: address, command and, for a write, argument. -/
def busBytes (unit : Nat) : Mark → List Byte
  | .identify => [BitVec.ofNat 8 (unit * 2), 0x10, 0x00]
  | .mute _ => [BitVec.ofNat 8 (unit * 2), 0x20, 0x00]
  | .unmute _ => [BitVec.ofNat 8 (unit * 2), 0x21, 0x01]
  | .poll => [BitVec.ofNat 8 (unit * 2 + 1), 0x30]

/-- The bytes of the transaction on the bus; none while the bus is free. -/
def State.busBytes (s : State) : List Byte :=
  match s.rdc.onBus with
  | some (u, m) => Sys2Proof.Machine.busBytes u m
  | none => []

/-! ### The wires of the cell bus (R168, R169) -/

/-- Eight clock pulses with the data wire as the bits of a byte, the most significant first. -/
def bitPulses (b : Byte) : List BusSymbol := [7, 6, 5, 4, 3, 2, 1, 0].map fun i => .pulse (b.getLsbD i)

/-- A byte the part sends: its bits, and a ninth pulse in which the part leaves the wire to the unit's acknowledgement. -/
def sentPulses (b : Byte) : List BusSymbol := bitPulses b ++ [.pulse true]

/-- A byte the part receives: the wire is left to the unit for eight pulses, and in the ninth the part holds it low to
acknowledge, or leaves it high. -/
def receivedPulses (acknowledge : Bool) : List BusSymbol := List.replicate 8 (.pulse true) ++ [.pulse (!acknowledge)]

/-- The two status bytes of a POLL: the part acknowledges the first and not the second. -/
def statusPulses : Mark → List BusSymbol
  | .poll => receivedPulses true ++ receivedPulses false
  | .identify | .mute _ | .unmute _ => []

/-- What the part drives for a transaction all of whose bytes are acknowledged: START, the bytes it sends, for a POLL the
two status bytes, STOP. -/
def wholeTransaction (unit : Nat) (m : Mark) : List BusSymbol :=
  [.start] ++ (busBytes unit m).flatMap sentPulses ++ statusPulses m ++ [.stop]

/-- What the part drives for a transaction that fails: after a byte that is not acknowledged it sends STOP at once and no
further byte, so ADDRESS leaves one byte sent, COMMAND two and ARGUMENT three. A STATUS failure shows in a whole
transaction. A transaction that fails for BUS does not begin (R169). -/
def failedTransaction (unit : Nat) (m : Mark) : BusFailure → List BusSymbol
  | .address => [.start] ++ ((busBytes unit m).take 1).flatMap sentPulses ++ [.stop]
  | .command => [.start] ++ ((busBytes unit m).take 2).flatMap sentPulses ++ [.stop]
  | .argument => [.start] ++ ((busBytes unit m).take 3).flatMap sentPulses ++ [.stop]
  | .status => wholeTransaction unit m
  | .bus => []

/-- What the part drives at a check of a data wire that needs `n` pulses: nothing on a wire that is high, otherwise up to 9
pulses with the wire left high, and STOP. -/
def recoveryPulses (n : Nat) : List BusSymbol :=
  if n = 0 then [] else List.replicate (min 9 n) (.pulse true) ++ [.stop]

end Sys2Proof.Machine
end

