-- ==== Sys2Proof/Machine/Flags.lean ====
section
/-! DEFINITION. The lines and values the part forms from its records: AREADY and ALERT, the values in force, the effective
radio policy, and which links may be used. Each is one function of the state, stored nowhere else. -/

namespace Sys2Proof.Machine

/-- AREADY is asserted while the answer queue holds an answer (R196). -/
def State.aready (s : State) : Bool := !s.rqp.answers.isEmpty

/-- Whether a notice kind is in the device setting "alert mask" (R200, R217). -/
def alertMasked (s : State) (k : NoticeKind) : Bool := s.settings.alertMask.getLsbD ((noticeKindByte k).toNat - 1)

/-- ALERT is asserted while the notice queue holds a notice whose kind is not masked (R200). -/
def State.alert (s : State) : Bool := s.rqp.notices.any fun n => !alertMasked s n.kind

/-! ### The values in force (R160) -/

/-- The record of the zone in force. -/
def State.zoneInForce (s : State) : Zone := s.zone s.zne.pos.zone

/-- The radio policy in force (R160). -/
def State.policyInForce (s : State) : Policy :=
  match s.zne.pos.state with
  | .noFix => .mute
  | .stale =>
    match s.settings.stalePolicy with
    | .mute => .mute
    | .keep => s.zoneInForce.policy
  | .fixed => s.zoneInForce.policy

/-- The tariff zone in force (R160). -/
def State.tariffInForce (s : State) : TariffZone := s.zoneInForce.tariff

/-- The permit mask in force (R160). -/
def State.permitInForce (s : State) : LinkSet := s.zoneInForce.permit

/-- Whether a set of links holds a link. -/
def inSet (m : LinkSet) (l : Link) : Bool := m.getLsbD l.val

/-- The "values in force" byte of a ZONE notice (R228). -/
def State.valuesByte (s : State) : Byte :=
  BitVec.ofNat 8 ((policyByte s.policyInForce).toNat * 128 + s.tariffInForce.val * 16 + s.permitInForce.toNat)

/-- The effective policy: MUTE while the policy in force is MUTE or the operator mute is set (R175). -/
def State.effectivePolicy (s : State) : Policy := if s.rdc.opMute then .mute else s.policyInForce

/-! ### Links (R80, R129) -/

/-- UP or DEGRADED (R119). -/
def usable : LinkState → Bool
  | .up | .degraded => true
  | .off | .probing | .held _ => false

/-- Eligible for a path: UP or DEGRADED, and permitted by the zone in force (R129). -/
def State.eligible (s : State) (l : Link) : Bool := usable (s.link l).state && inSet s.permitInForce l

/-- Eligible for an exchange: eligible for a path, and in the control preference list (R80). -/
def State.controlEligible (s : State) (l : Link) : Bool := s.settings.control.contains l && s.eligible l

/-- Whether some link of the control preference list is eligible (R79). (DEDUCED: the permit mask counts, log entry
18.) -/
def State.anyControlEligible (s : State) : Bool := s.settings.control.any s.eligible

/-! ### Monitors (R52, R108, R109) -/

/-- Whether a monitor is unmasked and in FAULT. -/
def faultOf (l : LinkRec) (m : Monitor) : Bool := (mget l.monitors m).fault && !mget l.cfg.mask m

/-- Whether some unmasked monitor is in FAULT (R109). -/
def anyFault (l : LinkRec) : Bool := faultOf l .delay || faultOf l .loss || faultOf l .level

/-- Whether a link's degradation is drill-only: a drill runs, and no unmasked monitor but the drilled one is in FAULT
(R52). -/
def drillOnly (l : LinkRec) : Bool :=
  match l.drill with
  | some d => !((d.monitor != .delay && faultOf l .delay) || (d.monitor != .loss && faultOf l .loss) ||
      (d.monitor != .level && faultOf l .level))
  | none => false

/-! ### Radio units -/

/-- Whether a unit is in unit state SERVING (R7). -/
def State.unitServing (s : State) (u : Nat) : Bool := (s.unit u).state == .serving

/-- Whether a handle is live: its slot is not FREE and carries its generation (R2). -/
def State.live (s : State) (h : BitVec 16) : Bool :=
  (s.slot (handleSlot h)).visitor.isSome && (s.slot (handleSlot h)).gen == handleGen h

end Sys2Proof.Machine
end

