-- ==== Sys2Proof/Machine/Rating.lean ====
section
/-! DEFINITION. The charging unit's shared operations: finding partners, the rating computation, close-out rounding, the
SATURATED mark, the supply of free accounts, and the plan check value (chapters 2 and 3). -/

namespace Sys2Proof.Machine

/-! ### Finding records -/

/-- The index of the listed record that satisfies `p`. -/
def findKey {α : Type} (p : α → Bool) (t : Table α) : Option Nat := (t.find? fun e => p e.2).map (·.1)

/-- The partner record in use whose HNC has exactly these digits (R30). -/
def State.partnerByHnc (s : State) (hnc : Digits) : Option Nat :=
  findKey (fun p => match p with | some r => r.hnc == hnc | none => false) s.chu.partners

/-- The partner found for a SID: a 6-digit HNC that equals its first 6 digits before a 5-digit HNC that equals its first
5 (R30). -/
def State.partnerBySid (s : State) (sid : Digits) : Option Nat :=
  match s.partnerByHnc (sid.take 6) with
  | some i => some i
  | none => s.partnerByHnc (sid.take 5)

/-- The ACTIVE or DEPARTED account that holds a SID (R62). -/
def State.accountBySid (s : State) (sid : Digits) : Option Nat :=
  findKey (fun a => match a with | some r => r.sid == sid | none => false) s.chu.accounts

/-- The non-FREE entry with a SID (R8, R19). -/
def State.slotBySid (s : State) (sid : Digits) : Option Nat :=
  findKey (fun v => v.visitor.isSome && v.sid == some sid) s.vrg.slots

/-- Whether a DEPARTING visitor entry still refers to an account (R64). -/
def State.departingOn (s : State) (account : Nat) : Bool :=
  s.vrg.slots.any fun e =>
    match e.2.visitor with
    | some v => v.state == .departing && e.2.account == some account
    | none => false

/-- Whether a partner's charging mode is ONLINE; a partner that is absent is not. -/
def isOnline : Option Partner → Bool
  | some p => p.charging == .online
  | none => false

/-! ### The supply of free accounts (R66) -/

/-- An account is taken from FREE: the count falls by 1, and a count below the low-water with the flag ARMED gives the LOW
notice and spends the flag (R66). -/
def accountTaken (s : State) : State :=
  let n := s.chu.freeAccounts - 1
  let s := s.withChu { s.chu with freeAccounts := n }
  if n < s.settings.lowWater ∧ s.chu.armed then
    giveNotice .account .none 2 (BitVec.ofNat 8 (n / 256)) (BitVec.ofNat 8 n) 0 0 0 (s.withChu { s.chu with armed := false })
  else s

/-- COLLECT frees an account: the count rises by 1, and a count above the low-water arms the flag (R66). -/
def accountFreed (s : State) : State :=
  let n := s.chu.freeAccounts + 1
  s.withChu { s.chu with freeAccounts := n, armed := s.chu.armed || decide (s.settings.lowWater < n) }

/-! ### Counters and the SATURATED mark (R45, R56) -/

/-- Whether a counter would pass its upper limit. -/
def passes (a b : Nat) : Bool := decide (Config.counterMax < a + b)

/-- An account after a post or a close-out. Where a counter stopped at its limit the SATURATED mark is set, and one ACCOUNT
notice SATURATED is given when the mark goes from clear to set (R56). -/
def commitAccount (i : Nat) (a : Account) (hit : Bool) (s : State) : State :=
  let s' := s.setAccount i (some { a with saturated := a.saturated || hit })
  if hit && !a.saturated then giveNotice .account (.account i) 1 0 0 0 0 0 s' else s'

/-- An account's mark or balance changed by `g`; a FREE account is left as it is. -/
def State.updAccount (s : State) (i : Nat) (g : Account → Account) : State :=
  match s.account i with
  | some a => s.setAccount i (some (g a))
  | none => s

/-- The volume counter a class and direction feed (R45): `up` is the direction of a DATA post. -/
def volumeOf (b : Bucket) : TrafficClass → Bool → Nat
  | .voice, _ => b.seconds
  | .data, true => b.up
  | .data, false => b.down
  | .message, _ => b.messages

/-- A bucket with an amount added to the volume counter of a class and direction (R56). -/
def addVolume (c : TrafficClass) (up : Bool) (a : Nat) (b : Bucket) : Bucket :=
  match c, up with
  | .voice, _ => { b with seconds := satAdd Config.counterMax b.seconds a }
  | .data, true => { b with up := satAdd Config.counterMax b.up a }
  | .data, false => { b with down := satAdd Config.counterMax b.down a }
  | .message, _ => { b with messages := satAdd Config.counterMax b.messages a }

/-- Device counters with an amount added for a class and direction (R50, R51). -/
def addDevice (c : TrafficClass) (up : Bool) (a : Nat) (v : Volumes) : Volumes :=
  match c, up with
  | .voice, _ => { v with seconds := satAdd Config.counterMax v.seconds a }
  | .data, true => { v with up := satAdd Config.counterMax v.up a }
  | .data, false => { v with down := satAdd Config.counterMax v.down a }
  | .message, _ => { v with messages := satAdd Config.counterMax v.messages a }

/-! ### Rating (R52–R57) -/

/-- The quality factor of a post on a link: the plan's degraded factor in PROBING and HELD and in a DEGRADED that is not
drill-only, and 1000 otherwise (R52). -/
def qualityFactor (l : LinkRec) (factor : Nat) : Nat :=
  match l.state with
  | .probing | .held _ => factor
  | .degraded => if drillOnly l then 1000 else factor
  | .up | .off => 1000

/-- The steps completed and the new step remainder (R53). -/
def stepsOf (remainder amount step : Nat) : Nat × Nat := ((remainder + amount) / step, (remainder + amount) % step)

/-- The charge in cu and the new fraction carry for `k` steps at price `p` (R54, R55). -/
def chargeOf (k p lf qf carry : Nat) : Nat × Nat := ((k * p * lf * qf + carry) / 1000000, (k * p * lf * qf + carry) % 1000000)

/-- The inputs of one post: the rate record of the tariff zone in force, the link cost factor and the quality factor
(R52). -/
structure RateInputs where
  rate : Rate
  lf   : Nat
  qf   : Nat
  deriving DecidableEq, Repr

/-- What a post does to an account: its new value, the charge, and whether a counter stopped at its limit (R53–R57). A post
without a partner has no inputs and adds volume alone (R52). -/
def rateAccount (inputs : Option RateInputs) (online : Bool) (z : TariffZone) (c : TrafficClass) (up : Bool) (amount : Nat)
    (a : Account) : Account × Nat × Bool :=
  let b := qget a.buckets z
  let volHit := passes (volumeOf b c up) amount
  match inputs with
  | none => ({ a with buckets := qset a.buckets z (addVolume c up amount b) }, 0, volHit)
  | some r =>
    let (k, rem) := stepsOf (cget a.remainder c) amount r.rate.step
    let (charge, carry) := chargeOf k r.rate.price r.lf r.qf (cget a.carry c)
    let b' := addVolume c up amount { b with charge := satAdd Config.counterMax b.charge charge }
    let a' := { a with buckets := qset a.buckets z b', remainder := cset a.remainder c rem, carry := cset a.carry c carry }
    let hit := volHit || passes b.charge charge
    if online then
      ({ a' with unreported := satAdd Config.counterMax a.unreported charge }, charge, hit || passes a.unreported charge)
    else (a', charge, hit)

/-- The inputs of R52 as they stand, for the partner for rating. -/
def State.rateInputs (s : State) (p : Option Partner) (c : TrafficClass) (l : Link) : Option RateInputs :=
  match p with
  | some r =>
    some ⟨cget (qget (s.plan r.plan).rates s.tariffInForce) c, (s.link l).cfg.cost,
      qualityFactor (s.link l) (s.plan r.plan).factor⟩
  | none => none

/-- A post rated into an account (R52–R57): the state after it and the charge. -/
def ratePost (i : Nat) (p : Option Partner) (c : TrafficClass) (up : Bool) (amount : Nat) (l : Link) (s : State) :
    State × Nat :=
  match s.account i with
  | some a =>
    let (a', charge, hit) := rateAccount (s.rateInputs p c l) (isOnline p) s.tariffInForce c up amount a
    (commitAccount i a' hit s, charge)
  | none => (s, 0)

/-! ### Close-out rounding (R60) -/

/-- The close-out charge of one class: one step for a remainder above 0, and 1 cu for a carry above 0. `price` is absent for
an account that has no partner (R60). -/
def closeOutClass (price : Option Nat) (remainder carry : Nat) : Nat :=
  (if 0 < remainder then price.getD 0 else 0) + (if 0 < carry then 1 else 0)

/-- What close-out does to an account: its new value, the charge, and whether a counter stopped at its limit (R60). -/
def closeOutAccount (rates : Option (PerClass Rate)) (online : Bool) (z : TariffZone) (a : Account) : Account × Nat × Bool :=
  let charge :=
    closeOutClass (rates.map (·.voice.price)) a.remainder.voice a.carry.voice +
    closeOutClass (rates.map (·.data.price)) a.remainder.data a.carry.data +
    closeOutClass (rates.map (·.message.price)) a.remainder.message a.carry.message
  let b := qget a.buckets z
  let a' := { a with
    buckets := qset a.buckets z { b with charge := satAdd Config.counterMax b.charge charge }
    remainder := ⟨0, 0, 0⟩, carry := ⟨0, 0, 0⟩ }
  if online then
    ({ a' with unreported := satAdd Config.counterMax a.unreported charge }, charge,
      passes b.charge charge || passes a.unreported charge)
  else (a', charge, passes b.charge charge)

/-- Close-out of an account with the partner that prices it (R60, R61): the state after it and the charge. -/
def closeOut (i : Nat) (p : Option Partner) (s : State) : State × Nat :=
  match s.account i with
  | some a =>
    let rates := p.map fun r => qget (s.plan r.plan).rates s.tariffInForce
    let (a', charge, hit) := closeOutAccount rates (isOnline p) s.tariffInForce a
    (commitAccount i a' hit s, charge)
  | none => (s, 0)

/-! ### Accounts at admission (R46) -/

/-- An account taken from FREE (R46). -/
def accountOpen (sid hnc : Digits) (time : BitVec 32) : Account :=
  ⟨false, sid, hnc, time, 0, quadOf bucketReset, ⟨0, 0, 0⟩, ⟨0, 0, 0⟩, 0, false, false, false⟩

/-- CHU makes the chosen account ACTIVE: a DEPARTED account is reopened with the matched partner's HNC, a FREE account is
taken (R12 step 2, R46, R66). -/
def takeAccount (i : Nat) (sid hnc : Digits) (s : State) : State :=
  match s.account i with
  | some a => s.setAccount i (some { a with departed := false, hnc := hnc })
  | none => accountTaken (s.setAccount i (some (accountOpen sid hnc s.rqp.shipTime)))

/-- The account R10 chooses for a new SID: the DEPARTED account whose SID copy equals it, otherwise the lowest-index FREE
account. -/
def State.chooseAccount (s : State) (sid : Digits) : Option Nat :=
  match findKey (fun a => match a with | some r => r.departed && r.sid == sid | none => false) s.chu.accounts with
  | some i => some i
  | none => firstIndex none (·.isNone) s.chu.accounts Config.accounts 0

/-- The visitor count of a partner record changed (R31). -/
def State.updVisitors (s : State) (p : Option Nat) (g : Nat → Nat) : State :=
  match p with
  | some i =>
    match s.partner i with
    | some r => s.setPartner i (some { r with visitors := g r.visitors })
    | none => s
  | none => s

/-- The partner count of a plan changed (R38). -/
def State.updPlanCount (s : State) (i : Nat) (g : Nat → Nat) : State :=
  s.setPlan i { s.plan i with partners := g (s.plan i).partners }

/-! ### The check value of a plan (R41) -/

/-- The 7 bytes of one rate record. -/
def rateContent (r : Rate) : List Byte := num 3 r.step ++ num 4 r.price

/-- The twelve rate records in zone-major order (R41). -/
def ratesContent (q : Quad (PerClass Rate)) : List Byte :=
  (qlist q).flatMap fun z => rateContent z.voice ++ rateContent z.data ++ rateContent z.message

/-- The check value CHU computes over a plan's canonical content of 86 bytes (R41). -/
def planCheck (p : Plan) : BitVec 16 := crc16 (ratesContent p.rates ++ num 2 p.factor)

end Sys2Proof.Machine
end

