-- ==== Sys2Proof/Machine/Exchange.lean ====
section
/-! DEFINITION. The exchange table, the deferred list and the quota part: creating, freeing and re-queueing exchanges, the
EXCHANGE notices, the gate evaluation and the reorder check (chapter 4, sections 4.1 to 4.5 and 4.10). -/

namespace Sys2Proof.Machine

/-! ### The EXCHANGE notice (R79) -/

/-- The EXCHANGE notice of the exchange in an entry: kind, attempt and use count. -/
def exchangeNotice (i : Nat) (s : State) : State :=
  match (s.entry i).ex with
  | some x =>
    giveNotice .exchange (.exchange i) 1 (xkindByte x.kind) (if x.second then 2 else 1) (s.entry i).use 0 0 s
  | none => s

/-- An exchange has become TO_SEND: its notice is given at once if a link of the control preference list is eligible, and
is owed otherwise (R79). -/
def noticeToSend (i : Nat) (s : State) : State :=
  if s.anyControlEligible then exchangeNotice i s else s.withQxu { s.qxu with owed := true }

/-- Whether the exchange in an entry is TO_SEND. -/
def State.toSend (s : State) (i : Nat) : Bool :=
  match (s.entry i).ex with
  | some x => !x.sent
  | none => false

/-- A link of the control preference list has become eligible: an owed EXCHANGE notice is given for the oldest TO_SEND
exchange, and the flag is cleared (R79). -/
def giveOwed (s : State) : State :=
  if s.qxu.owed then
    let s' := s.withQxu { s.qxu with owed := false }
    match s.qxu.order.find? s.toSend with
    | some i => exchangeNotice i s'
    | none => s'
  else s

/-! ### Creating and freeing exchanges (R78, R92, R96, R97) -/

/-- The exchange a visitor is given in an entry: TO_SEND at attempt 1, with the contents of its kind as they stand now
(R77, R78). -/
def State.newExchange (s : State) (slot : Nat) (kind : XKind) : Exchange :=
  let v := s.slot slot
  let p := (v.visitor.bind (·.partner)).bind s.partner
  { kind := kind, slot := slot, gen := v.gen, account := v.account.getD 0, sent := false, second := false,
    link1 := none, link2 := none, timer := s.settings.timeout, sid := v.sid.getD [],
    cls := (v.visitor.map (·.cls)).getD .passenger, request := (p.map (·.request)).getD 0, reported := none }

/-- A visitor takes a free entry: the use count rises, the exchange joins the tail of the creation order, the visitor's
reference is set, its deferred mark is clear, and the notice rules apply (R78 case 1, R97). -/
def createExchange (i slot : Nat) (kind : XKind) (s : State) : State :=
  let use := (s.entry i).use + 1
  let s' := s.setEntry i ⟨use, some (s.newExchange slot kind)⟩
  let s' := s'.withQxu { s'.qxu with order := s'.qxu.order ++ [i] }
  noticeToSend i (s'.updVisitor slot fun v => { v with xref := some ⟨i, use⟩, deferred := false })

/-- The order of the kinds on the deferred list (R96). -/
def kindRank : XKind → Nat
  | .authorize => 0
  | .quota => 1
  | .final => 2

/-- A place joins the tail of the places of its kind (R96). -/
def joinWaiting (w : Waiting) : List Waiting → List Waiting
  | [] => [w]
  | x :: xs => if kindRank w.kind < kindRank x.kind then w :: x :: xs else x :: joinWaiting w xs

/-- QXU is asked for an exchange for a visitor: it takes the lowest-index free entry, or joins the deferred list (R78). -/
def requestExchange (slot : Nat) (kind : XKind) (s : State) : State :=
  match firstIndex xentryReset (fun e => e.ex.isNone) s.qxu.entries Config.exchanges 0 with
  | some i => createExchange i slot kind s
  | none =>
    let s := s.withQxu { s.qxu with deferred := joinWaiting ⟨slot, kind⟩ s.qxu.deferred }
    s.updVisitor slot fun v => { v with deferred := true }

/-- The head of the deferred list takes a freed entry (R97). -/
def serveDeferred (i : Nat) (s : State) : State :=
  match s.qxu.deferred with
  | w :: rest => createExchange i w.slot w.kind (s.withQxu { s.qxu with deferred := rest })
  | [] => s

/-- An entry of the table is freed: it leaves the creation order, its use count stays, its visitor's reference becomes
absent, and the deferred list is served (R92 steps 1 and 2; R93). -/
def freeEntry (i : Nat) (s : State) : State :=
  match (s.entry i).ex with
  | some x =>
    let s := s.setEntry i ⟨(s.entry i).use, none⟩
    let s := s.withQxu { s.qxu with order := s.qxu.order.filter (· != i) }
    serveDeferred i (s.updVisitor x.slot fun v => { v with xref := none })
  | none => s

/-- A visitor's place on the deferred list is removed and its mark cleared (R96). -/
def leaveDeferred (slot : Nat) (s : State) : State :=
  let s := s.withQxu { s.qxu with deferred := s.qxu.deferred.filter fun w => w.slot != slot }
  s.updVisitor slot fun v => { v with deferred := false }

/-- The kind of the exchange a visitor has in the table, with its entry. -/
def State.exchangeOf (s : State) (slot : Nat) : Option (Nat × XKind) :=
  match (s.visitor slot).bind (·.xref) with
  | some r => (s.entry r.entry).ex.map fun x => (r.entry, x.kind)
  | none => none

/-- Whether a visitor has an exchange in the table or a place on the deferred list. -/
def hasExchange (v : Visitor) : Bool := v.xref.isSome || v.deferred

/-! ### The data gate (R69–R73) -/

/-- The gate becomes SHUT with its GATE_SHUT notice where it was OPEN or WAIT: cause 0 FINAL, 1 DENIED, 2 FAILED (R71). -/
def shutGate (slot : Nat) (cause : Byte) (s : State) : State :=
  match s.quota slot with
  | some q =>
    let s' := s.updQuota slot fun q => { q with gate := .shut }
    if q.gate = .shut then s' else giveNotice .visitor (.slot slot) 6 cause 0 0 0 0 s'
  | none => s

/-- Whether a visitor is AUTHORIZING, ACTIVE or SUSPENDED. -/
def present (v : Visitor) : Bool := v.state != .departing

/-- The gate evaluation of an AUTHORIZING, ACTIVE or SUSPENDED visitor: the first case of R70 that applies. -/
def gateEvaluation (slot : Nat) (s : State) : State :=
  match s.visitor slot with
  | some v =>
    match v.quota with
    | some q =>
      if !present v then s
      else if q.retry.isSome then s.updQuota slot fun q => { q with gate := .shut }
      else if 0 < q.remaining then s.updQuota slot fun q => { q with gate := .opened }
      else if hasExchange v then s.updQuota slot fun q => { q with gate := .waiting }
      else if !q.final then
        (requestExchange slot .quota s).updQuota slot fun q => { q with gate := .waiting }
      else shutGate slot 0 s
    | none => s
  | none => s

/-- The reorder level of a visitor: the partner's reorder level times the last grant, divided by 1000 and rounded down
(R72). -/
def State.reorderLevel (s : State) (v : Visitor) (q : Quota) : Nat :=
  (((v.partner.bind s.partner).map (·.reorder)).getD 0) * q.lastGrant / 1000

/-- The reorder check (R72). -/
def reorderCheck (slot : Nat) (s : State) : State :=
  match s.visitor slot with
  | some v =>
    match v.quota with
    | some q =>
      if v.state = .active ∧ q.gate = .opened ∧ !hasExchange v ∧ !q.final ∧ 0 < q.remaining ∧
          q.remaining ≤ s.reorderLevel v q then
        requestExchange slot .quota s
      else s
    | none => s
  | none => s

/-- QXU takes a charge from a visitor's remaining; a present visitor then has its reorder check and its gate evaluation
(R69). -/
def quotaCharge (slot charge : Nat) (s : State) : State :=
  let s := s.updQuota slot fun q => { q with remaining := max Config.remainingMin (q.remaining - charge) }
  match s.visitor slot with
  | some v => if present v then gateEvaluation slot (reorderCheck slot s) else s
  | none => s

/-- VRG tells QXU that a visitor with a quota part has become ACTIVE: the initial request or the reorder condition, and
then the gate evaluation (R73). -/
def becameActive (slot : Nat) (s : State) : State :=
  match s.visitor slot with
  | some v =>
    match v.quota with
    | some q =>
      gateEvaluation slot
        (if !hasExchange v ∧ !q.final ∧ q.retry = none ∧ (q.lastGrant = 0 ∨ q.remaining ≤ s.reorderLevel v q) then
          requestExchange slot .quota s
        else s)
    | none => s
  | none => s

/-- QXU stops a retired visitor's quota timers and shuts its gate, with no notice (R76). -/
def stopQuota (slot : Nat) (s : State) : State :=
  s.updQuota slot fun q => { q with expiry := none, retry := none, gate := .shut }

/-- The quota part VRG gives at admission: remaining equal to the partner's grace (R12 step 3, R68). The gate takes its
value from the first gate evaluation of the admission. -/
def quotaOpen (grace : Nat) : Quota := ⟨grace, 0, none, false, none, if 0 < grace then .opened else .waiting⟩

/-- CHU lowers an account's unreported charge by a captured charge, stopping at 0 (R84). -/
def lowerUnreported (account : Nat) (reported : Option Nat) (s : State) : State :=
  s.updAccount account fun a => { a with unreported := a.unreported - reported.getD 0 }

end Sys2Proof.Machine
end

