-- ==== Sys2Proof/Machine/Visitor.lean ====
section
/-! DEFINITION. The visitor register's shared operations: the activity order, retire timers, retirement and eviction,
suspension, and the outcomes an ended exchange hands to the register (chapter 1; sections 4.6 to 4.9). -/

namespace Sys2Proof.Machine

/-! ### Activity and retire timers (R4, R5) -/

/-- The idle limit of a class; 0 means none (R5). -/
def idleLimit (d : Settings) : ServiceClass → Option Nat
  | .passenger => if d.idlePassenger = 0 then none else some d.idlePassenger
  | .crew => if d.idleCrew = 0 then none else some d.idleCrew
  | .emergency => if d.idleEmergency = 0 then none else some d.idleEmergency

/-- An activity of an entry that stands in the activity order: it moves to the tail with the ship time, and the retire timer
of an ACTIVE entry is loaded with its idle limit (R4, R5). -/
def activity (slot : Nat) (s : State) : State :=
  let s := s.withVrg { s.vrg with activity := s.vrg.activity.filter (· != slot) ++ [slot] }
  s.updVisitor slot fun v =>
    { v with
      lastActivity := s.rqp.shipTime
      retire := if v.state = .active then idleLimit s.settings v.cls else v.retire }

/-- An entry becomes SUSPENDED, its retire timer loaded with the mute hold (R5). -/
def suspend (slot : Nat) (s : State) : State :=
  s.updVisitor slot fun v => { v with state := .suspended, retire := some s.settings.muteHold }

/-- An entry becomes ACTIVE, its retire timer loaded with its idle limit (R5). -/
def activate (slot : Nat) (s : State) : State :=
  s.updVisitor slot fun v => { v with state := .active, retire := idleLimit s.settings v.cls }

/-! ### Retirement (R20–R22) -/

/-- An entry becomes FREE: the slot keeps its generation, SID, account index and retire reason, and its partner's visitor
count falls by 1 (R3, R31). -/
def becomeFree (slot : Nat) (s : State) : State :=
  match s.visitor slot with
  | some v => (s.setSlot slot { s.slot slot with visitor := none }).updVisitors v.partner (· - 1)
  | none => s

/-- Steps 1 to 4 of R20, with the reason recorded and the quota part stopped (R76): the AUTHORIZE exchange is cancelled, the
deferred place removed, the activity order left, the retire timer stopped, the account closed out and made DEPARTED. -/
def retireSteps (slot : Nat) (reason : RetireReason) (s : State) : State :=
  let s := s.setSlot slot { s.slot slot with reason := some reason }
  let s := match s.exchangeOf slot with
    | some (i, .authorize) => freeEntry i s
    | _ => s
  let s := leaveDeferred slot s
  let s := s.withVrg { s.vrg with activity := s.vrg.activity.filter (· != slot) }
  let s := stopQuota slot (s.updVisitor slot fun v => { v with retire := none })
  match s.visitor slot, (s.slot slot).account with
  | some v, some a =>
    if v.cls = .emergency then s
    else ((closeOut a (v.partner.bind s.partner) s).1).updAccount a fun r => { r with departed := true }
  | _, _ => s

/-- Whether an entry has charge still to report to shore: an ONLINE partner and unreported charge above 0 (R20 step 5,
R21). -/
def State.owesReport (s : State) (slot : Nat) : Bool :=
  match s.visitor slot, (s.slot slot).account with
  | some v, some a =>
    v.cls != .emergency && isOnline (v.partner.bind s.partner) &&
      (match s.account a with | some r => decide (0 < r.unreported) | none => false)
  | _, _ => false

/-- Steps 5 to 7 of R20: the entry becomes DEPARTING with its FINAL exchange, which waits for a QUOTA exchange still in the
table (R94); otherwise it becomes FREE and such a QUOTA exchange is cancelled. -/
def departOrFree (slot : Nat) (s : State) : State :=
  if s.owesReport slot then
    let s' := s.updVisitor slot fun v => { v with state := .departing }
    match s'.exchangeOf slot with
    | some _ => s'
    | none => requestExchange slot .final s'
  else
    match s.exchangeOf slot with
    | some (i, _) => freeEntry i (becomeFree slot s)
    | none => becomeFree slot s

/-- Whether a retirement gives the RETIRED notice (R20). -/
def givesRetired : RetireReason → Bool
  | .detached | .idle | .muteHold | .rejected | .checkFailed => true
  | .evicted | .purged | .muted => false

/-- The state code of a slot. -/
def State.slotStateByte (s : State) (slot : Nat) : Byte := visitorStateByte ((s.visitor slot).map (·.state))

/-- Retirement of an AUTHORIZING, ACTIVE or SUSPENDED entry (R20). -/
def retire (slot : Nat) (reason : RetireReason) (s : State) : State :=
  let s := departOrFree slot (retireSteps slot reason s)
  if givesRetired reason then
    giveNotice .visitor (.slot slot) 4 (reasonByte reason) (s.slotStateByte slot) 0 0 0 s
  else s

/-- Eviction (R21): steps 1 to 4 of R20, the UNREPORTED mark where charge is left to report, and FREE at once, with every
exchange of the visitor cancelled. -/
def evict (slot : Nat) (s : State) : State :=
  let s := retireSteps slot .evicted s
  let s := match s.owesReport slot, (s.slot slot).account with
    | true, some a => s.updAccount a fun r => { r with unrepMark := true }
    | _, _ => s
  let s := match s.exchangeOf slot with
    | some (i, _) => freeEntry i (becomeFree slot s)
    | none => becomeFree slot s
  giveNotice .visitor (.slot slot) 5 0 0 0 0 0 s

/-- The final reporting of a DEPARTING entry has ended, and it becomes FREE (R22). -/
def finalReportingEnd (slot : Nat) (s : State) : State := becomeFree slot s

/-! ### Suspension (R23, R24) -/

/-- The slots that are listed, in ascending order. -/
def State.slotKeys (s : State) : List Nat := s.vrg.slots.map (·.1)

/-- The start of MUTING: every ACTIVE entry becomes SUSPENDED, every AUTHORIZING entry is retired MUTED, in slot order. The
two counts are handed back (R23). -/
def startOfMuting (s : State) : State × Nat × Nat :=
  s.slotKeys.foldl (fun acc i =>
    match (acc.1.visitor i).map Visitor.state with
    | some VisitorState.active => (suspend i acc.1, acc.2.1 + 1, acc.2.2)
    | some VisitorState.authorizing => (retire i .muted acc.1, acc.2.1, acc.2.2 + 1)
    | _ => acc) (s, 0, 0)

/-- The loss of a unit: every ACTIVE entry on it becomes SUSPENDED, and the count is handed back (R24). -/
def suspendUnit (u : Nat) (s : State) : State × Nat :=
  s.slotKeys.foldl (fun acc i =>
    match acc.1.visitor i with
    | some v => if v.state = .active ∧ v.unit = u then (suspend i acc.1, acc.2 + 1) else acc
    | none => acc) (s, 0)

/-! ### Authorization outcomes (R15, R16) -/

/-- ACCEPT, or a second failure under check-fail policy OPEN: the AUTHORIZING entry becomes ACTIVE where its unit is
SERVING and SUSPENDED otherwise, with one AUTHORIZED notice; `byPolicy` is 0 for the partner, 1 for the policy (R15). In
both cases the gate of a visitor with a quota part is evaluated, since its exchange has ended (R70). (DEDUCED: the order
of the notices, log entry 17.) -/
def authorizationAdmit (slot : Nat) (byPolicy : Byte) (s : State) : State :=
  match s.visitor slot with
  | some v =>
    let s := if s.unitServing v.unit then becameActive slot (activate slot s) else gateEvaluation slot (suspend slot s)
    giveNotice .visitor (.slot slot) 3 byPolicy (s.slotStateByte slot) 0 0 0 s
  | none => s

/-! ### The outcomes of exchanges (R83–R86, R91, R95) -/

/-- The end of a DEPARTING visitor's QUOTA exchange: a FINAL exchange where unreported charge is left, otherwise the end of
its final reporting (R95). -/
def finalAfterQuota (slot : Nat) (s : State) : State :=
  match ((s.slot slot).account.bind s.account).map (·.unreported) with
  | some 0 => finalReportingEnd slot s
  | none => finalReportingEnd slot s
  | some (_ + 1) => requestExchange slot .final s

/-- Whether the visitor in a slot is DEPARTING. -/
def State.departing (s : State) (slot : Nat) : Bool := ((s.visitor slot).map (·.state)) == some .departing

/-- The outcome of GRANT after the exchange has ended (R84). -/
def applyGrant (x : Exchange) (units validity : Nat) (final : Bool) (s : State) : State :=
  let s := lowerUnreported x.account x.reported s
  if s.departing x.slot then finalAfterQuota x.slot s
  else
    let s := s.updQuota x.slot fun q =>
      { q with
        remaining := min Config.remainingMax (q.remaining + units)
        lastGrant := units
        expiry := if validity = 0 then none else some validity
        final := final }
    gateEvaluation x.slot (reorderCheck x.slot s)

/-- The retry wait is loaded with the partner's quota retry wait and the gate becomes SHUT with a cause (R85, R91). -/
def refuseQuota (slot : Nat) (cause : Byte) (s : State) : State :=
  let wait := ((((s.visitor slot).bind (·.partner)).bind s.partner).map (·.retryWait)).getD 0
  shutGate slot cause (s.updQuota slot fun q => { q with retry := some wait })

/-- The outcome of DENY after the exchange has ended (R85). -/
def applyDeny (x : Exchange) (s : State) : State :=
  let s := lowerUnreported x.account x.reported s
  if s.departing x.slot then finalAfterQuota x.slot s else refuseQuota x.slot 1 s

/-- The outcome of ACK after the exchange has ended (R86). -/
def applyAck (x : Exchange) (s : State) : State := finalReportingEnd x.slot (lowerUnreported x.account x.reported s)

/-- The second-failure outcome of an exchange after it has ended (R91). -/
def applySecondFailure (x : Exchange) (s : State) : State :=
  match x.kind with
  | .authorize =>
    match (((s.visitor x.slot).bind (·.partner)).bind s.partner).map Partner.checkFail with
    | some CheckFail.opened => authorizationAdmit x.slot 1 s
    | some CheckFail.closed => retire x.slot .checkFailed s
    | none => retire x.slot .checkFailed s
  | .quota => if s.departing x.slot then finalAfterQuota x.slot s else refuseQuota x.slot 2 s
  | .final => finalReportingEnd x.slot (s.updAccount x.account fun a => { a with unrepMark := true })

/-! ### Failure and the second attempt (R89, R90) -/

/-- An exchange is re-queued for attempt 2 (R90). -/
def requeue (i : Nat) (x : Exchange) (s : State) : State :=
  let use := (s.entry i).use + 1
  let s' := s.setEntry i ⟨use, some { x with sent := false, second := true, timer := s.settings.timeout }⟩
  let s' := s'.withQxu { s'.qxu with order := s'.qxu.order.filter (· != i) ++ [i] }
  noticeToSend i (s'.updVisitor x.slot fun v => { v with xref := some ⟨i, use⟩ })

/-- An exchange fails: at attempt 1 it is re-queued, at attempt 2 it ends with its second-failure outcome (R90). -/
def failExchange (i : Nat) (s : State) : State :=
  match (s.entry i).ex with
  | some x => if x.second then applySecondFailure x (freeEntry i s) else requeue i x s
  | none => s

/-- The link of an exchange's current attempt (R77). -/
def currentLink (x : Exchange) : Option Link := if x.second then x.link2 else x.link1

/-- Links leave eligibility: every SENT exchange on one of them fails, in the creation order that stood before (R89). -/
def linksLeave (lost : Link → Bool) (s : State) : State :=
  s.qxu.order.foldl (fun s i =>
    match (s.entry i).ex with
    | some x =>
      match currentLink x with
      | some l => if x.sent && lost l then failExchange i s else s
      | none => s
    | none => s) s

end Sys2Proof.Machine
end

