-- ==== Sys2Proof/Machine/Handover.lean ====
section
/-! DEFINITION. The route engine's shared operations: the selection of a path (R130), its reselection by state (R132) and
the outcomes of a reselection (R133). -/

namespace Sys2Proof.Machine

/-- The current link of a path state, absent in STRANDED (R123). -/
def currentOf : PathState → Option Link
  | .steady c => some c
  | .preparing c _ _ => some c
  | .bicast c _ _ => some c
  | .releasing c _ _ => some c
  | .stranded => none

/-- The next link of a path state, present in PREPARING and BICAST (R123). -/
def nextOf : PathState → Option Link
  | .preparing _ n _ => some n
  | .bicast _ n _ => some n
  | .steady _ | .releasing _ _ _ | .stranded => none

/-- The released link of a path state, present in RELEASING (R123). -/
def releasedOf : PathState → Option Link
  | .releasing _ r _ => some r
  | .steady _ | .preparing _ _ _ | .bicast _ _ _ | .stranded => none

/-- The first link of a list that is in a state and eligible. -/
def State.firstIn (s : State) (st : LinkState) (ls : List Link) : Option Link :=
  ls.find? fun l => (s.link l).state == st && s.eligible l

/-- The link the pin or the preference list gives, taking the first case of R130 that applies. -/
def State.preferred (s : State) (p : Path) : Option Link :=
  match p.pin.filter s.eligible with
  | some l => some l
  | none =>
    match s.firstIn .up p.prefs with
    | some l => some l
    | none => s.firstIn .degraded p.prefs

/-- The selection of a path (R130): with no preferred link, the current link while it is eligible. -/
def State.selection (s : State) (p : Path) : Option Link :=
  match s.preferred p with
  | some l => some l
  | none => (currentOf p.state).filter s.eligible

/-- A HANDOVER notice with the path's reason (R133, R142, R228). -/
def handoverNotice (r : Nat) (c : TrafficClass) (detail : Byte) (fromLink toLink : Option Link) (s : State) : State :=
  giveNotice .handover (.path r c) detail (optLink fromLink) (optLink toLink)
    (optByte ((s.path r c).reason.map moveReasonByte)) 0 0 s

/-- A path's state and reason replaced, with one HANDOVER notice that carries the path's reason after the change. -/
def movePath (r : Nat) (c : TrafficClass) (st : PathState) (reason : Option MoveReason) (detail : Byte)
    (fromLink toLink : Option Link) (s : State) : State :=
  handoverNotice r c detail fromLink toLink (s.setPath r c { s.path r c with state := st, reason := reason })

/-- Start PREPARING toward a link (R133). -/
def startPreparing (r : Nat) (c : TrafficClass) (cur target : Link) (reason : MoveReason) (s : State) : State :=
  movePath r c (.preparing cur target (s.route r).prepare) (some reason) 1 (some cur) (some target) s

/-- A hard switch to a link, or to none (R133); `reason` is what the path records. -/
def hardSwitch (r : Nat) (c : TrafficClass) (target : Option Link) (reason : Option MoveReason) (s : State) : State :=
  let old := currentOf (s.path r c).state
  match target with
  | some l => movePath r c (.steady l) reason 5 old (some l) s
  | none => movePath r c .stranded reason 6 old none s

/-- Enter RELEASING onto a link, away from another (R133). -/
def enterReleasing (r : Nat) (c : TrafficClass) (old new : Link) (s : State) : State :=
  movePath r c (.releasing new old (s.route r).release) (s.path r c).reason 3 (some old) (some new) s

/-- The reselection of a STEADY path (R132). A hard switch enters STEADY on the selection, whose own reselection finds the
same link and does nothing (R133). -/
def reselectSteady (r : Nat) (c : TrafficClass) (cur : Link) (reason : MoveReason) (s : State) : State :=
  match s.selection (s.path r c) with
  | some l =>
    if l = cur then s
    else if s.eligible cur then startPreparing r c cur l reason s
    else hardSwitch r c (some l) (some reason) s
  | none => if s.eligible cur then s else hardSwitch r c none (some reason) s

/-- A path enters STEADY on a link, which reselects it with reason PREFERENCE (R131). -/
def enterSteady (r : Nat) (c : TrafficClass) (cur : Link) (s : State) : State :=
  reselectSteady r c cur .preference (s.setPath r c { s.path r c with state := .steady cur })

/-- Abandon to the current link (R133): the notice, and then the entry into STEADY, which reselects. -/
def abandon (r : Nat) (c : TrafficClass) (cur next : Link) (s : State) : State :=
  enterSteady r c cur (movePath r c (.steady cur) (s.path r c).reason 2 (some cur) (some next) s)

/-- The reselection of one path at an event with a reason (R131, R132). -/
def reselect (r : Nat) (c : TrafficClass) (reason : MoveReason) (s : State) : State :=
  let sel := s.selection (s.path r c)
  match (s.path r c).state with
  | .steady cur => reselectSteady r c cur reason s
  | .stranded =>
    match sel with
    | some l => hardSwitch r c (some l) (some .recovery) s
    | none => s
  | .preparing cur next _ =>
    if sel = some next then s
    else if sel = some cur then abandon r c cur next s
    else
      match sel with
      | some l =>
        if s.eligible cur then startPreparing r c cur l reason s else hardSwitch r c (some l) (some reason) s
      | none => hardSwitch r c none (some reason) s
  | .bicast cur next _ =>
    if !s.eligible next then
      (if s.eligible cur then abandon r c cur next s else hardSwitch r c sel (some reason) s)
    else if !s.eligible cur then enterReleasing r c cur next s
    else s
  | .releasing cur _ _ => if s.eligible cur then s else hardSwitch r c sel (some reason) s

/-- The three classes in the order of R131. -/
def classes : List TrafficClass := [.voice, .data, .message]

/-- The reselection of a route's three paths, VOICE first (R126, R131). -/
def reselectRoute (r : Nat) (reason : MoveReason) (s : State) : State :=
  classes.foldl (fun s c => reselect r c reason s) s

/-- The reselection of all 96 paths, in route order (R131). -/
def reselectAll (reason : MoveReason) (s : State) : State :=
  (List.range Config.routes).foldl (fun s r => reselectRoute r reason s) s

end Sys2Proof.Machine
end

