-- ==== Sys2Proof/Machine/LinkOps.lean ====
section
/-! DEFINITION. The link monitor's shared operations: a change of a link's state with all that follows it (R103), the
monitors (R107), probing (R108), the state evaluation (R109) and the end of a hold (R112). -/

namespace Sys2Proof.Machine

/-- The causes of a LINK notice (R103, R228). -/
inductive LinkCause
  | enabled | disabled | probed | fault | cleared | stale | loss | holdExpired | operatorHold | released | drillStart
  | drillEnd
  deriving DecidableEq, Repr

/-- The code of a cause (R228). -/
def linkCauseByte : LinkCause → Byte
  | .enabled => 1
  | .disabled => 2
  | .probed => 3
  | .fault => 4
  | .cleared => 5
  | .stale => 6
  | .loss => 7
  | .holdExpired => 8
  | .operatorHold => 9
  | .released => 10
  | .drillStart => 11
  | .drillEnd => 12

/-- A LINK notice (R103 step 2). -/
def linkNotice (i : Link) (old new : LinkState) (cause : LinkCause) (s : State) : State :=
  giveNotice .link (.link i) 1 (linkStateByte old) (linkStateByte new) (holdCauseByte new) (linkCauseByte cause) 0 s

/-- A monitor back at GOOD with count 0, its fault-seen flag kept (R117, R118). -/
def monitorFreed (m : MonitorState) : MonitorState := { m with fault := false, count := 0 }

/-- A link without its drill: the drilled monitor is GOOD with count 0 (R117, R118). -/
def dropDrill (l : LinkRec) : LinkRec :=
  match l.drill with
  | some d => { l with drill := none, monitors := mset l.monitors d.monitor (monitorFreed (mget l.monitors d.monitor)) }
  | none => l

/-- Whether a link state is HELD. -/
def isHeld : LinkState → Bool
  | .held _ => true
  | .off | .probing | .up | .degraded => false

/-- A link's state changes (R103): a drill is cancelled on the way to HELD or OFF, one LINK notice is given, QXU and RTE
are told. `new` carries the record with its new state; the old state is the one the link holds. -/
def changeLink (i : Link) (new : LinkRec) (cause : LinkCause) (s : State) : State :=
  let old := (s.link i).state
  let rec' := if isHeld new.state ∨ new.state = .off then dropDrill new else new
  let s := linkNotice i old new.state cause (s.setLink i rec')
  let s :=
    if (isHeld new.state && !isHeld old) || (new.state == .off && old != .off) then linksLeave (· == i) s
    else if usable new.state && !usable old && s.controlEligible i then giveOwed s
    else s
  reselectAll .link s

/-- The stale timer as a load leaves it: a stale time of 0 leaves it stopped (R110). -/
def staleLoad (c : LinkConfig) : Option Nat := if c.staleTime = 0 then none else some c.staleTime

/-- The record of a link that enters PROBING from HELD: good count 0, stale timer loaded, hold timer stopped, monitors kept
(R112, R114). -/
def toProbing (l : LinkRec) : LinkRec := { l with state := .probing, good := 0, stale := staleLoad l.cfg, hold := none }

/-- The hold ends, and the link becomes PROBING (R112). -/
def endHold (i : Link) (s : State) : State := changeLink i (toProbing (s.link i)) .holdExpired s

/-- A link in PROBING, UP or DEGRADED becomes HELD with cause FAILURE (R110, R111): the stale timer stops and the hold timer
is loaded; a hold time of 0 ends the hold at once (R112). (DEDUCED, log entry 14.) -/
def holdForFailure (i : Link) (cause : LinkCause) (s : State) : State :=
  let l := s.link i
  let s := changeLink i { l with state := .held .failure, stale := none, hold := some l.cfg.holdTime } cause s
  if l.cfg.holdTime = 0 then endHold i s else s

/-- Whether a value disagrees with a monitor's condition is judged, debounced and latched (R107). -/
def judgeMonitor (m : MonitorState) (bad : Bool) (debounce : Nat) : MonitorState :=
  if bad = m.fault then { m with count := 0 }
  else if m.count + 1 = debounce then { fault := bad, count := 0, seen := m.seen || bad }
  else { m with count := m.count + 1 }

/-- Whether each value of a measurement is bad (R107). -/
def badValues (c : LinkConfig) (m : Measurement) : PerMonitor Bool :=
  ⟨decide (c.delayT < m.delay), decide (c.lossT < m.loss), decide (m.level < c.levelT)⟩

/-- One monitor of a link updated by a measurement; the monitor under drill is held in FAULT and not judged (R107, R116). -/
def updateMonitor (l : LinkRec) (bad : PerMonitor Bool) (m : Monitor) : MonitorState :=
  if l.drill.map (·.monitor) = some m then mget l.monitors m
  else judgeMonitor (mget l.monitors m) (mget bad m) (mget l.cfg.debounce m)

/-- The three monitors updated (R107). -/
def updateMonitors (l : LinkRec) (bad : PerMonitor Bool) : LinkRec :=
  { l with monitors := ⟨updateMonitor l bad .delay, updateMonitor l bad .loss, updateMonitor l bad .level⟩ }

/-- Whether a measurement is bad as a whole: the value of some unmasked monitor is bad (R108). -/
def badMeasurement (c : LinkConfig) (bad : PerMonitor Bool) : Bool :=
  (bad.delay && !c.mask.delay) || (bad.loss && !c.mask.loss) || (bad.level && !c.mask.level)

/-- Whether a link in UP or DEGRADED should be DEGRADED (R109). -/
def shouldDegrade (l : LinkRec) : Bool := anyFault l || l.drill.isSome

/-- The state evaluation of a link in UP or DEGRADED (R109). -/
def evaluateLink (i : Link) (s : State) : State :=
  let l := s.link i
  match l.state with
  | .up => if shouldDegrade l then changeLink i { l with state := .degraded } .fault s else s
  | .degraded => if shouldDegrade l then s else changeLink i { l with state := .up } .cleared s
  | .off | .probing | .held _ => s

/-- The judgement of a measurement in PROBING (R108). -/
def judgeProbe (i : Link) (bad : Bool) (s : State) : State :=
  let l := s.link i
  if bad then s.setLink i { l with good := 0 }
  else if l.cfg.probe ≤ l.good + 1 then
    changeLink i { l with good := 0, state := if anyFault l then .degraded else .up } .probed s
  else s.setLink i { l with good := l.good + 1 }

/-- A measurement acts on its link's state once the monitors are updated (R106 step 4). -/
def actOnMeasurement (i : Link) (bad : Bool) (s : State) : State :=
  match (s.link i).state with
  | .probing => judgeProbe i bad s
  | .up | .degraded => evaluateLink i s
  | .off | .held _ => s

end Sys2Proof.Machine
end

