-- ==== Sys2Proof/Machine/Radio.lean ====
section
/-! DEFINITION. The radio controller's shared operations: marks (R171), the arbiter with bus recovery (R169, R172), the
completions (R173, R174, R184, R185), units lost to service (R182), MUTING and UNMUTING (R177–R179) and the presence probe
(R186, R187). -/

namespace Sys2Proof.Machine

/-! ### Marks (R171) -/

/-- The class of a mark: MUTE first, UNMUTE second, POLL and IDENTIFY third (R171). -/
def markClass : Mark → Nat
  | .mute _ => 0
  | .unmute _ => 1
  | .poll => 2
  | .identify => 2

/-- The mark a unit holds once a mark is placed for it (R171). -/
def placedOver (held : Option Mark) (m : Mark) : Mark :=
  match held with
  | none => m
  | some .poll => if markClass m = 2 then .poll else m
  | some .identify => if markClass m = 2 then .identify else m
  | some (.mute a) =>
    match m with
    | .unmute b => .unmute b
    | .mute _ | .poll | .identify => .mute a
  | some (.unmute a) =>
    match m with
    | .mute b => .mute b
    | .unmute _ | .poll | .identify => .unmute a

/-- A mark is placed for a unit; none is placed for an EXCLUDED unit (R171). -/
def placeMark (u : Nat) (m : Mark) (s : State) : State :=
  if (s.unit u).state = .excluded then s
  else s.setUnit u { s.unit u with mark := some (placedOver (s.unit u).mark m) }

/-- A unit's mark replaced outright. -/
def setMark (u : Nat) (m : Option Mark) (s : State) : State := s.setUnit u { s.unit u with mark := m }

/-- Whether a mark is a MUTE. -/
def isMute : Option Mark → Bool
  | some (.mute _) => true
  | some (.unmute _) | some .poll | some .identify | none => false

/-- Whether a mark is an UNMUTE. -/
def isUnmute : Option Mark → Bool
  | some (.unmute _) => true
  | some (.mute _) | some .poll | some .identify | none => false

/-- The sixteen unit addresses in ascending order. -/
def unitKeys : List Nat := List.range Config.units

/-! ### Notices and the loss of a unit (R170, R182) -/

/-- The causes of a UNIT notice (R170, R228). -/
inductive UnitCause
  | muteAck | unmuteAck | fault | faultClear | missed | attempts | exclude | incl
  deriving DecidableEq, Repr

/-- The code of a cause (R228). -/
def unitCauseByte : UnitCause → Byte
  | .muteAck => 1
  | .unmuteAck => 2
  | .fault => 3
  | .faultClear => 4
  | .missed => 5
  | .attempts => 6
  | .exclude => 7
  | .incl => 8

/-- A RADIO notice with subject none (R169, R177–R180). -/
def radioNotice (detail v1 v2 v3 v4 v5 : Byte) (s : State) : State :=
  giveNotice .radio .none detail v1 v2 v3 v4 v5 s

/-- Whether a unit state is one of the three that loses a unit to service (R182). -/
def lostState : UnitState → Bool
  | .faulty | .unresponsive | .excluded => true
  | .absent | .serving | .muted => false

/-- RFOFF is asserted (R181). -/
def assertRfoff (s : State) : State := s.withRdc { s.rdc with rfoff := true }

/-- A unit's state changes, with its UNIT notice. A unit that enters FAULTY, UNRESPONSIVE or EXCLUDED is handed to VRG first
and the notice carries the count; RFOFF is asserted where R181 says. A unit that keeps its state gives no notice (R170,
R182). -/
def changeUnit (u : Nat) (new : UnitState) (cause : UnitCause) (s : State) : State :=
  let old := (s.unit u).state
  if old = new then s
  else
    let s := s.setUnit u { s.unit u with state := new }
    let (s, n) := if lostState new then suspendUnit u s else (s, 0)
    let s :=
      if (new = .unresponsive ∨ new = .excluded) ∧ (s.rdc.radio = .muting ∨ s.rdc.radio = .muted) then assertRfoff s
      else s
    giveNotice .radio (.unit u) 8 (unitStateByte old) (unitStateByte new) (unitCauseByte cause)
      (BitVec.ofNat 8 (n / 256)) (BitVec.ofNat 8 n) s

/-! ### The end check of a sequence (R179) -/

/-- Whether the bus carries a MUTE or an UNMUTE. -/
def State.commandOnBus (s : State) : Bool :=
  match s.rdc.onBus with
  | some (_, .mute _) | some (_, .unmute _) => true
  | some (_, .poll) | some (_, .identify) | none => false

/-- Whether some unit holds a mark that satisfies `p`. -/
def State.anyMark (s : State) (p : Option Mark → Bool) : Bool := unitKeys.any fun u => p (s.unit u).mark

/-- The end check (R179). -/
def endCheck (s : State) : State :=
  match s.rdc.radio with
  | .muting =>
    if s.anyMark isMute || s.commandOnBus then s
    else radioNotice 3 0 0 0 0 0 (s.withRdc { s.rdc with radio := .muted, deadline := none })
  | .unmuting =>
    if s.anyMark isUnmute || s.commandOnBus then s
    else radioNotice 4 0 0 0 0 0 (s.withRdc { s.rdc with radio := .serving })
  | .muted | .serving => s

/-! ### Completions (R173, R174, R184, R185) -/

/-- MUTE, attempt 1. -/
def firstMute : Mark := .mute 1
/-- UNMUTE, attempt 1. -/
def firstUnmute : Mark := .unmute 1

/-- A MUTE, UNMUTE or IDENTIFY completed answered: the miss count becomes 0 and the unit acts by its state (R173). (DEDUCED:
the miss count of an EXCLUDED unit becomes 0 too, log entry 32.) -/
def commandAnsweredRule (u : Nat) (m : Mark) (s : State) : State :=
  let s := s.setUnit u { s.unit u with misses := 0 }
  match m, (s.unit u).state with
  | _, .excluded => s
  | .identify, .absent => placeMark u firstMute s
  | .identify, _ => s
  | .mute _, .faulty => s
  | .mute _, _ =>
    let s := changeUnit u .muted .muteAck s
    if s.effectivePolicy = .serve then placeMark u firstUnmute s else s
  | .unmute _, .absent => placeMark u firstMute s
  | .unmute _, .faulty => placeMark u firstMute s
  | .unmute _, _ =>
    let s := changeUnit u .serving .unmuteAck s
    if s.effectivePolicy = .mute then placeMark u firstMute s else s
  | .poll, _ => s

/-- Whether a unit's last status shows the fault flag. -/
def faultShown (r : UnitRec) : Bool :=
  match r.lastStatus with
  | some st => st.fault
  | none => false

/-- Whether a failed MUTE or UNMUTE is still wanted for a unit (R174). -/
def State.stillWanted (s : State) (u : Nat) (m : Mark) : Bool :=
  let r := s.unit u
  match m with
  | .mute _ => s.effectivePolicy == .mute || r.state == .absent || r.state == .faulty || faultShown r
  | .unmute _ => s.effectivePolicy == .serve && r.state != .faulty
  | .poll | .identify => false

/-- The next attempt of a MUTE or UNMUTE; none after the third. -/
def nextAttempt : Mark → Option Mark
  | .mute a => if a < 3 then some (.mute (a + 1)) else none
  | .unmute a => if a < 3 then some (.unmute (a + 1)) else none
  | .poll | .identify => none

/-- A MUTE, UNMUTE or IDENTIFY completed NOACK (R174). A result for an EXCLUDED unit is ignored (R189). (DEDUCED for
an EXCLUDED unit, log entry 22.) -/
def commandNoackRule (u : Nat) (m : Mark) (s : State) : State :=
  let r := s.unit u
  if r.state = .excluded ∨ !s.stillWanted u m ∨ isMute r.mark ∨ isUnmute r.mark then s
  else
    match nextAttempt m with
    | some m' => setMark u (some m') s
    | none => setMark u none (changeUnit u .unresponsive .attempts s)

/-- A POLL completed answered with its two flags: the first row of R184 that applies. (DEDUCED: the miss count of an
EXCLUDED unit becomes 0 with its last status, log entry 32.) -/
def pollAnsweredRule (u : Nat) (radiating fault : Bool) (s : State) : State :=
  let s := s.setUnit u { s.unit u with misses := 0, lastStatus := some ⟨radiating, fault, s.rqp.shipTime⟩ }
  let policy := s.effectivePolicy
  match (s.unit u).state with
  | .excluded => s
  | .absent => placeMark u firstMute s
  | .unresponsive =>
    if fault then placeMark u firstMute s
    else if policy = .mute then placeMark u firstMute s
    else placeMark u firstUnmute s
  | .faulty =>
    if fault then (if radiating then placeMark u firstMute s else s)
    else
      let s := changeUnit u .muted .faultClear s
      if radiating then placeMark u firstMute s
      else if policy = .serve then placeMark u firstUnmute s
      else s
  | .serving =>
    if fault then placeMark u firstMute (changeUnit u .faulty .fault s)
    else if radiating ∧ policy = .mute then placeMark u firstMute s
    else if !radiating ∧ policy = .serve then placeMark u firstUnmute s
    else s
  | .muted =>
    if fault then placeMark u firstMute (changeUnit u .faulty .fault s)
    else if radiating ∧ policy = .mute then placeMark u firstMute s
    else if policy = .serve then placeMark u firstUnmute s
    else s

/-- A POLL completed NOACK (R185). -/
def pollNoackRule (u : Nat) (s : State) : State :=
  let r := s.unit u
  match r.state with
  | .serving | .muted =>
    let n := min 3 (r.misses + 1)
    let s := s.setUnit u { r with misses := n }
    if n = 3 then changeUnit u .unresponsive .missed s else s
  | .absent | .faulty | .unresponsive | .excluded => s

/-- A transaction completed NOACK: the way it failed is recorded, its rule acts, and the end check is made (R168, R174,
R179, R185). -/
def noackRule (u : Nat) (m : Mark) (failure : BusFailure) (s : State) : State :=
  let s := s.setUnit u { s.unit u with lastFailure := some failure }
  endCheck (match m with
    | .poll => pollNoackRule u s
    | .mute _ | .unmute _ | .identify => commandNoackRule u m s)

/-! ### The arbiter and bus recovery (R169, R172) -/

/-- The unit whose pending mark goes next: the highest class, then the lowest address (R172). -/
def State.nextMark (s : State) : Option (Nat × Mark) :=
  let holds := fun k => unitKeys.find? fun u =>
    match (s.unit u).mark with
    | some m => markClass m == k
    | none => false
  match (holds 0).orElse (fun _ => (holds 1).orElse fun _ => holds 2) with
  | some u => (s.unit u).mark.map fun m => (u, m)
  | none => none

/-- What a check of the data wire finds: after how many clock pulses the wire is high, 0 where it is high at once. -/
def wireFinding (wire : List Nat) : Nat := wire.headD 0

/-- What is left for the later checks: the last finding stands for all of them. -/
def laterFindings : List Nat → List Nat
  | [] => []
  | [n] => [n]
  | _ :: m :: rest => m :: rest

/-- The start of a transaction, at the clock the setting gives: the check of the data wire before START, with its recovery
of up to 9 clock pulses; whether the wire is high, and the bus state with its notice (R169, R205). (DESIGN CHOICE: the
findings `wire`, log entry 6; DEDUCED: the recovery runs at the clock of the transaction it precedes, log entry 28.) -/
def busCheck (s : State) : Bool × State :=
  let n := wireFinding s.rdc.wire
  let high := decide (n ≤ 9)
  let s' := s.withRdc { s.rdc with
    speed := s.settings.busSpeed, wire := laterFindings s.rdc.wire, busFault := !high
    recovery := s.rdc.recovery ++ [(s.settings.busSpeed, recoveryPulses n)] }
  (high,
    if high && s.rdc.busFault then radioNotice 7 0 0 0 0 0 s'
    else if !high && !s.rdc.busFault then radioNotice 6 0 0 0 0 0 s'
    else s')

/-- The arbiter: while the bus is free and a unit holds a mark, the next mark's transaction starts. One that finds the data
wire held low completes at once as NOACK with last failure BUS, and the next is taken (R169, R172). (DEDUCED: the notice
BUS_FAULT stands before the notices of the transaction it fails, log entry 30; the end check of that transaction comes
before the next mark is taken, log entry 31.) -/
def arbitrate : Nat → State → State
  | 0, s => s
  | fuel + 1, s =>
    if s.rdc.onBus.isSome then s
    else
      match s.nextMark with
      | some (u, m) =>
        let r := busCheck (setMark u none s)
        if r.1 then r.2.withRdc { r.2.rdc with onBus := some (u, m) } else arbitrate fuel (noackRule u m .bus r.2)
      | none => s

/-- Enough transactions for every mark of sixteen units to fail three times (R171, R174). -/
def arbiterFuel : Nat := 64

/-! ### The end of the presence probe (R187, R202) -/

/-- The number of units in a state. -/
def State.unitsIn (s : State) (st : UnitState) : Nat := (unitKeys.filter fun u => (s.unit u).state == st).length

/-- Whether a mark is an IDENTIFY or a MUTE. -/
def probeMark : Option Mark → Bool
  | some .identify | some (.mute _) => true
  | some .poll | some (.unmute _) | none => false

/-- The probe ends at the first moment with no IDENTIFY or MUTE mark and no transaction on the bus: the mode becomes
SERVICE, the position is set, the poll timer is loaded and START is answered (R187, R202). -/
def endProbe (s : State) : State :=
  match s.rdc.probe with
  | some r =>
    if s.anyMark probeMark || s.rdc.onBus.isSome then s
    else
      let s := s.withRqp { s.rqp with mode := .service }
      let s := s.withZne { s.zne with pos := positionReset }
      let s := s.withRdc { s.rdc with probe := none, poll := some s.settings.pollInterval }
      answerInFlight kStart.code r
        (resultByte .ok :: (num 1 (s.unitsIn .muted) ++ num 1 (s.unitsIn .unresponsive) ++ num 1 (s.unitsIn .absent))) s
  | none => s

/-- What the radio controller does at the end of every event that may have placed a mark or freed the bus: the arbiter runs,
and then the probe's end is looked for (R172, R187). (DESIGN CHOICE: within a request, the answer of a START that ends here
joins the queue before the request's own, log entry 35.) -/
def settleBus (s : State) : State := endProbe (arbitrate arbiterFuel s)

/-- A transaction that was on the bus has completed at the clock it began with, the part having driven `sent`, with the data
wire as `wire` says for the next checks: its rule acts, then the end check, then the arbiter (R168, R172, R173, R179,
R205). (DEDUCED: the end check before the arbiter starts the next mark, log entry 31.) -/
def completeBus (sent : List BusSymbol) (wire : List Nat) (rule : State → State) (s : State) : State :=
  settleBus (endCheck (rule (s.withRdc { s.rdc with
    onBus := none, wire := wire, sent := sent, sentAt := s.rdc.speed, recovery := [] })))

/-! ### MUTING and UNMUTING (R177, R178) -/

/-- What turned the effective policy (R177, R228). -/
inductive PolicyCause
  | policy | operator
  deriving DecidableEq, Repr

/-- The code of a cause (R228). -/
def policyCauseByte : PolicyCause → Byte
  | .policy => 0
  | .operator => 1

/-- The marks of one unit at the start of MUTING (R177 step 4). -/
def muteMarks (u : Nat) (s : State) : State :=
  let r := s.unit u
  match r.state with
  | .serving | .faulty => placeMark u firstMute s
  | .unresponsive | .absent => if isUnmute r.mark then setMark u (some firstMute) s else s
  | .muted => if isUnmute r.mark then setMark u none s else s
  | .excluded => s

/-- MUTING begins (R177). -/
def beginMuting (cause : PolicyCause) (s : State) : State :=
  let s := s.withRdc { s.rdc with radio := .muting }
  let (s, suspended, retired) := startOfMuting s
  let s := radioNotice 1 (BitVec.ofNat 8 (suspended / 256)) (BitVec.ofNat 8 suspended) (BitVec.ofNat 8 (retired / 256))
    (BitVec.ofNat 8 retired) (policyCauseByte cause) s
  let s := unitKeys.foldl (fun s u => muteMarks u s) s
  let s := if 0 < s.unitsIn .unresponsive + s.unitsIn .excluded then assertRfoff s else s
  endCheck (s.withRdc { s.rdc with deadline := some s.settings.muteDeadline })

/-- The marks of one unit at the start of UNMUTING (R178 step 5). -/
def unmuteMarks (u : Nat) (s : State) : State :=
  let r := s.unit u
  match r.state with
  | .serving => if isMute r.mark then setMark u none s else s
  | .muted => setMark u (some firstUnmute) s
  | .unresponsive => if isMute r.mark && !faultShown r then setMark u (some firstUnmute) s else s
  | .faulty | .absent | .excluded => s

/-- UNMUTING begins (R178). -/
def beginUnmuting (cause : PolicyCause) (s : State) : State :=
  let s := s.withRdc { s.rdc with radio := .unmuting, deadline := none, rfoff := false }
  let s := radioNotice 2 0 0 0 0 (policyCauseByte cause) s
  endCheck (unitKeys.foldl (fun s u => unmuteMarks u s) s)

/-- RDC forms the effective policy anew; `before` is what it was. A change to MUTE in SERVING or UNMUTING begins MUTING, a
change to SERVE in MUTED or MUTING begins UNMUTING (R175). -/
def policyTurned (before : Policy) (cause : PolicyCause) (s : State) : State :=
  let now := s.effectivePolicy
  if now = before then s
  else
    match now, s.rdc.radio with
    | .mute, .serving | .mute, .unmuting => settleBus (beginMuting cause s)
    | .serve, .muted | .serve, .muting => settleBus (beginUnmuting cause s)
    | .mute, .muted | .mute, .muting | .serve, .serving | .serve, .unmuting => s

end Sys2Proof.Machine
end

