-- ==== Sys2Proof/Machine/ZoneOps.lean ====
section
/-! DEFINITION. The zone engine's shared operations: the navigation receiver (R148–R151), the candidate of a fix (R159), the
classes of a wanted change (R162), and the hand-on of changed values in force (R166). -/

namespace Sys2Proof.Machine

/-! ### The navigation receiver (R149–R151) -/

def State.setNav (s : State) (n : Nav) : State := s.withZne { s.zne with nav := n }

/-- A message in reception is dropped with one discard, and the receiver hunts (R149, R151). -/
def navDrop (why : NavDiscard) (n : Nav) : Nav :=
  { n with rx := .hunting, discards := satAdd Config.discardMax n.discards 1, lastReason := some why }

/-- The first check of R151 that a complete message of 10 bytes fails; none for a message that is accepted. `held` is how
many fixes the FIFO holds. -/
def messageFault (bytes : List Byte) (lastSeq : Option Byte) (held : Nat) : Option NavDiscard :=
  if (bytes.drop 1).foldl (fun a b => a + b) 0#8 ≠ 0 then some .check
  else if byteAt bytes 8 = 0 ∨ 2 < (byteAt bytes 8).toNat then some .quality
  else if lastSeq = some (byteAt bytes 1) then some .duplicate
  else if Config.fifoCapacity ≤ held then some .overrun
  else none

/-- The fix of a message (R151, R229). -/
def messageFix (bytes : List Byte) (noisy : Bool) : Fix :=
  ⟨.nav (byteAt bytes 1), (fieldAt 24 3 bytes 2).toInt, (fieldAt 24 3 bytes 5).toInt, (byteAt bytes 8).toNat, noisy⟩

/-- A complete message is disposed of: it enters the tail of the FIFO or is discarded, and the receiver hunts (R151). -/
def disposeMessage (bytes : List Byte) (noisy : Bool) (s : State) : State :=
  let n := s.zne.nav
  match messageFault bytes n.lastSeq s.zne.fifo.length with
  | some why => s.setNav (navDrop why n)
  | none =>
    s.withZne { s.zne with
      nav := { n with rx := .hunting, lastSeq := some (byteAt bytes 1) }
      fifo := s.zne.fifo ++ [messageFix bytes noisy] }

/-- A good or noisy byte reaches the receiver (R149). -/
def takeByte (b : Byte) (noisy : Bool) (s : State) : State :=
  match s.zne.nav.rx with
  | .disabled => s
  | .hunting => if b = 0x7E#8 then s.setNav { s.zne.nav with rx := .assembling [b] noisy } else s
  | .assembling bytes mark =>
    let bytes := bytes ++ [b]
    if 10 ≤ bytes.length then disposeMessage bytes (mark || noisy) s
    else s.setNav { s.zne.nav with rx := .assembling bytes (mark || noisy) }

/-- A byte with a framing error, or a break, ends a message in reception (R149). -/
def endReception (why : NavDiscard) (s : State) : State :=
  match s.zne.nav.rx with
  | .assembling _ _ => s.setNav (navDrop why s.zne.nav)
  | .disabled | .hunting => s

/-- A ZONE notice (R150, R157, R163, R164). -/
def zoneNotice (subject : Subject) (detail v1 v2 v3 v4 v5 : Byte) (s : State) : State :=
  giveNotice .zone subject detail v1 v2 v3 v4 v5 s

/-- A break is received: the line status becomes BREAK, with one notice where it was IDLE (R150). -/
def breakStatus (s : State) : State :=
  if s.zne.nav.lineBreak then s
  else zoneNotice .none 4 0 0 0 0 0 (s.setNav { s.zne.nav with lineBreak := true })

/-- One byte time on the NAV line (R148–R150). A disabled receiver samples nothing. The valid start bit of a byte returns
the line status to IDLE; the start bit of a break does not, so that a break while the status is BREAK gives no further
notice (DEDUCED from R150; log entry 9). -/
def lineByte (x : LineByte) (s : State) : State :=
  match s.zne.nav.rx with
  | .disabled => s
  | .hunting | .assembling _ _ =>
    match lineOutcome x with
    | .falseStart => s
    | .good b => takeByte b false (s.setNav { s.zne.nav with lineBreak := false })
    | .noisy b => takeByte b true (s.setNav { s.zne.nav with lineBreak := false })
    | .framing => endReception .framing (s.setNav { s.zne.nav with lineBreak := false })
    | .broken => breakStatus (endReception .broken s)

/-! ### The candidate (R159) -/

/-- The radius a zone is tested with: the zone in force is given its hysteresis, except in NO_FIX, where none is
(R159). -/
def State.testRadius (s : State) (i : Nat) : Nat :=
  let z := s.zone i
  if s.zne.pos.state ≠ .noFix ∧ s.zne.pos.zone = i then z.radius + z.hysteresis else z.radius

/-- Whether an enabled zone passes the test for a fix (R159). -/
def State.zonePasses (s : State) (f : Fix) (i : Nat) : Bool :=
  let z := s.zone i
  let dx := f.east - z.east
  let dy := f.north - z.north
  z.enabled && decide (dx * dx + dy * dy ≤ (s.testRadius i : Int) * (s.testRadius i : Int))

/-- The candidate of a fix: the lowest index that passes, otherwise 31 (R159). -/
def State.candidateOf (s : State) (f : Fix) : Nat :=
  ((List.range Config.defaultZone).find? fun i => s.zonePasses f i).getD Config.defaultZone

/-- The entry count of a zone; zone 31's is fixed at 3 (R155). -/
def State.entryCount (s : State) (i : Nat) : Nat := if i = Config.defaultZone then 3 else (s.zone i).entry

/-! ### The values in force and their hand-on (R160, R166) -/

/-- The three values in force (R160). -/
structure InForce where
  policy : Policy
  tariff : TariffZone
  permit : LinkSet
  deriving DecidableEq, Repr

/-- The values in force as they stand. -/
def State.inForce (s : State) : InForce := ⟨s.policyInForce, s.tariffInForce, s.permitInForce⟩

/-- Steps 2 and 3 of R166: QXU fails the SENT exchanges on each link that left the mask and gives an owed notice for a link
of the control preference list that entered it while UP or DEGRADED (R79, R89), and RTE reselects every path. -/
def handOnPermit (old : LinkSet) (s : State) : State :=
  let new := s.permitInForce
  if new = old then s
  else
    let s := linksLeave (fun l => inSet old l && !inSet new l) s
    let s :=
      if s.settings.control.any (fun l => inSet new l && !inSet old l && usable (s.link l).state) then giveOwed s else s
    reselectAll .zone s

/-- Step 4 of R166: a changed radio policy goes to RDC, which forms the effective policy (R175). -/
def handOnPolicy (old : Policy) (s : State) : State :=
  if s.policyInForce = old then s
  else policyTurned (if s.rdc.opMute then .mute else old) .policy s

/-- The hand-on of changed values in force, after the ZONE notice of the cause (R166). -/
def handOn (old : InForce) (s : State) : State := handOnPolicy old.policy (handOnPermit old.permit s)

/-! ### The evaluation of a fix (R161–R163) -/

/-- The classes of a change (R162), and the class STOP of R165. -/
inductive ChangeClass
  | mute | lift | back | other | stop
  deriving DecidableEq, Repr

/-- The code of a class (R228). -/
def changeClassByte : ChangeClass → Byte
  | .mute => 0
  | .lift => 1
  | .back => 2
  | .other => 3
  | .stop => 4

/-- The class of a wanted change to zone `k` (R162). -/
def State.classify (s : State) (k : Nat) : ChangeClass :=
  match s.policyInForce, (s.zone k).policy with
  | .serve, .mute => .mute
  | .mute, .serve => .lift
  | .serve, .serve | .mute, .mute => if k = s.zne.pos.zone then .back else .other

/-- A clean fix: from the NAV line, not noisy, quality 1 (R161). -/
def cleanFix (f : Fix) : Bool :=
  match f.source with
  | .nav _ => !f.noisy && f.quality == 1
  | .host => false

def State.setPos (s : State) (p : Position) : State := s.withZne { s.zne with pos := p }

/-- The ZONE notice CHANGED (R163, R165, R228). -/
def changedNotice (oldZone : Nat) (oldState : PositionState) (c : ChangeClass) (s : State) : State :=
  zoneNotice (.zone s.zne.pos.zone) 1 (BitVec.ofNat 8 oldZone) (BitVec.ofNat 8 s.zne.pos.zone) (positionByte oldState)
    (changeClassByte c) s.valuesByte s

/-- A change to zone `k` takes effect (R163) and is handed on (R166). -/
def takeEffect (k : Nat) (c : ChangeClass) (s : State) : State :=
  let old := s.inForce
  let p := s.zne.pos
  let s := s.setPos { p with zone := k, state := .fixed, candidate := none, confirm := 0 }
  handOn old (changedNotice p.zone p.state c s)

/-- The confirm count of a wanted change rises by 1; the change takes effect when the count reaches the candidate's entry
count (R162). -/
def countFix (k : Nat) (c : ChangeClass) (s : State) : State :=
  let n := s.zne.pos.confirm + 1
  if s.entryCount k ≤ n then takeEffect k c s else s.setPos { s.zne.pos with confirm := n }

/-- A wanted change to zone `k`, with the pending candidate already `k`: it takes effect on this fix or raises the count. A
Lift is moved by clean fixes alone (R162). -/
def wantChange (k : Nat) (f : Fix) (s : State) : State :=
  match s.classify k with
  | .mute => takeEffect k .mute s
  | .back => takeEffect k .back s
  | .stop => takeEffect k .stop s
  | .lift => if cleanFix f then countFix k .lift s else s
  | .other => countFix k .other s

/-- The evaluation of a fix taken in SERVICE (R161, R162). -/
def evaluateFix (f : Fix) (s : State) : State :=
  let k := s.candidateOf f
  let s := s.setPos { s.zne.pos with last := some f, stale := some s.settings.positionStale }
  let p := s.zne.pos
  if p.state = .fixed ∧ k = p.zone then s.setPos { p with candidate := none, confirm := 0 }
  else
    let s := if p.candidate = some k then s else s.setPos { p with candidate := some k, confirm := 0 }
    wantChange k f s

end Sys2Proof.Machine
end

