-- ==== Sys2Proof/Machine/VisitorRegister.lean ====
section
/-! DEFINITION. The commands of chapter 1, the visitor register: ADMIT, REFRESH, DETACH, VREAD, PURGE, the steps of a purge
and the expiry of a retire timer. -/

namespace Sys2Proof.Machine

/-! ### ADMIT (R7–R14) -/

/-- The answer that carries a handle and a visitor state (R218). -/
def visitorReply (r : ResultCode) (slot : Nat) (s : State) : Reply :=
  replyWith r (num 2 (handleNat slot (s.slot slot).gen) ++ [s.slotStateByte slot]) s

/-- ADMITs are taken while the radio state is SERVING or UNMUTING (R7). -/
def radioAdmits : RadioState → Bool
  | .serving | .unmuting => true
  | .muted | .muting => false

/-- The partner of the visitor an ADMIT names, as R7 check 4 finds it. -/
def State.admitPartner (s : State) (sid : Digits) (cls : ServiceClass) : Option Nat :=
  match s.slotBySid sid with
  | some i => (s.visitor i).bind (·.partner)
  | none => if cls = .emergency then none else s.partnerBySid sid

/-- Whether a purge in flight makes an ADMIT BUSY (R7 check 4). -/
def State.purgeBars (s : State) (sid : Digits) (cls : ServiceClass) : Bool :=
  match s.vrg.purge with
  | some p =>
    match p.scope with
    | .all => true
    | .partner i => s.admitPartner sid cls == some i
    | .suspendedOnly => false
  | none => false

/-- ADMIT for a SID that is present (R8). -/
def attach (slot unit : Nat) (s : State) : Reply :=
  match s.visitor slot with
  | some v =>
    match v.state with
    | .active => visitorReply .ok slot (activity slot (s.updVisitor slot fun v => { v with unit := unit }))
    | .suspended =>
      visitorReply .ok slot (becameActive slot (activity slot (activate slot (s.updVisitor slot fun v => { v with unit := unit }))))
    | .authorizing => visitorReply .pending slot s
    | .departing => reply .state s
  | none => reply .state s

/-- A refusal that gives the VISITOR notice REFUSED (R14). -/
def admitRefused (r : ResultCode) (subject : Subject) (s : State) : Reply :=
  reply r (giveNotice .visitor subject 2 (resultByte r) 0 0 0 0 s)

/-- The passenger entry in a state that stands nearest the head of the activity order (R11). -/
def State.passengerIn (s : State) (st : VisitorState) : Option Nat :=
  s.vrg.activity.find? fun i =>
    match s.visitor i with
    | some v => v.cls == .passenger && v.state == st
    | none => false

/-- The entry a CREW or EMERGENCY admission evicts (R11). -/
def State.evictable (s : State) : Option Nat :=
  match s.passengerIn .suspended with
  | some i => some i
  | none => s.passengerIn .active

/-- The slot of a new admission and the state in which it is FREE: the lowest FREE slot, or the slot of an entry that is
evicted for it; none where the admission is FULL (R11). -/
def State.roomFor (s : State) (cls : ServiceClass) : Option (Nat × State) :=
  match firstIndex slotReset (fun e => e.visitor.isNone) s.vrg.slots Config.visitorSlots 0 with
  | some i => some (i, s)
  | none => if cls = .passenger then none else s.evictable.map fun i => (i, evict i s)

/-- A slot is taken: the generation advances, the retire reason of the visitor before goes, and the entry joins the tail of
the activity order (R2, R3, R4, R12 steps 1 and 4). -/
def takeSlot (slot : Nat) (sid : Digits) (account : Option Nat) (v : Visitor) (s : State) : State :=
  let s := s.setSlot slot ⟨(s.slot slot).gen + 1, some sid, account, none, some v⟩
  s.withVrg { s.vrg with activity := s.vrg.activity ++ [slot] }

/-- The visitor of a new entry, AUTHORIZING and with no timer, reference or mark. -/
def newVisitor (cls : ServiceClass) (partner : Option Nat) (route unit : Nat) (quota : Option Quota) (time : BitVec 32) :
    Visitor :=
  ⟨.authorizing, cls, partner, route, unit, quota, none, false, none, time, time⟩

/-- The VISITOR notice ADMITTED (R12 step 7, R13). -/
def admitted (slot : Nat) (s : State) : State := giveNotice .visitor (.slot slot) 1 (s.slotStateByte slot) 0 0 0 0 s

/-- A new EMERGENCY admission (R11, R13). -/
def admitEmergency (sid : Digits) (unit : Nat) (s : State) : Reply :=
  match s.roomFor .emergency with
  | some (slot, s) =>
    let v := newVisitor .emergency none s.settings.emergencyRoute unit none s.rqp.shipTime
    visitorReply .ok slot (admitted slot (activate slot (takeSlot slot sid none v s)))
  | none => admitRefused .full .none s

/-- A new PASSENGER or CREW admission that has its account and its slot completes (R12). -/
def admitComplete (sid : Digits) (cls : ServiceClass) (unit p : Nat) (r : Partner) (account slot : Nat) (s : State) : Reply :=
  let route := if cls = .crew then s.settings.crewRoute else r.route
  let quota := if r.charging = .online then some (quotaOpen r.grace) else none
  let s := takeSlot slot sid (some account) (newVisitor cls (some p) route unit quota s.rqp.shipTime) s
  let s := takeAccount account sid r.hnc (s.updVisitors (some p) (· + 1))
  if r.admission = .check then
    visitorReply .pending slot (admitted slot (gateEvaluation slot (requestExchange slot .authorize s)))
  else visitorReply .ok slot (admitted slot (becameActive slot (activate slot s)))

/-- A new PASSENGER or CREW admission (R9–R12, R14). The evicted entry of R11 is retired before the account and the slot
are taken; the account was chosen before it. -/
def admitNew (sid : Digits) (cls : ServiceClass) (unit : Nat) (s : State) : Reply :=
  match s.partnerBySid sid with
  | some p =>
    match s.partner p with
    | some r =>
      if r.admission = .bar then admitRefused .barred (.partner p) s
      else
        match s.chooseAccount sid with
        | some account =>
          match s.roomFor cls with
          | some (slot, s) => admitComplete sid cls unit p r account slot s
          | none => admitRefused .full (.partner p) s
        | none => admitRefused .noAccount (.partner p) s
    | none => admitRefused .barred .none s
  | none => admitRefused .barred .none s

/-- The work of ADMIT (R7–R14). -/
def doAdmit (sid : BitVec 64) (cls unit : Byte) (s : State) : Reply :=
  match sidOf sid, serviceOf cls with
  | some sid, some cls =>
    if 15 < unit.toNat then reply .badArg s
    else if s.rqp.mode = .config then reply .mode s
    else if !radioAdmits s.rdc.radio || !s.unitServing unit.toNat then reply .state s
    else if s.purgeBars sid cls then reply .busy s
    else
      match s.slotBySid sid with
      | some slot => attach slot unit.toNat s
      | none => if cls = .emergency then admitEmergency sid unit.toNat s else admitNew sid cls unit.toNat s
  | _, _ => reply .badArg s

/-- ADMIT: take a visitor on board (R7–R14). -/
def execAdmit (f : Frame) (sid : BitVec 64) (cls unit : Byte) (s : State) : Host.Outcome State Fault Refusal :=
  .next (request f kAdmit (doAdmit sid cls unit) s)

/-! ### REFRESH, DETACH, VREAD (R17–R19) -/

/-- The new unit of a REFRESH, absent for FFh (R212). -/
def newUnitOf (b : Byte) : Option Nat := if b = 0xFF#8 then none else some b.toNat

/-- The work of REFRESH (R17). -/
def doRefresh (handle : BitVec 16) (unit : Byte) (s : State) : Reply :=
  let slot := handleSlot handle
  if (newUnitOf unit).any fun u => decide (15 < u) then reply .badArg s
  else if !s.live handle then reply .stale s
  else if (s.visitor slot).map Visitor.state ≠ some VisitorState.active then reply .state s
  else if (newUnitOf unit).any fun u => !s.unitServing u then reply .state s
  else
    let s := activity slot (s.updVisitor slot fun v => { v with unit := (newUnitOf unit).getD v.unit })
    replyWith .ok [s.slotStateByte slot] s

/-- REFRESH – refresh a visitor (R17). -/
def execRefresh (f : Frame) (handle : BitVec 16) (unit : Byte) (s : State) : Host.Outcome State Fault Refusal :=
  .next (request f kRefresh (doRefresh handle unit) s)

/-- The work of DETACH (R18). -/
def doDetach (handle : BitVec 16) (s : State) : Reply :=
  let slot := handleSlot handle
  if !s.live handle then reply .stale s
  else if s.departing slot then reply .state s
  else
    let s := retire slot .detached s
    replyWith .ok [s.slotStateByte slot] s

/-- DETACH – detach a visitor (R18). -/
def execDetach (f : Frame) (handle : BitVec 16) (s : State) : Host.Outcome State Fault Refusal :=
  .next (request f kDetach (doDetach handle) s)

/-- A bit of the presence byte. -/
def bit (b : Bool) (place : Nat) : Nat := if b then 2 ^ place else 0

/-- Bytes 34 to 47 of the VREAD answer: the quota part, 0 without one (R221). -/
def quotaBytes : Option Quota → List Byte
  | some q =>
    snum 5 q.remaining ++ num 4 q.lastGrant ++ optNum 2 q.expiry ++
      [BitVec.ofNat 8 ((gateByte q.gate).toNat + bit q.final 2)] ++ optNum 2 q.retry
  | none => List.replicate 14 0

/-- A number that is sent as 0 where it is absent. -/
def numOrZero (n : Nat) (v : Option Nat) : List Byte := num n (v.getD 0)

/-- Bytes 1 to 47 of the VREAD answer (R221). The retire reason is present in DEPARTING and in a FREE slot that has been
retired (R1). -/
def entryBytes (slot : Nat) (e : Slot) : List Byte :=
  let v := e.visitor
  let xref := v.bind (·.xref)
  let retire := v.bind (·.retire)
  let partner := v.bind (·.partner)
  let quota := v.bind (·.quota)
  let deferred := (v.map (·.deferred)).getD false
  let presence := bit partner.isSome 0 + bit e.account.isSome 1 + bit quota.isSome 2 + bit xref.isSome 3 + bit deferred 4 +
    bit retire.isSome 5 + bit e.reason.isSome 6 + bit e.sid.isSome 7
  num 2 (handleNat slot e.gen) ++ [visitorStateByte (v.map (·.state)), BitVec.ofNat 8 presence] ++
    (match e.sid with | some d => sidBytes d | none => List.replicate 8 0) ++
    [(v.map fun v => serviceByte v.cls).getD 0] ++ numOrZero 1 partner ++ numOrZero 1 (v.map (·.route)) ++
    numOrZero 1 (v.map (·.unit)) ++ numOrZero 2 e.account ++ numOrZero 2 (xref.map fun r => refNat r.entry r.use) ++
    numOrZero 4 retire ++ numOrZero 4 (v.map (·.lastActivity.toNat)) ++ numOrZero 4 (v.map (·.admitted.toNat)) ++
    [(e.reason.map reasonByte).getD 0] ++ quotaBytes quota

/-- The work of VREAD (R19). A selector that is neither form is BAD_ARG (R214). (DEDUCED for a selector above 1, log
entry 16.) -/
def doVread (sel : Byte) (name : BitVec 64) (s : State) : Reply :=
  match sel.toNat with
  | 0 =>
    let handle := (name >>> 48).setWidth 16
    let slot := handleSlot handle
    if (s.slot slot).gen = handleGen handle then replyWith .ok (entryBytes slot (s.slot slot)) s else reply .stale s
  | 1 =>
    match sidOf name with
    | some sid =>
      match s.slotBySid sid with
      | some slot => replyWith .ok (entryBytes slot (s.slot slot)) s
      | none => reply .notFound s
    | none => reply .badArg s
  | _ => reply .badArg s

/-- VREAD – read a visitor (R19). -/
def execVread (f : Frame) (sel : Byte) (name : BitVec 64) (s : State) : Host.Outcome State Fault Refusal :=
  .next (request f kVread (doVread sel name) s)

/-! ### PURGE and its walk (R25–R27) -/

/-- A purge of a scope starts, unless one is in flight (R25). -/
def startPurge (tag : Fin 16) (scope : PurgeScope) (s : State) : Reply :=
  if s.vrg.purge.isSome then reply .busy s
  else (s.withVrg { s.vrg with purge := some ⟨scope, 0, 0, ⟨tag, false⟩⟩ }, none)

/-- The work of PURGE (R25). The HNC is read for partner scope alone (R212). -/
def doPurge (tag : Fin 16) (scope : Byte) (hnc : BitVec 24) (s : State) : Reply :=
  match scope.toNat with
  | 0 => startPurge tag .all s
  | 1 =>
    match hncOf hnc with
    | some hnc =>
      match s.partnerByHnc hnc with
      | some p => startPurge tag (.partner p) s
      | none => reply .notFound s
    | none => reply .badArg s
  | 2 => startPurge tag .suspendedOnly s
  | _ => reply .badArg s

/-- PURGE – purge visitors (R25). -/
def execPurge (f : Frame) (scope : Byte) (hnc : BitVec 24) (s : State) : Host.Outcome State Fault Refusal :=
  .next (request f kPurge (doPurge f.tag scope hnc) s)

/-- Whether a visited entry matches the scope (R26). -/
def purgeMatches (scope : PurgeScope) (v : Visitor) : Bool :=
  match scope with
  | .all => present v
  | .partner i => present v && v.partner == some i
  | .suspendedOnly => v.state == .suspended

/-- One step of the walk (R26), and its end with the answer after slot 4095 (R27). (DESIGN CHOICE with no purge in flight,
log entry 34.) -/
def purgeStep (s : State) : State :=
  match s.vrg.purge with
  | some p =>
    let hit := (s.visitor p.position).any (purgeMatches p.scope)
    let s := if hit then retire p.position .purged s else s
    let retired := if hit then p.retired + 1 else p.retired
    if Config.visitorSlots ≤ p.position + 1 then
      answerInFlight kPurge.code p.req (resultByte .ok :: num 2 retired) (s.withVrg { s.vrg with purge := none })
    else s.withVrg { s.vrg with purge := some { p with position := p.position + 1, retired := retired } }
  | none => s

/-- One step of the walk of a purge in flight (R26, R27). -/
def execPurgeWalkStep (s : State) : Host.Outcome State Fault Refusal := .next (purgeStep s)

/-! ### Retire timers (R6) -/

/-- A retire timer that runs expires (R6). (DESIGN CHOICE for a timer that does not run, log entry 12.) -/
def retireExpiry (slot : Nat) (s : State) : State :=
  match s.visitor slot with
  | some v =>
    if v.retire.isNone then s
    else
      match v.state with
      | .active => retire slot .idle s
      | .suspended => retire slot .muteHold s
      | .authorizing | .departing => s
  | none => s

/-- The expiry of a retire timer (R6). -/
def execRetireTimerExpiry (slot : Nat) (s : State) : Host.Outcome State Fault Refusal := .next (retireExpiry slot s)

end Sys2Proof.Machine
end

