-- ==== Sys2Proof/Machine/PartnersPlans.lean ====
section
/-! DEFINITION. The commands of chapter 2, partners and tariff plans: PSET, PDEL, PREAD, TWRITE, TOPEN, TCOMMIT, TREAD. -/

namespace Sys2Proof.Machine

/-! ### Partners (R33–R36) -/

/-- The upper limit of the grace and of the request size (R29). -/
def amountMax : Nat := 1000000000

/-- The record a PSET writes, with its amounts clamped (R34), and whether one was clamped. The visitor count is the one
given. -/
def psetRecord (p : PsetFields) (hnc : Digits) (admission : Admission) (checkFail : CheckFail) (charging : Charging)
    (visitors : Nat) : Partner × Bool :=
  let grace := clampNat 0 amountMax p.grace.toNat
  let size := clampNat 1 amountMax p.request.toNat
  let level := clampNat 0 999 p.reorder.toNat
  let wait := clampNat 10 3600 p.retryWait.toNat
  (⟨hnc, admission, checkFail, charging, p.plan.toNat, p.route.toNat, grace, size, level, wait, visitors⟩,
    decide (grace ≠ p.grace.toNat) || decide (size ≠ p.request.toNat) || decide (level ≠ p.reorder.toNat) ||
      decide (wait ≠ p.retryWait.toNat))

/-- The plan partner counts follow a PSET (R38): the old plan, absent at a creation, and the new one. -/
def movePlan (old : Option Nat) (new : Nat) (s : State) : State :=
  if old = some new then s
  else
    let s := match old with
      | some i => s.updPlanCount i (· - 1)
      | none => s
    s.updPlanCount new (· + 1)

/-- A PSET that passed its checks writes record `i` (R34): created when the record was free, updated otherwise, which the
answer codes as 0 and 1. (DEDUCED: those codes, log entry 10.) -/
def psetWrite (i : Nat) (p : PsetFields) (hnc : Digits) (admission : Admission) (checkFail : CheckFail)
    (charging : Charging) (s : State) : Reply :=
  let old := s.partner i
  let (r, clamped) := psetRecord p hnc admission checkFail charging ((old.map (·.visitors)).getD 0)
  let s := movePlan (old.map (·.plan)) r.plan (s.setPartner i (some r))
  replyWith (okOrClamped clamped) (num 1 i ++ [if old.isSome then 1 else 0]) s

/-- Whether a PSET would change the charging mode of a record that has visitors (R33 check 4). -/
def chargingHeld (r : Partner) (charging : Charging) : Bool := r.charging != charging && decide (0 < r.visitors)

/-- The work of PSET (R33, R34). -/
def doPset (p : PsetFields) (s : State) : Reply :=
  match hncOf p.hnc, admissionOf p.admission, checkFailOf p.checkFail, chargingOf p.charging with
  | some hnc, some admission, some checkFail, some charging =>
    if 15 < p.plan.toNat ∨ 31 < p.route.toNat then reply .badArg s
    else
      match s.partnerByHnc hnc with
      | some i =>
        if (s.plan p.plan.toNat).state = .editing then reply .notReady s
        else if (s.partner i).any fun r => chargingHeld r charging then reply .inUse s
        else psetWrite i p hnc admission checkFail charging s
      | none =>
        match firstIndex none (·.isNone) s.chu.partners Config.partners 0 with
        | some i =>
          if (s.plan p.plan.toNat).state = .editing then reply .notReady s
          else psetWrite i p hnc admission checkFail charging s
        | none => reply .full s
  | _, _, _, _ => reply .badArg s

/-- PSET – set a partner (R33, R34). -/
def execPset (f : Frame) (p : PsetFields) (s : State) : Host.Outcome State Fault Refusal :=
  .next (request f kPset (doPset p) s)

/-- Whether a partner-scope purge of a record is in flight (R35). -/
def State.purgeOf (s : State) (i : Nat) : Bool :=
  match s.vrg.purge with
  | some p => p.scope == .partner i
  | none => false

/-- The work of PDEL (R35). -/
def doPdel (hnc : BitVec 24) (s : State) : Reply :=
  match hncOf hnc with
  | some hnc =>
    match s.partnerByHnc hnc with
    | some i =>
      if s.purgeOf i then reply .busy s
      else
        match s.partner i with
        | some r =>
          if 0 < r.visitors then reply .inUse s
          else replyWith .ok (num 1 i) ((s.setPartner i none).updPlanCount r.plan (· - 1))
        | none => reply .notFound s
    | none => reply .notFound s
  | none => reply .badArg s

/-- PDEL – delete a partner (R35). -/
def execPdel (f : Frame) (hnc : BitVec 24) (s : State) : Host.Outcome State Fault Refusal :=
  .next (request f kPdel (doPdel hnc) s)

/-- The fields of the PREAD answer (R36, R216). -/
def partnerBytes (i : Nat) (r : Partner) : List Byte :=
  num 1 i ++ hncBytes r.hnc ++ [admissionByte r.admission, checkFailByte r.checkFail, chargingByte r.charging] ++
    num 1 r.plan ++ num 1 r.route ++ num 4 r.grace ++ num 4 r.request ++ num 2 r.reorder ++ num 2 r.retryWait ++
    num 2 r.visitors

/-- A record read by its index: NOT_FOUND where it is free (R36). -/
def readPartner (i : Nat) (s : State) : Reply :=
  match s.partner i with
  | some r => replyWith .ok (partnerBytes i r) s
  | none => reply .notFound s

/-- The work of PREAD (R36). The index stands in the first byte of the name (R212). -/
def doPread (sel : Byte) (name : BitVec 24) (s : State) : Reply :=
  match sel.toNat with
  | 0 =>
    match hncOf name with
    | some hnc =>
      match s.partnerByHnc hnc with
      | some i => readPartner i s
      | none => reply .notFound s
    | none => reply .badArg s
  | 1 =>
    let i := (name >>> 16).toNat
    if 63 < i then reply .badArg s else readPartner i s
  | _ => reply .badArg s

/-- PREAD – read a partner (R36). -/
def execPread (f : Frame) (sel : Byte) (name : BitVec 24) (s : State) : Host.Outcome State Fault Refusal :=
  .next (request f kPread (doPread sel name) s)

/-! ### Tariff plans (R39–R43) -/

/-- A listed rate record with its zone and class named, its values clamped, and whether one was clamped (R39). The 3-byte
step has no value above its upper limit. -/
def rateOf (r : RateField) : Option (TariffZone × TrafficClass × Rate × Bool) :=
  match tariffOf r.zone, classOf r.cls with
  | some z, some c =>
    let step := clampNat 1 16777215 r.step.toNat
    let price := clampNat 0 1000000 r.price.toNat
    some (z, c, ⟨step, price⟩, decide (step ≠ r.step.toNat) || decide (price ≠ r.price.toNat))
  | _, _ => none

/-- The listed records, absent where one has no such zone or class (R39). -/
def ratesOf : List RateField → Option (List (TariffZone × TrafficClass × Rate × Bool))
  | [] => some []
  | r :: rs =>
    match rateOf r, ratesOf rs with
    | some x, some xs => some (x :: xs)
    | _, _ => none

/-- Whether no two listed records name the same tariff zone and class (R39). -/
def ratesDistinct : List (TariffZone × TrafficClass × Rate × Bool) → Bool
  | [] => true
  | x :: xs => xs.all (fun y => !(x.1 == y.1 && x.2.1 == y.2.1)) && ratesDistinct xs

/-- The twelve records with one of them replaced. -/
def setRate (q : Quad (PerClass Rate)) (z : TariffZone) (c : TrafficClass) (r : Rate) : Quad (PerClass Rate) :=
  qset q z (cset (qget q z) c r)

/-- The work of TWRITE (R39). -/
def doTwrite (plan flags : Byte) (factor : BitVec 16) (records : List RateField) (s : State) : Reply :=
  match ratesOf records with
  | some rs =>
    if 15 < plan.toNat ∨ !ratesDistinct rs then reply .badArg s
    else if (s.plan plan.toNat).state = .ready then reply .state s
    else
      let p := s.plan plan.toNat
      let given := flagOf flags
      let f := if given then clampNat 0 1000 factor.toNat else p.factor
      let clamped := rs.any (·.2.2.2) || (given && decide (f ≠ factor.toNat))
      let rates := rs.foldl (fun q x => setRate q x.1 x.2.1 x.2.2.1) p.rates
      reply (okOrClamped clamped) (s.setPlan plan.toNat { p with rates := rates, factor := f })
  | none => reply .badArg s

/-- TWRITE – write rate records (R39, R213). -/
def execTwrite (f : Frame) (plan flags : Byte) (factor : BitVec 16) (records : List RateField) (s : State) :
    Host.Outcome State Fault Refusal :=
  .next (request f (kTwrite records.length) (doTwrite plan flags factor records) s)

/-- The work of TOPEN (R40). -/
def doTopen (plan : Byte) (s : State) : Reply :=
  let p := s.plan plan.toNat
  if 15 < plan.toNat then reply .badArg s
  else if p.state = .editing then reply .state s
  else if 0 < p.partners then reply .inUse s
  else reply .ok (s.setPlan plan.toNat { p with state := .editing })

/-- TOPEN – open a plan for editing (R40). -/
def execTopen (f : Frame) (plan : Byte) (s : State) : Host.Outcome State Fault Refusal :=
  .next (request f kTopen (doTopen plan) s)

/-- The work of TCOMMIT (R42). -/
def doTcommit (plan : Byte) (check : BitVec 16) (s : State) : Reply :=
  let p := s.plan plan.toNat
  if 15 < plan.toNat then reply .badArg s
  else if p.state = .ready then reply .state s
  else if planCheck p = check then
    replyWith .ok (num 2 (planCheck p).toNat) (s.setPlan plan.toNat { p with state := .ready, stored := check })
  else replyWith .checkMismatch (num 2 (planCheck p).toNat) s

/-- TCOMMIT – commit a plan (R42). -/
def execTcommit (f : Frame) (plan : Byte) (check : BitVec 16) (s : State) : Host.Outcome State Fault Refusal :=
  .next (request f kTcommit (doTcommit plan check) s)

/-- The fields of the TREAD answer (R43, R216). -/
def planBytes (p : Plan) : List Byte :=
  [planStateByte p.state] ++ num 1 p.partners ++ ratesContent p.rates ++ num 2 p.factor ++ num 2 p.stored.toNat ++
    num 2 (planCheck p).toNat

/-- The work of TREAD (R43). -/
def doTread (plan : Byte) (s : State) : Reply :=
  if 15 < plan.toNat then reply .badArg s else replyWith .ok (planBytes (s.plan plan.toNat)) s

/-- TREAD – read a plan (R43). -/
def execTread (f : Frame) (plan : Byte) (s : State) : Host.Outcome State Fault Refusal :=
  .next (request f kTread (doTread plan) s)

end Sys2Proof.Machine
end

