-- ==== Sys2Proof/Machine/Accounts.lean ====
section
/-! DEFINITION. The commands of chapter 3, metering and rating: USAGE, AREAD, SETTLE, COLLECT, UAREAD. -/

namespace Sys2Proof.Machine

/-! ### USAGE (R47–R58) -/

/-- LIVE, LATE, EMERGENCY or NONE (R47). -/
inductive Attribution
  | live | late | emergency | none
  deriving DecidableEq, Repr

/-- The code of an attribution (R217). -/
def attributionByte : Attribution → Byte
  | .live => 0
  | .late => 1
  | .emergency => 2
  | .none => 3

/-- The USAGE answer (R47, R69, R220). -/
def usageReply (r : ResultCode) (a : Attribution) (charge : Nat) (gate : Option Gate) (s : State) : Reply :=
  replyWith r ([attributionByte a] ++ num 6 charge ++ [optByte (gate.map gateByte)]) s

/-- Whether the FINAL exchange of a visitor is in the table and has been fetched at least once (R57). (DEDUCED, log
entry 20.) -/
def State.finalFetched (s : State) (slot : Nat) : Bool :=
  match (s.visitor slot).bind (·.xref) with
  | some r =>
    match (s.entry r.entry).ex with
    | some x => x.kind == .final && x.reported.isSome
    | none => false
  | none => false

/-- The UNREPORTED mark set where a charge above 0 of an ONLINE partner reaches no exchange (R57). -/
def markUnreported (account : Nat) (p : Option Partner) (charge : Nat) (s : State) : State :=
  if isOnline p ∧ 0 < charge then s.updAccount account fun a => { a with unrepMark := true } else s

/-- A charge above 0 of an ONLINE partner is handed to QXU (R57, R69). -/
def handCharge (slot : Nat) (p : Option Partner) (charge : Nat) (s : State) : State :=
  if isOnline p ∧ 0 < charge then quotaCharge slot charge s else s

/-- A LIVE post (R48, R57, R58). -/
def postLive (slot account : Nat) (p : Option Partner) (c : TrafficClass) (up : Bool) (amount : Nat) (l : Link) (s : State) :
    Reply :=
  let (s, charge) := ratePost account p c up amount l s
  let s := activity slot (handCharge slot p charge s)
  usageReply .ok .live charge ((s.quota slot).map (·.gate)) s

/-- A LATE post of a DEPARTING entry (R48, R57). The answer carries the gate where the charge reaches the quota part (R69,
R220); a post without a charge to hand on does not reach it (DEDUCED, log entry 21). -/
def postDeparting (slot account : Nat) (p : Option Partner) (c : TrafficClass) (up : Bool) (amount : Nat) (l : Link)
    (s : State) : Reply :=
  let (s, charge) := ratePost account p c up amount l (s.updAccount account fun a => { a with late := true })
  let s := handCharge slot p charge s
  usageReply .ok .late charge (if isOnline p ∧ 0 < charge then (s.quota slot).map (·.gate) else none)
    (if s.finalFetched slot then markUnreported account p charge s else s)

/-- A LATE post through a FREE slot (R49, R57). -/
def postFree (account : Nat) (p : Option Partner) (c : TrafficClass) (up : Bool) (amount : Nat) (l : Link) (s : State) :
    Reply :=
  let (s, charge) := ratePost account p c up amount l (s.updAccount account fun a => { a with late := true })
  usageReply .ok .late charge none (markUnreported account p charge s)

/-- A post of an EMERGENCY visitor (R50). -/
def postEmergency (slot : Nat) (c : TrafficClass) (up : Bool) (amount : Nat) (s : State) : Reply :=
  usageReply .ok .emergency 0 none
    (activity slot (s.withChu { s.chu with emergency := addDevice c up amount s.chu.emergency }))

/-- A post that nothing attributes (R51). -/
def postNone (c : TrafficClass) (up : Bool) (amount : Nat) (s : State) : Reply :=
  usageReply .stale .none 0 none (s.withChu { s.chu with unattributed := addDevice c up amount s.chu.unattributed })

/-- The DEPARTED account of a FREE slot's last visitor, with its record (R49). -/
def State.lateAccount (s : State) (slot : Nat) : Option (Nat × Account) :=
  match (s.slot slot).account with
  | some i =>
    match s.account i with
    | some a => if a.departed && (s.slot slot).sid == some a.sid then some (i, a) else none
    | none => none
  | none => none

/-- A post that passed its checks with an amount above 0: the first of R48 to R51 that applies. -/
def post (handle : BitVec 16) (c : TrafficClass) (up : Bool) (amount : Nat) (l : Link) (s : State) : Reply :=
  let slot := handleSlot handle
  if (s.slot slot).gen ≠ handleGen handle then postNone c up amount s
  else
    match s.visitor slot with
    | some v =>
      if v.cls = .emergency then postEmergency slot c up amount s
      else
        match (s.slot slot).account with
        | some account =>
          let p := v.partner.bind s.partner
          if v.state = .departing then postDeparting slot account p c up amount l s
          else postLive slot account p c up amount l s
        | none => postNone c up amount s
    | none =>
      match s.lateAccount slot with
      | some (account, a) => postFree account ((s.partnerByHnc a.hnc).bind s.partner) c up amount l s
      | none => postNone c up amount s

/-- Whether the direction is one a class takes: UP or DOWN for DATA, any for the others (R47). -/
def directionFits (c : TrafficClass) (dir : Byte) : Bool := c != .data || decide (dir.toNat < 2)

/-- The work of USAGE (R47–R58). -/
def doUsage (handle : BitVec 16) (cls dir : Byte) (amount : BitVec 24) (link : Byte) (s : State) : Reply :=
  match classOf cls, linkOf link with
  | some c, some l =>
    if !directionFits c dir ∨ 1048575 < amount.toNat then reply .badArg s
    else if amount.toNat = 0 then usageReply .ok .none 0 none s
    else post handle c (dir == 0#8) amount.toNat l s
  | _, _ => reply .badArg s

/-- USAGE – post usage (R47–R58). -/
def execUsage (f : Frame) (handle : BitVec 16) (cls dir : Byte) (amount : BitVec 24) (link : Byte) (s : State) :
    Host.Outcome State Fault Refusal :=
  .next (request f kUsage (doUsage handle cls dir amount link) s)

/-! ### AREAD, SETTLE, COLLECT, UAREAD (R62–R65) -/

/-- The fields of the AREAD answer (R223). -/
def accountBytes (i : Nat) (a : Account) : List Byte :=
  num 2 i ++ [accountStateByte a.departed, marksByte a] ++ sidBytes a.sid ++ hncBytes a.hnc ++ num 4 a.opened.toNat ++
    num 2 a.settles.toNat ++ perClassBytes 3 a.remainder ++ perClassBytes 3 a.carry ++ num 6 a.unreported ++
    bucketsBytes a.buckets

/-- An account read by its index: NOT_FOUND where it is FREE (R62). -/
def readAccount (i : Nat) (s : State) : Reply :=
  match s.account i with
  | some a => replyWith .ok (accountBytes i a) s
  | none => reply .notFound s

/-- The work of AREAD (R62). The index stands in the first two bytes of the name (R212). -/
def doAread (sel : Byte) (name : BitVec 64) (s : State) : Reply :=
  match sel.toNat with
  | 0 =>
    let i := (name >>> 48).toNat
    if 4607 < i then reply .badArg s else readAccount i s
  | 1 =>
    match sidOf name with
    | some sid =>
      match s.accountBySid sid with
      | some i => readAccount i s
      | none => reply .notFound s
    | none => reply .badArg s
  | _ => reply .badArg s

/-- AREAD – read an account (R62). -/
def execAread (f : Frame) (sel : Byte) (name : BitVec 64) (s : State) : Host.Outcome State Fault Refusal :=
  .next (request f kAread (doAread sel name) s)

/-- The account a SETTLE leaves (R63). -/
def settled (a : Account) : Account :=
  { a with
    buckets := quadOf bucketReset
    settles := a.settles + 1
    saturated := a.saturated && a.unreported == Config.counterMax }

/-- The fields of the SETTLE answer (R224). -/
def settleBytes (i : Nat) (a : Account) : List Byte :=
  num 2 i ++ num 2 (a.settles + 1).toNat ++ sidBytes a.sid ++ hncBytes a.hnc ++ num 4 a.opened.toNat ++
    bucketsBytes a.buckets

/-- The work of SETTLE (R63). -/
def doSettle (account : BitVec 16) (s : State) : Reply :=
  let i := account.toNat
  if 4607 < i then reply .badArg s
  else
    match s.account i with
    | some a =>
      if a.departed then reply .state s else replyWith .ok (settleBytes i a) (s.setAccount i (some (settled a)))
    | none => reply .notFound s

/-- SETTLE – settle an account (R63). -/
def execSettle (f : Frame) (account : BitVec 16) (s : State) : Host.Outcome State Fault Refusal :=
  .next (request f kSettle (doSettle account) s)

/-- The fields of the COLLECT answer (R225). -/
def collectBytes (i : Nat) (a : Account) : List Byte :=
  num 2 i ++ [marksByte a] ++ num 2 a.settles.toNat ++ sidBytes a.sid ++ hncBytes a.hnc ++ num 4 a.opened.toNat ++
    num 6 a.unreported ++ bucketsBytes a.buckets

/-- Close-out at COLLECT with the partner the HNC copy names; charge added for an ONLINE partner sets the UNREPORTED mark
(R61). -/
def collectClose (i : Nat) (a : Account) (s : State) : State :=
  let p := (s.partnerByHnc a.hnc).bind s.partner
  let (s, charge) := closeOut i p s
  markUnreported i p charge s

/-- The work of COLLECT (R64). -/
def doCollect (account : BitVec 16) (s : State) : Reply :=
  let i := account.toNat
  if 4607 < i then reply .badArg s
  else
    match s.account i with
    | some a =>
      if !a.departed then reply .state s
      else if s.departingOn i then reply .busy s
      else
        let s := collectClose i a s
        replyWith .ok (collectBytes i ((s.account i).getD a)) (accountFreed (s.setAccount i none))
    | none => reply .notFound s

/-- COLLECT – collect a departed account (R64). -/
def execCollect (f : Frame) (account : BitVec 16) (s : State) : Host.Outcome State Fault Refusal :=
  .next (request f kCollect (doCollect account) s)

/-- The work of UAREAD (R65). -/
def doUaread (s : State) : Reply :=
  replyWith .ok (volumesBytes s.chu.unattributed ++ volumesBytes s.chu.emergency)
    (s.withChu { s.chu with unattributed := volumesReset, emergency := volumesReset })

/-- UAREAD – read unattributed usage (R65). -/
def execUaread (f : Frame) (s : State) : Host.Outcome State Fault Refusal := .next (request f kUaread doUaread s)

end Sys2Proof.Machine
end

