-- ==== Sys2Proof/Machine/ShoreExchanges.lean ====
section
/-! DEFINITION. The commands of chapter 4, quota and shore exchanges: XFETCH, XANSWER, XFAIL, and the expiry of grants, retry
waits and answer timers. -/

namespace Sys2Proof.Machine

/-! ### XFETCH (R80, R81) -/

/-- The link chosen for an exchange by its attempt (R80): at attempt 2 another link than attempt 1's where one is
eligible. -/
def State.chooseLink (s : State) (x : Exchange) : Option Link :=
  let eligible := s.settings.control.filter s.eligible
  if x.second then
    match eligible.find? fun l => some l != x.link1 with
    | some l => some l
    | none => eligible.head?
  else eligible.head?

/-- An exchange that is fetched on a link: SENT, the link of the attempt recorded, and the unreported charge captured for
QUOTA and FINAL (R81). -/
def fetched (x : Exchange) (l : Link) (unreported : Nat) : Exchange :=
  { x with
    sent := true
    link1 := if x.second then x.link1 else some l
    link2 := if x.second then some l else x.link2
    reported := if x.kind = .authorize then x.reported else some unreported }

/-- The fields of the XFETCH answer (R226). -/
def exchangeBytes (i : Nat) (use : Byte) (x : Exchange) (l : Link) (hnc : Digits) : List Byte :=
  num 2 (refNat i use) ++ [xkindByte x.kind, if x.second then 2 else 1, linkByte l] ++ num 2 (handleNat x.slot x.gen) ++
    sidBytes x.sid ++ hncBytes hnc ++ [if x.kind = .authorize then serviceByte x.cls else 0xFF] ++
    num 6 (if x.kind = .authorize then 0 else x.reported.getD 0) ++ num 4 (if x.kind = .quota then x.request else 0)

/-- The unreported charge of an account; 0 where it is FREE. -/
def State.unreportedOf (s : State) (account : Nat) : Nat := ((s.account account).map (·.unreported)).getD 0

/-- The HNC of the partner of the visitor in a slot (R81). -/
def State.partnerHnc (s : State) (slot : Nat) : Digits :=
  ((((s.visitor slot).bind (·.partner)).bind s.partner).map (·.hnc)).getD []

/-- The work of XFETCH (R81). -/
def doXfetch (s : State) : Reply :=
  match s.qxu.order.find? s.toSend with
  | some i =>
    match (s.entry i).ex with
    | some x =>
      match s.chooseLink x with
      | some l =>
        let x' := fetched x l (s.unreportedOf x.account)
        replyWith .ok (exchangeBytes i (s.entry i).use x' l (s.partnerHnc x.slot))
          (s.setEntry i { s.entry i with ex := some x' })
      | none => reply .noLink (s.withQxu { s.qxu with owed := true })
    | none => reply .empty s
  | none => reply .empty s

/-- XFETCH – fetch an exchange to send (R80, R81). -/
def execXfetch (f : Frame) (s : State) : Host.Outcome State Fault Refusal := .next (request f kXfetch doXfetch s)

/-! ### XANSWER and XFAIL (R82–R87) -/

/-- The SENT exchange a reference names (R82 check 2). -/
def State.sentExchange (s : State) (ref : BitVec 16) : Option Exchange :=
  match (s.entry (refEntry ref)).ex with
  | some x => if (s.entry (refEntry ref)).use = refUse ref ∧ x.sent then some x else none
  | none => none

/-- Whether a result belongs to a kind, and a GRANT's values are in range (R82 check 3). -/
def answerFits (k : XKind) (r : ShoreResult) (units validity : Nat) : Bool :=
  match k, r with
  | .authorize, .accept | .authorize, .reject | .quota, .deny | .final, .ack => true
  | .quota, .grant => decide (0 < units) && decide (units ≤ 2147483647) && decide (validity ≤ 1440)
  | .authorize, .grant | .authorize, .deny | .authorize, .ack | .quota, .accept | .quota, .reject | .quota, .ack
  | .final, .accept | .final, .reject | .final, .grant | .final, .deny => false

/-- The outcome of an answer, applied after the exchange has ended (R83–R86). -/
def applyAnswer (x : Exchange) (r : ShoreResult) (units validity : Nat) (final : Bool) (s : State) : State :=
  match r with
  | .accept => authorizationAdmit x.slot 0 s
  | .reject => retire x.slot .rejected s
  | .grant => applyGrant x units validity final s
  | .deny => applyDeny x s
  | .ack => applyAck x s

/-- The work of XANSWER (R82–R86, R92). -/
def doXanswer (ref : BitVec 16) (result : Byte) (units : BitVec 32) (validity : BitVec 16) (final : Byte) (s : State) :
    Reply :=
  match shoreResultOf result with
  | some r =>
    if 63 < refEntry ref then reply .badArg s
    else
      match s.sentExchange ref with
      | some x =>
        if answerFits x.kind r units.toNat validity.toNat then
          replyWith .ok [xkindByte x.kind, shoreResultByte r]
            (applyAnswer x r units.toNat validity.toNat (flagOf final) (freeEntry (refEntry ref) s))
        else reply .badArg s
      | none => reply .stale s
  | none => reply .badArg s

/-- XANSWER – deliver a shore answer (R82–R86). -/
def execXanswer (f : Frame) (ref : BitVec 16) (result : Byte) (units : BitVec 32) (validity : BitVec 16) (final : Byte)
    (s : State) : Host.Outcome State Fault Refusal :=
  .next (request f kXanswer (doXanswer ref result units validity final) s)

/-- The work of XFAIL (R87). -/
def doXfail (ref : BitVec 16) (s : State) : Reply :=
  if 63 < refEntry ref then reply .badArg s
  else
    match s.sentExchange ref with
    | some x => replyWith .ok [xkindByte x.kind, if x.second then 2 else 1] (failExchange (refEntry ref) s)
    | none => reply .stale s

/-- XFAIL – report a transport failure (R87). -/
def execXfail (f : Frame) (ref : BitVec 16) (s : State) : Host.Outcome State Fault Refusal :=
  .next (request f kXfail (doXfail ref) s)

/-! ### Expiries (R74, R75, R88) -/

/-- The credit a passed grant expiry forfeits (R74). -/
def forfeit (q : Quota) : Quota := { q with expiry := none, remaining := min 0 q.remaining }

/-- A grant expiry that runs passes (R74). It runs in ACTIVE and SUSPENDED. -/
def grantPasses (slot : Nat) (s : State) : State :=
  match s.visitor slot with
  | some v =>
    if (v.quota.bind (·.expiry)).isNone then s
    else
      match v.state with
      | .active | .suspended => gateEvaluation slot (s.updQuota slot forfeit)
      | .authorizing | .departing => s
  | none => s

/-- Grant expiry passes (R74). -/
def execGrantExpiry (slot : Nat) (s : State) : Host.Outcome State Fault Refusal := .next (grantPasses slot s)

/-- A QUOTA exchange is asked for where the final flag is clear and the visitor has none (R75). -/
def askAfterWait (slot : Nat) (s : State) : State :=
  match s.visitor slot with
  | some v => if (v.quota.any fun q => !q.final) && !hasExchange v then requestExchange slot .quota s else s
  | none => s

/-- A retry wait that runs expires (R75). It runs in ACTIVE and SUSPENDED. -/
def retryPasses (slot : Nat) (s : State) : State :=
  match s.visitor slot with
  | some v =>
    if (v.quota.bind (·.retry)).isNone then s
    else
      match v.state with
      | .active | .suspended =>
        gateEvaluation slot (askAfterWait slot (s.updQuota slot fun q => { q with retry := none }))
      | .authorizing | .departing => s
  | none => s

/-- A retry wait expires (R75). -/
def execRetryWaitExpiry (slot : Nat) (s : State) : Host.Outcome State Fault Refusal := .next (retryPasses slot s)

/-- The answer timer of an exchange expires (R88). It runs as long as the exchange is in the table. -/
def execAnswerTimerExpiry (entry : Nat) (s : State) : Host.Outcome State Fault Refusal := .next (failExchange entry s)

end Sys2Proof.Machine
end

