-- ==== Sys2Proof/Machine/ShoreLinks.lean ====
section
/-! DEFINITION. The commands of chapter 5, shore links: LCONF, LENABLE, LDISABLE, LMEASURE, LLOSS, LHOLD, LRELEASE, LDRILL,
LREAD, and the expiry of a link's stale, hold and drill timers. -/

namespace Sys2Proof.Machine

/-! ### LCONF (R101, R102) -/

/-- The configuration an LCONF carries, clamped, and whether a field was clamped (R101). -/
def linkConfigOf (c : LconfFields) : LinkConfig × Bool :=
  let cost := clampNat 0 4000 c.cost.toNat
  let hold := clampNat 0 3600 c.holdTime.toNat
  let probe := clampNat 1 15 c.probe.toNat
  let delayT := clampNat 1 65535 c.delayT.toNat
  let lossT := clampNat 1 1000 c.lossT.toNat
  let dDelay := clampNat 1 15 c.debDelay.toNat
  let dLoss := clampNat 1 15 c.debLoss.toNat
  let dLevel := clampNat 1 15 c.debLevel.toNat
  (⟨cost, c.staleTime.toNat, hold, probe, delayT, lossT, c.levelT.toInt, ⟨dDelay, dLoss, dLevel⟩,
      ⟨c.mask[0], c.mask[1], c.mask[2]⟩⟩,
    decide (cost ≠ c.cost.toNat) || decide (hold ≠ c.holdTime.toNat) || decide (probe ≠ c.probe.toNat) ||
      decide (delayT ≠ c.delayT.toNat) || decide (lossT ≠ c.lossT.toNat) || decide (dDelay ≠ c.debDelay.toNat) ||
      decide (dLoss ≠ c.debLoss.toNat) || decide (dLevel ≠ c.debLevel.toNat))

/-- Whether a link is in PROBING, UP or DEGRADED. -/
def inUse : LinkState → Bool
  | .probing | .up | .degraded => true
  | .off | .held _ => false

/-- A monitor whose debounce setting changed starts its count again (R102). -/
def rebounce (old new : Nat) (m : MonitorState) : MonitorState := if old = new then m else { m with count := 0 }

/-- A link record with a new configuration: debounce counts and the stale timer as R102 says. -/
def reconfigured (l : LinkRec) (c : LinkConfig) : LinkRec :=
  { l with
    cfg := c
    monitors := ⟨rebounce l.cfg.debounce.delay c.debounce.delay l.monitors.delay,
      rebounce l.cfg.debounce.loss c.debounce.loss l.monitors.loss,
      rebounce l.cfg.debounce.level c.debounce.level l.monitors.level⟩
    stale := if l.stale.isSome || inUse l.state then staleLoad c else none }

/-- The work of LCONF (R101, R102). -/
def doLconf (c : LconfFields) (s : State) : Reply :=
  match linkOf c.link with
  | some i =>
    let (cfg, clamped) := linkConfigOf c
    reply (okOrClamped clamped) (evaluateLink i (s.setLink i (reconfigured (s.link i) cfg)))
  | none => reply .badArg s

/-- LCONF – configure a link (R101, R102). -/
def execLconf (f : Frame) (c : LconfFields) (s : State) : Host.Outcome State Fault Refusal :=
  .next (request f kLconf (doLconf c) s)

/-! ### LENABLE and LDISABLE (R104, R105) -/

/-- The three monitors GOOD with debounce count 0, their flags kept (R104). -/
def freshMonitors (m : PerMonitor MonitorState) : PerMonitor MonitorState :=
  ⟨monitorFreed m.delay, monitorFreed m.loss, monitorFreed m.level⟩

/-- The work of LENABLE (R104). -/
def doLenable (link : Byte) (s : State) : Reply :=
  match linkOf link with
  | some i =>
    let l := s.link i
    if l.state = .off then
      reply .ok (changeLink i
        { l with state := .probing, good := 0, monitors := freshMonitors l.monitors, stale := staleLoad l.cfg } .enabled s)
    else reply .state s
  | none => reply .badArg s

/-- LENABLE – enable a link (R104). -/
def execLenable (f : Frame) (link : Byte) (s : State) : Host.Outcome State Fault Refusal :=
  .next (request f kLenable (doLenable link) s)

/-- A monitor's fault-seen flag cleared. -/
def unseen (m : MonitorState) : MonitorState := { m with seen := false }

/-- The three fault-seen flags cleared. -/
def clearSeen (l : LinkRec) : LinkRec :=
  { l with monitors := ⟨unseen l.monitors.delay, unseen l.monitors.loss, unseen l.monitors.level⟩ }

/-- The record LDISABLE leaves (R105). -/
def disabledLink (l : LinkRec) : LinkRec :=
  { l with
    state := .off, good := 0, monitors := ⟨monitorReset, monitorReset, monitorReset⟩, drill := none, last := none,
    stale := none, hold := none }

/-- The work of LDISABLE (R105). -/
def doLdisable (link : Byte) (s : State) : Reply :=
  match linkOf link with
  | some i =>
    let l := s.link i
    if l.state = .off then reply .ok (s.setLink i (clearSeen l))
    else reply .ok (changeLink i (disabledLink l) .disabled s)
  | none => reply .badArg s

/-- LDISABLE – disable a link (R105). -/
def execLdisable (f : Frame) (link : Byte) (s : State) : Host.Outcome State Fault Refusal :=
  .next (request f kLdisable (doLdisable link) s)

/-! ### LMEASURE (R106–R109) -/

/-- A measurement as taken, each value at the nearest limit of its range (R106). -/
def measurementOf (delay : BitVec 32) (loss level : BitVec 16) (time : BitVec 32) : Measurement :=
  ⟨clampNat 0 65535 delay.toNat, (clampInt 0 1000 loss.toInt).toNat, clampInt (-128) 127 level.toInt, time⟩

/-- A link with a measurement recorded, its stale timer loaded and its monitors updated (R106 steps 1 to 3). -/
def measured (l : LinkRec) (m : Measurement) : LinkRec :=
  updateMonitors
    { l with
      last := some m
      stale := if inUse l.state && decide (0 < l.cfg.staleTime) then some l.cfg.staleTime else l.stale }
    (badValues l.cfg m)

/-- The code of a monitor condition: GOOD 0, FAULT 1 (R100, R216). (DEDUCED, log entry 10.) -/
def conditionByte (m : MonitorState) : Byte := if m.fault then 1 else 0

/-- The fields of the LMEASURE answer (R106). -/
def measureBytes (l : LinkRec) : List Byte :=
  [linkStateByte l.state, conditionByte l.monitors.delay, conditionByte l.monitors.loss, conditionByte l.monitors.level]

/-- The work of LMEASURE (R106–R109). -/
def doLmeasure (link : Byte) (delay : BitVec 32) (loss level : BitVec 16) (s : State) : Reply :=
  match linkOf link with
  | some i =>
    let l := s.link i
    if l.state = .off then reply .state s
    else
      let m := measurementOf delay loss level s.rqp.shipTime
      let s := actOnMeasurement i (badMeasurement l.cfg (badValues l.cfg m)) (s.setLink i (measured l m))
      replyWith .ok (measureBytes (s.link i)) s
  | none => reply .badArg s

/-- LMEASURE – post a link measurement (R106–R109). -/
def execLmeasure (f : Frame) (link : Byte) (delay : BitVec 32) (loss level : BitVec 16) (s : State) :
    Host.Outcome State Fault Refusal :=
  .next (request f kLmeasure (doLmeasure link delay loss level) s)

/-! ### LLOSS, LHOLD, LRELEASE (R111–R114) -/

/-- The work of LLOSS (R111, R112). A hold in progress whose reloaded hold time is 0 ends when its timer expires. -/
def doLloss (link : Byte) (s : State) : Reply :=
  match linkOf link with
  | some i =>
    let l := s.link i
    match l.state with
    | .off => reply .state s
    | .probing | .up | .degraded => reply .ok (holdForFailure i .loss s)
    | .held .failure => reply .ok (s.setLink i { l with hold := some l.cfg.holdTime })
    | .held .operator => reply .ok s
  | none => reply .badArg s

/-- LLOSS – report loss of carrier (R111, R112). -/
def execLloss (f : Frame) (link : Byte) (s : State) : Host.Outcome State Fault Refusal :=
  .next (request f kLloss (doLloss link) s)

/-- The work of LHOLD (R113). -/
def doLhold (link : Byte) (s : State) : Reply :=
  match linkOf link with
  | some i =>
    let l := s.link i
    match l.state with
    | .probing | .up | .degraded | .held .failure =>
      reply .ok (changeLink i { l with state := .held .operator, stale := none, hold := none } .operatorHold s)
    | .off | .held .operator => reply .state s
  | none => reply .badArg s

/-- LHOLD – hold a link (R113). -/
def execLhold (f : Frame) (link : Byte) (s : State) : Host.Outcome State Fault Refusal :=
  .next (request f kLhold (doLhold link) s)

/-- The work of LRELEASE (R114). -/
def doLrelease (link : Byte) (s : State) : Reply :=
  match linkOf link with
  | some i => if isHeld (s.link i).state then reply .ok (changeLink i (toProbing (s.link i)) .released s) else reply .state s
  | none => reply .badArg s

/-- LRELEASE – release a held link (R114). -/
def execLrelease (f : Frame) (link : Byte) (s : State) : Host.Outcome State Fault Refusal :=
  .next (request f kLrelease (doLrelease link) s)

/-! ### LDRILL (R115, R116) -/

/-- The four links. -/
def allLinks : List Link := [0, 1, 2, 3]

/-- Whether some other link is UP and permitted by the zone in force (R115 check 3). -/
def State.spareFor (s : State) (i : Link) : Bool :=
  allLinks.any fun l => l != i && (s.link l).state == .up && inSet s.permitInForce l

/-- Whether a drill runs on any link (R115 check 4). -/
def State.drilling (s : State) : Bool := allLinks.any fun l => (s.link l).drill.isSome

/-- The record a drill's start leaves (R116). -/
def drilled (l : LinkRec) (m : Monitor) (seconds : Nat) : LinkRec :=
  { l with
    state := .degraded, drill := some ⟨m, seconds⟩, monitors := mset l.monitors m ⟨true, 0, true⟩ }

/-- The work of LDRILL (R115, R116). -/
def doLdrill (link monitor : Byte) (duration : BitVec 16) (s : State) : Reply :=
  match linkOf link, monitorOf monitor with
  | some i, some m =>
    if (s.link i).state ≠ .up then reply .state s
    else if !s.spareFor i then reply .noSpare s
    else if s.drilling then reply .busy s
    else
      let seconds := clampNat 1 600 duration.toNat
      reply (okOrClamped (decide (seconds ≠ duration.toNat))) (changeLink i (drilled (s.link i) m seconds) .drillStart s)
  | _, _ => reply .badArg s

/-- LDRILL – drill a link monitor (R115, R116). -/
def execLdrill (f : Frame) (link monitor : Byte) (duration : BitVec 16) (s : State) : Host.Outcome State Fault Refusal :=
  .next (request f kLdrill (doLdrill link monitor duration) s)

/-! ### LREAD (R120) -/

/-- Condition, debounce count and fault-seen flag of a monitor. -/
def monitorBytes (m : MonitorState) : List Byte := [conditionByte m] ++ num 1 m.count ++ flag m.seen

/-- The configuration as LCONF lays it out (R212). -/
def linkConfigBytes (c : LinkConfig) : List Byte :=
  num 2 c.cost ++ num 3 c.staleTime ++ num 2 c.holdTime ++ num 1 c.probe ++ num 2 c.delayT ++ num 2 c.lossT ++
    snum 1 c.levelT ++ num 1 c.debounce.delay ++ num 1 c.debounce.loss ++ num 1 c.debounce.level ++
    [BitVec.ofNat 8 (c.mask.delay.toNat + 2 * c.mask.loss.toNat + 4 * c.mask.level.toNat)]

/-- A drill: the monitor and the seconds remaining. -/
def drillBytes : Option Drill → List Byte
  | some d => [monitorByte d.monitor] ++ num 2 d.timer
  | none => absent 3

/-- A measurement, with its ship time. -/
def measurementBytes : Option Measurement → List Byte
  | some m => num 4 m.delay ++ snum 2 m.loss ++ snum 2 m.level ++ num 4 m.time.toNat
  | none => absent 12

/-- The fields of the LREAD answer (R120, R216). -/
def linkBytes (l : LinkRec) : List Byte :=
  linkConfigBytes l.cfg ++ [linkStateByte l.state, holdCauseByte l.state] ++ num 1 l.good ++
    monitorBytes l.monitors.delay ++ monitorBytes l.monitors.loss ++ monitorBytes l.monitors.level ++ drillBytes l.drill ++
    measurementBytes l.last ++ optNum 3 l.stale ++ optNum 2 l.hold

/-- The work of LREAD (R120). -/
def doLread (link clear : Byte) (s : State) : Reply :=
  match linkOf link with
  | some i =>
    replyWith .ok (linkBytes (s.link i)) (if flagOf clear then s.setLink i (clearSeen (s.link i)) else s)
  | none => reply .badArg s

/-- LREAD – read a link (R120). -/
def execLread (f : Frame) (link clear : Byte) (s : State) : Host.Outcome State Fault Refusal :=
  .next (request f kLread (doLread link clear) s)

/-! ### Timers (R110, R112, R117) -/

/-- A stale timer that runs expires: the link becomes HELD with cause FAILURE (R110). (DESIGN CHOICE for a timer that
does not run, log entry 12.) -/
def stalePasses (i : Link) (s : State) : State :=
  if (s.link i).stale.isSome && inUse (s.link i).state then holdForFailure i .stale s else s

/-- The expiry of a stale timer (R110). -/
def execStaleTimerExpiry (link : Link) (s : State) : Host.Outcome State Fault Refusal := .next (stalePasses link s)

/-- A hold timer that runs expires: the link becomes PROBING (R112). -/
def holdPasses (i : Link) (s : State) : State :=
  if (s.link i).hold.isSome && (s.link i).state == .held .failure then endHold i s else s

/-- The expiry of a hold timer (R112). -/
def execHoldTimerExpiry (link : Link) (s : State) : Host.Outcome State Fault Refusal := .next (holdPasses link s)

/-- A drill's timer expires: the drilled monitor becomes GOOD, and the link is evaluated, with exactly one LINK notice
(R117). -/
def drillPasses (i : Link) (s : State) : State :=
  let l := s.link i
  if l.drill.isNone then s
  else
    let l' := dropDrill l
    if anyFault l' then linkNotice i l.state l.state .drillEnd (s.setLink i l')
    else changeLink i { l' with state := .up } .drillEnd s

/-- The expiry of a drill timer (R117). -/
def execDrillTimerExpiry (link : Link) (s : State) : Host.Outcome State Fault Refusal := .next (drillPasses link s)

end Sys2Proof.Machine
end

