-- ==== Sys2Proof/Machine/Routes.lean ====
section
/-! DEFINITION. The commands of chapter 6, routes and link handover: RCONF, RPIN, RUNPIN, HREADY, HDONE, RREAD, LOOKUP, and
the expiry of a path's prepare, bicast and release timer. -/

namespace Sys2Proof.Machine

/-! ### RCONF, RPIN, RUNPIN, RREAD (R125–R128) -/

/-- A path with its preference list replaced; its pin is kept (R125). -/
def withPrefs (p : Path) (ls : List Link) : Path := { p with prefs := ls }

/-- A route as an RCONF leaves it before the reselection, and whether a value was clamped (R125). -/
def routeOf (old : Route) (r : RconfFields) (voice data message : List Link) : Route × Bool :=
  let bicast := clampNat 0 500 r.bicast.toNat
  let prepare := clampNat 1 30 r.prepare.toNat
  let release := clampNat 1 30 r.release.toNat
  (⟨bicast, prepare, release,
      ⟨withPrefs old.paths.voice voice, withPrefs old.paths.data data, withPrefs old.paths.message message⟩⟩,
    decide (bicast ≠ r.bicast.toNat) || decide (prepare ≠ r.prepare.toNat) || decide (release ≠ r.release.toNat))

/-- The work of RCONF (R125, R126). -/
def doRconf (r : RconfFields) (s : State) : Reply :=
  match prefsOf r.voice, prefsOf r.data, prefsOf r.message with
  | some voice, some data, some message =>
    let i := r.route.toNat
    if 31 < i then reply .badArg s
    else
      let (route, clamped) := routeOf (s.route i) r voice data message
      reply (okOrClamped clamped) (reselectRoute i .preference (s.setRoute i route))
  | _, _, _ => reply .badArg s

/-- RCONF – configure a route (R125, R126). -/
def execRconf (f : Frame) (r : RconfFields) (s : State) : Host.Outcome State Fault Refusal :=
  .next (request f kRconf (doRconf r) s)

/-- The path's state and current link, as RPIN and RUNPIN answer them (R127). -/
def pathReply (r : Nat) (c : TrafficClass) (s : State) : Reply :=
  replyWith .ok [pathStateByte (s.path r c).state, optLink (currentOf (s.path r c).state)] s

/-- A path's pin set or made absent, and its reselection (R127). -/
def pinPath (r : Nat) (c : TrafficClass) (pin : Option Link) (s : State) : Reply :=
  pathReply r c (reselect r c .pin (s.setPath r c { s.path r c with pin := pin }))

/-- The work of RPIN (R127). -/
def doRpin (route cls link : Byte) (s : State) : Reply :=
  match classOf cls, linkOf link with
  | some c, some l => if 31 < route.toNat then reply .badArg s else pinPath route.toNat c (some l) s
  | _, _ => reply .badArg s

/-- RPIN – pin a path (R127). -/
def execRpin (f : Frame) (route cls link : Byte) (s : State) : Host.Outcome State Fault Refusal :=
  .next (request f kRpin (doRpin route cls link) s)

/-- The work of RUNPIN (R127). -/
def doRunpin (route cls : Byte) (s : State) : Reply :=
  match classOf cls with
  | some c => if 31 < route.toNat then reply .badArg s else pinPath route.toNat c none s
  | none => reply .badArg s

/-- RUNPIN – unpin a path (R127). -/
def execRunpin (f : Frame) (route cls : Byte) (s : State) : Host.Outcome State Fault Refusal :=
  .next (request f kRunpin (doRunpin route cls) s)

/-- The prepare timer of a path state, present in PREPARING (R123). -/
def prepareOf : PathState → Option Nat
  | .preparing _ _ t => some t
  | .steady _ | .bicast _ _ _ | .releasing _ _ _ | .stranded => none

/-- The bicast timer of a path state, present in BICAST (R123). -/
def bicastOf : PathState → Option Nat
  | .bicast _ _ t => some t
  | .steady _ | .preparing _ _ _ | .releasing _ _ _ | .stranded => none

/-- The release timer of a path state, present in RELEASING (R123). -/
def releaseOf : PathState → Option Nat
  | .releasing _ _ t => some t
  | .steady _ | .preparing _ _ _ | .bicast _ _ _ | .stranded => none

/-- The fields of one path in the order of R123 (R128, R216). -/
def pathBytes (p : Path) : List Byte :=
  prefsBytes p.prefs ++ [optLink p.pin, pathStateByte p.state, optLink (currentOf p.state), optLink (nextOf p.state),
    optLink (releasedOf p.state), optByte (p.reason.map moveReasonByte)] ++ optNum 1 (prepareOf p.state) ++
    optNum 2 (bicastOf p.state) ++ optNum 1 (releaseOf p.state)

/-- The fields of the RREAD answer (R128, R216). -/
def routeBytes (r : Route) : List Byte :=
  num 2 r.bicast ++ num 1 r.prepare ++ num 1 r.release ++ pathBytes r.paths.voice ++ pathBytes r.paths.data ++
    pathBytes r.paths.message

/-- The work of RREAD (R128). -/
def doRread (route : Byte) (s : State) : Reply :=
  if 31 < route.toNat then reply .badArg s else replyWith .ok (routeBytes (s.route route.toNat)) s

/-- RREAD – read a route (R128). -/
def execRread (f : Frame) (route : Byte) (s : State) : Host.Outcome State Fault Refusal :=
  .next (request f kRread (doRread route) s)

/-! ### HREADY and HDONE (R134, R137) -/

/-- A PREPARING path whose next link is ready moves on (R134). -/
def readyPath (r : Nat) (c : TrafficClass) (cur next : Link) (s : State) : State :=
  if !s.eligible cur ∨ (s.route r).bicast = 0 then enterReleasing r c cur next s
  else s.setPath r c { s.path r c with state := .bicast cur next (s.route r).bicast }

/-- HREADY on a path (R134). -/
def confirmReady (r : Nat) (c : TrafficClass) (l : Link) (s : State) : Reply :=
  match (s.path r c).state with
  | .preparing cur next _ =>
    if next = l then
      let s := readyPath r c cur next s
      replyWith .ok [pathStateByte (s.path r c).state] s
    else reply .state s
  | .steady _ | .bicast _ _ _ | .releasing _ _ _ | .stranded => reply .state s

/-- The work of HREADY (R134). -/
def doHready (route cls link : Byte) (s : State) : Reply :=
  match classOf cls, linkOf link with
  | some c, some l => if 31 < route.toNat then reply .badArg s else confirmReady route.toNat c l s
  | _, _ => reply .badArg s

/-- HREADY – confirm a path is ready (R134). -/
def execHready (f : Frame) (route cls link : Byte) (s : State) : Host.Outcome State Fault Refusal :=
  .next (request f kHready (doHready route cls link) s)

/-- HDONE on a path (R137). -/
def confirmDone (r : Nat) (c : TrafficClass) (l : Link) (s : State) : Reply :=
  match (s.path r c).state with
  | .releasing cur released _ =>
    if released = l then
      let s := enterSteady r c cur s
      replyWith .ok [pathStateByte (s.path r c).state] s
    else reply .state s
  | .steady _ | .preparing _ _ _ | .bicast _ _ _ | .stranded => reply .state s

/-- The work of HDONE (R137). -/
def doHdone (route cls link : Byte) (s : State) : Reply :=
  match classOf cls, linkOf link with
  | some c, some l => if 31 < route.toNat then reply .badArg s else confirmDone route.toNat c l s
  | _, _ => reply .badArg s

/-- HDONE – confirm a release is done (R137). -/
def execHdone (f : Frame) (route cls link : Byte) (s : State) : Host.Outcome State Fault Refusal :=
  .next (request f kHdone (doHdone route cls link) s)

/-! ### LOOKUP (R139–R141) -/

/-- PASS, HOLD or BLOCK, with the reason of a HOLD or BLOCK and the links of a PASS (R139, R140). -/
inductive LookupVerdict
  | pass (links : List Link)
  | hold (reason : Byte)
  | block (reason : Byte)
  deriving DecidableEq, Repr

/-- The links a path names by its state (R140). -/
def namedLinks : PathState → List Link
  | .steady c => [c]
  | .preparing c _ _ => [c]
  | .releasing c _ _ => [c]
  | .bicast c n _ => [c, n]
  | .stranded => []

/-- Check 5 of R139: the links the path names that are eligible now (R140). -/
def State.pathVerdict (s : State) (p : Path) : LookupVerdict :=
  match (namedLinks p.state).filter s.eligible with
  | [] => .hold 7
  | l :: ls => .pass (l :: ls)

/-- The data gate that decides a class: the gate of a visitor with a quota part for DATA, none otherwise (R139 check 4). -/
def gateFor (v : Visitor) (c : TrafficClass) : Option Gate := if c = .data then v.quota.map Quota.gate else none

/-- The verdict for a live visitor (R139 checks 2 to 5). -/
def State.verdict (s : State) (v : Visitor) (c : TrafficClass) : LookupVerdict :=
  match v.state with
  | .authorizing => .hold 1
  | .suspended => .hold 2
  | .departing => .block 3
  | .active =>
    if v.cls = .emergency ∧ c = .data then .block 4
    else
      match gateFor v c with
      | some .waiting => .hold 5
      | some .shut => .block 6
      | some .opened | none => s.pathVerdict (s.path v.route c)

/-- A named link with its state, FFh and FFh for none (R219). -/
def State.namedBytes (s : State) (ls : List Link) (i : Nat) : List Byte :=
  match ls[i]? with
  | some l => [linkByte l, linkStateByte (s.link l).state]
  | none => absent 2

/-- The fields of the LOOKUP answer (R219). -/
def State.lookupBytes (s : State) (v : Visitor) (c : TrafficClass) : List Byte :=
  let (verdict, reason, links) : Byte × Byte × List Link :=
    match s.verdict v c with
    | .pass ls => (0, 0, ls)
    | .hold r => (1, r, [])
    | .block r => (2, r, [])
  [verdict, reason] ++ num 1 v.route ++ [pathStateByte (s.path v.route c).state] ++ num 1 s.tariffInForce.val ++
    num 1 links.length ++ s.namedBytes links 0 ++ s.namedBytes links 1

/-- The work of LOOKUP (R139–R141). -/
def doLookup (handle : BitVec 16) (cls : Byte) (s : State) : Reply :=
  match classOf cls with
  | some c =>
    if s.live handle then
      match s.visitor (handleSlot handle) with
      | some v => replyWith .ok (s.lookupBytes v c) s
      | none => reply .stale s
    else reply .stale s
  | none => reply .badArg s

/-- LOOKUP – look up a visitor's path (R139–R141). -/
def execLookup (f : Frame) (handle : BitVec 16) (cls : Byte) (s : State) : Host.Outcome State Fault Refusal :=
  .next (request f kLookup (doLookup handle cls) s)

/-! ### Timers (R135, R136, R138) -/

/-- A prepare timer expires (R135): abandon to the current link, or a hard switch to the next link with the reason kept, or
STRANDED. The entry into STEADY on the next link reselects the path (R131). (DEDUCED: a stranded path keeps its
reason, log entry 19.) -/
def preparePasses (r : Nat) (c : TrafficClass) (s : State) : State :=
  match (s.path r c).state with
  | .preparing cur next _ =>
    if s.eligible cur then abandon r c cur next s
    else if s.eligible next then
      reselectSteady r c next .preference (hardSwitch r c (some next) (s.path r c).reason s)
    else hardSwitch r c none (s.path r c).reason s
  | .steady _ | .bicast _ _ _ | .releasing _ _ _ | .stranded => s

/-- The expiry of a prepare timer (R135). -/
def execPrepareTimerExpiry (route : Nat) (cls : TrafficClass) (s : State) : Host.Outcome State Fault Refusal :=
  .next (preparePasses route cls s)

/-- A bicast timer expires: the path enters RELEASING (R136). -/
def bicastPasses (r : Nat) (c : TrafficClass) (s : State) : State :=
  match (s.path r c).state with
  | .bicast cur next _ => enterReleasing r c cur next s
  | .steady _ | .preparing _ _ _ | .releasing _ _ _ | .stranded => s

/-- The expiry of a bicast timer (R136). -/
def execBicastTimerExpiry (route : Nat) (cls : TrafficClass) (s : State) : Host.Outcome State Fault Refusal :=
  .next (bicastPasses route cls s)

/-- A release timer expires: COMPLETE, and the entry into STEADY with its reselection (R138). (DEDUCED: the notice
comes first, log entry 15.) -/
def releasePasses (r : Nat) (c : TrafficClass) (s : State) : State :=
  match (s.path r c).state with
  | .releasing cur released _ =>
    enterSteady r c cur (movePath r c (.steady cur) (s.path r c).reason 4 (some released) (some cur) s)
  | .steady _ | .preparing _ _ _ | .bicast _ _ _ | .stranded => s

/-- The expiry of a release timer (R138). -/
def execReleaseTimerExpiry (route : Nat) (cls : TrafficClass) (s : State) : Host.Outcome State Fault Refusal :=
  .next (releasePasses route cls s)

end Sys2Proof.Machine
end

