-- ==== Sys2Proof/Machine/Navigation.lean ====
section
/-! DEFINITION. The commands of chapter 7, navigation and zones: NAVCONF, FIXPOST, NREAD, ZSET, ZREAD, the bytes and messages
of the NAV line, the evaluation of a fix, and the expiry of the position stale timer. -/

namespace Sys2Proof.Machine

/-! ### NAVCONF, FIXPOST, NREAD (R147, R153, R154) -/

/-- The zone engine as a NAVCONF leaves it (R147). -/
def navConfigured (divisor : Byte) (enable : Bool) (z : Zne) : Zne :=
  if enable then
    match z.nav.rx with
    | .disabled => { z with nav := { z.nav with divisor := divisor, rx := .hunting, lineBreak := false } }
    | .hunting | .assembling _ _ => { z with nav := { z.nav with divisor := divisor, rx := .hunting } }
  else
    { z with
      nav := { z.nav with divisor := divisor, rx := .disabled, lineBreak := false, lastSeq := none }
      fifo := [] }

/-- The work of NAVCONF (R147). -/
def doNavconf (divisor enable : Byte) (s : State) : Reply :=
  reply .ok (s.withZne (navConfigured divisor (flagOf enable) s.zne))

/-- NAVCONF – configure the navigation line (R147). -/
def execNavconf (f : Frame) (divisor enable : Byte) (s : State) : Host.Outcome State Fault Refusal :=
  .next (request f kNavconf (doNavconf divisor enable) s)

/-- The work of FIXPOST (R153). -/
def doFixpost (east north : BitVec 24) (quality : Byte) (s : State) : Reply :=
  if quality.toNat = 0 ∨ 2 < quality.toNat then reply .badArg s
  else if s.rqp.mode = .config then reply .mode s
  else if Config.fifoCapacity ≤ s.zne.fifo.length then reply .full s
  else
    reply .ok
      (s.withZne { s.zne with fifo := s.zne.fifo ++ [⟨.host, east.toInt, north.toInt, quality.toNat, false⟩] })

/-- FIXPOST – post a fix from the host (R153). -/
def execFixpost (f : Frame) (east north : BitVec 24) (quality : Byte) (s : State) : Host.Outcome State Fault Refusal :=
  .next (request f kFixpost (doFixpost east north quality) s)

/-- Whether the line is enabled: the receiver state is not DISABLED (R146). -/
def navEnabled : Receiver → Bool
  | .disabled => false
  | .hunting | .assembling _ _ => true

/-- The last taken fix: source (NAV 0, HOST 1), sequence, east, north, quality, noisy mark (R154). A HOST fix has no
sequence (R152), and its byte is FFh. (DEDUCED: that byte, log entry 29.) -/
def fixBytes : Option Fix → List Byte
  | some x =>
    (match x.source with
      | .nav seq => [0, seq]
      | .host => [1, 0xFF]) ++ snum 3 x.east ++ snum 3 x.north ++ num 1 x.quality ++ flag x.noisy
  | none => absent 10

/-- The fields of the NREAD answer (R154, R216). -/
def navBytes (z : Zne) : List Byte :=
  flag (navEnabled z.nav.rx) ++ [z.nav.divisor, receiverByte z.nav.rx] ++ flag z.nav.lineBreak ++ num 2 z.nav.discards ++
    [optByte (z.nav.lastReason.map navDiscardByte), optByte z.nav.lastSeq] ++ num 1 z.fifo.length ++
    [positionByte z.pos.state] ++ num 1 z.pos.zone ++ optNum 1 z.pos.candidate ++ num 1 z.pos.confirm ++
    optNum 1 z.pos.stale ++ fixBytes z.pos.last

/-- The work of NREAD (R154). -/
def doNread (s : State) : Reply := replyWith .ok (navBytes s.zne) s

/-- NREAD – read the navigation receiver (R154). -/
def execNread (f : Frame) (s : State) : Host.Outcome State Fault Refusal := .next (request f kNread doNread s)

/-! ### ZSET and ZREAD (R156–R158) -/

/-- A zone as a ZSET leaves it, and whether a value was clamped (R156). Zone 31 takes the policy, the tariff zone and the
permit mask alone; its entry count byte is neither read nor clamped (DEDUCED, log entry 26). -/
def zoneOf (old : Zone) (z : ZsetFields) (policy : Policy) (tariff : TariffZone) (permit : LinkSet) : Zone × Bool :=
  if z.zone.toNat = Config.defaultZone then ({ old with policy := policy, tariff := tariff, permit := permit }, false)
  else
    let radius := clampNat 0 1048575 z.radius.toNat
    let entry := clampNat 1 8 z.entry.toNat
    (⟨flagOf z.enable, z.east.toInt, z.north.toInt, radius, z.hysteresis.toNat, policy, tariff, permit, entry⟩,
      decide (radius ≠ z.radius.toNat) || decide (entry ≠ z.entry.toNat))

/-- The values in force are recomputed after an edit of zone `i`: with a change, the ZONE notice EDITED and the hand-on
(R157). -/
def editInForce (i : Nat) (old : InForce) (s : State) : State :=
  if s.inForce = old then s else handOn old (zoneNotice (.zone i) 3 0 0 0 0 s.valuesByte s)

/-- A ZSET that passed its checks: the zone replaced, the pending candidate cleared (R156), and the zone in force acted on
(R157). -/
def writeZone (i : Nat) (z : Zone) (s : State) : State :=
  let old := s.inForce
  let s := (s.setZone i z).setPos { s.zne.pos with candidate := none, confirm := 0 }
  editInForce i old s

/-- The work of ZSET (R156, R157). -/
def doZset (z : ZsetFields) (s : State) : Reply :=
  match policyOf z.policy, tariffOf z.tariff, linkSetOf z.permit with
  | some policy, some tariff, some permit =>
    let i := z.zone.toNat
    if 31 < i then reply .badArg s
    else
      let (zone, clamped) := zoneOf (s.zone i) z policy tariff permit
      reply (okOrClamped clamped) (writeZone i zone s)
  | _, _, _ => reply .badArg s

/-- ZSET – set a zone (R156, R157). -/
def execZset (f : Frame) (z : ZsetFields) (s : State) : Host.Outcome State Fault Refusal :=
  .next (request f kZset (doZset z) s)

/-- The geometry of a zone as ZREAD gives it: enable, centre, radius, hysteresis; 0 and enabled for zone 31 (R158). -/
def geometryBytes (i : Nat) (z : Zone) : List Byte :=
  if i = Config.defaultZone then [1] ++ List.replicate 11 0
  else flag z.enabled ++ snum 3 z.east ++ snum 3 z.north ++ num 3 z.radius ++ num 2 z.hysteresis

/-- The fields of the ZREAD answer (R158, R216). (DEDUCED: whether the zone is in force is a flag, log entry 10.) -/
def State.zoneBytes (s : State) (i : Nat) : List Byte :=
  let z := s.zone i
  geometryBytes i z ++ [policyByte z.policy] ++ num 1 z.tariff.val ++ [z.permit.setWidth 8] ++ num 1 (s.entryCount i) ++
    flag (decide (s.zne.pos.zone = i))

/-- The work of ZREAD (R158). -/
def doZread (zone : Byte) (s : State) : Reply :=
  if 31 < zone.toNat then reply .badArg s else replyWith .ok (s.zoneBytes zone.toNat) s

/-- ZREAD – read a zone (R158). -/
def execZread (f : Frame) (zone : Byte) (s : State) : Host.Outcome State Fault Refusal :=
  .next (request f kZread (doZread zone) s)

/-! ### The NAV line (R148–R151) -/

/-- The bytes of the NAV line one after another, up to and including the one that completes a message (R149, R151). (DESIGN
CHOICE for no byte and for bytes behind that one, log entry 36.) -/
def execNavMessage (bytes : List LineByte) (s : State) : Host.Outcome State Fault Refusal :=
  .next (bytes.foldl (fun s b => lineByte b s) s)

/-- A byte of the NAV line (R148, R149). (DESIGN CHOICE: its samples decide what it is, log entry 36.) -/
def execNavByte (b : LineByte) (s : State) : Host.Outcome State Fault Refusal := .next (lineByte b s)

/-- A byte of the NAV line whose stop bit is low (R148, R149). (DESIGN CHOICE: its samples decide what it is, log entry
36.) -/
def execNavFramingError (b : LineByte) (s : State) : Host.Outcome State Fault Refusal := .next (lineByte b s)

/-- A break on the NAV line (R148–R150). (DESIGN CHOICE: its samples decide what it is, log entry 36.) -/
def execNavBreak (b : LineByte) (s : State) : Host.Outcome State Fault Refusal := .next (lineByte b s)

/-! ### The evaluation of a fix (R152, R161–R163) -/

/-- The zone engine takes the fix at the head of the FIFO: it drops it in CONFIG and evaluates it in SERVICE (R152).
With none in the FIFO it does nothing (DESIGN CHOICE, log entry 27). -/
def takeFix (s : State) : State :=
  match s.zne.fifo with
  | [] => s
  | x :: rest =>
    let s := s.withZne { s.zne with fifo := rest }
    match s.rqp.mode with
    | .config => s
    | .service => evaluateFix x s

/-- The zone engine takes a fix (R152, R161–R163). -/
def execFixEvaluation (s : State) : Host.Outcome State Fault Refusal := .next (takeFix s)

/-! ### The position stale timer (R164) -/

/-- A position stale timer that runs expires (R164). -/
def positionPasses (s : State) : State :=
  let p := s.zne.pos
  if p.stale.isNone then s
  else
    let old := s.policyInForce
    let p' := { p with stale := none, candidate := none, confirm := 0 }
    match p.state with
    | .fixed =>
      let s := s.setPos { p' with state := .stale }
      handOnPolicy old (zoneNotice (.zone p.zone) 2 0 0 0 0 s.valuesByte s)
    | .noFix | .stale => s.setPos p'

/-- The expiry of the position stale timer (R164). -/
def execPositionStaleTimerExpiry (s : State) : Host.Outcome State Fault Refusal := .next (positionPasses s)

end Sys2Proof.Machine
end

