-- ==== Sys2Proof/Machine/RadioUnits.lean ====
section
/-! DEFINITION. The commands of chapter 8, radio units and the cell bus: RMUTE, RRELEASE, UCMD, UREAD, the completions of cell
bus transactions, and the expiry of the mute deadline and of the poll timer. -/

namespace Sys2Proof.Machine

/-! ### RMUTE and RRELEASE (R176) -/

/-- The operator mute set or cleared; where it changes, the effective policy is formed anew (R176). -/
def operatorMute (on : Bool) (s : State) : State :=
  if s.rdc.opMute = on then s
  else policyTurned s.effectivePolicy .operator (s.withRdc { s.rdc with opMute := on })

/-- The work of RMUTE (R176). -/
def doRmute (s : State) : Reply := reply .ok (operatorMute true s)

/-- RMUTE – force mute (R176). -/
def execRmute (f : Frame) (s : State) : Host.Outcome State Fault Refusal := .next (request f kRmute doRmute s)

/-- The work of RRELEASE (R176). -/
def doRrelease (s : State) : Reply := reply .ok (operatorMute false s)

/-- RRELEASE – release a forced mute (R176). -/
def execRrelease (f : Frame) (s : State) : Host.Outcome State Fault Refusal := .next (request f kRrelease doRrelease s)

/-! ### UCMD (R189) -/

/-- A unit becomes EXCLUDED and its pending mark is dropped; the end check, and what follows on the bus (R189). (DESIGN
CHOICE: where this ends the probe, the answer of START joins the queue before that of the UCMD, log entry 35.) -/
def excludeUnit (u : Nat) (s : State) : State := settleBus (endCheck (setMark u none (changeUnit u .excluded .exclude s)))

/-- The work of UCMD EXCLUDE (R189). -/
def doExclude (unit : Byte) (s : State) : Reply :=
  if 15 < unit.toNat then reply .badArg s
  else if (s.unit unit.toNat).state = .excluded then reply .state s
  else reply .ok (excludeUnit unit.toNat s)

/-- UCMD EXCLUDE (R189). -/
def execUcmdExclude (f : Frame) (unit : Byte) (s : State) : Host.Outcome State Fault Refusal :=
  .next (request f kUcmd (doExclude unit) s)

/-- An EXCLUDED unit becomes ABSENT, with miss count 0 and no last status (R189). -/
def includeUnit (u : Nat) (s : State) : State :=
  let s := s.setUnit u { s.unit u with misses := 0, lastStatus := none }
  endCheck (changeUnit u .absent .incl s)

/-- The work of UCMD INCLUDE (R189). -/
def doInclude (unit : Byte) (s : State) : Reply :=
  if 15 < unit.toNat then reply .badArg s
  else if (s.unit unit.toNat).state = .excluded then reply .ok (includeUnit unit.toNat s)
  else reply .state s

/-- UCMD INCLUDE (R189). -/
def execUcmdInclude (f : Frame) (unit : Byte) (s : State) : Host.Outcome State Fault Refusal :=
  .next (request f kUcmd (doInclude unit) s)

/-- The mark a probe of a unit places: IDENTIFY for an ABSENT unit, POLL for any other (R183, R189). -/
def probeOf : UnitState → Mark
  | .absent => .identify
  | .serving | .muted | .faulty | .unresponsive | .excluded => .poll

/-- The work of UCMD PROBE: the answer says whether the mark was placed (0) or the present mark kept (1) (R189,
R216). (DEDUCED, log entry 10; DESIGN CHOICE: the order of its answer and that of a START it ends, log entry 35.) -/
def doProbe (unit : Byte) (s : State) : Reply :=
  let u := unit.toNat
  if 15 < u then reply .badArg s
  else if (s.unit u).state = .excluded then reply .state s
  else
    replyWith .ok [if (s.unit u).mark.isNone then 0 else 1] (settleBus (placeMark u (probeOf (s.unit u).state) s))

/-- UCMD PROBE (R189). -/
def execUcmdProbe (f : Frame) (unit : Byte) (s : State) : Host.Outcome State Fault Refusal :=
  .next (request f kUcmd (doProbe unit) s)

/-! ### UREAD (R190) -/

/-- The last status: radiating flag, fault flag, ship time. -/
def statusBytes : Option UnitStatus → List Byte
  | some t => flag t.radiating ++ flag t.fault ++ num 4 t.time.toNat
  | none => absent 6

/-- Whether a unit's transaction is on the bus (R170). -/
def State.unitOnBus (s : State) (u : Nat) : Bool := (s.rdc.onBus.map Prod.fst) == some u

/-- The fields of the UREAD answer (R190, R216). (DEDUCED: whether the probe is running is a flag, 1 for running, log entry
10.) -/
def State.unitBytes (s : State) (u : Nat) : List Byte :=
  let r := s.unit u
  [unitStateByte r.state] ++ num 1 r.misses ++ markBytes r.mark ++ flag (s.unitOnBus u) ++ statusBytes r.lastStatus ++
    [optByte (r.lastFailure.map failureByte), radioByte s.rdc.radio, policyByte s.effectivePolicy] ++ flag s.rdc.opMute ++
    [levelByte s.rdc.rfoff] ++ flag s.rdc.busFault ++ optNum 2 s.rdc.deadline ++ optNum 1 s.rdc.poll ++
    flag s.rdc.probe.isSome

/-- The work of UREAD (R190). -/
def doUread (unit : Byte) (s : State) : Reply :=
  if 15 < unit.toNat then reply .badArg s else replyWith .ok (s.unitBytes unit.toNat) s

/-- UREAD – read a unit (R190). -/
def execUread (f : Frame) (unit : Byte) (s : State) : Host.Outcome State Fault Refusal :=
  .next (request f kUread (doUread unit) s)

/-! ### Completions (R173, R174, R184, R185) -/

/-- The MUTE, UNMUTE or IDENTIFY on the bus completes answered (R173). (DESIGN CHOICE where none is on the bus, log
entry 13.) -/
def busAnswered (wire : List Nat) (s : State) : State :=
  match s.rdc.onBus with
  | some (_, .poll) | none => s
  | some (u, m) => completeBus (wholeTransaction u m) wire (commandAnsweredRule u m) s

/-- A cell bus command completes answered (R173). -/
def execCommandAnswered (wire : List Nat) (s : State) : Host.Outcome State Fault Refusal := .next (busAnswered wire s)

/-- The MUTE, UNMUTE or IDENTIFY on the bus completes NOACK (R174). -/
def busNoack (failure : BusFailure) (wire : List Nat) (s : State) : State :=
  match s.rdc.onBus with
  | some (_, .poll) | none => s
  | some (u, m) => completeBus (failedTransaction u m failure) wire (noackRule u m failure) s

/-- A cell bus command completes NOACK (R174). -/
def execCommandNoack (failure : BusFailure) (wire : List Nat) (s : State) : Host.Outcome State Fault Refusal :=
  .next (busNoack failure wire s)

/-- The POLL on the bus completes with two status bytes: answered where the second is the complement of the first, and
NOACK with last failure STATUS otherwise (R168, R184, R230). (DESIGN CHOICE where none is on the bus, log entry 13.) -/
def pollDone (first second : Byte) (wire : List Nat) (s : State) : State :=
  match s.rdc.onBus with
  | some (u, .poll) =>
    if second = ~~~first then completeBus (wholeTransaction u .poll) wire (pollAnsweredRule u first[0] first[1]) s
    else completeBus (wholeTransaction u .poll) wire (noackRule u .poll .status) s
  | some (_, .identify) | some (_, .mute _) | some (_, .unmute _) | none => s

/-- A POLL completes with its status bytes (R184). -/
def execPollAnswered (first second : Byte) (wire : List Nat) (s : State) : Host.Outcome State Fault Refusal :=
  .next (pollDone first second wire s)

/-- The POLL on the bus completes NOACK (R185). -/
def pollFailed (failure : BusFailure) (wire : List Nat) (s : State) : State :=
  match s.rdc.onBus with
  | some (u, .poll) => completeBus (failedTransaction u .poll failure) wire (noackRule u .poll failure) s
  | some (_, .identify) | some (_, .mute _) | some (_, .unmute _) | none => s

/-- A POLL completes NOACK (R185). -/
def execPollNoack (failure : BusFailure) (wire : List Nat) (s : State) : Host.Outcome State Fault Refusal :=
  .next (pollFailed failure wire s)

/-! ### Timers (R180, R183) -/

/-- Whether the bus carries a MUTE of a unit. -/
def State.muteOnBus (s : State) (u : Nat) : Bool :=
  match s.rdc.onBus with
  | some (v, .mute _) => v == u
  | some (_, .unmute _) | some (_, .poll) | some (_, .identify) | none => false

/-- The units that still hold a MUTE mark or are on the bus with a MUTE (R180). -/
def State.unitsToMute (s : State) : Nat := (unitKeys.filter fun u => isMute (s.unit u).mark || s.muteOnBus u).length

/-- A mute deadline that runs expires: RFOFF is asserted, with the notice DEADLINE (R180). (DEDUCED: the expired timer is
absent, log entry 33.) -/
def deadlinePasses (s : State) : State :=
  if s.rdc.deadline.isNone then s
  else
    radioNotice 5 (BitVec.ofNat 8 s.unitsToMute) 0 0 0 0 (assertRfoff (s.withRdc { s.rdc with deadline := none }))

/-- The mute deadline expires (R180). -/
def execMuteDeadlineExpiry (s : State) : Host.Outcome State Fault Refusal := .next (deadlinePasses s)

/-- A poll round: each unit that is not EXCLUDED gets its mark (R183). -/
def pollRound (s : State) : State := unitKeys.foldl (fun s u => placeMark u (probeOf (s.unit u).state) s) s

/-- A poll timer that runs expires: it is loaded again, and a poll round is made (R183). -/
def pollPasses (s : State) : State :=
  if s.rdc.poll.isNone then s
  else settleBus (pollRound (s.withRdc { s.rdc with poll := some s.settings.pollInterval }))

/-- The poll timer expires (R183). -/
def execPollTimerExpiry (s : State) : Host.Outcome State Fault Refusal := .next (pollPasses s)

end Sys2Proof.Machine
end

