-- ==== Sys2Proof/Machine/RequestPort.lean ====
section
/-! DEFINITION. The commands of chapter 9, the request port: START, STOP, DSET, CLOCK, IDENT, NFETCH, RESYNC, the reading of
an answer, the tick of ship time, and device reset. -/

namespace Sys2Proof.Machine

/-! ### START (R186, R187, R202) -/

/-- A unit as the presence probe starts with it (R186 steps 2 and 3). -/
def probeUnit (u : Nat) (s : State) : State :=
  if (s.unit u).state = .excluded then s else s.setUnit u ⟨.absent, 0, some .identify, none, none⟩

/-- The presence probe starts (R186). -/
def startProbe (tag : Fin 16) (s : State) : State :=
  settleBus (unitKeys.foldl (fun s u => probeUnit u s) (s.withRdc { s.rdc with probe := some ⟨tag, false⟩ }))

/-- The work of START (R186, R201, R202). Its answer comes at the end of the probe. -/
def doStart (tag : Fin 16) (s : State) : Reply :=
  if s.rqp.mode = .service then reply .mode s
  else if s.rdc.radio = .muting ∨ s.rdc.probe.isSome then reply .state s
  else (startProbe tag s, none)

/-- START – enter service (R186, R187, R202). -/
def execStart (f : Frame) (s : State) : Host.Outcome State Fault Refusal := .next (request f kStart (doStart f.tag) s)

/-! ### STOP (R165, R188, R203) -/

/-- Whether every visitor entry is FREE (R203). -/
def State.registerEmpty (s : State) : Bool := s.vrg.slots.all fun e => e.2.visitor.isNone

/-- Whether the exchange table holds no exchange (R203). -/
def State.tableEmpty (s : State) : Bool := s.qxu.entries.all fun e => e.2.ex.isNone

/-- The position at a STOP: NO_FIX, with its notice where it was FIXED or STALE, and the hand-on (R165). -/
def stopPosition (s : State) : State :=
  let old := s.inForce
  let p := s.zne.pos
  let s := s.setPos positionReset
  handOn old (if p.state = .noFix then s else changedNotice p.zone p.state .stop s)

/-- The part leaves service (R188, R203). (DEDUCED: the order of the steps, log entry 25.) -/
def leaveService (s : State) : State :=
  let s := assertRfoff (stopPosition (s.withRqp { s.rqp with mode := .config }))
  s.withRdc { s.rdc with poll := none }

/-- The work of STOP (R188, R201, R203). -/
def doStop (s : State) : Reply :=
  if s.rqp.mode = .config then reply .mode s
  else if !s.registerEmpty || !s.tableEmpty then reply .state s
  else reply .ok (leaveService s)

/-- STOP – leave service (R188, R203). -/
def execStop (f : Frame) (s : State) : Host.Outcome State Fault Refusal := .next (request f kStop doStop s)

/-! ### DSET (R204, R205) -/

/-- An idle limit clamped: 0 stays 0 (R204). -/
def clampIdle (n : Nat) : Nat := if n = 0 then 0 else clampNat 60 86400 n

/-- The settings a DSET stores, and whether a value was clamped (R204). -/
def settingsOf (d : DsetFields) (stale : StalePolicy) (control : List Link) (speed : BusSpeed) : Settings × Bool :=
  let poll := clampNat 1 60 d.pollInterval.toNat
  let deadline := clampNat 10 1000 d.muteDeadline.toNat
  let hold := clampNat 60 7200 d.muteHold.toNat
  let passenger := clampIdle d.idlePassenger.toNat
  let crew := clampIdle d.idleCrew.toNat
  let emergency := clampIdle d.idleEmergency.toNat
  let position := clampNat 1 120 d.positionStale.toNat
  let timeout := clampNat 5 600 d.timeout.toNat
  let low := clampNat 0 4608 d.lowWater.toNat
  (⟨poll, deadline, hold, passenger, crew, emergency, position, stale, control, d.crewRoute.toNat, d.emergencyRoute.toNat,
      timeout, low, d.alertMask.setWidth 7, speed⟩,
    decide (poll ≠ d.pollInterval.toNat) || decide (deadline ≠ d.muteDeadline.toNat) || decide (hold ≠ d.muteHold.toNat) ||
      decide (passenger ≠ d.idlePassenger.toNat) || decide (crew ≠ d.idleCrew.toNat) ||
      decide (emergency ≠ d.idleEmergency.toNat) || decide (position ≠ d.positionStale.toNat) ||
      decide (timeout ≠ d.timeout.toNat) || decide (low ≠ d.lowWater.toNat))

/-- The settings are replaced, and the low-water flag follows the new setting (R66, R204, R205). -/
def storeSettings (d : Settings) (s : State) : State :=
  (s.withRqp { s.rqp with settings := d }).withChu { s.chu with armed := decide (d.lowWater ≤ s.chu.freeAccounts) }

/-- The work of DSET (R201, R204, R205). -/
def doDset (d : DsetFields) (s : State) : Reply :=
  if s.rqp.mode = .service then reply .mode s
  else
    match stalePolicyOf d.stalePolicy, prefsOf d.control, busSpeedOf d.busSpeed with
    | some stale, some control, some speed =>
      if 31 < d.crewRoute.toNat ∨ 31 < d.emergencyRoute.toNat ∨ 127 < d.alertMask.toNat then reply .badArg s
      else
        let (settings, clamped) := settingsOf d stale control speed
        replyWith (okOrClamped clamped) (settingsBytes settings) (storeSettings settings s)
    | _, _, _ => reply .badArg s

/-- DSET – write device settings (R204, R205). -/
def execDset (f : Frame) (d : DsetFields) (s : State) : Host.Outcome State Fault Refusal :=
  .next (request f kDset (doDset d) s)

/-! ### CLOCK and ship time (R206) -/

/-- The work of CLOCK (R206). -/
def doClock (time : BitVec 32) (s : State) : Reply :=
  replyWith .ok (num 4 s.rqp.shipTime.toNat) (s.withRqp { s.rqp with shipTime := time })

/-- CLOCK – set ship time (R206). -/
def execClock (f : Frame) (time : BitVec 32) (s : State) : Host.Outcome State Fault Refusal :=
  .next (request f kClock (doClock time) s)

/-- Ship time rises by 1 each second and wraps to 0 (R206). -/
def execShipTimeTick (s : State) : Host.Outcome State Fault Refusal :=
  .next (s.withRqp { s.rqp with shipTime := s.rqp.shipTime + 1 })

/-! ### IDENT (R207) -/

/-- The capacities of the part in the order of R207. (DEDUCED: 32 zones with the default zone, log entry 23.) -/
def capacityBytes : List Byte :=
  num 2 Config.visitorSlots ++ num 2 Config.accounts ++ num 1 Config.partners ++ num 1 Config.plans ++
    num 1 Config.exchanges ++ num 1 Config.links ++ num 1 Config.routes ++ num 1 Config.zones ++ num 1 Config.units ++
    num 1 Config.tags ++ num 1 Config.noticeCapacity

/-- How many exchanges in the table satisfy `p`. -/
def State.exchangesIn (s : State) (p : Exchange → Bool) : Nat :=
  tcount (fun e => match e.ex with | some x => p x | none => false) s.qxu.entries

/-- The fields of the IDENT answer (R207, R216). The revision is an open constant (log entry 1). (DEDUCED: the own
tag counts as busy, log entry 23; whether a probe is running is a flag, 1 for running, log entry 10.) -/
def State.identBytes (s : State) : List Byte :=
  num 2 Config.vendorCode ++ num 2 Config.partCode ++ [Config.revision] ++ capacityBytes ++ [modeByte s.rqp.mode] ++
    flag s.rdc.probe.isSome ++ num 2 s.rqp.dSync ++ num 2 s.rqp.dFrame ++ num 2 s.rqp.dCrc ++ num 2 s.rqp.dClash ++
    num 1 (tcount id s.rqp.busy) ++ num 1 s.rqp.notices.length ++ flag s.rqp.overflow ++ [levelByte s.alert] ++
    num 2 s.chu.freeAccounts ++ num 1 (s.exchangesIn fun _ => true) ++ num 1 (s.exchangesIn fun x => !x.sent) ++
    num 1 (s.exchangesIn fun x => x.sent) ++ num 2 s.qxu.deferred.length ++ num 4 s.rqp.shipTime.toNat

/-- The work of IDENT (R207). -/
def doIdent (clear : Byte) (s : State) : Reply :=
  replyWith .ok s.identBytes
    (if flagOf clear then s.withRqp { s.rqp with dSync := 0, dFrame := 0, dCrc := 0, dClash := 0 } else s)

/-- IDENT – identify the part (R207). -/
def execIdent (f : Frame) (clear : Byte) (s : State) : Host.Outcome State Fault Refusal :=
  .next (request f kIdent (doIdent clear) s)

/-! ### NFETCH (R199, R228) -/

/-- The fields of the NFETCH answer (R228). -/
def nfetchBytes (q : Rqp) : List Byte :=
  num 1 (q.notices.take 8).length ++ flag q.overflow ++ num 1 (q.notices.drop 8).length ++
    (q.notices.take 8).flatMap noticeBytes

/-- The work of NFETCH (R199). -/
def doNfetch (s : State) : Reply :=
  replyWith .ok (nfetchBytes s.rqp) (s.withRqp { s.rqp with notices := s.rqp.notices.drop 8, overflow := false })

/-- NFETCH – fetch notices (R199). -/
def execNfetch (f : Frame) (s : State) : Host.Outcome State Fault Refusal := .next (request f kNfetch doNfetch s)

/-! ### RESYNC (R197) -/

/-- A request in flight marked to have its answer discarded. -/
def dropped (r : InFlight) : InFlight := { r with dropped := true }

/-- Steps 1 to 3 of R197. -/
def resynchronize (s : State) : State :=
  let s := s.withRqp { s.rqp with answers := [], busy := [] }
  let s := s.withVrg { s.vrg with purge := s.vrg.purge.map fun p => { p with req := dropped p.req } }
  s.withRdc { s.rdc with probe := s.rdc.probe.map dropped }

/-- The transaction of a RESYNC: no clash check is made (R193), and step 4 of R197 gives the answer. (DEDUCED, log
entry 11.) -/
def resync (f : Frame) (s : State) : State :=
  if cutShort f then countDiscard .frame (settleOut f.clocked s)
  else if f.len ≠ kResync.len then deliver kResync f.tag (reply .badLength (arrive f s))
  else deliver kResync f.tag (reply .ok (setTag f.tag true (resynchronize (settleOut f.clocked s))))

/-- RESYNC – resynchronize the port (R197). -/
def execResync (f : Frame) (s : State) : Host.Outcome State Fault Refusal := .next (resync f s)

/-! ### Reading an answer, device reset (R192, R208) -/

/-- A transaction of bytes FFh: the oldest answer is shifted out (R192). -/
def execAnswerRead (clocked : Nat) (s : State) : Host.Outcome State Fault Refusal := .next (settleOut clocked s)

/-- The machine after a device reset, the `n`th: the reset state, with the data wire left open anew and the commands `q`
that wait kept in the model's queue. -/
def resetState (n : Nat) (q : List Instr) : State :=
  (State.reset.withRdc { State.reset.rdc with wire := Config.wireAtReset n, resets := n }).withPending q

/-- Device reset (R208). The commands that wait stay in the model's queue. (DESIGN CHOICE, log entry 5.) -/
def execDeviceReset (s : State) : Host.Outcome State Fault Refusal := .next (resetState (s.rdc.resets + 1) s.pending)

end Sys2Proof.Machine
end

