-- ==== Sys2Proof/Machine/RawPort.lean ====
section
/-! DEFINITION. The raw side of the port: the run of a request that a taken frame names, a request of an unknown kind, and a
whole transaction as it was shifted in (R192–R195). -/

namespace Sys2Proof.Machine

/-- The run of a decoded request; an event of another line is no request and changes nothing. -/
def runRequest (i : Instr) (s : State) : Host.Outcome State Fault Refusal :=
  match i with
  | .admitVisitor f sid cls unit => execAdmit f sid cls unit s
  | .refresh f handle unit => execRefresh f handle unit s
  | .detach f handle => execDetach f handle s
  | .vread f sel name => execVread f sel name s
  | .purge f scope hnc => execPurge f scope hnc s
  | .pset f p => execPset f p s
  | .pdel f hnc => execPdel f hnc s
  | .pread f sel name => execPread f sel name s
  | .twrite f plan flags factor records => execTwrite f plan flags factor records s
  | .topen f plan => execTopen f plan s
  | .tcommit f plan check => execTcommit f plan check s
  | .tread f plan => execTread f plan s
  | .usage f handle cls dir amount link => execUsage f handle cls dir amount link s
  | .aread f sel name => execAread f sel name s
  | .settle f account => execSettle f account s
  | .collect f account => execCollect f account s
  | .uaread f => execUaread f s
  | .xfetch f => execXfetch f s
  | .xanswer f ref result units validity final => execXanswer f ref result units validity final s
  | .xfail f ref => execXfail f ref s
  | .lconf f c => execLconf f c s
  | .lenable f link => execLenable f link s
  | .ldisable f link => execLdisable f link s
  | .lmeasure f link delay loss level => execLmeasure f link delay loss level s
  | .lloss f link => execLloss f link s
  | .lhold f link => execLhold f link s
  | .lrelease f link => execLrelease f link s
  | .ldrill f link monitor duration => execLdrill f link monitor duration s
  | .lread f link clear => execLread f link clear s
  | .rconf f r => execRconf f r s
  | .rpin f route cls link => execRpin f route cls link s
  | .runpin f route cls => execRunpin f route cls s
  | .hready f route cls link => execHready f route cls link s
  | .hdone f route cls link => execHdone f route cls link s
  | .rread f route => execRread f route s
  | .lookup f handle cls => execLookup f handle cls s
  | .navconf f divisor enable => execNavconf f divisor enable s
  | .fixpost f east north quality => execFixpost f east north quality s
  | .nread f => execNread f s
  | .zset f z => execZset f z s
  | .zread f zone => execZread f zone s
  | .rmute f => execRmute f s
  | .rrelease f => execRrelease f s
  | .ucmdExclude f unit => execUcmdExclude f unit s
  | .ucmdInclude f unit => execUcmdInclude f unit s
  | .ucmdProbe f unit => execUcmdProbe f unit s
  | .uread f unit => execUread f unit s
  | .start f => execStart f s
  | .stop f => execStop f s
  | .dset f d => execDset f d s
  | .clock f time => execClock f time s
  | .ident f clear => execIdent f clear s
  | .nfetch f => execNfetch f s
  | .resync f => execResync f s
  | .unknownRequest _ _ _ _ | .frameDiscard _ | .answerRead _ | .deviceReset | .navMessage _
  | .navFramingError _ | .navBreak _ | .fixEvaluation | .purgeWalkStep | .retireTimerExpiry _ | .grantExpiry _
  | .retryWaitExpiry _ | .answerTimerExpiry _ | .staleTimerExpiry _ | .holdTimerExpiry _ | .drillTimerExpiry _
  | .prepareTimerExpiry _ _ | .bicastTimerExpiry _ _ | .releaseTimerExpiry _ _ | .positionStaleTimerExpiry
  | .muteDeadlineExpiry | .pollTimerExpiry | .commandAnswered _ | .commandNoack _ _ | .pollAnswered _ _ _
  | .pollNoack _ _ | .navByte _ | .shipTimeTick => .next s

/-- What follows a frame that passed the byte checks of R193: the request it names, BAD_ARG for a UCMD command that is none
of the three (R189), or UNKNOWN (R195). UNKNOWN comes before any length check (R213). (DEDUCED, log entry 24.) -/
def takeFrame (f : Frame) (kind : Byte) (payload : List Byte) (s : State) : Host.Outcome State Fault Refusal :=
  match requestOf f kind payload with
  | .request i => runRequest i s
  | .badCommand => .next (request f kUcmd (reply .badArg) s)
  | .unknown => .next (request f ⟨kind, f.len⟩ (reply .unknown) s)

/-- A request of a kind that names no request of the part (R195, R213). -/
def execUnknownRequest (tag : Fin 16) (clocked : Nat) (kind : Byte) (payload : List Byte) (s : State) :
    Host.Outcome State Fault Refusal :=
  takeFrame ⟨tag, payload.length, clocked⟩ kind payload s

/-- The bytes shifted in by one transaction are judged, once the outgoing answer is settled (R192, R193). (DEDUCED,
log entry 24.) -/
def execFrameDiscard (shifted : List Byte) (s : State) : Host.Outcome State Fault Refusal :=
  match judge (settleOut shifted.length s).tagBusy shifted with
  | .noRequest => .next (settleOut shifted.length s)
  | .discard c => .next (countDiscard c (settleOut shifted.length s))
  | .taken tag kind payload => takeFrame ⟨tag, payload.length, shifted.length⟩ kind payload s

end Sys2Proof.Machine
end

