-- ==== Sys2Proof/Machine/Dispatch.lean ====
section
/-! DEFINITION. The dispatch of commands to their meanings, one arm for each row of spec/opcode_table.json. -/

namespace Sys2Proof.Machine

def exec (i : Instr) (s : State) : Host.Outcome State Fault Refusal :=
  match i with
  | .admitVisitor f sid cls unit => Sys2Proof.Machine.execAdmit f sid cls unit s
  | .refresh f handle unit => Sys2Proof.Machine.execRefresh f handle unit s
  | .detach f handle => Sys2Proof.Machine.execDetach f handle s
  | .vread f sel name => Sys2Proof.Machine.execVread f sel name s
  | .purge f scope hnc => Sys2Proof.Machine.execPurge f scope hnc s
  | .pset f p => Sys2Proof.Machine.execPset f p s
  | .pdel f hnc => Sys2Proof.Machine.execPdel f hnc s
  | .pread f sel name => Sys2Proof.Machine.execPread f sel name s
  | .twrite f plan flags factor records => Sys2Proof.Machine.execTwrite f plan flags factor records s
  | .topen f plan => Sys2Proof.Machine.execTopen f plan s
  | .tcommit f plan check => Sys2Proof.Machine.execTcommit f plan check s
  | .tread f plan => Sys2Proof.Machine.execTread f plan s
  | .usage f handle cls dir amount link => Sys2Proof.Machine.execUsage f handle cls dir amount link s
  | .aread f sel name => Sys2Proof.Machine.execAread f sel name s
  | .settle f account => Sys2Proof.Machine.execSettle f account s
  | .collect f account => Sys2Proof.Machine.execCollect f account s
  | .uaread f => Sys2Proof.Machine.execUaread f s
  | .xfetch f => Sys2Proof.Machine.execXfetch f s
  | .xanswer f ref result units validity final => Sys2Proof.Machine.execXanswer f ref result units validity final s
  | .xfail f ref => Sys2Proof.Machine.execXfail f ref s
  | .lconf f c => Sys2Proof.Machine.execLconf f c s
  | .lenable f link => Sys2Proof.Machine.execLenable f link s
  | .ldisable f link => Sys2Proof.Machine.execLdisable f link s
  | .lmeasure f link delay loss level => Sys2Proof.Machine.execLmeasure f link delay loss level s
  | .lloss f link => Sys2Proof.Machine.execLloss f link s
  | .lhold f link => Sys2Proof.Machine.execLhold f link s
  | .lrelease f link => Sys2Proof.Machine.execLrelease f link s
  | .ldrill f link monitor duration => Sys2Proof.Machine.execLdrill f link monitor duration s
  | .lread f link clear => Sys2Proof.Machine.execLread f link clear s
  | .rconf f r => Sys2Proof.Machine.execRconf f r s
  | .rpin f route cls link => Sys2Proof.Machine.execRpin f route cls link s
  | .runpin f route cls => Sys2Proof.Machine.execRunpin f route cls s
  | .hready f route cls link => Sys2Proof.Machine.execHready f route cls link s
  | .hdone f route cls link => Sys2Proof.Machine.execHdone f route cls link s
  | .rread f route => Sys2Proof.Machine.execRread f route s
  | .lookup f handle cls => Sys2Proof.Machine.execLookup f handle cls s
  | .navconf f divisor enable => Sys2Proof.Machine.execNavconf f divisor enable s
  | .fixpost f east north quality => Sys2Proof.Machine.execFixpost f east north quality s
  | .nread f => Sys2Proof.Machine.execNread f s
  | .zset f z => Sys2Proof.Machine.execZset f z s
  | .zread f zone => Sys2Proof.Machine.execZread f zone s
  | .rmute f => Sys2Proof.Machine.execRmute f s
  | .rrelease f => Sys2Proof.Machine.execRrelease f s
  | .ucmdExclude f unit => Sys2Proof.Machine.execUcmdExclude f unit s
  | .ucmdInclude f unit => Sys2Proof.Machine.execUcmdInclude f unit s
  | .ucmdProbe f unit => Sys2Proof.Machine.execUcmdProbe f unit s
  | .uread f unit => Sys2Proof.Machine.execUread f unit s
  | .start f => Sys2Proof.Machine.execStart f s
  | .stop f => Sys2Proof.Machine.execStop f s
  | .dset f d => Sys2Proof.Machine.execDset f d s
  | .clock f time => Sys2Proof.Machine.execClock f time s
  | .ident f clear => Sys2Proof.Machine.execIdent f clear s
  | .nfetch f => Sys2Proof.Machine.execNfetch f s
  | .resync f => Sys2Proof.Machine.execResync f s
  | .unknownRequest tag clocked kind payload => Sys2Proof.Machine.execUnknownRequest tag clocked kind payload s
  | .frameDiscard shifted => Sys2Proof.Machine.execFrameDiscard shifted s
  | .answerRead clocked => Sys2Proof.Machine.execAnswerRead clocked s
  | .deviceReset => Sys2Proof.Machine.execDeviceReset s
  | .navMessage bytes => Sys2Proof.Machine.execNavMessage bytes s
  | .navFramingError b => Sys2Proof.Machine.execNavFramingError b s
  | .navBreak b => Sys2Proof.Machine.execNavBreak b s
  | .fixEvaluation => Sys2Proof.Machine.execFixEvaluation s
  | .purgeWalkStep => Sys2Proof.Machine.execPurgeWalkStep s
  | .retireTimerExpiry slot => Sys2Proof.Machine.execRetireTimerExpiry slot s
  | .grantExpiry slot => Sys2Proof.Machine.execGrantExpiry slot s
  | .retryWaitExpiry slot => Sys2Proof.Machine.execRetryWaitExpiry slot s
  | .answerTimerExpiry entry => Sys2Proof.Machine.execAnswerTimerExpiry entry s
  | .staleTimerExpiry link => Sys2Proof.Machine.execStaleTimerExpiry link s
  | .holdTimerExpiry link => Sys2Proof.Machine.execHoldTimerExpiry link s
  | .drillTimerExpiry link => Sys2Proof.Machine.execDrillTimerExpiry link s
  | .prepareTimerExpiry route cls => Sys2Proof.Machine.execPrepareTimerExpiry route cls s
  | .bicastTimerExpiry route cls => Sys2Proof.Machine.execBicastTimerExpiry route cls s
  | .releaseTimerExpiry route cls => Sys2Proof.Machine.execReleaseTimerExpiry route cls s
  | .positionStaleTimerExpiry => Sys2Proof.Machine.execPositionStaleTimerExpiry s
  | .muteDeadlineExpiry => Sys2Proof.Machine.execMuteDeadlineExpiry s
  | .pollTimerExpiry => Sys2Proof.Machine.execPollTimerExpiry s
  | .commandAnswered wire => Sys2Proof.Machine.execCommandAnswered wire s
  | .commandNoack failure wire => Sys2Proof.Machine.execCommandNoack failure wire s
  | .pollAnswered first second wire => Sys2Proof.Machine.execPollAnswered first second wire s
  | .pollNoack failure wire => Sys2Proof.Machine.execPollNoack failure wire s
  | .navByte b => Sys2Proof.Machine.execNavByte b s
  | .shipTimeTick => Sys2Proof.Machine.execShipTimeTick s

end Sys2Proof.Machine
end

