-- ==== Sys2Proof/Machine/TimeBase.lean ====
section
/-! DEFINITION. The part's own time base (R145, R206): what the block does on an empty queue in place of idling. The opcode
table has no row for a tick, so a tick is no command; its effects are the expiry commands it puts on the queue (log
entry 4). -/

namespace Sys2Proof.Machine

/-! ### Counting down -/

/-- A timer counted down by one unit; it stands at 0 until its expiry is taken. -/
def countDown (t : Option Nat) : Option Nat := t.map (· - 1)

/-- A link's timers of 10 ms. -/
def linkTick (l : LinkRec) : LinkRec := { l with stale := countDown l.stale }

/-- A link's timers of one second. -/
def linkSecond (l : LinkRec) : LinkRec :=
  { l with hold := countDown l.hold, drill := l.drill.map fun d => { d with timer := d.timer - 1 } }

/-- A path's timer of 10 ms (R123). -/
def pathTick (p : Path) : Path :=
  match p.state with
  | .bicast c n t => { p with state := .bicast c n (t - 1) }
  | .steady _ | .preparing _ _ _ | .releasing _ _ _ | .stranded => p

/-- A path's timers of one second (R123). -/
def pathSecond (p : Path) : Path :=
  match p.state with
  | .preparing c n t => { p with state := .preparing c n (t - 1) }
  | .releasing c r t => { p with state := .releasing c r (t - 1) }
  | .steady _ | .bicast _ _ _ | .stranded => p

/-- The three paths of a route changed by `g`. -/
def mapPaths (g : Path → Path) (r : Route) : Route :=
  { r with paths := ⟨g r.paths.voice, g r.paths.data, g r.paths.message⟩ }

/-- A visitor changed by `g`; a FREE slot is left as it is. -/
def mapVisitor (g : Visitor → Visitor) (e : Slot) : Slot := { e with visitor := e.visitor.map g }

/-- A visitor's timers of one second (R5, R68). -/
def visitorSecond (v : Visitor) : Visitor :=
  { v with retire := countDown v.retire, quota := v.quota.map fun q => { q with retry := countDown q.retry } }

/-- A visitor's timer of one minute (R68). -/
def visitorMinute (v : Visitor) : Visitor := { v with quota := v.quota.map fun q => { q with expiry := countDown q.expiry } }

/-- An exchange's answer timer (R77). -/
def exchangeSecond (e : XEntry) : XEntry := { e with ex := e.ex.map fun x => { x with timer := x.timer - 1 } }

/-- The timers of 10 ms: the stale timers of the links, the bicast timers of the paths, the mute deadline. -/
def tickHundredth (s : State) : State :=
  let s := s.withLmn { s.lmn with links := qmap linkTick s.lmn.links }
  let s := s.withRte { s.rte with routes := tmap (mapPaths pathTick) s.rte.routes }
  s.withRdc { s.rdc with deadline := countDown s.rdc.deadline }

/-- The timers of one second, and the tick of ship time. -/
def tickSecond (s : State) : State :=
  let s := s.withVrg { s.vrg with slots := tmap (mapVisitor visitorSecond) s.vrg.slots }
  let s := s.withQxu { s.qxu with entries := tmap exchangeSecond s.qxu.entries }
  let s := s.withLmn { s.lmn with links := qmap linkSecond s.lmn.links }
  let s := s.withRte { s.rte with routes := tmap (mapPaths pathSecond) s.rte.routes }
  let s := s.setPos { s.zne.pos with stale := countDown s.zne.pos.stale }
  let s := s.withRdc { s.rdc with poll := countDown s.rdc.poll }
  s.withPending (s.pending ++ [.shipTimeTick])

/-- The timers of one minute. -/
def tickMinute (s : State) : State :=
  s.withVrg { s.vrg with slots := tmap (mapVisitor visitorMinute) s.vrg.slots }

/-- One tick of 10 ms of the part's time base. -/
def tick (s : State) : State :=
  let s := tickHundredth s
  if s.base.hundredths + 1 < 100 then s.withBase { s.base with hundredths := s.base.hundredths + 1 }
  else
    let s := tickSecond s
    if s.base.seconds + 1 < 60 then s.withBase ⟨0, s.base.seconds + 1⟩ else (tickMinute s).withBase ⟨0, 0⟩

/-! ### What is due -/

/-- Whether a timer has come to 0. -/
def atZero (t : Option Nat) : Bool := t == some 0

/-- The due expiry of a link. -/
def linkDue (i : Link) (l : LinkRec) : Option Instr :=
  if atZero l.stale then some (.staleTimerExpiry i)
  else if atZero l.hold then some (.holdTimerExpiry i)
  else if atZero (l.drill.map (·.timer)) then some (.drillTimerExpiry i)
  else none

/-- The due expiry of a path. -/
def pathDue (r : Nat) (c : TrafficClass) (p : Path) : Option Instr :=
  match p.state with
  | .preparing _ _ 0 => some (.prepareTimerExpiry r c)
  | .bicast _ _ 0 => some (.bicastTimerExpiry r c)
  | .releasing _ _ 0 => some (.releaseTimerExpiry r c)
  | .preparing _ _ (_ + 1) | .bicast _ _ (_ + 1) | .releasing _ _ (_ + 1) | .steady _ | .stranded => none

/-- The due expiry of a route's paths. -/
def routeDue (e : Nat × Route) : Option Instr := classes.findSome? fun c => pathDue e.1 c (cget e.2.paths c)

/-- The due expiry of the radio controller. -/
def radioDue (r : Rdc) : Option Instr :=
  if atZero r.deadline then some .muteDeadlineExpiry else if atZero r.poll then some .pollTimerExpiry else none

/-- The due expiry of a visitor. -/
def visitorDue (e : Nat × Slot) : Option Instr :=
  match e.2.visitor with
  | some v =>
    if atZero v.retire then some (.retireTimerExpiry e.1)
    else if atZero (v.quota.bind (·.expiry)) then some (.grantExpiry e.1)
    else if atZero (v.quota.bind (·.retry)) then some (.retryWaitExpiry e.1)
    else none
  | none => none

/-- The due expiry of an exchange. -/
def exchangeDue (e : Nat × XEntry) : Option Instr :=
  match e.2.ex with
  | some x => if x.timer = 0 then some (.answerTimerExpiry e.1) else none
  | none => none

/-- What the blocks do on their own before the next tick: the first timer at 0, then a fix that waits (R152), then a purge
in flight (R26). The order among them is the model's (log entry 4). (DESIGN CHOICE.) -/
def State.due (s : State) : Option Instr :=
  match allLinks.findSome? fun i => linkDue i (s.link i) with
  | some c => some c
  | none =>
    match s.rte.routes.findSome? routeDue with
    | some c => some c
    | none =>
      match radioDue s.rdc with
      | some c => some c
      | none =>
        if atZero s.zne.pos.stale then some .positionStaleTimerExpiry
        else
          match s.vrg.slots.findSome? visitorDue with
          | some c => some c
          | none =>
            match s.qxu.entries.findSome? exchangeDue with
            | some c => some c
            | none =>
              if !s.zne.fifo.isEmpty then some .fixEvaluation
              else if s.vrg.purge.isSome then some .purgeWalkStep
              else none

/-- What the block does on an empty queue: it puts what is due on the queue, and otherwise its time base ticks.
(DESIGN CHOICE, log entry 4.) -/
def idle (s : State) : State :=
  match s.due with
  | some c => s.withPending (s.pending ++ [c])
  | none => tick s

end Sys2Proof.Machine
end

