-- ==== Sys2Proof/WellFormed.lean ====
section
/-! DEFINITION. When a command is one the outside can send: its frame is whole and its indices name something. Every
command has a meaning, the ill-formed ones included; these checks say which commands the encodings allow. -/

namespace Sys2Proof

/-- A frame carries the length its kind calls for and the transaction is long enough to carry the frame (R193, R213). -/
def frameFits (f : Frame) (k : RequestKind) : Bool := f.len == k.len && decide (k.len ≤ 120) && decide (k.len + 6 ≤ f.clocked)

/-- The failures a write transaction can report: R168 names STATUS for POLL alone, and BUS is the part's own finding. -/
def writeFailure : BusFailure → Bool
  | .address | .command | .argument => true
  | .status | .bus => false

/-- The failures a POLL can report (R168). -/
def pollFailure : BusFailure → Bool
  | .address | .command | .status => true
  | .argument | .bus => false

/-- The check of a command that is not a request; a request is checked by its frame. -/
def eventFits : Instr → Bool
  | .unknownRequest tag clocked kind payload =>
      decide (payload.length ≤ 120) && decide (payload.length + 6 ≤ clocked) &&
        (match requestOf ⟨tag, payload.length, clocked⟩ kind payload with | .request _ => false | _ => true)
  | .frameDiscard bs => (match judge (fun _ => true) bs with | .discard _ => true | _ => false)
  | .navMessage bytes => !bytes.isEmpty && bytes.all (fun b =>
      match lineOutcome b with | .good _ | .noisy _ => true | _ => false)
  | .navByte b => (match lineOutcome b with | .good _ | .noisy _ => true | _ => false)
  | .navFramingError b => lineOutcome b == .framing
  | .navBreak b => lineOutcome b == .broken
  | .retireTimerExpiry slot | .grantExpiry slot | .retryWaitExpiry slot => decide (slot < Config.visitorSlots)
  | .answerTimerExpiry entry => decide (entry < Config.exchanges)
  | .prepareTimerExpiry route _ | .bicastTimerExpiry route _ | .releaseTimerExpiry route _ =>
      decide (route < Config.routes)
  | .commandNoack failure _ => writeFailure failure
  | .pollNoack failure _ => pollFailure failure
  | .pollAnswered first second _ => second == ~~~first
  | _ => true

/-- Whether a command is well formed. -/
def wellFormed (i : Instr) : Bool :=
  match payloadOf i with
  | some (f, k, _) => frameFits f k
  | none => eventFits i

end Sys2Proof
end

