-- ==== Sys2Proof/Safety.lean ====
section
/-! DEFINITION. The terms the statements about the machine are made of: when the port takes a request, what a command leaves
alone, and the invariants a step keeps. -/

namespace Sys2Proof.Machine

/-! ### Taking a request -/

/-- The frame of a request of a kind passes the checks of R193 and R195: it carries the kind's length, the transaction is
long enough for it, and its tag is FREE once the outgoing answer is settled (R192–R195). -/
abbrev Takes (f : Frame) (k : RequestKind) (s : State) : Prop :=
  f.len = k.len ∧ f.len ≤ 120 ∧ f.len + 6 ≤ f.clocked ∧ (settleOut f.clocked s).tagBusy f.tag = false

/-- The bytes `i` to `i + n − 1` of a payload. -/
def slice (i n : Nat) (p : List Byte) : List Byte := (p.drop i).take n

/-- The kinds of request of the part (R212). -/
def requestKinds : List Byte :=
  [0x10, 0x11, 0x12, 0x13, 0x14, 0x20, 0x21, 0x22, 0x24, 0x25, 0x26, 0x27, 0x30, 0x31, 0x32, 0x33, 0x34, 0x40, 0x41, 0x42,
    0x50, 0x51, 0x52, 0x53, 0x54, 0x55, 0x56, 0x57, 0x58, 0x60, 0x61, 0x62, 0x63, 0x64, 0x65, 0x66, 0x70, 0x71, 0x72, 0x73,
    0x74, 0x80, 0x81, 0x82, 0x83, 0x90, 0x91, 0x92, 0x93, 0x94, 0x95, 0x96]

/-! ### What a command leaves alone -/

/-- The port is as it was but for notices: tags, answers, discard counts, mode, settings and ship time stand. -/
def PortKept (s t : State) : Prop := t.rqp = { s.rqp with notices := t.rqp.notices, overflow := t.rqp.overflow }

/-- No notice in the queue was lost or changed; new ones stand behind it (R198). -/
def NoticesKept (s t : State) : Prop := ∃ new, t.rqp.notices = s.rqp.notices ++ new

/-- The notices given between two states are exactly these, where the queue has room for them. -/
def Gives (s t : State) (new : List Notice) : Prop :=
  s.rqp.notices.length + new.length ≤ 128 → t.rqp.notices = s.rqp.notices ++ new ∧ t.rqp.overflow = s.rqp.overflow

/-- A path's configuration stands: its preference list and its pin. Its state and its reason may move. -/
def pathKept (p q : Path) : Prop := q.prefs = p.prefs ∧ q.pin = p.pin

/-- The routes' settings, preference lists and pins stand; path states and reasons may move. -/
def RoutesKept (s t : State) : Prop :=
  ∀ r, (t.route r).bicast = (s.route r).bicast ∧ (t.route r).prepare = (s.route r).prepare ∧
    (t.route r).release = (s.route r).release ∧ ∀ c, pathKept (s.path r c) (t.path r c)

/-- The blocks the visitor side of the part does not touch: links, routes, zones, radio, time base and the command queue. -/
def OutsideVisitors (s t : State) : Prop :=
  t.lmn = s.lmn ∧ t.rte = s.rte ∧ t.zne = s.zne ∧ t.rdc = s.rdc ∧ t.base = s.base ∧ t.pending = s.pending

/-- The blocks the route engine does not touch. -/
def OutsideRoutes (s t : State) : Prop :=
  t.vrg = s.vrg ∧ t.chu = s.chu ∧ t.qxu = s.qxu ∧ t.lmn = s.lmn ∧ t.zne = s.zne ∧ t.rdc = s.rdc ∧ t.base = s.base ∧
    t.pending = s.pending

/-- The records the visitor side keeps are as they were, but for the owed EXCHANGE notice (R79). -/
def VisitorsKept (s t : State) : Prop :=
  t.vrg = s.vrg ∧ t.chu = s.chu ∧ t.qxu = { s.qxu with owed := t.qxu.owed }

/-- A link's state has changed with a cause (R103): the link holds the record given, the other links are as they were, the
first new notice is the LINK notice with the old state, the new state, the new hold cause and the cause, and the port, the
routes' configuration, the zones and the radio stand. Behind the LINK notice, an entry into HELD or OFF fails each SENT
exchange on the link (R89), an entry into UP or DEGRADED of a link that is eligible for exchanges gives an owed EXCHANGE
notice (R79), and every path is reselected with reason LINK (R131). -/
def LinkMoved (s t : State) (i : Link) (l : LinkRec) (cause : Byte) : Prop :=
  let old := (s.link i).state
  let inUse := fun st => st = LinkState.up ∨ st = .degraded
  let left := (l.state = .off ∧ old ≠ .off) ∨ ((∃ c, l.state = .held c) ∧ ∀ c, old ≠ .held c)
  let entered := inUse l.state ∧ ¬ inUse old ∧ i ∈ s.settings.control ∧ s.permitInForce.getLsbD i.val = true
  let told := giveNotice .link (.link i) 1 (linkStateByte old) (linkStateByte l.state) (holdCauseByte l.state) cause 0
    (s.setLink i l)
  t.lmn = { s.lmn with links := qset s.lmn.links i l } ∧
    (s.rqp.notices.length < 128 → ∃ more, t.rqp.notices = s.rqp.notices ++
      ⟨.link, .link i, 1, linkStateByte (s.link i).state, linkStateByte l.state, holdCauseByte l.state, cause, 0,
        s.rqp.shipTime⟩ :: more) ∧
    PortKept s t ∧ RoutesKept s t ∧ t.zne = s.zne ∧ t.rdc = s.rdc ∧ t.base = s.base ∧ t.pending = s.pending ∧
    (left → t = reselectAll .link (linksLeave (fun k => k == i) told)) ∧
    (entered → t = reselectAll .link (giveOwed told)) ∧
    (¬ left → ¬ entered → t = reselectAll .link told)

/-- Links have left eligibility (R89): visitors, accounts and exchanges are as the failure of the SENT exchanges on them
leaves them, but for the owed EXCHANGE notice (R79). -/
def LinksLost (lost : Link → Bool) (s t : State) : Prop :=
  let u := linksLeave lost s
  t.vrg = u.vrg ∧ t.chu = u.chu ∧ t.qxu = { u.qxu with owed := t.qxu.owed }

/-- Whether the radio state is MUTED or MUTING. -/
def silencing (r : RadioState) : Bool :=
  match r with
  | .muted | .muting => true
  | .unmuting | .serving => false

/-- Steps 2 and 3 of R166: with the permit mask in force as it was, nothing. Otherwise the SENT exchanges on each link that
left it fail (R89), one owed EXCHANGE notice is given where a link of the control preference list entered it while UP or
DEGRADED (R79), and every path is reselected with reason ZONE (R131). -/
def PermitHandedOn (old new : LinkSet) (s t : State) : Prop :=
  let lost := fun l : Link => old.getLsbD l.val && !new.getLsbD l.val
  let entered := ∃ l ∈ s.settings.control, new.getLsbD l.val = true ∧ old.getLsbD l.val = false ∧
    ((s.link l).state = .up ∨ (s.link l).state = .degraded)
  (new = old → t = s) ∧
  (new ≠ old → t = reselectAll .zone ((open Classical in if entered then giveOwed else id) (linksLeave lost s)))

/-- Step 4 of R166, for a radio policy in force that has turned: with the operator mute set, or the radio already the way
of the policy, nothing. Otherwise MUTING or UNMUTING begins, with cause POLICY, and the arbiter runs (R172, R175). -/
def PolicyHandedOn (s t : State) : Prop :=
  let stands := s.rdc.opMute = true ∨ (silencing s.rdc.radio = true ↔ s.policyInForce = .mute)
  (stands → t = s) ∧
  (¬ stands → t = settleBus (match s.policyInForce with
    | .mute => beginMuting .policy s
    | .serve => beginUnmuting .policy s))

/-- A link has left eligibility with the record given (R89, R103): visitors, accounts and exchanges are as the failure of
the SENT exchanges on it leaves them. -/
def LinkLeft (s t : State) (i : Link) (l : LinkRec) : Prop :=
  let u := linksLeave (fun k => k == i) (s.setLink i l)
  t.vrg = u.vrg ∧ t.chu = u.chu ∧ t.qxu = u.qxu

/-- A path as an outcome of R133 leaves it, with its one HANDOVER notice: detail, from, to, and the path's reason. -/
def movedPath (r : Nat) (c : TrafficClass) (st : PathState) (why : Option MoveReason) (detail : Byte) (a b : Option Link)
    (s : State) : State :=
  giveNotice .handover (.path r c) detail (optLink a) (optLink b) (optByte (why.map moveReasonByte)) 0 0
    (s.setPath r c { s.path r c with state := st, reason := why })

/-! ### The credit of a visitor (R70, R72, R78) -/

/-- The reorder level of a visitor: its partner's reorder level in per mille of the last grant, rounded down (R72). -/
def reorderAt (s : State) (v : Visitor) (q : Quota) : Int :=
  ((((v.partner.bind s.partner).map (·.reorder)).getD 0 * q.lastGrant / 1000 : Nat) : Int)

/-- The gate by R70, where an exchange that is called for has been asked for: SHUT while the retry wait runs, OPEN with
remaining above 0, WAIT with an exchange outstanding, deferred or still to be had, and SHUT otherwise. -/
def gateAfter (v : Visitor) (q : Quota) : Gate :=
  if q.retry.isSome then .shut
  else if 0 < q.remaining then .opened
  else if v.xref.isSome ∨ v.deferred = true ∨ q.final = false then .waiting
  else .shut

/-- A QUOTA exchange has been asked for, for the visitor `v` in a slot, which is `w` afterwards (R77–R79, R96), after the
notices `told`. It takes the lowest free entry of the table: TO_SEND at attempt 1 with the contents of its kind, at the tail
of the creation order, its notice given where a link of the control preference list is eligible and owed otherwise. With no
entry free the visitor joins the deferred list behind those that wait for an AUTHORIZE or a QUOTA exchange. -/
def QuotaAsked (s t : State) (i : Nat) (v w : Visitor) (told : List Notice) : Prop :=
  let linked := ∃ l ∈ s.settings.control, s.eligible l = true
  (∀ j < 64, (s.entry j).ex = none → (∀ m < j, (s.entry m).ex.isSome) →
    w.xref = some ⟨j, (s.entry j).use + 1⟩ ∧ w.deferred = false ∧
    t.entry j = ⟨(s.entry j).use + 1, some
      { kind := .quota, slot := i, gen := (s.slot i).gen, account := (s.slot i).account.getD 0, sent := false,
        second := false, link1 := none, link2 := none, timer := s.settings.timeout, sid := (s.slot i).sid.getD [],
        cls := v.cls, request := ((v.partner.bind s.partner).map (·.request)).getD 0, reported := none }⟩ ∧
    (∀ m, m ≠ j → t.entry m = s.entry m) ∧ t.qxu.order = s.qxu.order ++ [j] ∧ t.qxu.deferred = s.qxu.deferred ∧
    (linked → t.qxu.owed = s.qxu.owed ∧
      Gives s t (told ++ [⟨.exchange, .exchange j, 1, 1, 1, (s.entry j).use + 1, 0, 0, s.rqp.shipTime⟩])) ∧
    (¬ linked → t.qxu.owed = true ∧ Gives s t told)) ∧
  ((∀ j < 64, (s.entry j).ex.isSome) → w.xref = v.xref ∧ w.deferred = true ∧
    t.qxu = { s.qxu with deferred := t.qxu.deferred } ∧ Gives s t told ∧
    ∃ a b, s.qxu.deferred = a ++ b ∧ t.qxu.deferred = a ++ ⟨i, .quota⟩ :: b ∧ (∀ x ∈ a, x.kind ≠ .final) ∧
      ∀ x ∈ b.head?, x.kind = .final)

/-- How an event leaves the credit of the visitor in a slot (R70): the visitor is `v` with the quota part `q`, the gate by
R70, and a QUOTA exchange asked for where `asks` says, and nothing else of the exchange unit moves where it does not; a gate
that becomes SHUT for want of credit gives its notice with cause FINAL (R71), after the notices `told`. -/
def CreditSettled (s t : State) (i : Nat) (v : Visitor) (q : Quota) (asks : Prop) (told : List Notice) : Prop :=
  let gate := gateAfter v q
  let shuts := q.retry = none ∧ gate = .shut ∧ q.gate ≠ .shut
  ∃ w, t.slot i = { s.slot i with visitor := some w } ∧
    w = { v with quota := some { q with gate := gate }, xref := w.xref, deferred := w.deferred } ∧
    (asks → QuotaAsked s t i v w told) ∧
    (¬ asks → w.xref = v.xref ∧ w.deferred = v.deferred ∧ t.qxu = s.qxu ∧
      (shuts → Gives s t (told ++ [⟨.visitor, .slot i, 6, 0, 0, 0, 0, 0, s.rqp.shipTime⟩])) ∧
      (¬ shuts → Gives s t told))

/-! ### The time base and a purge -/

/-- A timer stands at 0, a fix waits or a purge is in flight, and this is the command it calls for (log entry 4). -/
def Due (s : State) : Instr → Prop
  | .staleTimerExpiry i => (s.link i).stale = some 0
  | .holdTimerExpiry i => (s.link i).hold = some 0
  | .drillTimerExpiry i => ∃ d, (s.link i).drill = some d ∧ d.timer = 0
  | .prepareTimerExpiry r c => ∃ a b, (s.path r c).state = .preparing a b 0
  | .bicastTimerExpiry r c => ∃ a b, (s.path r c).state = .bicast a b 0
  | .releaseTimerExpiry r c => ∃ a b, (s.path r c).state = .releasing a b 0
  | .muteDeadlineExpiry => s.rdc.deadline = some 0
  | .pollTimerExpiry => s.rdc.poll = some 0
  | .positionStaleTimerExpiry => s.zne.pos.stale = some 0
  | .retireTimerExpiry i => ∃ v, s.visitor i = some v ∧ v.retire = some 0
  | .grantExpiry i => ∃ q, s.quota i = some q ∧ q.expiry = some 0
  | .retryWaitExpiry i => ∃ q, s.quota i = some q ∧ q.retry = some 0
  | .answerTimerExpiry i => ∃ x, (s.entry i).ex = some x ∧ x.timer = 0
  | .fixEvaluation => s.zne.fifo ≠ []
  | .purgeWalkStep => s.vrg.purge.isSome
  | _ => False

/-- No purge in flight makes an admission BUSY that would have this partner (R7 check 4). -/
def NotPurged (s : State) (partner : Option Nat) : Prop :=
  ∀ p, s.vrg.purge = some p → p.scope ≠ .all ∧ ∀ i, p.scope = .partner i → partner ≠ some i

/-! ### What two requests store -/

/-- The record a PSET stores, each amount at the nearest limit of its range (R34), for a visitor count. -/
def storedPartner (p : PsetFields) (d : Digits) (adm : Admission) (cf : CheckFail) (ch : Charging) (n : Nat) : Partner :=
  ⟨d, adm, cf, ch, p.plan.toNat, p.route.toNat, min 1000000000 p.grace.toNat,
    max 1 (min 1000000000 p.request.toNat), min 999 p.reorder.toNat, max 10 (min 3600 p.retryWait.toNat), n⟩

/-- No amount of a PSET lies outside its range (R34). -/
abbrev partnerInRange (p : PsetFields) : Prop :=
  p.grace.toNat ≤ 1000000000 ∧ 1 ≤ p.request.toNat ∧ p.request.toNat ≤ 1000000000 ∧ p.reorder.toNat ≤ 999 ∧
    10 ≤ p.retryWait.toNat ∧ p.retryWait.toNat ≤ 3600

/-- The record of a plan for a tariff zone and a class. -/
def planRate (p : Plan) (z : TariffZone) (c : TrafficClass) : Rate := cget (qget p.rates z) c

/-! ### Invariants -/

/-- Every numbered table is in its one canonical form. -/
abbrev Canonical (s : State) : Prop :=
  canonical false s.rqp.busy = true ∧ canonical slotReset s.vrg.slots = true ∧ canonical none s.chu.partners = true ∧
    canonical planReset s.chu.plans = true ∧ canonical none s.chu.accounts = true ∧
    canonical xentryReset s.qxu.entries = true ∧ canonical routeReset s.rte.routes = true ∧
    canonical zoneReset s.zne.zones = true ∧ canonical unitReset s.rdc.units = true

/-- A path state in which a second link is present has two different links (R123). -/
def twoLinks : PathState → Prop
  | .preparing c n _ => c ≠ n
  | .bicast c n _ => c ≠ n
  | .releasing c r _ => c ≠ r
  | .steady _ | .stranded => True

/-- Every path that names two links names two different ones. -/
def PathShape (s : State) : Prop := ∀ r c, twoLinks (s.path r c).state

/-- An OPEN data gate has credit behind it, waits for nothing, and belongs to a visitor that is present (R70, R71, R76). -/
def GateSound (s : State) : Prop :=
  ∀ i v q, s.visitor i = some v → v.quota = some q → q.gate = .opened →
    0 < q.remaining ∧ q.retry = none ∧ v.state ≠ .departing

/-- The radio controller obeys the effective policy (R175–R181): in CONFIG the position is NO_FIX and a probe runs in
CONFIG alone; the radio state is MUTED or MUTING exactly while the effective policy is MUTE; then RFOFF covers every unit
that is UNRESPONSIVE or EXCLUDED and no unit holds an UNMUTE mark; in MUTED no unit is SERVING and no UNMUTE is on the
bus; in MUTING every unit that is SERVING still has its MUTE to come; an EXCLUDED unit holds no mark. -/
def RadioSafe (s : State) : Prop :=
  (s.rqp.mode = .config → s.zne.pos.state = .noFix) ∧
  (s.rdc.probe.isSome → s.rqp.mode = .config) ∧
  (silencing s.rdc.radio = true ↔ s.effectivePolicy = .mute) ∧
  (silencing s.rdc.radio = true → ∀ u < 16,
    (((s.unit u).state = .unresponsive ∨ (s.unit u).state = .excluded) → s.rdc.rfoff = true) ∧
      isUnmute (s.unit u).mark = false) ∧
  (s.rdc.radio = .muted → (∀ u < 16, (s.unit u).state ≠ .serving) ∧ ∀ u a, s.rdc.onBus ≠ some (u, .unmute a)) ∧
  (s.rdc.radio = .muting → ∀ u < 16, (s.unit u).state = .serving →
    isMute (s.unit u).mark = true ∨ ∃ a, s.rdc.onBus = some (u, .mute a)) ∧
  ∀ u < 16, (s.unit u).state = .excluded → (s.unit u).mark = none

end Sys2Proof.Machine
end

