-- ==== Sys2Proof/Certificates/Slice0/Obligations.lean ====
section
/-! DEFINITION. The statements about the machine, one definition each: the port and the mode, then the blocks chapter by
chapter, then the invariants. Where a statement speaks of a request, `arrive f s` is the state in which the request's frame
has been taken: the outgoing answer settled and the tag BUSY. -/

open Sys2Proof Sys2Proof.Machine

/-! ### The step, the port and the mode -/

/-- A step runs the command at the front of the queue on the state that holds the rest of the queue. -/
def Obligations.StepRunsFrontCommand : Prop :=
  ∀ (s : State) (c : Instr) (rest : List Instr), s.pending = c :: rest → step s = exec c (s.withPending rest)

/-- A request whose frame is cut short or too long is discarded with FRAME, one whose tag is BUSY with CLASH unless it is
RESYNC, and one with another length than its kind's is answered BAD_LENGTH; none of the three does anything else but settle
the outgoing answer (R193, R195, R213). -/
def Claims.RequestTurnedAway : Prop :=
  ∀ (i : Instr) (f : Frame) (k : RequestKind) (p : List Byte) (s : State), payloadOf i = some (f, k, p) →
    (120 < f.len ∨ f.clocked < f.len + 6 → exec i s = .next (countDiscard .frame (settleOut f.clocked s))) ∧
    (f.len ≤ 120 → f.len + 6 ≤ f.clocked → (settleOut f.clocked s).tagBusy f.tag = true → k.code ≠ 0x96 →
      exec i s = .next (countDiscard .clash (settleOut f.clocked s))) ∧
    (f.len ≤ 120 → f.len + 6 ≤ f.clocked → (settleOut f.clocked s).tagBusy f.tag = false → f.len ≠ k.len →
      exec i s = .next (pushAnswer k.code f.tag [0x21] (arrive f s)))

/-- Reading an answer (R192): the oldest answer, or the empty frame, is shifted out from its first byte with FFh behind
it; an answer all of whose bytes were clocked leaves the queue and its tag becomes FREE; a shorter read leaves queue and
tags alone; nothing else changes. -/
def Obligations.AnswerRead : Prop :=
  ∀ (n : Nat) (s : State), ∃ t, exec (.answerRead n) s = .next t ∧ t = s.withRqp t.rqp ∧
    t.rqp = { s.rqp with answers := t.rqp.answers, busy := t.rqp.busy, shiftedOut := t.rqp.shiftedOut } ∧
    (s.rqp.answers = [] → t.rqp.answers = [] ∧ t.rqp.busy = s.rqp.busy ∧
      t.rqp.shiftedOut = ([0x5A, 0, 0, 0] ++ beBytes 2 (crc16 [0, 0, 0]).toNat ++ List.replicate n 0xFF).take n) ∧
    ∀ a rest, s.rqp.answers = a :: rest →
      t.rqp.shiftedOut = (frameBytes 0x5A a.kind (BitVec.ofNat 8 a.tag.val) a.payload ++ List.replicate n 0xFF).take n ∧
      (a.payload.length + 6 ≤ n → t.rqp.answers = rest ∧ t.tagBusy a.tag = false ∧
        ∀ g, g ≠ a.tag → t.tagBusy g = s.tagBusy g) ∧
      (n < a.payload.length + 6 → t.rqp.answers = s.rqp.answers ∧ t.rqp.busy = s.rqp.busy)

/-- The checks of R193 in their order: a transaction that carries a request is discarded at the first check it fails, with
that check's count raised up to 65,535, no answer and no other effect; one that passes them all is taken. -/
def Claims.FrameChecks : Prop :=
  ∀ (bs : List Byte) (s : State), (∃ b ∈ bs, b ≠ 0xFF#8) →
    let u := settleOut bs.length s
    let n := (byteAt bs 3).toNat
    let badFrame := bs.length < 6 ∨ 120 < n ∨ bs.length < n + 6 ∨ ∃ b ∈ bs.drop (n + 6), b ≠ 0xFF#8
    let goodCrc := crc16 (slice 1 (n + 3) bs) = fieldAt 16 2 bs (n + 4)
    (byteAt bs 0 ≠ 0xA5#8 →
      exec (.frameDiscard bs) s = .next (u.withRqp { u.rqp with dSync := min 65535 (u.rqp.dSync + 1) })) ∧
    (byteAt bs 0 = 0xA5#8 → badFrame →
      exec (.frameDiscard bs) s = .next (u.withRqp { u.rqp with dFrame := min 65535 (u.rqp.dFrame + 1) })) ∧
    (byteAt bs 0 = 0xA5#8 → ¬ badFrame → ¬ goodCrc →
      exec (.frameDiscard bs) s = .next (u.withRqp { u.rqp with dCrc := min 65535 (u.rqp.dCrc + 1) })) ∧
    (byteAt bs 0 = 0xA5#8 → ¬ badFrame → goodCrc → 15 < (byteAt bs 2).toNat →
      exec (.frameDiscard bs) s = .next (u.withRqp { u.rqp with dFrame := min 65535 (u.rqp.dFrame + 1) })) ∧
    ∀ tag : Fin 16, byteAt bs 0 = 0xA5#8 → ¬ badFrame → goodCrc → (byteAt bs 2).toNat = tag.val →
      (u.tagBusy tag = true → byteAt bs 1 ≠ 0x96#8 →
        exec (.frameDiscard bs) s = .next (u.withRqp { u.rqp with dClash := min 65535 (u.rqp.dClash + 1) })) ∧
      (u.tagBusy tag = false ∨ byteAt bs 1 = 0x96#8 →
        exec (.frameDiscard bs) s = takeFrame ⟨tag, n, bs.length⟩ (byteAt bs 1) (slice 4 n bs) s)

/-- A taken frame of a kind that names no request is answered UNKNOWN whatever its length, under its own kind and tag, and
changes nothing else (R195, R213); a UCMD whose command byte is none of its three is answered BAD_ARG (R189). -/
def Claims.UnknownKind : Prop :=
  ∀ (tag : Fin 16) (n : Nat) (kind : Byte) (p : List Byte) (s : State), p.length ≤ 120 → p.length + 6 ≤ n →
    (settleOut n s).tagBusy tag = false →
    (kind ∉ requestKinds → exec (.unknownRequest tag n kind p) s =
      .next (pushAnswer kind tag [0x22] (arrive ⟨tag, p.length, n⟩ s))) ∧
    (kind = 0x82#8 → p.length = 2 → 2 < (byteAt p 1).toNat → exec (.unknownRequest tag n kind p) s =
      .next (pushAnswer 0x82 tag [0x20] (arrive ⟨tag, p.length, n⟩ s)))

/-- What a taken frame runs (R193–R195, R212, R213). A kind that names a request, a UCMD command among its three, is run as
the request it spells: `exec` of it, whose payload, where its length is the kind's, is the frame's byte for byte. A kind
that names none is answered UNKNOWN, and a UCMD of the right length with another command byte BAD_ARG (R189), with nothing
else changed. So the transaction that carries a well-formed request, judged as bytes, runs that request. (That the bytes
are judged once the outgoing answer is settled, and UNKNOWN found before the length, is log entry 24, DEDUCED.) -/
def Claims.FrameTaken : Prop :=
  (∀ (f : Frame) (kind : Byte) (p : List Byte) (s : State),
    (kind ∈ requestKinds → (kind = 0x82#8 → (byteAt p 1).toNat ≤ 2) → ∃ i k q, payloadOf i = some (f, k, q) ∧
      k.code = kind ∧ (p.length = k.len → q = p) ∧ takeFrame f kind p s = exec i s) ∧
    (f.len ≤ 120 → f.len + 6 ≤ f.clocked → (settleOut f.clocked s).tagBusy f.tag = false →
      (kind ∉ requestKinds → takeFrame f kind p s = .next (pushAnswer kind f.tag [0x22] (arrive f s))) ∧
      (kind = 0x82#8 → 2 < (byteAt p 1).toNat → f.len = 2 →
        takeFrame f kind p s = .next (pushAnswer 0x82 f.tag [0x20] (arrive f s))))) ∧
  ∀ (i : Instr) (f : Frame) (k : RequestKind) (p bs : List Byte) (s : State), payloadOf i = some (f, k, p) →
    wellFormed i = true → transactionOf i = some bs →
    (settleOut f.clocked s).tagBusy f.tag = false ∨ k.code = 0x96 → exec (.frameDiscard bs) s = exec i s

/-- The checks a request passes before it is taken, and what a frame that passes them runs. -/
def Obligations.PortChecks : Prop :=
  Claims.RequestTurnedAway ∧ Claims.FrameChecks ∧ Claims.UnknownKind ∧ Claims.FrameTaken

/-- RESYNC (R197) is taken whatever the state of its tag: afterwards its own OK stands alone in the answer queue and its own
tag alone is BUSY, a purge walk and a presence probe in flight go on with their answers marked to be discarded, and nothing
else changes but what the settled outgoing answer changed. -/
def Obligations.Resync : Prop :=
  ∀ (f : Frame) (s : State), f.len = 0 → 6 ≤ f.clocked → ∃ t, exec (.resync f) s = .next t ∧
    t.rqp.answers = [⟨0x96, f.tag, [0x00]⟩] ∧ (∀ g, t.tagBusy g = decide (g = f.tag)) ∧
    t.vrg = { s.vrg with purge := s.vrg.purge.map fun p => { p with req := { p.req with dropped := true } } } ∧
    t.rdc = { s.rdc with probe := s.rdc.probe.map fun r => { r with dropped := true } } ∧
    t.rqp = { s.rqp with answers := t.rqp.answers, busy := t.rqp.busy, shiftedOut := t.rqp.shiftedOut } ∧
    t.chu = s.chu ∧ t.qxu = s.qxu ∧ t.lmn = s.lmn ∧ t.rte = s.rte ∧ t.zne = s.zne ∧ t.base = s.base ∧ t.pending = s.pending

/-- A notice given while the queue holds fewer than 128 joins its tail with the ship time; one given while it holds 128 or
more is dropped and sets the overflow mark; the notices held are kept (R198). -/
def Claims.NoticeGiven : Prop :=
  ∀ (k : NoticeKind) (x : Subject) (d v1 v2 v3 v4 v5 : Byte) (s : State),
    (s.rqp.notices.length < 128 → giveNotice k x d v1 v2 v3 v4 v5 s =
      s.withRqp { s.rqp with notices := s.rqp.notices ++ [⟨k, x, d, v1, v2, v3, v4, v5, s.rqp.shipTime⟩] }) ∧
    (128 ≤ s.rqp.notices.length → giveNotice k x d v1 v2 v3 v4 v5 s = s.withRqp { s.rqp with overflow := true })

/-- NFETCH takes up to 8 notices from the head of the queue, answers their number, the overflow mark as it stood, the number
left and the notices in queue order, 14 bytes each, and clears the mark (R199, R228). -/
def Claims.FetchNotices : Prop :=
  ∀ (f : Frame) (s : State), Takes f kNfetch s →
    let q := s.rqp.notices
    exec (.nfetch f) s = .next (pushAnswer 0x95 f.tag
      ([0x00, BitVec.ofNat 8 (min 8 q.length), if s.rqp.overflow then 1 else 0, BitVec.ofNat 8 (q.length - 8)] ++
        (q.take 8).flatMap noticeBytes)
      ((arrive f s).withRqp { (arrive f s).rqp with notices := q.drop 8, overflow := false })) ∧
    ∀ n : Notice, (noticeBytes n).length = 14 ∧ beNat (slice 10 4 (noticeBytes n)) = n.time.toNat ∧
      slice 4 6 (noticeBytes n) = [n.detail, n.v1, n.v2, n.v3, n.v4, n.v5]

/-- ALERT is asserted exactly while some notice in the queue is of a kind that the alert mask does not name, bit k − 1 for
the kind of code k (R200, R217); AREADY exactly while the answer queue holds an answer (R196). -/
def Claims.PortLines : Prop :=
  ∀ s : State,
    (s.alert = true ↔ ∃ n ∈ s.rqp.notices,
      s.rqp.settings.alertMask.getLsbD (match n.kind with
        | .visitor => 0 | .exchange => 1 | .link => 2 | .handover => 3 | .zone => 4 | .radio => 5 | .account => 6) = false) ∧
    (s.aready = true ↔ s.rqp.answers ≠ [])

/-- The notice queue and the lines that follow the queues. -/
def Obligations.Notices : Prop := Claims.NoticeGiven ∧ Claims.FetchNotices ∧ Claims.PortLines

/-- CLOCK answers the ship time as it stood and sets the new value; the tick of ship time adds 1 and wraps from
4,294,967,295 to 0; neither moves anything else (R206). -/
def Claims.ShipTime : Prop :=
  (∀ (f : Frame) (time : BitVec 32) (s : State), Takes f kClock s →
    exec (.clock f time) s = .next (pushAnswer 0x93 f.tag ([0x00] ++ beBytes 4 s.rqp.shipTime.toNat)
      ((arrive f s).withRqp { (arrive f s).rqp with shipTime := time }))) ∧
  ∀ s : State, ∃ t, exec .shipTimeTick s = .next t ∧ t = s.withRqp { s.rqp with shipTime := t.rqp.shipTime } ∧
    t.rqp.shipTime.toNat = if s.rqp.shipTime.toNat = 4294967295 then 0 else s.rqp.shipTime.toNat + 1

/-- IDENT answers OK with the identity, the capacities, the mode, the four discard counts, the BUSY tags, the notice queue
and its mark, the ALERT line, the FREE accounts, the exchanges in the table, TO_SEND and SENT, the deferred visitors and
ship time, as they stood, and sets the four discard counts to 0 if bit 0 of its clear byte is set; it changes nothing else
(R207). That the capacities count 32 zones and the BUSY tags the IDENT's own is log entry 23 (DEDUCED); the codes of the
mode and of ALERT are those of log entry 10 (DEDUCED). -/
def Claims.Identify : Prop :=
  ∀ (f : Frame) (clear : Byte) (s : State), Takes f kIdent s →
    let flag := fun b : Bool => if b then (1 : Byte) else 0
    let exchanges := fun p : Exchange → Bool => (s.qxu.entries.filter fun e => e.2.ex.any p).length
    exec (.ident f clear) s = .next (pushAnswer 0x94 f.tag
      ([0x00, 0x4D, 0x6E, 0x1C, 0xFC, Config.revision, 0x10, 0x00, 0x12, 0x00, 64, 16, 64, 4, 32, 32, 16, 16, 128,
          match s.rqp.mode with | .config => 0 | .service => 1, flag s.rdc.probe.isSome] ++
        beBytes 2 s.rqp.dSync ++ beBytes 2 s.rqp.dFrame ++ beBytes 2 s.rqp.dCrc ++ beBytes 2 s.rqp.dClash ++
        beBytes 1 ((arrive f s).rqp.busy.filter (·.2)).length ++ beBytes 1 s.rqp.notices.length ++
        [flag s.rqp.overflow, if s.alert then 0 else 1] ++ beBytes 2 s.chu.freeAccounts ++
        beBytes 1 (exchanges fun _ => true) ++ beBytes 1 (exchanges fun x => !x.sent) ++
        beBytes 1 (exchanges fun x => x.sent) ++ beBytes 2 s.qxu.deferred.length ++ beBytes 4 s.rqp.shipTime.toNat)
      (if clear[0] then (arrive f s).withRqp { (arrive f s).rqp with dSync := 0, dFrame := 0, dCrc := 0, dClash := 0 }
        else arrive f s))

/-- A step on an empty queue (the model's own time base, log entry 4): where some timer stands at 0, a fix waits or a
purge is in flight, the expiry, the evaluation or the step of one of them is put on the queue and nothing else changes;
otherwise the time base ticks. The tables are in their canonical form. -/
def Claims.IdleStep : Prop :=
  ∀ s : State, Canonical s → s.pending = [] →
    ((∃ c, Due s c) → ∃ c, Due s c ∧ step s = .next (s.withPending [c])) ∧ (¬ (∃ c, Due s c) → step s = .next (tick s))

/-- One tick of 10 ms (log entry 4). The stale timers, the bicast timers and the mute deadline count 10 ms (R110, R123,
R180); on each hundredth tick the timers of one second count (R5, R68, R77, R100, R123, R160, R183) and a tick of ship
time joins the queue (R206); on each sixtieth of those the grant expiries count their minute (R68). Nothing else moves. -/
def Claims.TickCounts : Prop :=
  ∀ s : State,
    let t := tick s
    let second := 100 ≤ s.base.hundredths + 1
    let minute := second ∧ 60 ≤ s.base.seconds + 1
    let tenMs := fun n : Option Nat => n.map (· - 1)
    let eachSecond := fun n : Option Nat => if second then n.map (· - 1) else n
    let eachMinute := fun n : Option Nat => if minute then n.map (· - 1) else n
    t.base = (if minute then ⟨0, 0⟩ else if second then ⟨0, s.base.seconds + 1⟩
      else ⟨s.base.hundredths + 1, s.base.seconds⟩) ∧
    t.pending = s.pending ++ (if second then [.shipTimeTick] else []) ∧
    (∀ i, t.link i = { s.link i with
      stale := tenMs (s.link i).stale, hold := eachSecond (s.link i).hold
      drill := (s.link i).drill.map fun d => { d with timer := if second then d.timer - 1 else d.timer } }) ∧
    (∀ r c, t.path r c = { s.path r c with state := match (s.path r c).state with
      | .preparing cur n m => .preparing cur n (if second then m - 1 else m)
      | .bicast cur n m => .bicast cur n (m - 1)
      | .releasing cur x m => .releasing cur x (if second then m - 1 else m)
      | .steady cur => .steady cur
      | .stranded => .stranded }) ∧
    (∀ r, (t.route r).bicast = (s.route r).bicast ∧ (t.route r).prepare = (s.route r).prepare ∧
      (t.route r).release = (s.route r).release) ∧
    (∀ i, t.slot i = { s.slot i with visitor := (s.visitor i).map fun v => { v with
      retire := eachSecond v.retire
      quota := v.quota.map fun q => { q with retry := eachSecond q.retry, expiry := eachMinute q.expiry } } }) ∧
    (∀ i, t.entry i = { s.entry i with ex := (s.entry i).ex.map fun x => { x with
      timer := if second then x.timer - 1 else x.timer } }) ∧
    t.zne = { s.zne with pos := { s.zne.pos with stale := eachSecond s.zne.pos.stale } } ∧
    t.rdc = { s.rdc with deadline := tenMs s.rdc.deadline, poll := eachSecond s.rdc.poll } ∧
    t.vrg = { s.vrg with slots := t.vrg.slots } ∧ t.qxu = { s.qxu with entries := t.qxu.entries } ∧ t.chu = s.chu ∧
    t.rqp = s.rqp

/-- Ship time, the identity of the part, and its time base. -/
def Obligations.ShipTimeAndIdentity : Prop := Claims.ShipTime ∧ Claims.Identify ∧ Claims.IdleStep ∧ Claims.TickCounts

/-! ### Chapter 1: the visitor register -/

/-- Finding records in tables of canonical form: a SID names the one present entry that carries it (R8, R19), an HNC the
record with exactly its digits, and a SID the partner of 6 digits before the partner of 5 (R9, R30). -/
def Obligations.FindingRecords : Prop :=
  ∀ (s : State) (d : Digits), Canonical s →
    (∀ i, s.slotBySid d = some i → (s.slot i).sid = some d ∧ (s.visitor i).isSome) ∧
    (s.slotBySid d = none → ∀ i, (s.visitor i).isSome → (s.slot i).sid ≠ some d) ∧
    (∀ i, s.partnerByHnc d = some i → ∃ r, s.partner i = some r ∧ r.hnc = d) ∧
    (s.partnerByHnc d = none → ∀ i r, s.partner i = some r → r.hnc ≠ d) ∧
    (∀ i, s.partnerByHnc (d.take 6) = some i → s.partnerBySid d = some i) ∧
    (s.partnerByHnc (d.take 6) = none → s.partnerBySid d = s.partnerByHnc (d.take 5))

/-- The refusals of an ADMIT that leave everything as it was (R7): BAD_ARG, then MODE in CONFIG, then STATE unless the radio
state is SERVING or UNMUTING and the unit is SERVING, then BUSY under a purge of scope ALL, and under a purge of partner
scope where the SID's present entry, or for a new PASSENGER or CREW SID its match, has that partner. -/
def Claims.AdmitRefused : Prop :=
  ∀ (f : Frame) (sid : BitVec 64) (cls unit : Byte) (s : State), Takes f kAdmit s →
    let bad := sidOf sid = none ∨ 2 < cls.toNat ∨ 15 < unit.toNat
    let silent := silencing s.rdc.radio = true ∨ (s.unit unit.toNat).state ≠ .serving
    let refused := fun code : Byte => exec (.admitVisitor f sid cls unit) s = .next (pushAnswer 0x10 f.tag [code] (arrive f s))
    (bad → refused 0x20) ∧
    (¬ bad → s.rqp.mode = .config → refused 0x1B) ∧
    (¬ bad → s.rqp.mode = .service → silent → refused 0x16) ∧
    (¬ bad → s.rqp.mode = .service → ¬ silent → (∃ p, s.vrg.purge = some p ∧ p.scope = .all) → refused 0x10) ∧
    ∀ d p i, ¬ bad → s.rqp.mode = .service → ¬ silent → sidOf sid = some d → s.vrg.purge = some p → p.scope = .partner i →
      (∀ j v, s.slotBySid d = some j → s.visitor j = some v → v.partner = some i → refused 0x10) ∧
      (s.slotBySid d = none → cls.toNat < 2 → s.partnerBySid d = some i → refused 0x10)

/-- A new PASSENGER or CREW SID with no partner, or whose partner's admission policy is BAR, is refused BARRED with one
VISITOR notice REFUSED, and with no account left NO_ACCOUNT in the same way; nothing else changes (R9, R10, R14). -/
def Claims.AdmitBarred : Prop :=
  ∀ (f : Frame) (sid : BitVec 64) (cls unit : Byte) (d : Digits) (s : State), Takes f kAdmit s → sidOf sid = some d →
    cls.toNat < 2 → unit.toNat ≤ 15 → s.rqp.mode = .service → silencing s.rdc.radio = false →
    (s.unit unit.toNat).state = .serving → NotPurged s (s.partnerBySid d) → s.slotBySid d = none →
    let refused := fun (code : Byte) (x : Subject) => exec (.admitVisitor f sid cls unit) s =
      .next (pushAnswer 0x10 f.tag [code] (giveNotice .visitor x 2 code 0 0 0 0 (arrive f s)))
    (s.partnerBySid d = none → refused 0x13 .none) ∧
    ∀ p r, s.partnerBySid d = some p → s.partner p = some r →
      (r.admission = .bar → refused 0x13 (.partner p)) ∧
      (r.admission ≠ .bar → s.chooseAccount d = none → refused 0x12 (.partner p))

/-- A new SID for which no slot is FREE and none can be evicted is refused FULL with one VISITOR notice REFUSED, and
nothing else changes (R11, R14): every PASSENGER, and a CREW or EMERGENCY admission where no PASSENGER entry of the
activity order is SUSPENDED or ACTIVE. The notice names the matched partner, and none for EMERGENCY. -/
def Claims.AdmitFull : Prop :=
  ∀ (f : Frame) (sid : BitVec 64) (cls unit : Byte) (d : Digits) (k : ServiceClass) (s : State), Takes f kAdmit s →
    sidOf sid = some d → serviceOf cls = some k → unit.toNat ≤ 15 → s.rqp.mode = .service →
    silencing s.rdc.radio = false → (s.unit unit.toNat).state = .serving → s.slotBySid d = none →
    NotPurged s (if k = .emergency then none else s.partnerBySid d) → (∀ j < 4096, (s.visitor j).isSome) →
    (k = .passenger ∨ ∀ j ∈ s.vrg.activity, ∀ v, s.visitor j = some v → v.cls = .passenger →
      v.state ≠ .suspended ∧ v.state ≠ .active) →
    let refused := fun x : Subject => exec (.admitVisitor f sid cls unit) s =
      .next (pushAnswer 0x10 f.tag [0x11] (giveNotice .visitor x 2 0x11 0 0 0 0 (arrive f s)))
    (k = .emergency → refused .none) ∧
    ∀ p r, k ≠ .emergency → s.partnerBySid d = some p → s.partner p = some r → r.admission ≠ .bar →
      (s.chooseAccount d).isSome → refused (.partner p)

/-- The refusals of an ADMIT of R7, R9, R10 and R11. (That of a DEPARTING visitor, R8, stands in PresentVisitor.) -/
def Obligations.AdmitRefused : Prop := Claims.AdmitRefused ∧ Claims.AdmitBarred ∧ Claims.AdmitFull

/-- A new PASSENGER or CREW SID whose partner is OPEN and OFFLINE takes the lowest FREE slot and the chosen account and is
ACTIVE (R10–R12): every field of the entry, the tail of the activity order, the partner's visitor count, the account and
the notice ADMITTED, with every other slot, account and partner, the exchanges and every other block left alone. -/
def Claims.AdmitOpenOffline : Prop :=
  ∀ (f : Frame) (sid : BitVec 64) (cls unit : Byte) (d : Digits) (k : ServiceClass) (p i a : Nat) (r : Partner) (s : State),
    Takes f kAdmit s → sidOf sid = some d → serviceOf cls = some k → k ≠ .emergency → unit.toNat ≤ 15 →
    s.rqp.mode = .service → silencing s.rdc.radio = false → (s.unit unit.toNat).state = .serving → s.vrg.purge = none →
    s.slotBySid d = none → s.partnerBySid d = some p → s.partner p = some r → r.admission = .opened →
    r.charging = .offline → s.chooseAccount d = some a → i < 4096 → s.visitor i = none →
    (∀ j < i, (s.visitor j).isSome) →
    ∃ t, exec (.admitVisitor f sid cls unit) s =
        .next (pushAnswer 0x10 f.tag ([0x00] ++ beBytes 2 (i * 16 + ((s.slot i).gen + 1).toNat) ++ [2]) t) ∧
      t.slot i = ⟨(s.slot i).gen + 1, some d, some a, none, some
        { state := .active, cls := k, partner := some p,
          route := if k = .crew then s.settings.crewRoute else r.route,
          unit := unit.toNat, quota := none, xref := none, deferred := false,
          retire := idleLimit s.settings k, lastActivity := s.rqp.shipTime, admitted := s.rqp.shipTime }⟩ ∧
      (∀ j, j ≠ i → t.slot j = s.slot j) ∧ t.vrg.activity = s.vrg.activity ++ [i] ∧ t.vrg.purge = none ∧
      t.partner p = some { r with visitors := r.visitors + 1 } ∧ (∀ j, j ≠ p → t.partner j = s.partner j) ∧
      t.account a = some (match s.account a with
        | some old => { old with departed := false, hnc := r.hnc }
        | none => accountOpen d r.hnc s.rqp.shipTime) ∧
      (∀ j, j ≠ a → t.account j = s.account j) ∧ t.chu.plans = s.chu.plans ∧
      (∃ new, t.rqp.notices = new ∧ (s.rqp.notices.length + 2 ≤ 128 →
        new.getLast? = some ⟨.visitor, .slot i, 1, 2, 0, 0, 0, 0, s.rqp.shipTime⟩)) ∧
      t.qxu = s.qxu ∧ OutsideVisitors s t ∧ PortKept (arrive f s) t ∧ NoticesKept s t

/-- The state an admission under CHECK or for an ONLINE partner
leaves (R12, R68, R78): the lowest FREE slot taken with every field of its entry, AUTHORIZING with an AUTHORIZE exchange and
no retire timer, or ACTIVE with a QUOTA exchange, each in the lowest free entry of the table; an ONLINE visitor's quota part
starts at the partner's grace; the account is taken, and the entry stands at the tail of the activity order. -/
def Obligations.AdmitWithExchange : Prop :=
  ∀ (f : Frame) (sid : BitVec 64) (cls unit : Byte) (d : Digits) (k : ServiceClass) (p i a j : Nat) (r : Partner) (s : State),
    Takes f kAdmit s → sidOf sid = some d → serviceOf cls = some k → k ≠ .emergency → unit.toNat ≤ 15 →
    s.rqp.mode = .service → silencing s.rdc.radio = false → (s.unit unit.toNat).state = .serving → NotPurged s (some p) →
    s.slotBySid d = none → s.partnerBySid d = some p → s.partner p = some r →
    r.admission = .check ∨ (r.admission = .opened ∧ r.charging = .online) →
    s.chooseAccount d = some a → i < 4096 → s.visitor i = none → (∀ m < i, (s.visitor m).isSome) →
    j < 64 → (s.entry j).ex = none → (∀ m < j, (s.entry m).ex.isSome) →
    let check := r.admission = .check
    ∃ t v, exec (.admitVisitor f sid cls unit) s = .next (pushAnswer 0x10 f.tag
        ((if check then [0x02] else [0x00]) ++ beBytes 2 (i * 16 + ((s.slot i).gen + 1).toNat) ++ [if check then 1 else 2])
        t) ∧
      t.slot i = ⟨(s.slot i).gen + 1, some d, some a, none, some v⟩ ∧
      v = {
        state := if check then .authorizing else .active, cls := k, partner := some p
        route := if k = .crew then s.settings.crewRoute else r.route
        unit := unit.toNat
        quota := if r.charging = .online then
          some ⟨r.grace, 0, none, false, none, if 0 < r.grace then .opened else .waiting⟩ else none
        xref := some ⟨j, (s.entry j).use + 1⟩, deferred := false
        retire := if check then none else idleLimit s.settings k
        lastActivity := s.rqp.shipTime, admitted := s.rqp.shipTime } ∧
      t.entry j = ⟨(s.entry j).use + 1, some
        { kind := if check then .authorize else .quota, slot := i, gen := (s.slot i).gen + 1, account := a, sent := false,
          second := false, link1 := none, link2 := none, timer := s.settings.timeout, sid := d, cls := k,
          request := r.request, reported := none }⟩ ∧
      (∀ m, m ≠ j → t.entry m = s.entry m) ∧ t.qxu.order = s.qxu.order ++ [j] ∧ t.qxu.deferred = s.qxu.deferred ∧
      (∀ m, m ≠ i → t.slot m = s.slot m) ∧ t.vrg.activity = s.vrg.activity ++ [i] ∧ t.vrg.purge = s.vrg.purge ∧
      t.partner p = some { r with visitors := r.visitors + 1 } ∧ (∀ m, m ≠ p → t.partner m = s.partner m) ∧
      t.account a = some (match s.account a with
        | some old => { old with departed := false, hnc := r.hnc }
        | none => accountOpen d r.hnc s.rqp.shipTime) ∧
      (∀ m, m ≠ a → t.account m = s.account m) ∧ t.chu.plans = s.chu.plans ∧
      OutsideVisitors s t ∧ PortKept (arrive f s) t ∧ NoticesKept s t

/-- A new EMERGENCY SID takes the lowest FREE slot and is ACTIVE with no partner, no account and no quota part (R13). -/
def Claims.AdmitEmergency : Prop :=
  ∀ (f : Frame) (sid : BitVec 64) (unit : Byte) (d : Digits) (i : Nat) (s : State),
    Takes f kAdmit s → sidOf sid = some d → unit.toNat ≤ 15 → s.rqp.mode = .service → silencing s.rdc.radio = false →
    (s.unit unit.toNat).state = .serving → s.vrg.purge = none → s.slotBySid d = none → i < 4096 → s.visitor i = none →
    (∀ j < i, (s.visitor j).isSome) →
    ∃ t, exec (.admitVisitor f sid 2 unit) s =
        .next (pushAnswer 0x10 f.tag ([0x00] ++ beBytes 2 (i * 16 + ((s.slot i).gen + 1).toNat) ++ [2]) t) ∧
      t = giveNotice .visitor (.slot i) 1 2 0 0 0 0 ((arrive f s).withVrg t.vrg) ∧
      t.slot i = ⟨(s.slot i).gen + 1, some d, none, none, some
        { state := .active, cls := .emergency, partner := none, route := s.settings.emergencyRoute, unit := unit.toNat,
          quota := none, xref := none, deferred := false, retire := idleLimit s.settings .emergency,
          lastActivity := s.rqp.shipTime, admitted := s.rqp.shipTime }⟩ ∧
      (∀ j, j ≠ i → t.slot j = s.slot j) ∧ t.vrg.activity = s.vrg.activity ++ [i] ∧ t.vrg.purge = none

/-- The two admissions that ask for no exchange. -/
def Obligations.AdmitNew : Prop := Claims.AdmitOpenOffline ∧ Claims.AdmitEmergency

/-- A slot for an admission into a full register (R11): a PASSENGER evicts nobody; a CREW or EMERGENCY admission takes the
SUSPENDED PASSENGER nearest the head of the activity order, or where there is none the ACTIVE one nearest it, and no entry
of another class or state; where there is neither it finds no slot. -/
def Claims.EvictionChoice : Prop :=
  ∀ (s : State) (i : Nat), (∀ j < 4096, (s.visitor j).isSome) →
    let passenger := fun j st => ∃ w, s.visitor j = some w ∧ w.cls = .passenger ∧ w.state = st
    s.roomFor .passenger = none ∧
    (s.evictable = some i → s.roomFor .crew = some (i, evict i s) ∧ s.roomFor .emergency = some (i, evict i s) ∧
      ∃ a b, s.vrg.activity = a ++ i :: b ∧
        ((passenger i .suspended ∧ ∀ j ∈ a, ¬ passenger j .suspended) ∨
          (passenger i .active ∧ (∀ j ∈ s.vrg.activity, ¬ passenger j .suspended) ∧ ∀ j ∈ a, ¬ passenger j .active))) ∧
    (s.evictable = none → s.roomFor .crew = none ∧ s.roomFor .emergency = none ∧
      ∀ j ∈ s.vrg.activity, ¬ passenger j .suspended ∧ ¬ passenger j .active)

/-- What an eviction leaves (R21), of a PASSENGER whose exchange, if it has one, no other visitor waits for: the account
is closed out and DEPARTED, with the UNREPORTED mark where charge of an ONLINE partner is left; the entry is FREE at once
and keeps generation, SID and account index with the reason EVICTED; its exchange is cancelled, its deferred place gone,
its partner's visitor count falls; and the one VISITOR notice given is EVICTED. -/
def Claims.Evicted : Prop :=
  ∀ (i a p : Nat) (v : Visitor) (x : Account) (r : Partner) (s : State),
    s.visitor i = some v → v.cls = .passenger → (s.slot i).account = some a → s.account a = some x → v.partner = some p →
    s.partner p = some r → (∀ w ∈ s.qxu.deferred, w.slot = i) → (v.xref.isSome → s.qxu.deferred = []) →
    (∀ n, v.xref = some n → ∃ y, (s.entry n.entry).ex = some y ∧ y.slot = i) →
    let online := decide (r.charging = .online)
    let out := closeOutAccount (some (qget (s.plan r.plan).rates s.tariffInForce)) online s.tariffInForce x
    ∃ t, evict i s = giveNotice .visitor (.slot i) 5 0 0 0 0 0 t ∧
      t.slot i = { s.slot i with visitor := none, reason := some .evicted } ∧ (∀ j, j ≠ i → t.slot j = s.slot j) ∧
      t.vrg.activity = s.vrg.activity.filter (· != i) ∧ t.vrg.purge = s.vrg.purge ∧
      t.account a = some { out.1 with
        departed := true, saturated := x.saturated || out.2.2
        unrepMark := x.unrepMark || (online && decide (0 < out.1.unreported)) } ∧
      (∀ j, j ≠ a → t.account j = s.account j) ∧ t.partner p = some { r with visitors := r.visitors - 1 } ∧
      (∀ j, j ≠ p → t.partner j = s.partner j) ∧
      (∀ n, v.xref = some n → t.entry n.entry = ⟨(s.entry n.entry).use, none⟩ ∧
        (∀ m, m ≠ n.entry → t.entry m = s.entry m) ∧ t.qxu.order = s.qxu.order.filter (· != n.entry)) ∧
      (v.xref = none → t.qxu.entries = s.qxu.entries ∧ t.qxu.order = s.qxu.order) ∧ t.qxu.deferred = [] ∧
      Gives s t (if out.2.2 = true ∧ x.saturated = false then [⟨.account, .account a, 1, 0, 0, 0, 0, 0, s.rqp.shipTime⟩]
        else []) ∧
      OutsideVisitors s t ∧ PortKept s t

/-- An EMERGENCY SID admitted into a full register (R11, R13, R21): the entry chosen is evicted, and the new visitor takes
its slot, at the tail of the activity order. -/
def Claims.EmergencyEvicts : Prop :=
  ∀ (f : Frame) (sid : BitVec 64) (unit : Byte) (d : Digits) (i : Nat) (s : State),
    Takes f kAdmit s → sidOf sid = some d → unit.toNat ≤ 15 → s.rqp.mode = .service → silencing s.rdc.radio = false →
    (s.unit unit.toNat).state = .serving → NotPurged s none → s.slotBySid d = none → (∀ j < 4096, (s.visitor j).isSome) →
    s.evictable = some i →
    let u := evict i (arrive f s)
    ∃ t, exec (.admitVisitor f sid 2 unit) s =
        .next (pushAnswer 0x10 f.tag ([0x00] ++ beBytes 2 (i * 16 + ((s.slot i).gen + 1).toNat) ++ [2]) t) ∧
      t = giveNotice .visitor (.slot i) 1 2 0 0 0 0 (u.withVrg t.vrg) ∧
      t.slot i = ⟨(s.slot i).gen + 1, some d, none, none, some
        { state := .active, cls := .emergency, partner := none, route := s.settings.emergencyRoute, unit := unit.toNat,
          quota := none, xref := none, deferred := false, retire := idleLimit s.settings .emergency,
          lastActivity := s.rqp.shipTime, admitted := s.rqp.shipTime }⟩ ∧
      (∀ j, j ≠ i → t.slot j = u.slot j) ∧ t.vrg.activity = u.vrg.activity ++ [i] ∧ t.vrg.purge = s.vrg.purge

/-- A CREW SID of an OPEN and OFFLINE partner admitted into a full register (R11, R12, R21): the entry chosen is evicted,
and the new visitor takes its slot and the account chosen before the eviction. -/
def Claims.CrewEvicts : Prop :=
  ∀ (f : Frame) (sid : BitVec 64) (unit : Byte) (d : Digits) (p i a : Nat) (r : Partner) (s : State),
    Takes f kAdmit s → sidOf sid = some d → unit.toNat ≤ 15 → s.rqp.mode = .service → silencing s.rdc.radio = false →
    (s.unit unit.toNat).state = .serving → NotPurged s (some p) → s.slotBySid d = none → s.partnerBySid d = some p →
    s.partner p = some r → r.admission = .opened → r.charging = .offline → s.chooseAccount d = some a →
    (∀ j < 4096, (s.visitor j).isSome) → s.evictable = some i →
    let u := evict i (arrive f s)
    ∃ t, exec (.admitVisitor f sid 1 unit) s =
        .next (pushAnswer 0x10 f.tag ([0x00] ++ beBytes 2 (i * 16 + ((s.slot i).gen + 1).toNat) ++ [2]) t) ∧
      t.slot i = ⟨(s.slot i).gen + 1, some d, some a, none, some
        { state := .active, cls := .crew, partner := some p, route := s.settings.crewRoute, unit := unit.toNat,
          quota := none, xref := none, deferred := false, retire := idleLimit s.settings .crew,
          lastActivity := s.rqp.shipTime, admitted := s.rqp.shipTime }⟩ ∧
      (∀ j, j ≠ i → t.slot j = u.slot j) ∧ t.vrg.activity = u.vrg.activity ++ [i] ∧
      t.account a = some (match u.account a with
        | some old => { old with departed := false, hnc := r.hnc }
        | none => accountOpen d r.hnc s.rqp.shipTime) ∧
      (∀ j, j ≠ a → t.account j = u.account j) ∧
      t.partner p = (u.partner p).map (fun y => { y with visitors := y.visitors + 1 }) ∧
      (∀ j, j ≠ p → t.partner j = u.partner j) ∧ t.qxu = u.qxu ∧ OutsideVisitors s t ∧ PortKept (arrive f s) t ∧
      NoticesKept u t

/-- The choice of an entry to evict, its eviction, and the admissions that evict. -/
def Obligations.EvictionChoice : Prop :=
  Claims.EvictionChoice ∧ Claims.Evicted ∧ Claims.EmergencyEvicts ∧ Claims.CrewEvicts

/-- ADMIT of a SID that is present (R8): ACTIVE re-attaches, SUSPENDED resumes, AUTHORIZING is PENDING, DEPARTING is
STATE; the present class stands. A SUSPENDED visitor with a quota part has become ACTIVE for its quota too: a QUOTA
exchange is asked for by its five conditions (R73), and the gate is SHUT while its retry wait runs, OPEN with remaining
above 0, WAIT with an exchange asked for or outstanding, and otherwise SHUT with its notice (R70). -/
def Claims.AdmitPresent : Prop :=
  ∀ (f : Frame) (sid : BitVec 64) (cls unit : Byte) (d : Digits) (i : Nat) (v : Visitor) (s : State),
    Takes f kAdmit s → sidOf sid = some d → cls.toNat ≤ 2 → unit.toNat ≤ 15 → s.rqp.mode = .service →
    silencing s.rdc.radio = false → (s.unit unit.toNat).state = .serving → s.slotBySid d = some i →
    s.visitor i = some v → NotPurged s v.partner →
    let handle := beBytes 2 (i * 16 + (s.slot i).gen.toNat)
    let a := arrive f s
    (v.state = .authorizing → exec (.admitVisitor f sid cls unit) s = .next (pushAnswer 0x10 f.tag ([0x02] ++ handle ++ [1]) a)) ∧
    (v.state = .departing → exec (.admitVisitor f sid cls unit) s = .next (pushAnswer 0x10 f.tag [0x16] a)) ∧
    (v.state = .active ∨ (v.state = .suspended ∧ v.quota = none) → ∃ t,
      exec (.admitVisitor f sid cls unit) s = .next (pushAnswer 0x10 f.tag ([0x00] ++ handle ++ [2]) t) ∧ t = a.withVrg t.vrg ∧
      t.slot i = { s.slot i with visitor := some { v with
        state := .active, unit := unit.toNat, retire := idleLimit s.settings v.cls, lastActivity := s.rqp.shipTime } } ∧
      (∀ j, j ≠ i → t.slot j = s.slot j) ∧ t.vrg.purge = s.vrg.purge ∧
      t.vrg.activity = s.vrg.activity.filter (· != i) ++ [i]) ∧
    ∀ q, v.state = .suspended → v.quota = some q → ∃ t,
      exec (.admitVisitor f sid cls unit) s = .next (pushAnswer 0x10 f.tag ([0x00] ++ handle ++ [2]) t) ∧
      CreditSettled s t i { v with
        state := .active, unit := unit.toNat, retire := idleLimit s.settings v.cls, lastActivity := s.rqp.shipTime } q
        (v.xref = none ∧ v.deferred = false ∧ q.final = false ∧ q.retry = none ∧
          (q.lastGrant = 0 ∨ q.remaining ≤ reorderAt s v q)) [] ∧
      t.vrg.purge = s.vrg.purge ∧ t.vrg.activity = s.vrg.activity.filter (· != i) ++ [i] ∧ (∀ j, j ≠ i → t.slot j = s.slot j) ∧
      t.chu = s.chu ∧ OutsideVisitors s t ∧ PortKept a t

/-- REFRESH (R17): BAD_ARG, STALE and STATE in that order with nothing changed; otherwise the new unit is taken, the entry
goes to the tail of the activity order with the ship time, and its retire timer is loaded with its idle limit. -/
def Claims.Refresh : Prop :=
  ∀ (f : Frame) (h : BitVec 16) (u : Byte) (s : State), Takes f kRefresh s →
    let i := h.toNat / 16
    let refused := fun code : Byte => exec (.refresh f h u) s = .next (pushAnswer 0x11 f.tag [code] (arrive f s))
    let badUnit := u ≠ 0xFF#8 ∧ 15 < u.toNat
    let lost := u ≠ 0xFF#8 ∧ (s.unit u.toNat).state ≠ .serving
    (badUnit → refused 0x20) ∧ (¬ badUnit → s.live h = false → refused 0x15) ∧
    ∀ v, ¬ badUnit → s.live h = true → s.visitor i = some v →
      (v.state ≠ .active ∨ lost → refused 0x16) ∧
      (v.state = .active → ¬ lost → ∃ t, exec (.refresh f h u) s = .next (pushAnswer 0x11 f.tag [0x00, 2] t) ∧
        t = (arrive f s).withVrg t.vrg ∧ t.vrg.purge = s.vrg.purge ∧ (∀ j, j ≠ i → t.slot j = s.slot j) ∧
        t.slot i = { s.slot i with visitor := some { v with
          unit := if u = 0xFF#8 then v.unit else u.toNat, retire := idleLimit s.settings v.cls,
          lastActivity := s.rqp.shipTime } } ∧
        t.vrg.activity = s.vrg.activity.filter (· != i) ++ [i])

/-- ADMIT of a visitor that is present, and REFRESH. -/
def Obligations.PresentVisitor : Prop := Claims.AdmitPresent ∧ Claims.Refresh

/-- Retirement of a visitor that has no exchange and nothing to report, because its partner is OFFLINE or because no
unreported charge stands after close-out (R20 step 6): the account is closed out and DEPARTED, the entry is FREE at once
and keeps its generation, SID, account index and the reason, the partner's visitor count falls, and the notice RETIRED is
given for the five reasons that give it. -/
def Claims.RetireAtOnce : Prop :=
  ∀ (i a p : Nat) (why : RetireReason) (v : Visitor) (x : Account) (r : Partner) (s : State),
    s.visitor i = some v → v.cls ≠ .emergency → (s.slot i).account = some a → s.account a = some x → v.partner = some p →
    s.partner p = some r → v.xref = none →
    let out := closeOutAccount (some (qget (s.plan r.plan).rates s.tariffInForce)) (decide (r.charging = .online))
      s.tariffInForce x
    r.charging = .offline ∨ out.1.unreported = 0 →
    let told : Bool := match why with
      | .detached | .idle | .muteHold | .rejected | .checkFailed => true
      | .evicted | .purged | .muted => false
    ∃ t, retire i why s = (if told then giveNotice .visitor (.slot i) 4 (reasonByte why) 0 0 0 0 t else t) ∧
      t.slot i = { s.slot i with visitor := none, reason := some why } ∧ (∀ j, j ≠ i → t.slot j = s.slot j) ∧
      t.vrg.activity = s.vrg.activity.filter (· != i) ∧ t.vrg.purge = s.vrg.purge ∧
      t.account a = some { out.1 with departed := true, saturated := x.saturated || out.2.2 } ∧
      (∀ j, j ≠ a → t.account j = s.account j) ∧ t.partner p = some { r with visitors := r.visitors - 1 } ∧
      (∀ j, j ≠ p → t.partner j = s.partner j) ∧ t.qxu.entries = s.qxu.entries ∧ t.qxu.order = s.qxu.order ∧
      t.qxu.deferred = s.qxu.deferred.filter (fun w => w.slot != i) ∧ OutsideVisitors s t ∧ PortKept s t ∧ NoticesKept s t

/-- Retirement of an ONLINE visitor with charge left to report after close-out and no exchange (R20 step 5, R60, R93): the
account is closed out and DEPARTED, the entry is DEPARTING with its gate SHUT and its quota timers stopped, a FINAL exchange
stands in the lowest free entry of the table, last in creation order, and the notice RETIRED is given for the five reasons
that give it. -/
def Claims.RetireOnline : Prop :=
  ∀ (i a p j : Nat) (why : RetireReason) (v : Visitor) (q : Quota) (x : Account) (r : Partner) (s : State),
    s.visitor i = some v → v.cls ≠ .emergency → (s.slot i).account = some a → s.account a = some x → v.partner = some p →
    s.partner p = some r → r.charging = .online → v.xref = none → v.quota = some q →
    j < 64 → (s.entry j).ex = none → (∀ m < j, (s.entry m).ex.isSome) →
    let out := closeOutAccount (some (qget (s.plan r.plan).rates s.tariffInForce)) true s.tariffInForce x
    0 < out.1.unreported → ∃ t e, retire i why s =
        (if givesRetired why then giveNotice .visitor (.slot i) 4 (reasonByte why) 4 0 0 0 t else t) ∧
      t.slot i = { s.slot i with
        reason := some why
        visitor := some { v with
          state := .departing, retire := none, deferred := false, xref := some ⟨j, (s.entry j).use + 1⟩
          quota := some { q with expiry := none, retry := none, gate := .shut } } } ∧
      (∀ m, m ≠ i → t.slot m = s.slot m) ∧
      t.entry j = ⟨(s.entry j).use + 1, some e⟩ ∧ e.kind = .final ∧ e.slot = i ∧ e.account = a ∧
      e.sent = false ∧ e.second = false ∧ (∀ m, m ≠ j → t.entry m = s.entry m) ∧ t.qxu.order = s.qxu.order ++ [j] ∧
      t.qxu.deferred = s.qxu.deferred.filter (fun w => w.slot != i) ∧
      t.account a = some { out.1 with departed := true, saturated := x.saturated || out.2.2 } ∧
      (∀ m, m ≠ a → t.account m = s.account m) ∧ t.chu.partners = s.chu.partners ∧
      t.vrg.activity = s.vrg.activity.filter (· != i) ∧ OutsideVisitors s t ∧ PortKept s t ∧ NoticesKept s t

/-- Retirement of an AUTHORIZING visitor of an OFFLINE partner (R20 step 1, R93), with nobody on the deferred list: its
AUTHORIZE exchange is cancelled, with the use count kept, and the entry is FREE. -/
def Claims.RetireAuthorizing : Prop :=
  ∀ (i a p : Nat) (why : RetireReason) (v : Visitor) (n : XRef) (y : Exchange) (x : Account) (r : Partner) (s : State),
    s.visitor i = some v → v.cls ≠ .emergency → (s.slot i).account = some a → s.account a = some x → v.partner = some p →
    s.partner p = some r → r.charging = .offline → v.xref = some n → (s.entry n.entry).ex = some y →
    y.kind = .authorize → y.slot = i → s.qxu.deferred = [] →
    let out := closeOutAccount (some (qget (s.plan r.plan).rates s.tariffInForce)) false s.tariffInForce x
    ∃ t, retire i why s =
        (if givesRetired why then giveNotice .visitor (.slot i) 4 (reasonByte why) 0 0 0 0 t else t) ∧
      t.slot i = { s.slot i with visitor := none, reason := some why } ∧ (∀ j, j ≠ i → t.slot j = s.slot j) ∧
      t.entry n.entry = ⟨(s.entry n.entry).use, none⟩ ∧ (∀ m, m ≠ n.entry → t.entry m = s.entry m) ∧
      t.qxu.order = s.qxu.order.filter (· != n.entry) ∧ t.qxu.deferred = [] ∧
      t.account a = some { out.1 with departed := true, saturated := x.saturated || out.2.2 } ∧
      t.partner p = some { r with visitors := r.visitors - 1 } ∧ OutsideVisitors s t ∧ PortKept s t ∧ NoticesKept s t

/-- Retirement of an ONLINE visitor with its QUOTA exchange in the table (R20 steps 5 and 6, R93, R94), with nobody on the
deferred list. With charge left after close-out the entry is DEPARTING, its gate SHUT and its timers stopped, and the
QUOTA exchange goes on with no FINAL beside it; with none left the entry is FREE and the exchange is cancelled, its use
count kept. -/
def Claims.RetireWithQuota : Prop :=
  ∀ (i a p : Nat) (why : RetireReason) (v : Visitor) (q : Quota) (n : XRef) (y : Exchange) (x : Account) (r : Partner)
    (s : State),
    s.visitor i = some v → v.cls ≠ .emergency → (s.slot i).account = some a → s.account a = some x → v.partner = some p →
    s.partner p = some r → r.charging = .online → v.quota = some q → v.xref = some n → (s.entry n.entry).ex = some y →
    y.kind = .quota → y.slot = i → s.qxu.deferred = [] →
    let out := closeOutAccount (some (qget (s.plan r.plan).rates s.tariffInForce)) true s.tariffInForce x
    let told := fun (state : Byte) (t : State) => retire i why s =
      (if givesRetired why then giveNotice .visitor (.slot i) 4 (reasonByte why) state 0 0 0 t else t)
    ∃ t, t.account a = some { out.1 with departed := true, saturated := x.saturated || out.2.2 } ∧
      (∀ j, j ≠ a → t.account j = s.account j) ∧ (∀ j, j ≠ i → t.slot j = s.slot j) ∧
      t.vrg.activity = s.vrg.activity.filter (· != i) ∧ OutsideVisitors s t ∧ PortKept s t ∧ NoticesKept s t ∧
      (0 < out.1.unreported → told 4 t ∧ t.qxu = s.qxu ∧ t.chu.partners = s.chu.partners ∧
        t.slot i = { s.slot i with
          reason := some why
          visitor := some { v with
            state := .departing, retire := none, deferred := false
            quota := some { q with expiry := none, retry := none, gate := .shut } } }) ∧
      (out.1.unreported = 0 → told 0 t ∧ t.slot i = { s.slot i with visitor := none, reason := some why } ∧
        t.partner p = some { r with visitors := r.visitors - 1 } ∧
        t.entry n.entry = ⟨(s.entry n.entry).use, none⟩ ∧ (∀ m, m ≠ n.entry → t.entry m = s.entry m) ∧
        t.qxu.order = s.qxu.order.filter (· != n.entry) ∧ t.qxu.deferred = [])

/-- Retirement of an EMERGENCY visitor (R20 step 7): the entry is FREE, no account is closed out, and nothing else moves. -/
def Claims.RetireEmergency : Prop :=
  ∀ (i : Nat) (why : RetireReason) (v : Visitor) (s : State), s.visitor i = some v → v.cls = .emergency →
    v.partner = none → v.xref = none →
    ∃ t, retire i why s =
        (if givesRetired why then giveNotice .visitor (.slot i) 4 (reasonByte why) 0 0 0 0 t else t) ∧
      t.slot i = { s.slot i with visitor := none, reason := some why } ∧ (∀ j, j ≠ i → t.slot j = s.slot j) ∧
      t.vrg.activity = s.vrg.activity.filter (· != i) ∧ t.vrg.purge = s.vrg.purge ∧ t.chu = s.chu ∧
      t.qxu = { s.qxu with deferred := s.qxu.deferred.filter (fun w => w.slot != i) } ∧ OutsideVisitors s t ∧ t.rqp = s.rqp

/-- What a retirement leaves. -/
def Obligations.Retirement : Prop :=
  Claims.RetireAtOnce ∧ Claims.RetireOnline ∧ Claims.RetireAuthorizing ∧ Claims.RetireWithQuota ∧ Claims.RetireEmergency

/-- DETACH (R18): STALE for a handle that is not live, STATE in DEPARTING, otherwise retirement with reason DETACHED,
answered OK with the state after it. -/
def Claims.Detach : Prop :=
  ∀ (f : Frame) (h : BitVec 16) (s : State), Takes f kDetach s →
    let i := h.toNat / 16
    let a := arrive f s
    (s.live h = false → exec (.detach f h) s = .next (pushAnswer 0x12 f.tag [0x15] a)) ∧
    ∀ v, s.live h = true → s.visitor i = some v →
      (v.state = .departing → exec (.detach f h) s = .next (pushAnswer 0x12 f.tag [0x16] a)) ∧
      (v.state ≠ .departing → exec (.detach f h) s = .next (pushAnswer 0x12 f.tag
        [0x00, match (retire i .detached a).visitor i with
          | none => 0
          | some w => visitorStateByte (some w.state)]
        (retire i .detached a)))

/-- A retire timer that runs expires (R6): an ACTIVE entry is retired IDLE, a SUSPENDED one MUTE_HOLD. The expiry of a timer
that does not run changes nothing (log entry 12, DESIGN CHOICE). -/
def Claims.RetireTimer : Prop :=
  ∀ (i n : Nat) (v : Visitor) (s : State), s.visitor i = some v →
    (v.retire = some n → v.state = .active → exec (.retireTimerExpiry i) s = .next (retire i .idle s)) ∧
    (v.retire = some n → v.state = .suspended → exec (.retireTimerExpiry i) s = .next (retire i .muteHold s)) ∧
    (v.retire = none → exec (.retireTimerExpiry i) s = .next s)

/-- DETACH and the retire timer. -/
def Obligations.RetirementCauses : Prop := Claims.Detach ∧ Claims.RetireTimer

/-- VREAD (R19, R221): the 48 bytes of the entry as they stand, every field at its place, a field that is absent sent as
0, and no effect. By handle a slot that is FREE with the same generation is read too, and another generation is STALE. By
SID: BAD_ARG for digits that spell none, NOT_FOUND for one that is not present, and otherwise the entry that carries it.
Any other selector is BAD_ARG (R214; log entry 16, DEDUCED). -/
def Claims.ReadVisitor : Prop :=
  ∀ (f : Frame) (name : BitVec 64) (s : State), Takes f kVread s →
    let answers := fun (sel : Byte) (p : List Byte) =>
      exec (.vread f sel name) s = .next (pushAnswer 0x13 f.tag p (arrive f s))
    let orZero := fun (n : Nat) (v : Option Nat) => beBytes n (v.getD 0)
    let orOnes := fun (v : Option Nat) => match v with
      | some n => beBytes 2 n
      | none => [(0xFF : Byte), 0xFF]
    let entry := fun i : Nat =>
      let e := s.slot i
      let v := e.visitor
      let partner := v.bind (·.partner)
      let xref := v.bind (·.xref)
      let retire := v.bind (·.retire)
      let quota := v.bind (·.quota)
      [0x00] ++ beBytes 2 (i * 16 + e.gen.toNat) ++
        [visitorStateByte (v.map (·.state)), BitVec.ofNat 8 (partner.isSome.toNat + 2 * e.account.isSome.toNat +
          4 * quota.isSome.toNat + 8 * xref.isSome.toNat + 16 * (v.any (·.deferred)).toNat + 32 * retire.isSome.toNat +
          64 * e.reason.isSome.toNat + 128 * e.sid.isSome.toNat)] ++
        (match e.sid with
          | some d => sidBytes d
          | none => List.replicate 8 0) ++
        [(v.map fun w => serviceByte w.cls).getD 0] ++ orZero 1 partner ++ orZero 1 (v.map (·.route)) ++
        orZero 1 (v.map (·.unit)) ++ orZero 2 e.account ++ orZero 2 (xref.map fun r => r.entry * 256 + r.use.toNat) ++
        orZero 4 retire ++ orZero 4 (v.map (·.lastActivity.toNat)) ++ orZero 4 (v.map (·.admitted.toNat)) ++
        [(e.reason.map reasonByte).getD 0] ++
        (match quota with
          | some q => beBytes 5 (q.remaining % 256 ^ 5).toNat ++ beBytes 4 q.lastGrant ++ orOnes q.expiry ++
              [BitVec.ofNat 8 ((gateByte q.gate).toNat + 4 * q.final.toNat)] ++ orOnes q.retry
          | none => List.replicate 14 0)
    (∀ sel : Byte, 1 < sel.toNat → answers sel [0x20]) ∧ (sidOf name = none → answers 1 [0x20]) ∧
    (∀ d, sidOf name = some d →
      (s.slotBySid d = none → answers 1 [0x14]) ∧ ∀ j, s.slotBySid d = some j → answers 1 (entry j)) ∧
    let h := name.toNat / 2 ^ 48
    ((s.slot (h / 16)).gen.toNat ≠ h % 16 → answers 0 [0x15]) ∧
    ((s.slot (h / 16)).gen.toNat = h % 16 → answers 0 (entry (h / 16)))

/-- PURGE (R25): a scope that is none of the three is BAD_ARG, a second purge BUSY; otherwise the purge starts at slot 0
with count 0, and its answer waits. -/
def Claims.PurgeStarts : Prop :=
  ∀ (f : Frame) (scope : Byte) (hnc : BitVec 24) (s : State), Takes f kPurge s →
    let a := arrive f s
    let starts := fun x : PurgeScope =>
      (∀ p, s.vrg.purge = some p → exec (.purge f scope hnc) s = .next (pushAnswer 0x14 f.tag [0x10] a)) ∧
      (s.vrg.purge = none →
        exec (.purge f scope hnc) s = .next (a.withVrg { s.vrg with purge := some ⟨x, 0, 0, ⟨f.tag, false⟩⟩ }))
    (2 < scope.toNat → exec (.purge f scope hnc) s = .next (pushAnswer 0x14 f.tag [0x20] a)) ∧
    (scope = 0 → starts .all) ∧ (scope = 2 → starts .suspendedOnly) ∧
    (scope = 1 → hncOf hnc = none → exec (.purge f scope hnc) s = .next (pushAnswer 0x14 f.tag [0x20] a)) ∧
    ∀ d, scope = 1 → hncOf hnc = some d →
      (s.partnerByHnc d = none → exec (.purge f scope hnc) s = .next (pushAnswer 0x14 f.tag [0x14] a)) ∧
      ∀ i, s.partnerByHnc d = some i → starts (.partner i)

/-- One step of a purge walk (R26, R27): an entry of the walk position that matches the scope is retired PURGED and counted,
any other slot is passed over; after slot 4095 the purge ends and is answered OK with the count unless RESYNC marked its
answer. A step with no purge in flight changes nothing (log entry 34, DESIGN CHOICE). -/
def Claims.PurgeStep : Prop :=
  (∀ s : State, s.vrg.purge = none → exec .purgeWalkStep s = .next s) ∧
  ∀ (p : Purge) (s : State), s.vrg.purge = some p →
    let hits := ∃ v, s.visitor p.position = some v ∧ v.state ≠ .departing ∧ (match p.scope with
      | .all => True
      | .partner i => v.partner = some i
      | .suspendedOnly => v.state = .suspended)
    ∃ t n, ((hits → t = retire p.position .purged s ∧ n = p.retired + 1) ∧ (¬ hits → t = s ∧ n = p.retired)) ∧
      (p.position < 4095 → exec .purgeWalkStep s =
        .next (t.withVrg { t.vrg with purge := some { p with position := p.position + 1, retired := n } })) ∧
      (4095 ≤ p.position → p.req.dropped = true → exec .purgeWalkStep s = .next (t.withVrg { t.vrg with purge := none })) ∧
      (4095 ≤ p.position → p.req.dropped = false → exec .purgeWalkStep s =
        .next (pushAnswer 0x14 p.req.tag ([0x00] ++ beBytes 2 n) (t.withVrg { t.vrg with purge := none })))

/-- The start of a purge and its walk. -/
def Obligations.Purge : Prop := Claims.PurgeStarts ∧ Claims.PurgeStep

/-! ### Chapter 2: partners and tariff plans -/

/-- PSET of an HNC in the table updates its record and keeps its index and visitor count; PSET of a new HNC takes the
lowest free record with visitor count 0; the amounts are clamped, the answer tells which and the index, and the plans'
partner counts follow (R33, R34, R38). Everything else stands. (The answer codes created as 0 and updated as 1: log entry
10, DEDUCED.) -/
def Claims.SetPartner : Prop :=
  ∀ (f : Frame) (p : PsetFields) (d : Digits) (adm : Admission) (cf : CheckFail) (ch : Charging) (s : State),
    Takes f kPset s → hncOf p.hnc = some d → admissionOf p.admission = some adm → checkFailOf p.checkFail = some cf →
    chargingOf p.charging = some ch → p.plan.toNat ≤ 15 → p.route.toNat ≤ 31 → (s.plan p.plan.toNat).state = .ready →
    let new := p.plan.toNat
    let stores := fun (i : Nat) (visitors : Nat) (mode : Byte) (count : Nat → Nat) => ∃ t code,
      exec (.pset f p) s = .next (pushAnswer 0x20 f.tag [code, BitVec.ofNat 8 i, mode] t) ∧
      code = (if partnerInRange p then 0x00 else 0x01) ∧ t = (arrive f s).withChu t.chu ∧
      t.partner i = some (storedPartner p d adm cf ch visitors) ∧ (∀ j, j ≠ i → t.partner j = s.partner j) ∧
      (∀ x, t.plan x = { s.plan x with partners := count x }) ∧
      t.chu = { s.chu with partners := t.chu.partners, plans := t.chu.plans }
    (∀ i r, s.partnerByHnc d = some i → s.partner i = some r → r.charging = ch ∨ r.visitors = 0 →
      stores i r.visitors 1 fun x =>
        if r.plan = new then (s.plan x).partners
        else if x = new then (s.plan x).partners + 1
        else if x = r.plan then (s.plan x).partners - 1 else (s.plan x).partners) ∧
    ∀ i, s.partnerByHnc d = none → i < 64 → s.partner i = none → (∀ j < i, (s.partner j).isSome) →
      stores i 0 0 fun x => if x = new then (s.plan x).partners + 1 else (s.plan x).partners

/-- The refusals of PSET, each with nothing changed: BAD_ARG, FULL, NOT_READY, IN_USE, in that order (R33). -/
def Claims.SetPartnerRefused : Prop :=
  ∀ (f : Frame) (p : PsetFields) (s : State), Takes f kPset s →
    let refused := fun code : Byte => exec (.pset f p) s = .next (pushAnswer 0x20 f.tag [code] (arrive f s))
    let bad := hncOf p.hnc = none ∨ 2 < p.admission.toNat ∨ 1 < p.checkFail.toNat ∨ 1 < p.charging.toNat ∨
      15 < p.plan.toNat ∨ 31 < p.route.toNat
    (bad → refused 0x20) ∧
    ∀ d ch, ¬ bad → hncOf p.hnc = some d → chargingOf p.charging = some ch →
      (s.partnerByHnc d = none → (∀ i < 64, (s.partner i).isSome) → refused 0x11) ∧
      (s.partnerByHnc d = none → (∃ i < 64, s.partner i = none) → (s.plan p.plan.toNat).state = .editing → refused 0x18) ∧
      ∀ i r, s.partnerByHnc d = some i → s.partner i = some r →
        ((s.plan p.plan.toNat).state = .editing → refused 0x18) ∧
        ((s.plan p.plan.toNat).state = .ready → r.charging ≠ ch → 0 < r.visitors → refused 0x17)

/-- PSET, taken and refused. -/
def Obligations.SetPartner : Prop := Claims.SetPartner ∧ Claims.SetPartnerRefused

/-- PDEL (R35): BAD_ARG, NOT_FOUND, BUSY under a purge of that partner, IN_USE with visitors, each with nothing changed;
otherwise the record is free, its plan's partner count falls by 1 and the freed index is answered. -/
def Obligations.DeletePartner : Prop :=
  ∀ (f : Frame) (hnc : BitVec 24) (s : State), Takes f kPdel s →
    let refused := fun code : Byte => exec (.pdel f hnc) s = .next (pushAnswer 0x21 f.tag [code] (arrive f s))
    (hncOf hnc = none → refused 0x20) ∧
    ∀ d, hncOf hnc = some d →
      (s.partnerByHnc d = none → refused 0x14) ∧
      ∀ i r, s.partnerByHnc d = some i → s.partner i = some r →
        let purged := ∃ x, s.vrg.purge = some x ∧ x.scope = .partner i
        (purged → refused 0x10) ∧ (¬ purged → 0 < r.visitors → refused 0x17) ∧
        (¬ purged → r.visitors = 0 → ∃ t,
          exec (.pdel f hnc) s = .next (pushAnswer 0x21 f.tag [0x00, BitVec.ofNat 8 i] t) ∧
          t = (arrive f s).withChu t.chu ∧ t.partner i = none ∧ (∀ j, j ≠ i → t.partner j = s.partner j) ∧
          (∀ x, t.plan x = { s.plan x with
            partners := if x = r.plan then (s.plan x).partners - 1 else (s.plan x).partners }) ∧
          t.chu = { s.chu with partners := t.chu.partners, plans := t.chu.plans })

/-- PREAD and AREAD (R36, R62, R222, R223): the whole record as it stands, every field at its place. By index: a free
record is NOT_FOUND, an index out of range BAD_ARG. By HNC or SID: BAD_ARG for digits that spell none, NOT_FOUND for one
no record carries. Any other selector is BAD_ARG (R214; log entry 16, DEDUCED). Neither has an effect. -/
def Claims.ReadPartnerAccount : Prop :=
  (∀ (f : Frame) (name : BitVec 24) (s : State), Takes f kPread s →
    let i := name.toNat / 65536
    let answers := fun (sel : Byte) (p : List Byte) =>
      exec (.pread f sel name) s = .next (pushAnswer 0x22 f.tag p (arrive f s))
    let record := fun (i : Nat) (r : Partner) =>
      [0x00] ++ beBytes 1 i ++ hncBytes r.hnc ++ [admissionByte r.admission, checkFailByte r.checkFail, chargingByte r.charging] ++
        beBytes 1 r.plan ++ beBytes 1 r.route ++ beBytes 4 r.grace ++ beBytes 4 r.request ++ beBytes 2 r.reorder ++
        beBytes 2 r.retryWait ++ beBytes 2 r.visitors
    (∀ sel : Byte, 1 < sel.toNat → answers sel [0x20]) ∧ (63 < i → answers 1 [0x20]) ∧
    (i ≤ 63 → s.partner i = none → answers 1 [0x14]) ∧
    (∀ r, i ≤ 63 → s.partner i = some r → answers 1 (record i r)) ∧ (hncOf name = none → answers 0 [0x20]) ∧
    ∀ d, hncOf name = some d →
      (s.partnerByHnc d = none → answers 0 [0x14]) ∧
      ∀ j r, s.partnerByHnc d = some j → s.partner j = some r → answers 0 (record j r)) ∧
  (∀ (f : Frame) (name : BitVec 64) (s : State), Takes f kAread s →
    let i := name.toNat / 2 ^ 48
    let answers := fun (sel : Byte) (p : List Byte) =>
      exec (.aread f sel name) s = .next (pushAnswer 0x31 f.tag p (arrive f s))
    let three := fun v : PerClass Nat => beBytes 3 v.voice ++ beBytes 3 v.data ++ beBytes 3 v.message
    let record := fun (i : Nat) (a : Account) =>
      [0x00] ++ beBytes 2 i ++
        [if a.departed then 2 else 1, BitVec.ofNat 8 (a.saturated.toNat + 2 * a.late.toNat + 4 * a.unrepMark.toNat)] ++
        sidBytes a.sid ++ hncBytes a.hnc ++ beBytes 4 a.opened.toNat ++ beBytes 2 a.settles.toNat ++ three a.remainder ++
        three a.carry ++ beBytes 6 a.unreported ++
        [a.buckets.q0, a.buckets.q1, a.buckets.q2, a.buckets.q3].flatMap fun b =>
          beBytes 6 b.charge ++ beBytes 6 b.seconds ++ beBytes 6 b.up ++ beBytes 6 b.down ++ beBytes 6 b.messages
    (∀ sel : Byte, 1 < sel.toNat → answers sel [0x20]) ∧ (4607 < i → answers 0 [0x20]) ∧
    (i ≤ 4607 → s.account i = none → answers 0 [0x14]) ∧
    (∀ a, i ≤ 4607 → s.account i = some a → answers 0 (record i a)) ∧ (sidOf name = none → answers 1 [0x20]) ∧
    ∀ d, sidOf name = some d →
      (s.accountBySid d = none → answers 1 [0x14]) ∧
      ∀ j a, s.accountBySid d = some j → s.account j = some a → answers 1 (record j a))

/-- TWRITE (R39): BAD_ARG, then STATE for a READY plan, each with nothing changed; otherwise each listed record is replaced
with its values clamped, the others stand, the degraded factor is replaced if it is given, and state, stored check value and
partner count stand. -/
def Obligations.WriteRates : Prop :=
  ∀ (f : Frame) (plan flags : Byte) (factor : BitVec 16) (rs : List RateField) (s : State),
    Takes f (kTwrite rs.length) s →
    let x := s.plan plan.toNat
    let bad := 15 < plan.toNat ∨ (∃ r ∈ rs, 3 < r.zone.toNat ∨ 2 < r.cls.toNat) ∨
      ¬ rs.Pairwise (fun a b => ¬ (a.zone = b.zone ∧ a.cls = b.cls))
    let inRange := (∀ r ∈ rs, 1 ≤ r.step.toNat ∧ r.price.toNat ≤ 1000000) ∧ (flags[0] = true → factor.toNat ≤ 1000)
    (bad → exec (.twrite f plan flags factor rs) s = .next (pushAnswer 0x24 f.tag [0x20] (arrive f s))) ∧
    (¬ bad → x.state = .ready →
      exec (.twrite f plan flags factor rs) s = .next (pushAnswer 0x24 f.tag [0x16] (arrive f s))) ∧
    (¬ bad → x.state = .editing → ∃ y code, exec (.twrite f plan flags factor rs) s =
        .next (pushAnswer 0x24 f.tag [code] ((arrive f s).setPlan plan.toNat y)) ∧
      code = (if inRange then 0x00 else 0x01) ∧ y.state = .editing ∧ y.stored = x.stored ∧ y.partners = x.partners ∧
      y.factor = (if flags[0] then min 1000 factor.toNat else x.factor) ∧
      ∀ z c, (∀ r ∈ rs, r.zone.toNat = z.val → r.cls = classByte c →
          planRate y z c = ⟨max 1 r.step.toNat, min 1000000 r.price.toNat⟩) ∧
        ((∀ r ∈ rs, ¬ (r.zone.toNat = z.val ∧ r.cls = classByte c)) → planRate y z c = planRate x z c))

/-- TOPEN: refused BAD_ARG, STATE or IN_USE with nothing changed; otherwise the plan is EDITING and keeps its rate records,
degraded factor and stored check value (R40). -/
def Obligations.OpenPlan : Prop :=
  ∀ (f : Frame) (plan : Byte) (s : State), Takes f kTopen s →
    let x := s.plan plan.toNat
    let answers := fun code t => exec (.topen f plan) s = .next (pushAnswer 0x25 f.tag [code] t)
    (15 < plan.toNat → answers 0x20 (arrive f s)) ∧
    (plan.toNat ≤ 15 → x.state = .editing → answers 0x16 (arrive f s)) ∧
    (plan.toNat ≤ 15 → x.state = .ready → 0 < x.partners → answers 0x17 (arrive f s)) ∧
    (plan.toNat ≤ 15 → x.state = .ready → x.partners = 0 →
      answers 0x00 ((arrive f s).setPlan plan.toNat { x with state := .editing }))

/-- TCOMMIT: refused BAD_ARG or STATE with nothing changed; a value equal to the computed check value makes the plan READY
and is stored, and another is answered CHECK_MISMATCH with nothing changed; both answers carry the computed value (R42).
-/
def Obligations.CommitPlan : Prop :=
  ∀ (f : Frame) (plan : Byte) (check : BitVec 16) (s : State), Takes f kTcommit s →
    let x := s.plan plan.toNat
    let computed := planCheck x
    let answers := fun p t => exec (.tcommit f plan check) s = .next (pushAnswer 0x26 f.tag p t)
    (15 < plan.toNat → answers [0x20] (arrive f s)) ∧
    (plan.toNat ≤ 15 → x.state = .ready → answers [0x16] (arrive f s)) ∧
    (plan.toNat ≤ 15 → x.state = .editing → check = computed →
      answers ([0x00] ++ beBytes 2 computed.toNat)
        ((arrive f s).setPlan plan.toNat { x with state := .ready, stored := check })) ∧
    (plan.toNat ≤ 15 → x.state = .editing → check ≠ computed →
      answers ([0x23] ++ beBytes 2 computed.toNat) (arrive f s))

/-- TREAD (R43): BAD_ARG for an index above 15; otherwise the state, the partner count, the twelve rate records in the
order of R41, the factor, and the stored and the computed check value, with no effect. The code of the state and the
widths of a rate record are those of log entry 10 (DEDUCED). -/
def Claims.ReadPlan : Prop :=
  ∀ (f : Frame) (plan : Byte) (s : State), Takes f kTread s →
    let x := s.plan plan.toNat
    let answers := fun p => exec (.tread f plan) s = .next (pushAnswer 0x27 f.tag p (arrive f s))
    let content := (([0, 1, 2, 3] : List TariffZone).flatMap fun z => [TrafficClass.voice, .data, .message].flatMap fun c =>
      beBytes 3 (planRate x z c).step ++ beBytes 4 (planRate x z c).price) ++ beBytes 2 x.factor
    (15 < plan.toNat → answers [0x20]) ∧
    (plan.toNat ≤ 15 → answers ([(0x00 : Byte), match x.state with | .editing => 0 | .ready => 1] ++ beBytes 1 x.partners ++ content ++
      beBytes 2 x.stored.toNat ++ beBytes 2 (crc16 content).toNat))

/-- The reads of chapters 1 to 3. -/
def Obligations.ReadRecords : Prop := Claims.ReadVisitor ∧ Claims.ReadPartnerAccount ∧ Claims.ReadPlan

/-- The CRC of R41 and R211: a receiver that runs the computation over the covered bytes and both CRC bytes of a frame that
arrived intact finds a remainder of 0, whatever the bytes. -/
def Obligations.CrcResidue : Prop :=
  ∀ bs : List Byte, crc16 (bs ++ beBytes 2 (crc16 bs).toNat) = 0

/-! ### Chapter 3: metering and rating -/

/-- The rating computation (R53–R57): the new remainder and the steps make up remainder and amount; the charge and the new
carry make up the product and the carry, so no micro-unit is lost; the bucket of the tariff zone in force takes charge and
volume up to their limit; every other bucket, remainder, carry and mark stands. -/
def Claims.Rating : Prop :=
  ∀ (r : RateInputs) (online : Bool) (z : TariffZone) (c : TrafficClass) (up : Bool) (n : Nat) (a b : Account)
    (charge : Nat) (hit : Bool), 0 < r.rate.step → rateAccount (some r) online z c up n a = (b, charge, hit) →
    let top := 281474976710655
    let k := (cget a.remainder c + n) / r.rate.step
    let x := qget a.buckets z
    let y := qget b.buckets z
    cget b.remainder c < r.rate.step ∧ k * r.rate.step + cget b.remainder c = cget a.remainder c + n ∧
    cget b.carry c < 1000000 ∧ 1000000 * charge + cget b.carry c = k * r.rate.price * r.lf * r.qf + cget a.carry c ∧
    y.charge = min top (x.charge + charge) ∧
    y.seconds = (if c = .voice then min top (x.seconds + n) else x.seconds) ∧
    y.up = (if c = .data ∧ up then min top (x.up + n) else x.up) ∧
    y.down = (if c = .data ∧ !up then min top (x.down + n) else x.down) ∧
    y.messages = (if c = .message then min top (x.messages + n) else x.messages) ∧
    b.unreported = (if online then min top (a.unreported + charge) else a.unreported) ∧
    (∀ w, w ≠ z → qget b.buckets w = qget a.buckets w) ∧
    (∀ d, d ≠ c → cget b.remainder d = cget a.remainder d ∧ cget b.carry d = cget a.carry d) ∧
    b = { a with buckets := b.buckets, remainder := b.remainder, carry := b.carry, unreported := b.unreported } ∧
    (hit = true ↔ top < x.charge + charge ∨ (online = true ∧ top < a.unreported + charge) ∨ top < n + (match c, up with
      | .voice, _ => x.seconds
      | .data, true => x.up
      | .data, false => x.down
      | .message, _ => x.messages))

/-- The bound of R53 and R54: with every input in its range, the sum of remainder and amount is at most 17,825,789 and the
product at most 71,303,156,000,000,000,000, which lies below 2 to the 66. -/
def Claims.RatingBound : Prop :=
  ∀ rem n step price lf qf : Nat, rem ≤ 16777214 → n ≤ 1048575 → 1 ≤ step →
    step ≤ 16777215 → price ≤ 1000000 → lf ≤ 4000 → qf ≤ 1000 →
    rem + n ≤ 17825789 ∧ (stepsOf rem n step).1 * price * lf * qf ≤ 71303156000000000000 ∧
      (stepsOf rem n step).1 * price * lf * qf < 2 ^ 66 ∧ (stepsOf rem n step).2 ≤ 16777214 ∧
      (chargeOf (stepsOf rem n step).1 price lf qf 0).2 ≤ 999999

/-- The quality factor (R52): the plan's degraded factor in PROBING and HELD, and in a DEGRADED in which some unmasked
monitor that is not under drill is in FAULT or no drill runs; 1000 otherwise. -/
def Claims.QualityFactor : Prop :=
  ∀ (l : LinkRec) (factor : Nat),
    let bad := fun m => (mget l.monitors m).fault = true ∧ mget l.cfg.mask m = false
    let drillOnly := ∃ d, l.drill = some d ∧ ∀ m, m ≠ d.monitor → ¬ bad m
    (l.state = .probing ∨ (∃ c, l.state = .held c) ∨ (l.state = .degraded ∧ ¬ drillOnly) → qualityFactor l factor = factor) ∧
    (l.state = .up ∨ l.state = .off ∨ (l.state = .degraded ∧ drillOnly) → qualityFactor l factor = 1000)

/-- The rating computation, its bound and the quality factor. -/
def Obligations.Rating : Prop := Claims.Rating ∧ Claims.RatingBound ∧ Claims.QualityFactor

/-- The refusals and the empty post of USAGE (R47), and a post that nothing attributes, answered STALE and added to the
device's unattributed counter of its class and direction (R51). -/
def Claims.UsageUnattributed : Prop :=
  ∀ (f : Frame) (h : BitVec 16) (cls dir : Byte) (n : BitVec 24) (link : Byte) (s : State), Takes f kUsage s →
    let bad := 2 < cls.toNat ∨ (cls = 1 ∧ 1 < dir.toNat) ∨ 1048575 < n.toNat ∨ 3 < link.toNat
    let zero := List.replicate 6 (0 : Byte)
    let u := s.chu.unattributed
    let i := h.toNat / 16
    let nobody := (s.slot i).gen.toNat ≠ h.toNat % 16 ∨ (s.visitor i = none ∧ ∀ a x, (s.slot i).account = some a →
      s.account a = some x → x.departed = false ∨ (s.slot i).sid ≠ some x.sid)
    (bad → exec (.usage f h cls dir n link) s = .next (pushAnswer 0x30 f.tag [0x20] (arrive f s))) ∧
    (¬ bad → n.toNat = 0 → exec (.usage f h cls dir n link) s =
      .next (pushAnswer 0x30 f.tag ([0x00, 3] ++ zero ++ [0xFF]) (arrive f s))) ∧
    (¬ bad → 0 < n.toNat → nobody → ∃ w, exec (.usage f h cls dir n link) s =
        .next (pushAnswer 0x30 f.tag ([0x15, 3] ++ zero ++ [0xFF]) ((arrive f s).withChu { s.chu with unattributed := w })) ∧
      w.seconds = (if cls = 0 then min 281474976710655 (u.seconds + n.toNat) else u.seconds) ∧
      w.up = (if cls = 1 ∧ dir = 0 then min 281474976710655 (u.up + n.toNat) else u.up) ∧
      w.down = (if cls = 1 ∧ dir = 1 then min 281474976710655 (u.down + n.toNat) else u.down) ∧
      w.messages = (if cls = 2 then min 281474976710655 (u.messages + n.toNat) else u.messages))

/-- A LIVE post of an OFFLINE partner's visitor (R48, R52–R58): the account is rated with the inputs as they stand,
SATURATED is set and told where a counter stops, the entry moves to the tail of the activity order, and the answer carries
the charge and no gate. -/
def Obligations.UsageLive : Prop :=
  ∀ (f : Frame) (h : BitVec 16) (c : TrafficClass) (dir : Byte) (n : BitVec 24) (l : Link) (v : Visitor) (a p : Nat)
    (x y : Account) (r : Partner) (charge : Nat) (hit : Bool) (s : State), Takes f kUsage s →
    let i := h.toNat / 16
    s.live h = true → s.visitor i = some v → v.cls ≠ .emergency → v.state ≠ .departing → (s.slot i).account = some a →
    s.account a = some x → v.partner = some p → s.partner p = some r → r.charging = .offline → v.quota = none →
    0 < n.toNat → n.toNat ≤ 1048575 → (c = .data → dir.toNat < 2) →
    rateAccount (some ⟨planRate (s.plan r.plan) s.tariffInForce c, (s.link l).cfg.cost,
      qualityFactor (s.link l) (s.plan r.plan).factor⟩) false s.tariffInForce c (dir == 0) n.toNat x = (y, charge, hit) →
    ∃ t, exec (.usage f h (classByte c) dir n (linkByte l)) s =
        .next (pushAnswer 0x30 f.tag ([0x00, 0] ++ beBytes 6 charge ++ [0xFF]) t) ∧
      t.account a = some { y with saturated := x.saturated || hit } ∧ (∀ j, j ≠ a → t.account j = s.account j) ∧
      t.chu = { s.chu with accounts := t.chu.accounts } ∧
      t.slot i = { s.slot i with visitor := some { v with
        lastActivity := s.rqp.shipTime
        retire := if v.state = .active then idleLimit s.settings v.cls else v.retire } } ∧
      (∀ j, j ≠ i → t.slot j = s.slot j) ∧ t.vrg.activity = s.vrg.activity.filter (· != i) ++ [i] ∧
      t.vrg.purge = s.vrg.purge ∧ t.qxu = s.qxu ∧ OutsideVisitors s t ∧ PortKept (arrive f s) t ∧
      Gives s t (if hit = true ∧ x.saturated = false then [⟨.account, .account a, 1, 0, 0, 0, 0, 0, s.rqp.shipTime⟩] else [])

/-- A LIVE post of an ONLINE visitor (R48, R57, R69, R70, R72): the unreported charge and the remaining take the charge.
With no exchange outstanding or deferred and the final flag clear, a QUOTA exchange is asked for where an ACTIVE visitor's
OPEN gate still has credit that is at or below the reorder level, and where no credit is left and no retry wait runs. The
gate follows by R70, and the answer carries it. -/
def Obligations.UsageOnline : Prop :=
  ∀ (f : Frame) (h : BitVec 16) (c : TrafficClass) (dir : Byte) (n : BitVec 24) (l : Link) (v : Visitor) (q : Quota)
    (a p : Nat) (x y : Account) (r : Partner) (charge : Nat) (hit : Bool) (s : State), Takes f kUsage s →
    let i := h.toNat / 16
    s.live h = true → s.visitor i = some v → v.cls ≠ .emergency → v.state ≠ .departing → (s.slot i).account = some a →
    s.account a = some x → v.partner = some p → s.partner p = some r → r.charging = .online → v.quota = some q →
    0 < n.toNat → n.toNat ≤ 1048575 → (c = .data → dir.toNat < 2) →
    rateAccount (some ⟨planRate (s.plan r.plan) s.tariffInForce c, (s.link l).cfg.cost,
      qualityFactor (s.link l) (s.plan r.plan).factor⟩) true s.tariffInForce c (dir == 0) n.toNat x = (y, charge, hit) →
    0 < charge →
    let left := max (-549755813888) (q.remaining - charge)
    let after := { q with remaining := left }
    ∃ t, exec (.usage f h (classByte c) dir n (linkByte l)) s = .next (pushAnswer 0x30 f.tag
        ([0x00, 0] ++ beBytes 6 charge ++ [gateByte (gateAfter v after)]) t) ∧
      t.account a = some { y with saturated := x.saturated || hit } ∧ (∀ j, j ≠ a → t.account j = s.account j) ∧
      CreditSettled s t i { v with
        lastActivity := s.rqp.shipTime
        retire := if v.state = .active then idleLimit s.settings v.cls else v.retire } after
        (v.xref = none ∧ v.deferred = false ∧ q.final = false ∧
          ((v.state = .active ∧ q.gate = .opened ∧ 0 < left ∧ left ≤ reorderAt s v q) ∨ (q.retry = none ∧ left ≤ 0)))
        (if hit = true ∧ x.saturated = false then [⟨.account, .account a, 1, 0, 0, 0, 0, 0, s.rqp.shipTime⟩] else []) ∧
      (∀ j, j ≠ i → t.slot j = s.slot j) ∧ t.vrg.activity = s.vrg.activity.filter (· != i) ++ [i] ∧
      t.vrg.purge = s.vrg.purge ∧ t.chu = { s.chu with accounts := t.chu.accounts } ∧ OutsideVisitors s t ∧
      PortKept (arrive f s) t

/-- A post of an EMERGENCY visitor (R50): the device's emergency counter of its class and direction takes the amount, the
entry has an activity, no account is touched, and the answer is EMERGENCY with charge 0. -/
def Claims.UsageEmergency : Prop :=
  ∀ (f : Frame) (h : BitVec 16) (c : TrafficClass) (dir : Byte) (n : BitVec 24) (l : Link) (v : Visitor) (s : State),
    Takes f kUsage s →
    let i := h.toNat / 16
    let top := 281474976710655
    let e := s.chu.emergency
    s.live h = true → s.visitor i = some v → v.cls = .emergency → 0 < n.toNat → n.toNat ≤ 1048575 →
    (c = .data → dir.toNat < 2) →
    ∃ t, exec (.usage f h (classByte c) dir n (linkByte l)) s =
        .next (pushAnswer 0x30 f.tag ([0x00, 2] ++ List.replicate 6 0 ++ [0xFF]) t) ∧
      t.chu = { s.chu with emergency :=
        { seconds := if c = .voice then min top (e.seconds + n.toNat) else e.seconds
          up := if c = .data ∧ dir = 0 then min top (e.up + n.toNat) else e.up
          down := if c = .data ∧ dir = 1 then min top (e.down + n.toNat) else e.down
          messages := if c = .message then min top (e.messages + n.toNat) else e.messages } } ∧
      t.vrg.activity = s.vrg.activity.filter (· != i) ++ [i] ∧ (∀ j, j ≠ i → t.slot j = s.slot j) ∧
      t.slot i = { s.slot i with visitor := some { v with
        lastActivity := s.rqp.shipTime
        retire := if v.state = .active then idleLimit s.settings .emergency else v.retire } } ∧
      t.qxu = s.qxu ∧ OutsideVisitors s t ∧ t.rqp = (arrive f s).rqp

/-- A LATE post through a FREE slot whose last account is still DEPARTED with its SID, for an account whose HNC names no
partner (R49, R52): LATE is set, the volume alone is counted, and the answer is LATE with charge 0. -/
def Claims.UsageLate : Prop :=
  ∀ (f : Frame) (h : BitVec 16) (c : TrafficClass) (dir : Byte) (n : BitVec 24) (l : Link) (a : Nat) (x : Account) (s : State),
    Takes f kUsage s →
    let i := h.toNat / 16
    let z := s.tariffInForce
    let w := qget x.buckets z
    let m := n.toNat
    let fits := fun k : Nat => k + m ≤ 281474976710655
    s.visitor i = none → (s.slot i).gen.toNat = h.toNat % 16 → (s.slot i).account = some a → s.account a = some x →
    x.departed = true → (s.slot i).sid = some x.sid → s.partnerByHnc x.hnc = none → 0 < m → m ≤ 1048575 →
    (c = .data → dir.toNat < 2) → fits w.seconds → fits w.up → fits w.down → fits w.messages →
    ∃ t, exec (.usage f h (classByte c) dir n (linkByte l)) s =
        .next (pushAnswer 0x30 f.tag ([0x00, 1] ++ List.replicate 6 0 ++ [0xFF]) t) ∧
      t = (arrive f s).withChu t.chu ∧ t.chu = { s.chu with accounts := t.chu.accounts } ∧
      (∀ j, j ≠ a → t.account j = s.account j) ∧
      t.account a = some { x with
        late := true
        buckets := qset x.buckets z
          { charge := w.charge
            seconds := if c = .voice then w.seconds + m else w.seconds
            up := if c = .data ∧ dir = 0 then w.up + m else w.up
            down := if c = .data ∧ dir = 1 then w.down + m else w.down
            messages := if c = .message then w.messages + m else w.messages } }

/-- A LATE post through a FREE slot, rated through the partner whose HNC is the account's (R49, R52–R57): LATE is set, the
account rated, and, for an ONLINE partner and a charge above 0, marked UNREPORTED; the answer is LATE with the charge and
no gate; no visitor entry moves. -/
def Claims.UsageLateRated : Prop :=
  ∀ (f : Frame) (h : BitVec 16) (c : TrafficClass) (dir : Byte) (n : BitVec 24) (l : Link) (a p : Nat) (x y : Account)
    (r : Partner) (charge : Nat) (hit : Bool) (s : State), Takes f kUsage s →
    let i := h.toNat / 16
    let online := decide (r.charging = .online)
    s.visitor i = none → (s.slot i).gen.toNat = h.toNat % 16 → (s.slot i).account = some a → s.account a = some x →
    x.departed = true → (s.slot i).sid = some x.sid → s.partnerByHnc x.hnc = some p → s.partner p = some r →
    0 < n.toNat → n.toNat ≤ 1048575 → (c = .data → dir.toNat < 2) →
    rateAccount (some ⟨planRate (s.plan r.plan) s.tariffInForce c, (s.link l).cfg.cost,
      qualityFactor (s.link l) (s.plan r.plan).factor⟩) online s.tariffInForce c (dir == 0) n.toNat
      { x with late := true } = (y, charge, hit) →
    ∃ t, exec (.usage f h (classByte c) dir n (linkByte l)) s =
        .next (pushAnswer 0x30 f.tag ([0x00, 1] ++ beBytes 6 charge ++ [0xFF]) t) ∧
      t.account a = some { y with
        saturated := x.saturated || hit, unrepMark := y.unrepMark || (online && decide (0 < charge)) } ∧
      (∀ j, j ≠ a → t.account j = s.account j) ∧ t.chu = { s.chu with accounts := t.chu.accounts } ∧ t.vrg = s.vrg ∧
      t.qxu = s.qxu ∧ OutsideVisitors s t ∧ PortKept (arrive f s) t ∧
      Gives s t (if hit = true ∧ x.saturated = false then [⟨.account, .account a, 1, 0, 0, 0, 0, 0, s.rqp.shipTime⟩] else [])

/-- A LATE post of a DEPARTING entry (R48, R52–R57, R69, R220): LATE is set and the account rated through the entry's
partner. A charge above 0 of an ONLINE partner is taken from the remaining, which stops at its lower limit, with no
exchange asked for, and the answer carries the gate, SHUT after a retirement; where the FINAL exchange has been fetched
(log entry 20, DEDUCED) it sets UNREPORTED too. Any other post reaches no quota part and the gate byte is FFh (log entry
21, DEDUCED). -/
def Claims.UsageDeparting : Prop :=
  ∀ (f : Frame) (h : BitVec 16) (c : TrafficClass) (dir : Byte) (n : BitVec 24) (l : Link) (v : Visitor) (q : Quota)
    (a p : Nat) (x y : Account) (r : Partner) (charge : Nat) (hit : Bool) (s : State), Takes f kUsage s →
    let i := h.toNat / 16
    let online := decide (r.charging = .online)
    let handed := online && decide (0 < charge)
    s.live h = true → s.visitor i = some v → v.cls ≠ .emergency → v.state = .departing → v.quota = some q →
    (s.slot i).account = some a → s.account a = some x → v.partner = some p → s.partner p = some r →
    0 < n.toNat → n.toNat ≤ 1048575 → (c = .data → dir.toNat < 2) →
    rateAccount (some ⟨planRate (s.plan r.plan) s.tariffInForce c, (s.link l).cfg.cost,
      qualityFactor (s.link l) (s.plan r.plan).factor⟩) online s.tariffInForce c (dir == 0) n.toNat
      { x with late := true } = (y, charge, hit) →
    ∃ t, exec (.usage f h (classByte c) dir n (linkByte l)) s = .next (pushAnswer 0x30 f.tag
        ([0x00, 1] ++ beBytes 6 charge ++ [if handed then gateByte q.gate else 0xFF]) t) ∧
      t.account a = some { y with
        saturated := x.saturated || hit, unrepMark := y.unrepMark || (handed && s.finalFetched i) } ∧
      (∀ j, j ≠ a → t.account j = s.account j) ∧ t.chu = { s.chu with accounts := t.chu.accounts } ∧
      t.slot i = { s.slot i with visitor := some { v with quota := some { q with
        remaining := if handed then max (-549755813888) (q.remaining - charge) else q.remaining } } } ∧
      (∀ j, j ≠ i → t.slot j = s.slot j) ∧ t.vrg = { s.vrg with slots := t.vrg.slots } ∧ t.qxu = s.qxu ∧
      OutsideVisitors s t ∧ PortKept (arrive f s) t

/-- The posts that are not LIVE: none, EMERGENCY and LATE. -/
def Obligations.UsageElsewhere : Prop :=
  Claims.UsageUnattributed ∧ Claims.UsageEmergency ∧ Claims.UsageLate ∧ Claims.UsageLateRated ∧ Claims.UsageDeparting

/-- Close-out (R60): each class with a remainder is charged one step at its price, each with a carry 1 cu more, all
remainders and carries become 0, the charge enters the bucket of the tariff zone in force and, ONLINE, the unreported
charge, and nothing else changes; with no partner a remainder goes without a charge. -/
def Obligations.CloseOut : Prop :=
  ∀ (rates : Option (PerClass Rate)) (online : Bool) (z : TariffZone) (a : Account),
    let out := closeOutAccount rates online z a
    let price := fun c => match rates with
      | some p => (cget p c).price
      | none => 0
    let part := fun c => (if 0 < cget a.remainder c then price c else 0) + (if 0 < cget a.carry c then 1 else 0)
    let charge := part .voice + part .data + part .message
    out.2.1 = charge ∧ (∀ c, cget out.1.remainder c = 0 ∧ cget out.1.carry c = 0) ∧
    (qget out.1.buckets z).charge = min 281474976710655 ((qget a.buckets z).charge + charge) ∧
    qget out.1.buckets z = { qget a.buckets z with charge := (qget out.1.buckets z).charge } ∧
    (∀ w, w ≠ z → qget out.1.buckets w = qget a.buckets w) ∧
    out.1.unreported = (if online then min 281474976710655 (a.unreported + charge) else a.unreported) ∧
    out.1 = { a with buckets := out.1.buckets, remainder := out.1.remainder, carry := out.1.carry,
                     unreported := out.1.unreported }

/-- SETTLE (R63, R224): BAD_ARG, NOT_FOUND and STATE with nothing changed; for an ACTIVE account the four buckets are
answered and set to 0, the settle count rises by 1 and wraps, SATURATED is cleared unless the unreported charge stands at
its limit, and every other field stands. -/
def Claims.Settle : Prop :=
  ∀ (f : Frame) (i : BitVec 16) (s : State), Takes f kSettle s →
    let refused := fun code : Byte => exec (.settle f i) s = .next (pushAnswer 0x32 f.tag [code] (arrive f s))
    (4607 < i.toNat → refused 0x20) ∧ (i.toNat ≤ 4607 → s.account i.toNat = none → refused 0x14) ∧
    ∀ a, i.toNat ≤ 4607 → s.account i.toNat = some a →
      (a.departed = true → refused 0x16) ∧
      (a.departed = false → exec (.settle f i) s = .next (pushAnswer 0x32 f.tag
          ([0x00] ++ beBytes 2 i.toNat ++ beBytes 2 ((a.settles.toNat + 1) % 65536) ++ sidBytes a.sid ++ hncBytes a.hnc ++
            beBytes 4 a.opened.toNat ++ bucketsBytes a.buckets)
          ((arrive f s).setAccount i.toNat (some { a with
            buckets := quadOf ⟨0, 0, 0, 0, 0⟩, settles := a.settles + 1,
            saturated := if a.unreported = 281474976710655 then a.saturated else false }))))

/-- COLLECT (R64, R61, R66, R222, R225): BAD_ARG, NOT_FOUND, STATE for an ACTIVE account and BUSY while a DEPARTING entry
refers to it, each with nothing changed; a DEPARTED account is closed out with the partner its HNC copy names, answered with
its marks after that, and becomes FREE, and the supply of FREE accounts rises by 1. Charge the close-out adds for an ONLINE
partner sets UNREPORTED; with no remainder and no carry left the account is answered as it stands. -/
def Claims.Collect : Prop :=
  ∀ (f : Frame) (i : BitVec 16) (s : State), Takes f kCollect s →
    let refused := fun code : Byte => exec (.collect f i) s = .next (pushAnswer 0x33 f.tag [code] (arrive f s))
    let busy := ∃ j v, s.visitor j = some v ∧ v.state = .departing ∧ (s.slot j).account = some i.toNat
    let collects := fun (y : Account) (filled : Bool) => ∃ t p,
      exec (.collect f i) s = .next (pushAnswer 0x33 f.tag p t) ∧ p.length = 147 ∧ byteAt p 0 = 0 ∧
      slice 1 2 p = beBytes 2 i.toNat ∧
      byteAt p 3 = BitVec.ofNat 8
        ((if y.saturated then 1 else 0) + (if y.late then 2 else 0) + (if y.unrepMark then 4 else 0)) ∧
      slice 4 2 p = beBytes 2 y.settles.toNat ∧ slice 6 8 p = sidBytes y.sid ∧ slice 14 3 p = hncBytes y.hnc ∧
      slice 17 4 p = beBytes 4 y.opened.toNat ∧ slice 21 6 p = beBytes 6 y.unreported ∧
      slice 27 120 p = bucketsBytes y.buckets ∧ t.account i.toNat = none ∧
      (∀ j, j ≠ i.toNat → t.account j = s.account j) ∧
      t.chu = { s.chu with
        accounts := t.chu.accounts, freeAccounts := s.chu.freeAccounts + 1,
        armed := s.chu.armed || decide (s.settings.lowWater < s.chu.freeAccounts + 1) } ∧
      t = ((if filled then giveNotice .account (.account i.toNat) 1 0 0 0 0 0 else id) (arrive f s)).withChu t.chu
    Canonical s → (4607 < i.toNat → refused 0x20) ∧ (i.toNat ≤ 4607 → s.account i.toNat = none → refused 0x14) ∧
    ∀ a, i.toNat ≤ 4607 → s.account i.toNat = some a →
      (a.departed = false → refused 0x16) ∧ (a.departed = true → busy → refused 0x10) ∧
      (a.departed = true → ¬ busy → a.remainder = ⟨0, 0, 0⟩ → a.carry = ⟨0, 0, 0⟩ →
        (∀ z, (qget a.buckets z).charge ≤ 281474976710655) → a.unreported ≤ 281474976710655 → collects a false) ∧
      (a.departed = true → ¬ busy →
        let partner := (s.partnerByHnc a.hnc).bind s.partner
        let online := partner.any fun r => decide (r.charging = .online)
        let out := closeOutAccount (partner.map fun r => qget (s.plan r.plan).rates s.tariffInForce) online s.tariffInForce a
        collects { out.1 with
          saturated := a.saturated || out.2.2
          unrepMark := a.unrepMark || (online && decide (0 < out.2.1)) } (out.2.2 && !a.saturated))

/-- UAREAD carries no arguments: OK with the four unattributed and the four emergency counters as they stand, and all eight
are set to 0; nothing else changes (R65). -/
def Obligations.ReadUnattributed : Prop :=
  ∀ (f : Frame) (s : State), Takes f kUaread s →
    let u := s.chu.unattributed
    let e := s.chu.emergency
    exec (.uaread f) s = .next (pushAnswer 0x34 f.tag
      ([0x00] ++ beBytes 6 u.seconds ++ beBytes 6 u.up ++ beBytes 6 u.down ++ beBytes 6 u.messages ++
        beBytes 6 e.seconds ++ beBytes 6 e.up ++ beBytes 6 e.down ++ beBytes 6 e.messages)
      ((arrive f s).withChu { s.chu with unattributed := ⟨0, 0, 0, 0⟩, emergency := ⟨0, 0, 0, 0⟩ }))

/-- The supply of FREE accounts (R66): a taking lowers the count and, below the low-water with the flag ARMED, gives one
ACCOUNT notice LOW with the new count and spends the flag; a freeing raises the count and, above the low-water, arms it. -/
def Claims.AccountSupply : Prop :=
  ∀ s : State,
    let n := s.chu.freeAccounts - 1
    let low := n < s.settings.lowWater ∧ s.chu.armed = true
    (low → accountTaken s = giveNotice .account .none 2 (BitVec.ofNat 8 (n / 256)) (BitVec.ofNat 8 n) 0 0 0
      (s.withChu { s.chu with freeAccounts := n, armed := false })) ∧
    (¬ low → accountTaken s = s.withChu { s.chu with freeAccounts := n }) ∧
    accountFreed s = s.withChu { s.chu with
      freeAccounts := s.chu.freeAccounts + 1,
      armed := if s.settings.lowWater < s.chu.freeAccounts + 1 then true else s.chu.armed }

/-- SETTLE, COLLECT and the supply of accounts. -/
def Obligations.SettleAndCollect : Prop := Claims.Settle ∧ Claims.Collect ∧ Claims.AccountSupply

/-! ### Chapter 4: quota and shore exchanges -/

/-- The link of an exchange (R80): of the control preference list's links that are UP or DEGRADED and permitted, the first
at attempt 1; at attempt 2 the first other than attempt 1's link, and that link itself where no other is eligible. -/
def Claims.ExchangeLink : Prop :=
  ∀ (x : Exchange) (s : State),
    let e := s.settings.control.filter s.eligible
    (∀ l, s.eligible l = true ↔
      ((s.link l).state = .up ∨ (s.link l).state = .degraded) ∧ s.zoneInForce.permit.getLsbD l.val = true) ∧
    (x.second = false → s.chooseLink x = e.head?) ∧
    (x.second = true → (∀ l ∈ e, x.link1 = some l) → s.chooseLink x = e.head?) ∧
    (x.second = true → ∀ a l b, e = a ++ l :: b → x.link1 ≠ some l → (∀ m ∈ a, x.link1 = some m) →
      s.chooseLink x = some l)

/-- XFETCH (R81, R226): EMPTY with nothing changed where no exchange is TO_SEND; otherwise the TO_SEND exchange nearest
the head of the creation order is taken, and with no link for it the answer is NO_LINK and a notice is owed; with a link
it becomes SENT, the link is recorded for its attempt, and QUOTA and FINAL capture the account's unreported charge. -/
def Claims.FetchExchange : Prop :=
  ∀ (f : Frame) (s : State), Takes f kXfetch s →
    let waits := fun i => ∃ x, (s.entry i).ex = some x ∧ x.sent = false
    ((∀ i ∈ s.qxu.order, ¬ waits i) → exec (.xfetch f) s = .next (pushAnswer 0x40 f.tag [0x1C] (arrive f s))) ∧
    ∀ before i behind x, s.qxu.order = before ++ i :: behind → (∀ j ∈ before, ¬ waits j) → (s.entry i).ex = some x →
      x.sent = false →
      (s.chooseLink x = none →
        exec (.xfetch f) s = .next (pushAnswer 0x40 f.tag [0x1A] ((arrive f s).withQxu { s.qxu with owed := true }))) ∧
      ∀ l, s.chooseLink x = some l → ∃ p y, exec (.xfetch f) s =
          .next (pushAnswer 0x40 f.tag p ((arrive f s).setEntry i { s.entry i with ex := some y })) ∧
        y = { x with sent := true, link1 := y.link1, link2 := y.link2, reported := y.reported } ∧
        (x.second = false → y.link1 = some l ∧ y.link2 = x.link2) ∧
        (x.second = true → y.link1 = x.link1 ∧ y.link2 = some l) ∧
        (x.kind = .authorize → y.reported = x.reported) ∧
        (x.kind ≠ .authorize → ∀ a, s.account x.account = some a → y.reported = some a.unreported) ∧
        p.length = 30 ∧ byteAt p 0 = 0 ∧ slice 1 2 p = beBytes 2 (i * 256 + (s.entry i).use.toNat) ∧
        byteAt p 3 = (match x.kind with | .authorize => 0 | .quota => 1 | .final => 2) ∧
        byteAt p 4 = (if x.second then 2 else 1) ∧ byteAt p 5 = linkByte l ∧
        slice 6 2 p = beBytes 2 (x.slot * 16 + x.gen.toNat) ∧ slice 8 8 p = sidBytes x.sid ∧
        (∀ v q r, s.visitor x.slot = some v → v.partner = some q → s.partner q = some r → slice 16 3 p = hncBytes r.hnc) ∧
        (x.kind = .authorize → byteAt p 19 = serviceByte x.cls ∧ slice 20 6 p = List.replicate 6 0) ∧
        (x.kind ≠ .authorize → byteAt p 19 = 0xFF ∧
          ∀ a, s.account x.account = some a → slice 20 6 p = beBytes 6 a.unreported) ∧
        slice 26 4 p = (if x.kind = .quota then beBytes 4 x.request else [0, 0, 0, 0])

/-- The owed EXCHANGE notice (R79): with the notice-owed flag clear nothing; with it set and a TO_SEND exchange in the
table, one EXCHANGE notice for the oldest of them in creation order, with its kind, attempt and use count, and the flag
cleared; with none, the flag cleared and no notice. -/
def Claims.OwedNotice : Prop :=
  ∀ s : State,
    let sent := fun i => ∀ x, (s.entry i).ex = some x → x.sent = true
    let clear := s.withQxu { s.qxu with owed := false }
    (s.qxu.owed = false → giveOwed s = s) ∧
    (s.qxu.owed = true → (∀ i ∈ s.qxu.order, sent i) → giveOwed s = clear) ∧
    (s.qxu.owed = true → ∀ before i after x, s.qxu.order = before ++ i :: after → (∀ m ∈ before, sent m) →
      (s.entry i).ex = some x → x.sent = false → giveOwed s =
        giveNotice .exchange (.exchange i) 1 (xkindByte x.kind) (if x.second = true then 2 else 1) (s.entry i).use 0 0 clear)

/-- The choice of a link, XFETCH and the owed EXCHANGE notice. -/
def Obligations.FetchExchange : Prop := Claims.ExchangeLink ∧ Claims.FetchExchange ∧ Claims.OwedNotice

/-- XANSWER (R82): BAD_ARG, STALE and BAD_ARG in that order with nothing changed, so that an answer to a free entry, to an
earlier use of an entry or to an exchange not SENT has no effect; otherwise the exchange ends and its outcome is applied. -/
def Claims.AnswerJudged : Prop :=
  ∀ (f : Frame) (ref : BitVec 16) (result : Byte) (units : BitVec 32) (validity : BitVec 16) (final : Byte) (s : State),
    Takes f kXanswer s →
    let i := ref.toNat / 256
    let answers := fun p t => exec (.xanswer f ref result units validity final) s = .next (pushAnswer 0x41 f.tag p t)
    let bad := 63 < i ∨ 4 < result.toNat
    (bad → answers [0x20] (arrive f s)) ∧
    (¬ bad → (∀ x, (s.entry i).ex = some x → (s.entry i).use.toNat ≠ ref.toNat % 256 ∨ x.sent = false) →
      answers [0x15] (arrive f s)) ∧
    ∀ x, ¬ bad → (s.entry i).ex = some x → (s.entry i).use.toNat = ref.toNat % 256 → x.sent = true →
      let fits := match x.kind with
        | .authorize => result = 0 ∨ result = 1
        | .quota => result = 3 ∨
            (result = 2 ∧ 1 ≤ units.toNat ∧ units.toNat ≤ 2147483647 ∧ validity.toNat ≤ 1440)
        | .final => result = 4
      (¬ fits → answers [0x20] (arrive f s)) ∧
      ∀ r, fits → shoreResultOf result = some r → answers [0x00, xkindByte x.kind, result]
        (applyAnswer x r units.toNat validity.toNat final[0] (freeEntry i (arrive f s)))

/-- An exchange that ends with nobody on the deferred list (R92): its entry is free and keeps its use count, it leaves the
creation order, and its visitor's reference is absent. -/
def Claims.ExchangeEnds : Prop :=
  ∀ (i : Nat) (x : Exchange) (v : Visitor) (s : State), (s.entry i).ex = some x → s.qxu.deferred = [] →
    s.visitor x.slot = some v →
    (freeEntry i s).entry i = ⟨(s.entry i).use, none⟩ ∧ (∀ j, j ≠ i → (freeEntry i s).entry j = s.entry j) ∧
    (freeEntry i s).qxu.order = s.qxu.order.filter (· != i) ∧
    (freeEntry i s).slot x.slot = { s.slot x.slot with visitor := some { v with xref := none } } ∧
    (∀ j, j ≠ x.slot → (freeEntry i s).slot j = s.slot j) ∧ (freeEntry i s).chu = s.chu ∧
    (freeEntry i s).rqp = s.rqp ∧ OutsideVisitors s (freeEntry i s)

/-- A freed entry serves the head of the deferred list (R97): the visitor takes that entry with the kind it waited for, its
use count raised and the partner's request size as it stands now. -/
def Claims.DeferredServed : Prop :=
  ∀ (i : Nat) (x : Exchange) (w : Waiting) (rest : List Waiting) (v : Visitor) (s : State),
    (s.entry i).ex = some x → s.qxu.deferred = w :: rest → s.visitor w.slot = some v → w.slot ≠ x.slot →
    ∃ y u, (freeEntry i s).entry i = ⟨(s.entry i).use + 1, some y⟩ ∧ y.kind = w.kind ∧ y.slot = w.slot ∧
      y.gen = (s.slot w.slot).gen ∧ y.sent = false ∧ y.second = false ∧ y.timer = s.settings.timeout ∧
      (∀ p r, v.partner = some p → s.partner p = some r → y.request = r.request) ∧
      (freeEntry i s).qxu.deferred = rest ∧ (freeEntry i s).visitor w.slot = some u ∧
      u = { v with xref := some ⟨i, (s.entry i).use + 1⟩, deferred := false } ∧
      (freeEntry i s).qxu.order = s.qxu.order.filter (· != i) ++ [i]

/-- GRANT and DENY for a visitor that is present, with its exchange ended (R84, R85, R71): the account's unreported charge
falls by the captured charge; GRANT credits units, expiry and final flag, asks for the next QUOTA exchange where credit is
at or below the reorder level (R72) or none is left, and the gate follows (R70); DENY loads the partner's retry wait and
shuts the gate with one notice DENIED. -/
def Claims.GrantAndDeny : Prop :=
  ∀ (x : Exchange) (v : Visitor) (q : Quota) (p : Nat) (r : Partner) (a : Account) (n : Nat) (s : State),
    s.visitor x.slot = some v → v.state ≠ .departing → v.quota = some q → v.partner = some p → s.partner p = some r →
    s.account x.account = some a → x.reported = some n →
    (∀ (units validity : Nat) (final : Bool),
      let left : Int := min 549755813887 (q.remaining + (units : Int))
      let after : Quota :=
        { q with
          remaining := left, lastGrant := units, expiry := if validity = 0 then none else some validity, final := final }
      let t := applyAnswer x .grant units validity final s
      CreditSettled s t x.slot v after
        (v.xref = none ∧ v.deferred = false ∧ final = false ∧
          ((v.state = .active ∧ q.gate = .opened ∧ 0 < left ∧ left ≤ reorderAt s v after) ∨
            (q.retry = none ∧ left ≤ 0))) [] ∧
      t.account x.account = some { a with unreported := a.unreported - n } ∧
      (∀ j, j ≠ x.account → t.account j = s.account j) ∧ t.chu = { s.chu with accounts := t.chu.accounts } ∧
      (∀ j, j ≠ x.slot → t.slot j = s.slot j) ∧ t.vrg = { s.vrg with slots := t.vrg.slots } ∧ OutsideVisitors s t ∧
      PortKept s t) ∧
    ∀ (units validity : Nat) (final : Bool),
     let t := applyAnswer x .deny units validity final s
     t.quota x.slot = some { q with retry := some r.retryWait, gate := .shut } ∧
     t.account x.account = some { a with unreported := a.unreported - n } ∧ t.qxu = s.qxu ∧
     Gives s t (if q.gate = .shut then [] else [⟨.visitor, .slot x.slot, 6, 1, 0, 0, 0, 0, s.rqp.shipTime⟩]) ∧
     (∀ j, j ≠ x.slot → t.slot j = s.slot j) ∧ OutsideVisitors s t

/-- An AUTHORIZE exchange accepted, or admitted by the check-fail policy, for the visitor of an OFFLINE partner (R15, R91):
ACTIVE with its idle limit where its unit is SERVING, SUSPENDED with the mute hold otherwise, and one notice AUTHORIZED. -/
def Claims.Authorized : Prop :=
  ∀ (x : Exchange) (v : Visitor) (units validity : Nat) (final : Bool) (s : State), s.visitor x.slot = some v →
    v.quota = none →
    let on := (s.unit v.unit).state = .serving
    let w := { v with
      state := if on then .active else .suspended
      retire := if on then idleLimit s.settings v.cls else some s.settings.muteHold }
    let admitted := fun (by' : Byte) (t : State) => t = giveNotice .visitor (.slot x.slot) 3 by' (if on then 2 else 3) 0 0 0
      (s.setSlot x.slot { s.slot x.slot with visitor := some w })
    admitted 0 (applyAnswer x .accept units validity final s) ∧
    (x.kind = .authorize → ∀ p r, v.partner = some p → s.partner p = some r → r.checkFail = .opened →
      admitted 1 (applySecondFailure x s))

/-- The other outcomes (R16, R86, R91): REJECT and a second failure under CLOSED retire the visitor; ACK lowers the
account's unreported charge by the captured charge and the entry becomes FREE; a FINAL that fails twice sets the
UNREPORTED mark and the entry becomes FREE; a QUOTA that fails twice loads the retry wait and shuts the gate. -/
def Claims.OtherOutcomes : Prop :=
  ∀ (x : Exchange) (v : Visitor) (units validity : Nat) (final : Bool) (p : Nat) (r : Partner) (a : Account) (s : State),
    s.visitor x.slot = some v → v.partner = some p → s.partner p = some r → s.account x.account = some a →
    applyAnswer x .reject units validity final s = retire x.slot .rejected s ∧
    (x.kind = .authorize → r.checkFail = .closed → applySecondFailure x s = retire x.slot .checkFailed s) ∧
    (let t := applyAnswer x .ack units validity final s
     t.slot x.slot = { s.slot x.slot with visitor := none } ∧
     (∀ n, x.reported = some n → t.account x.account = some { a with unreported := a.unreported - n }) ∧
     t.partner p = some { r with visitors := r.visitors - 1 } ∧ t.rqp = s.rqp ∧ t.qxu = s.qxu ∧ OutsideVisitors s t) ∧
    (x.kind = .final →
      let t := applySecondFailure x s
      t.slot x.slot = { s.slot x.slot with visitor := none } ∧
      t.account x.account = some { a with unrepMark := true } ∧ t.rqp = s.rqp ∧ t.qxu = s.qxu ∧ OutsideVisitors s t) ∧
    (x.kind = .quota → v.state ≠ .departing → ∀ q, v.quota = some q →
      let t := applySecondFailure x s
      t.quota x.slot = some { q with retry := some r.retryWait, gate := .shut } ∧
      t.account x.account = some a ∧
      Gives s t (if q.gate = .shut then [] else [⟨.visitor, .slot x.slot, 6, 2, 0, 0, 0, 0, s.rqp.shipTime⟩]))

/-- XANSWER judged, and its two outcomes for a quota. -/
def Obligations.AnswerTaken : Prop := Claims.AnswerJudged ∧ Claims.GrantAndDeny

/-- An AUTHORIZE exchange accepted for a visitor with a quota part, its exchange ended (R15, R70, R73, R78, R83).
SUSPENDED, where its unit is not SERVING: credit above 0 opens the gate and asks for nothing, and otherwise, with no final
flag and no retry wait, a QUOTA exchange takes the lowest free entry and the gate waits. ACTIVE with no grant yet: the
initial QUOTA exchange takes that entry, with the gate open on credit. One VISITOR notice AUTHORIZED is the last (log
entry 17, DEDUCED). -/
def Claims.AuthorizedOnline : Prop :=
  ∀ (x : Exchange) (v : Visitor) (q : Quota) (units validity : Nat) (final : Bool) (j : Nat) (s : State),
    s.visitor x.slot = some v → v.quota = some q → v.xref = none → v.deferred = false → q.retry = none → q.final = false →
    j < 64 → (s.entry j).ex = none → (∀ m < j, (s.entry m).ex.isSome) →
    let on := (s.unit v.unit).state = .serving
    let credit := 0 < q.remaining
    let w := { v with
      state := if on then .active else .suspended
      retire := if on then idleLimit s.settings v.cls else some s.settings.muteHold
      quota := some { q with gate := if credit then .opened else .waiting } }
    ∃ t, applyAnswer x .accept units validity final s =
        giveNotice .visitor (.slot x.slot) 3 0 (if on then 2 else 3) 0 0 0 t ∧
      t.chu = s.chu ∧ (∀ m, m ≠ x.slot → t.slot m = s.slot m) ∧ OutsideVisitors s t ∧ PortKept s t ∧
      (¬ on → credit → t = s.setSlot x.slot { s.slot x.slot with visitor := some w }) ∧
      ((on ∧ q.lastGrant = 0) ∨ (¬ on ∧ ¬ credit) →
        t.slot x.slot = { s.slot x.slot with visitor := some { w with xref := some ⟨j, (s.entry j).use + 1⟩ } } ∧
        ∃ e, t.entry j = ⟨(s.entry j).use + 1, some e⟩ ∧ e.kind = .quota ∧ e.slot = x.slot ∧ e.sent = false ∧
          e.second = false ∧ e.timer = s.settings.timeout ∧ (∀ m, m ≠ j → t.entry m = s.entry m) ∧
          t.qxu.order = s.qxu.order ++ [j] ∧ t.qxu.deferred = s.qxu.deferred)

/-- A QUOTA exchange of a DEPARTING visitor that has ended by GRANT, DENY or second failure (R84, R85, R91, R95): the
first two lower the unreported charge by the captured charge. With none left the entry is FREE; with some left the FINAL
exchange takes the lowest free entry. Nothing is credited and the quota part stands. -/
def Claims.QuotaEndsDeparting : Prop :=
  ∀ (x : Exchange) (v : Visitor) (units validity : Nat) (final : Bool) (p n j : Nat) (r : Partner) (a : Account) (s : State),
    s.visitor x.slot = some v → v.state = .departing → v.xref = none → v.partner = some p → s.partner p = some r →
    (s.slot x.slot).account = some x.account → s.account x.account = some a → x.kind = .quota → x.reported = some n →
    j < 64 → (s.entry j).ex = none → (∀ m < j, (s.entry m).ex.isSome) →
    let ends := fun (left : Nat) (t : State) =>
      t.account x.account = some { a with unreported := left } ∧ (∀ m, m ≠ x.account → t.account m = s.account m) ∧
      (∀ m, m ≠ x.slot → t.slot m = s.slot m) ∧ OutsideVisitors s t ∧ PortKept s t ∧
      (left = 0 → t.slot x.slot = { s.slot x.slot with visitor := none } ∧ t.qxu = s.qxu ∧ t.rqp = s.rqp ∧
        t.partner p = some { r with visitors := r.visitors - 1 }) ∧
      (0 < left →
        t.slot x.slot = { s.slot x.slot with
          visitor := some { v with xref := some ⟨j, (s.entry j).use + 1⟩, deferred := false } } ∧
        t.chu.partners = s.chu.partners ∧
        ∃ e, t.entry j = ⟨(s.entry j).use + 1, some e⟩ ∧ e.kind = .final ∧ e.slot = x.slot ∧ e.account = x.account ∧
          e.sent = false ∧ e.second = false ∧ (∀ m, m ≠ j → t.entry m = s.entry m) ∧ t.qxu.order = s.qxu.order ++ [j] ∧
          t.qxu.deferred = s.qxu.deferred)
    ends (a.unreported - n) (applyAnswer x .grant units validity final s) ∧
      ends (a.unreported - n) (applyAnswer x .deny units validity final s) ∧
      ends a.unreported (applySecondFailure x s)

/-- The end of an exchange and its other outcomes. -/
def Obligations.ExchangeOutcomes : Prop :=
  Claims.ExchangeEnds ∧ Claims.DeferredServed ∧ Claims.Authorized ∧ Claims.OtherOutcomes ∧ Claims.AuthorizedOnline ∧
    Claims.QuotaEndsDeparting

/-- XFAIL and the expiry of an answer timer (R87, R88, R90): an exchange at attempt 1 is re-queued at the tail of the
creation order, TO_SEND at attempt 2, with its use count raised, its timer loaded and its contents kept, and its visitor's
reference follows; one at attempt 2 ends with its second-failure outcome. A reference that names no SENT exchange is
STALE. -/
def Obligations.ExchangeFails : Prop :=
  (∀ (f : Frame) (ref : BitVec 16) (s : State), Takes f kXfail s →
    let i := ref.toNat / 256
    let answers := fun p t => exec (.xfail f ref) s = .next (pushAnswer 0x42 f.tag p t)
    (63 < i → answers [0x20] (arrive f s)) ∧
    (i ≤ 63 → (∀ x, (s.entry i).ex = some x → (s.entry i).use.toNat ≠ ref.toNat % 256 ∨ x.sent = false) →
      answers [0x15] (arrive f s)) ∧
    ∀ x, i ≤ 63 → (s.entry i).ex = some x → (s.entry i).use.toNat = ref.toNat % 256 → x.sent = true →
      answers [0x00, xkindByte x.kind, if x.second then 2 else 1] (failExchange i (arrive f s))) ∧
  (∀ (i : Nat) (s : State), exec (.answerTimerExpiry i) s = .next (failExchange i s)) ∧
  ∀ (i : Nat) (x : Exchange) (v : Visitor) (s : State), (s.entry i).ex = some x → s.visitor x.slot = some v →
    (x.second = true → failExchange i s = applySecondFailure x (freeEntry i s)) ∧
    (x.second = false →
      let t := failExchange i s
      t.entry i = ⟨(s.entry i).use + 1, some { x with sent := false, second := true, timer := s.settings.timeout }⟩ ∧
      (∀ j, j ≠ i → t.entry j = s.entry j) ∧ t.qxu.order = s.qxu.order.filter (· != i) ++ [i] ∧
      t.qxu.deferred = s.qxu.deferred ∧
      t.slot x.slot = { s.slot x.slot with visitor := some { v with xref := some ⟨i, (s.entry i).use + 1⟩ } } ∧
      (∀ j, j ≠ x.slot → t.slot j = s.slot j) ∧ t.chu = s.chu ∧ OutsideVisitors s t ∧ PortKept s t ∧
      (s.anyControlEligible = true → t.qxu.owed = s.qxu.owed ∧ Gives s t
        [⟨.exchange, .exchange i, 1, xkindByte x.kind, 2, (s.entry i).use + 1, 0, 0, s.rqp.shipTime⟩]) ∧
      (s.anyControlEligible = false → t.qxu.owed = true ∧ t.rqp = s.rqp))

/-- The expiry of a grant and of a retry wait (R74, R75, R70). A grant that passes in ACTIVE or SUSPENDED leaves no expiry
and forfeits credit above 0, and a QUOTA exchange is asked for where none is outstanding or deferred, the final flag is
clear and no retry wait runs. A retry wait that expires is absent, and a QUOTA exchange is asked for where none is
outstanding or deferred and the final flag is clear. The gate follows both. A timer that does not run has no effect (log
entry 12, DESIGN CHOICE). -/
def Obligations.QuotaTimers : Prop :=
  ∀ (i : Nat) (v : Visitor) (q : Quota) (s : State), s.visitor i = some v → v.quota = some q →
    v.state = .active ∨ v.state = .suspended →
    let unasked := v.xref = none ∧ v.deferred = false ∧ q.final = false
    let rest := fun t : State => (∀ j, j ≠ i → t.slot j = s.slot j) ∧ t.vrg = { s.vrg with slots := t.vrg.slots } ∧
      t.chu = s.chu ∧ OutsideVisitors s t ∧ PortKept s t
    (q.expiry = none → exec (.grantExpiry i) s = .next s) ∧ (q.retry = none → exec (.retryWaitExpiry i) s = .next s) ∧
    (∀ n, q.expiry = some n → ∃ t, exec (.grantExpiry i) s = .next t ∧ rest t ∧
      CreditSettled s t i v { q with expiry := none, remaining := if 0 < q.remaining then 0 else q.remaining }
        (unasked ∧ q.retry = none) []) ∧
    (∀ n, q.retry = some n → ∃ t, exec (.retryWaitExpiry i) s = .next t ∧ rest t ∧
      CreditSettled s t i v { q with retry := none } unasked [])

/-! ### The mode, the settings and device reset -/

/-- The mode checks of R201: FIXPOST and STOP are refused MODE in CONFIG, START and DSET in SERVICE, and nothing changes. -/
def Obligations.ModeRefusals : Prop :=
  ∀ (f : Frame) (s : State),
    (∀ east north quality, Takes f kFixpost s → s.rqp.mode = .config → 1 ≤ quality.toNat → quality.toNat ≤ 2 →
      exec (.fixpost f east north quality) s = .next (pushAnswer 0x71 f.tag [0x1B] (arrive f s))) ∧
    (Takes f kStop s → s.rqp.mode = .config → exec (.stop f) s = .next (pushAnswer 0x91 f.tag [0x1B] (arrive f s))) ∧
    (Takes f kStart s → s.rqp.mode = .service → exec (.start f) s = .next (pushAnswer 0x90 f.tag [0x1B] (arrive f s))) ∧
    (∀ d, Takes f kDset s → s.rqp.mode = .service →
      exec (.dset f d) s = .next (pushAnswer 0x92 f.tag [0x1B] (arrive f s)))

/-- START in CONFIG (R186, R202): refused STATE while the radio is MUTING or a probe runs; otherwise the probe runs under
the request's tag with no answer yet, every unit that is not EXCLUDED becomes ABSENT with an IDENTIFY mark and an empty
record, and, where the bus is free and the data wire high, the IDENTIFY of the lowest of them is on the bus. -/
def Claims.ProbeStarts : Prop :=
  ∀ (f : Frame) (s : State), Takes f kStart s → s.rqp.mode = .config →
    (s.rdc.radio = .muting ∨ s.rdc.probe.isSome →
      exec (.start f) s = .next (pushAnswer 0x90 f.tag [0x16] (arrive f s))) ∧
    (s.rdc.radio ≠ .muting → s.rdc.probe = none →
      (∀ u < 16, (s.unit u).state = .excluded → (s.unit u).mark = none) →
      (∀ x, s.rdc.onBus = some x → ∃ t, exec (.start f) s = .next t ∧ t = (arrive f s).withRdc t.rdc ∧
        t.rdc = { s.rdc with units := t.rdc.units, probe := some ⟨f.tag, false⟩ } ∧
        ∀ u < 16, t.unit u =
          if (s.unit u).state = .excluded then s.unit u else ⟨.absent, 0, some .identify, none, none⟩) ∧
      ∀ v < 16, s.rdc.onBus = none → s.rdc.wire = [] → s.rdc.busFault = false → (s.unit v).state ≠ .excluded →
        (∀ u < v, (s.unit u).state = .excluded) → ∃ t, exec (.start f) s = .next t ∧ t = (arrive f s).withRdc t.rdc ∧
        t.rdc = { s.rdc with
          units := t.rdc.units, probe := some ⟨f.tag, false⟩, onBus := some (v, .identify), speed := s.settings.busSpeed
          recovery := s.rdc.recovery ++ [(s.settings.busSpeed, [])] } ∧
        ∀ u < 16, t.unit u =
          if (s.unit u).state = .excluded then s.unit u
          else if u = v then ⟨.absent, 0, none, none, none⟩ else ⟨.absent, 0, some .identify, none, none⟩)

/-- The end of the presence probe (R187, R202): it waits while a unit holds an IDENTIFY or MUTE mark or a transaction is
on the bus; otherwise the mode is SERVICE, the position is set back (R165), the poll timer is loaded, and START is answered
OK with the units found MUTED, UNRESPONSIVE and ABSENT, unless RESYNC had its answer discarded. -/
def Claims.ProbeEnds : Prop :=
  ∀ (s : State) (r : InFlight), s.rdc.probe = some r →
    let waits := s.rdc.onBus.isSome ∨ ∃ u < 16, (s.unit u).mark = some .identify ∨ ∃ a, (s.unit u).mark = some (.mute a)
    let found := fun st => BitVec.ofNat 8 ((List.range 16).filter fun u => decide ((s.unit u).state = st)).length
    (waits → endProbe s = s) ∧
    (¬ waits → ∃ t, endProbe s = t ∧
      t.zne = { s.zne with pos := ⟨.noFix, 31, none, 0, none, none⟩ } ∧
      t.rdc = { s.rdc with probe := none, poll := some s.settings.pollInterval } ∧
      t.rqp = { s.rqp with
        mode := .service
        answers := s.rqp.answers ++
          if r.dropped then [] else [⟨0x90, r.tag, [0x00, found .muted, found .unresponsive, found .absent]⟩] } ∧
      t.vrg = s.vrg ∧ t.chu = s.chu ∧ t.qxu = s.qxu ∧ t.lmn = s.lmn ∧ t.rte = s.rte ∧ t.base = s.base ∧
      t.pending = s.pending)

/-- START and the end of its probe. -/
def Obligations.StartProbe : Prop := Claims.ProbeStarts ∧ Claims.ProbeEnds

/-- STOP in SERVICE (R165, R188, R203): refused STATE while a visitor entry is not FREE or an exchange stands in the
table; otherwise answered OK with the mode CONFIG, the position NO_FIX in zone 31, RFOFF asserted, no poll timer and the
radio MUTING or MUTED; the ZONE notice CHANGED of class STOP is the first notice where the position was FIXED or STALE, a
radio that was MUTED or MUTING keeps its state, and visitors, accounts, links, route settings and zones stand. Behind the
notice a changed permit mask is handed on, and a radio that was SERVING or UNMUTING begins MUTING with cause POLICY (R166,
R175); that RFOFF and the poll timer follow is log entry 25 (DEDUCED). -/
def Obligations.LeaveService : Prop :=
  ∀ (f : Frame) (s : State), Takes f kStop s → s.rqp.mode = .service →
    ((∃ i, (s.visitor i).isSome) ∨ (∃ j, (s.entry j).ex.isSome) →
      exec (.stop f) s = .next (pushAnswer 0x91 f.tag [0x16] (arrive f s))) ∧
    (Canonical s → RadioSafe s → (∀ i, s.visitor i = none) → (∀ j, (s.entry j).ex = none) →
      ∃ t, exec (.stop f) s = .next (pushAnswer 0x91 f.tag [0x00] t) ∧ t.rqp.mode = .config ∧
        t.zne = { s.zne with pos := ⟨.noFix, 31, none, 0, none, none⟩ } ∧ t.rdc.rfoff = true ∧ t.rdc.poll = none ∧
        t.rdc.opMute = s.rdc.opMute ∧ silencing t.rdc.radio = true ∧
        (silencing s.rdc.radio = true → t.rdc = { s.rdc with rfoff := true, poll := none }) ∧
        (s.zne.pos.state ≠ .noFix → s.rqp.notices.length < 128 → ∃ more, t.rqp.notices = s.rqp.notices ++
          ⟨.zone, .zone 31, 1, BitVec.ofNat 8 s.zne.pos.zone, 31, positionByte s.zne.pos.state, 4,
            BitVec.ofNat 8 (128 + (s.zone 31).tariff.val * 16 + (s.zone 31).permit.toNat), s.rqp.shipTime⟩ :: more) ∧
        t.rqp = { (arrive f s).rqp with mode := .config, notices := t.rqp.notices, overflow := t.rqp.overflow } ∧
        VisitorsKept s t ∧ t.lmn = s.lmn ∧ RoutesKept s t ∧ t.base = s.base ∧ t.pending = s.pending ∧
        let z := ((arrive f s).withRqp { (arrive f s).rqp with mode := .config }).withZne t.zne
        let told := if s.zne.pos.state = .noFix then z
          else giveNotice .zone (.zone 31) 1 (BitVec.ofNat 8 s.zne.pos.zone) 31 (positionByte s.zne.pos.state) 4 z.valuesByte z
        ∃ u w, PermitHandedOn s.permitInForce (s.zone 31).permit told u ∧ (silencing s.rdc.radio = true → w = u) ∧
          (silencing s.rdc.radio = false → w = settleBus (beginMuting .policy u)) ∧
          t = w.withRdc { w.rdc with rfoff := true, poll := none })

/-- A preference list field holds a list exactly when its count is at most 4 and the first links it carries are links 0–3,
no link twice (R209). -/
def Claims.PreferenceLists : Prop :=
  ∀ (p : PrefField) (ls : List Link), prefsOf p = some ls ↔
    p.count.toNat ≤ 4 ∧ ls.map (fun l => BitVec.ofNat 8 l.val) = [p.l0, p.l1, p.l2, p.l3].take p.count.toNat ∧ ls.Nodup

/-- DSET in CONFIG (R204, R205): refused BAD_ARG on the five checks of R204; otherwise every setting is replaced, each
number at the nearest limit of its range, the answer is CLAMPED where one moved and OK otherwise and carries the settings
as stored, the low-water flag follows the new setting (R66), and nothing else changes: a transaction on the bus keeps the
clock it began with. -/
def Claims.SettingsStored : Prop :=
  ∀ (f : Frame) (d : DsetFields) (s : State), Takes f kDset s → s.rqp.mode = .config →
    let bad := 1 < d.stalePolicy.toNat ∨ prefsOf d.control = none ∨ 31 < d.crewRoute.toNat ∨
      31 < d.emergencyRoute.toNat ∨ 127 < d.alertMask.toNat ∨ 1 < d.busSpeed.toNat
    let idle := fun n : Nat => if n = 0 then 0 else max 60 (min 86400 n)
    (bad → exec (.dset f d) s = .next (pushAnswer 0x92 f.tag [0x20] (arrive f s))) ∧
    (¬ bad → ∀ ls, prefsOf d.control = some ls →
      let w : Settings :=
        { pollInterval := max 1 (min 60 d.pollInterval.toNat)
          muteDeadline := max 10 (min 1000 d.muteDeadline.toNat)
          muteHold := max 60 (min 7200 d.muteHold.toNat)
          idlePassenger := idle d.idlePassenger.toNat
          idleCrew := idle d.idleCrew.toNat
          idleEmergency := idle d.idleEmergency.toNat
          positionStale := max 1 (min 120 d.positionStale.toNat)
          stalePolicy := if d.stalePolicy.toNat = 0 then .mute else .keep
          control := ls
          crewRoute := d.crewRoute.toNat
          emergencyRoute := d.emergencyRoute.toNat
          timeout := max 5 (min 600 d.timeout.toNat)
          lowWater := min 4608 d.lowWater.toNat
          alertMask := d.alertMask.setWidth 7
          busSpeed := if d.busSpeed.toNat = 0 then .khz100 else .khz400 }
      let inRange := w.pollInterval = d.pollInterval.toNat ∧ w.muteDeadline = d.muteDeadline.toNat ∧
        w.muteHold = d.muteHold.toNat ∧ w.idlePassenger = d.idlePassenger.toNat ∧ w.idleCrew = d.idleCrew.toNat ∧
        w.idleEmergency = d.idleEmergency.toNat ∧ w.positionStale = d.positionStale.toNat ∧
        w.timeout = d.timeout.toNat ∧ w.lowWater = d.lowWater.toNat
      exec (.dset f d) s = .next (pushAnswer 0x92 f.tag ((if inRange then 0x00 else 0x01) :: settingsBytes w)
        (((arrive f s).withRqp { (arrive f s).rqp with settings := w }).withChu
          { s.chu with armed := decide (w.lowWater ≤ s.chu.freeAccounts) })))

/-- DSET and the preference list it carries. -/
def Obligations.StoreSettings : Prop := Claims.PreferenceLists ∧ Claims.SettingsStored

/-- Device reset (R28, R44, R67, R98, R121, R124, R146, R155, R160, R191, R208): from every state the part is in the reset
state, with the commands that wait still in the model's queue (log entry 5), the data wire left open (log entry 6) and one
reset more counted (log entry 8); and the reset state holds what the chapters say. -/
def Claims.ResetValues : Prop :=
  (∀ s : State, ∃ w, exec .deviceReset s = .next ((State.reset.withRdc { State.reset.rdc with
    wire := w, resets := s.rdc.resets + 1 }).withPending s.pending)) ∧
  let r := State.reset
  (∀ i, r.slot i = ⟨0, none, none, none, none⟩) ∧ r.vrg.activity = [] ∧ r.vrg.purge = none ∧
  (∀ i, r.partner i = none) ∧
  (∀ i z c, (r.plan i).state = .editing ∧ planRate (r.plan i) z c = ⟨1, 0⟩ ∧ (r.plan i).factor = 1000 ∧
    (r.plan i).stored = 0) ∧
  (∀ i, r.account i = none) ∧ r.chu.freeAccounts = 4608 ∧ r.chu.armed = true ∧ r.chu.emergency = ⟨0, 0, 0, 0⟩ ∧
  r.chu.unattributed = ⟨0, 0, 0, 0⟩ ∧ (∀ i, r.entry i = ⟨0, none⟩) ∧ r.qxu.order = [] ∧ r.qxu.deferred = [] ∧
  r.qxu.owed = false ∧
  (∀ i, (r.link i).cfg = ⟨1000, 300, 30, 3, 65535, 1000, -128, ⟨3, 3, 3⟩, ⟨false, false, false⟩⟩ ∧
    (r.link i).state = .off ∧ (r.link i).good = 0 ∧ (∀ m, mget (r.link i).monitors m = ⟨false, 0, false⟩) ∧
    (r.link i).drill = none ∧ (r.link i).last = none ∧ (r.link i).stale = none ∧ (r.link i).hold = none) ∧
  (∀ i c, (r.route i).bicast = 0 ∧ (r.route i).prepare = 5 ∧ (r.route i).release = 5 ∧
    r.path i c = ⟨[], none, .stranded, none⟩) ∧
  r.zne.nav = ⟨.disabled, 7, false, none, 0, none⟩ ∧ r.zne.fifo = [] ∧
  (∀ i, r.zone i = ⟨false, 0, 0, 0, 0, .mute, 0, 0, 1⟩) ∧ r.zne.pos = ⟨.noFix, 31, none, 0, none, none⟩ ∧
  (∀ u, r.unit u = ⟨.absent, 0, none, none, none⟩) ∧ r.rdc.onBus = none ∧ r.rdc.busFault = false ∧
  r.rdc.radio = .muted ∧ r.rdc.opMute = false ∧ r.rdc.rfoff = true ∧ r.rdc.deadline = none ∧ r.rdc.poll = none ∧
  r.rdc.probe = none ∧ (∀ g, r.tagBusy g = false) ∧ r.rqp.answers = [] ∧ r.rqp.notices = [] ∧ r.rqp.overflow = false ∧
  r.rqp.dSync = 0 ∧ r.rqp.dFrame = 0 ∧ r.rqp.dCrc = 0 ∧ r.rqp.dClash = 0 ∧ r.rqp.mode = .config ∧
  r.rqp.settings = ⟨5, 200, 1800, 7200, 7200, 7200, 10, .mute, [], 0, 0, 60, 0, 0, .khz100⟩ ∧ r.rqp.shipTime = 0

/-! ### Chapter 5: shore links -/

/-- LCONF (R101, R102): BAD_ARG for a link above 3; otherwise each field is stored at the nearest limit of its range, a
changed debounce starts its monitor's count again, the stale timer follows the new stale time, and everything else of the
link stands but its state: UP or DEGRADED, as the new mask says, where it was either. With no change of state nothing else
happens; a change is a FAULT or CLEARED one, with its notice and the reselection of every path (R103, R131). -/
def Obligations.ConfigureLink : Prop :=
  ∀ (f : Frame) (c : LconfFields) (s : State), Takes f kLconf s →
    (3 < c.link.toNat → exec (.lconf f c) s = .next (pushAnswer 0x50 f.tag [0x20] (arrive f s))) ∧
    ∀ i : Link, c.link.toNat = i.val →
      let l := s.link i
      let w : LinkConfig :=
        { cost := min 4000 c.cost.toNat, staleTime := c.staleTime.toNat, holdTime := min 3600 c.holdTime.toNat,
          probe := max 1 (min 15 c.probe.toNat), delayT := max 1 c.delayT.toNat, lossT := max 1 (min 1000 c.lossT.toNat),
          levelT := c.levelT.toInt,
          debounce := ⟨max 1 (min 15 c.debDelay.toNat), max 1 (min 15 c.debLoss.toNat), max 1 (min 15 c.debLevel.toNat)⟩,
          mask := ⟨c.mask[0], c.mask[1], c.mask[2]⟩ }
      let inRange := w.cost = c.cost.toNat ∧ w.holdTime = c.holdTime.toNat ∧ w.probe = c.probe.toNat ∧
        w.delayT = c.delayT.toNat ∧ w.lossT = c.lossT.toNat ∧ w.debounce.delay = c.debDelay.toNat ∧
        w.debounce.loss = c.debLoss.toNat ∧ w.debounce.level = c.debLevel.toNat
      let count := fun m => if mget w.debounce m = mget l.cfg.debounce m then (mget l.monitors m).count else 0
      let running := l.state = .probing ∨ l.state = .up ∨ l.state = .degraded
      let faulty := (∃ m, (mget l.monitors m).fault = true ∧ mget w.mask m = false) ∨ l.drill.isSome
      let r : LinkRec :=
        { l with
          cfg := w
          state := if l.state = .up ∨ l.state = .degraded then (open Classical in if faulty then .degraded else .up)
            else l.state
          monitors := ⟨{ l.monitors.delay with count := count .delay }, { l.monitors.loss with count := count .loss },
            { l.monitors.level with count := count .level }⟩
          stale := if (l.stale.isSome ∨ running) ∧ w.staleTime ≠ 0 then some w.staleTime else none }
      ∃ t, exec (.lconf f c) s = .next (pushAnswer 0x50 f.tag [open Classical in if inRange then 0x00 else 0x01] t) ∧
        (r.state = l.state → t = (arrive f s).setLink i r) ∧
        (r.state ≠ l.state → LinkMoved (arrive f s) t i r (if r.state = .degraded then 4 else 5) ∧
          VisitorsKept s t ∧ t.qxu = s.qxu)

/-- A cancelled drill (R118): the drill is absent, its monitor is GOOD with count 0 and its fault-seen flag kept, and
nothing else of the link moves; a link without a drill is left as it is. -/
def Claims.DrillCancelled : Prop :=
  ∀ (l : LinkRec), (l.drill = none → dropDrill l = l) ∧
    ∀ d, l.drill = some d → dropDrill l = { l with drill := none, monitors := (dropDrill l).monitors } ∧
      ∀ m, mget (dropDrill l).monitors m =
        if m = d.monitor then ⟨false, 0, (mget l.monitors m).seen⟩ else mget l.monitors m

/-- LENABLE and LDISABLE (R104, R105): the refusals; OFF to PROBING with the monitors fresh, their flags kept and the stale
timer loaded; any other state to OFF with the record cleared and the configuration kept, where each SENT exchange on the
link fails (R89); an OFF link keeps all but its flags. Each change of state reselects every path (R103, R131). -/
def Claims.EnableDisable : Prop :=
  ∀ (f : Frame) (link : Byte) (s : State),
    (Takes f kLenable s → 3 < link.toNat → exec (.lenable f link) s = .next (pushAnswer 0x51 f.tag [0x20] (arrive f s))) ∧
    (Takes f kLdisable s → 3 < link.toNat → exec (.ldisable f link) s = .next (pushAnswer 0x52 f.tag [0x20] (arrive f s))) ∧
    ∀ i : Link, link.toNat = i.val →
      let l := s.link i
      let fresh := fun m : MonitorState => (⟨false, 0, m.seen⟩ : MonitorState)
      let clear := fun m : MonitorState => { m with seen := false }
      (Takes f kLenable s →
        (l.state ≠ .off → exec (.lenable f link) s = .next (pushAnswer 0x51 f.tag [0x16] (arrive f s))) ∧
        (l.state = .off → ∃ t, exec (.lenable f link) s = .next (pushAnswer 0x51 f.tag [0x00] t) ∧
          LinkMoved (arrive f s) t i
            { l with
              state := .probing, good := 0, monitors := ⟨fresh l.monitors.delay, fresh l.monitors.loss, fresh l.monitors.level⟩
              stale := if l.cfg.staleTime = 0 then none else some l.cfg.staleTime } 1 ∧
          VisitorsKept s t ∧ t.qxu = s.qxu)) ∧
      (Takes f kLdisable s →
        (l.state = .off → exec (.ldisable f link) s = .next (pushAnswer 0x52 f.tag [0x00] ((arrive f s).setLink i
          { l with monitors := ⟨clear l.monitors.delay, clear l.monitors.loss, clear l.monitors.level⟩ }))) ∧
        (l.state ≠ .off → ∃ t, exec (.ldisable f link) s = .next (pushAnswer 0x52 f.tag [0x00] t) ∧
          LinkMoved (arrive f s) t i
            ⟨l.cfg, .off, 0, ⟨⟨false, 0, false⟩, ⟨false, 0, false⟩, ⟨false, 0, false⟩⟩, none, none, none, none⟩ 2 ∧
          LinkLeft (arrive f s) t i
            ⟨l.cfg, .off, 0, ⟨⟨false, 0, false⟩, ⟨false, 0, false⟩, ⟨false, 0, false⟩⟩, none, none, none, none⟩))

/-- LLOSS (R111, R112): BAD_ARG above 3, STATE in OFF, a fresh hold in HELD for FAILURE, no effect in HELD for OPERATOR; in
PROBING, UP and DEGRADED the link is HELD for FAILURE with its hold timer loaded and its drill cancelled, or, with a hold
time of 0, PROBING after two LINK notices, LOSS and HOLD_EXPIRED, in one step (log entry 14, DEDUCED). Each SENT exchange on
the link fails (R89), and each change of state reselects every path (R103, R131). -/
def Claims.LossOfCarrier : Prop :=
  ∀ (f : Frame) (link : Byte) (s : State), Takes f kLloss s →
    (3 < link.toNat → exec (.lloss f link) s = .next (pushAnswer 0x54 f.tag [0x20] (arrive f s))) ∧
    ∀ i : Link, link.toNat = i.val →
      let l := s.link i
      let held := dropDrill { l with state := .held .failure, stale := none, hold := some l.cfg.holdTime }
      (l.state = .off → exec (.lloss f link) s = .next (pushAnswer 0x54 f.tag [0x16] (arrive f s))) ∧
      (l.state = .held .operator → exec (.lloss f link) s = .next (pushAnswer 0x54 f.tag [0x00] (arrive f s))) ∧
      (l.state = .held .failure → exec (.lloss f link) s = .next (pushAnswer 0x54 f.tag [0x00]
        ((arrive f s).setLink i { l with hold := some l.cfg.holdTime }))) ∧
      (l.state = .probing ∨ l.state = .up ∨ l.state = .degraded →
        ∃ t, exec (.lloss f link) s = .next (pushAnswer 0x54 f.tag [0x00] t) ∧
          LinkLeft (arrive f s) t i held ∧ (0 < l.cfg.holdTime → LinkMoved (arrive f s) t i held 7) ∧
          (l.cfg.holdTime = 0 → (∃ u, LinkMoved (arrive f s) u i held 7 ∧ LinkMoved u t i
              { held with
                state := .probing, good := 0, hold := none
                stale := if l.cfg.staleTime = 0 then none else some l.cfg.staleTime } 8) ∧
            t.link i =
              { held with
                state := .probing, good := 0, hold := none
                stale := if l.cfg.staleTime = 0 then none else some l.cfg.staleTime } ∧
            (∀ j, j ≠ i → t.link j = s.link j) ∧ RoutesKept s t ∧ PortKept (arrive f s) t ∧
            (s.rqp.notices.length < 128 → ∃ more, t.rqp.notices = s.rqp.notices ++
              ⟨.link, .link i, 1, linkStateByte l.state, 4, 0, 7, 0, s.rqp.shipTime⟩ :: more)))

/-- LHOLD and LRELEASE (R113, R114). LHOLD of a link in use has each SENT exchange on it fail (R89), and each
change reselects every path (R103, R131). -/
def Claims.HoldRelease : Prop :=
  ∀ (f : Frame) (link : Byte) (s : State),
    (Takes f kLhold s → 3 < link.toNat → exec (.lhold f link) s = .next (pushAnswer 0x55 f.tag [0x20] (arrive f s))) ∧
    (Takes f kLrelease s → 3 < link.toNat →
      exec (.lrelease f link) s = .next (pushAnswer 0x56 f.tag [0x20] (arrive f s))) ∧
    ∀ i : Link, link.toNat = i.val →
      let l := s.link i
      (Takes f kLhold s →
        (l.state = .off ∨ l.state = .held .operator →
          exec (.lhold f link) s = .next (pushAnswer 0x55 f.tag [0x16] (arrive f s))) ∧
        (l.state ≠ .off → l.state ≠ .held .operator →
          ∃ t, exec (.lhold f link) s = .next (pushAnswer 0x55 f.tag [0x00] t) ∧
            LinkMoved (arrive f s) t i (dropDrill { l with state := .held .operator, stale := none, hold := none }) 9 ∧
            (l.state = .held .failure → VisitorsKept s t ∧ t.qxu = s.qxu) ∧
            (l.state ≠ .held .failure →
              LinkLeft (arrive f s) t i (dropDrill { l with state := .held .operator, stale := none, hold := none })))) ∧
      (Takes f kLrelease s → ∀ c, l.state = .held c →
        ∃ t, exec (.lrelease f link) s = .next (pushAnswer 0x56 f.tag [0x00] t) ∧
          LinkMoved (arrive f s) t i
            { l with
              state := .probing, good := 0, hold := none
              stale := if l.cfg.staleTime = 0 then none else some l.cfg.staleTime } 10 ∧
          VisitorsKept s t ∧ t.qxu = s.qxu) ∧
      (Takes f kLrelease s → (∀ c, l.state ≠ .held c) →
        exec (.lrelease f link) s = .next (pushAnswer 0x56 f.tag [0x16] (arrive f s)))

/-- LENABLE, LDISABLE, LLOSS, LHOLD and LRELEASE. -/
def Obligations.LinkCommands : Prop :=
  Claims.DrillCancelled ∧ Claims.EnableDisable ∧ Claims.LossOfCarrier ∧ Claims.HoldRelease

/-- LMEASURE (R106–R109): BAD_ARG above 3, STATE in OFF; otherwise the clamped measurement is stored with the ship time,
the stale timer is loaded in PROBING, UP and DEGRADED, each monitor but the drilled one is judged, debounced and latched
(R107), and the state moves as R108 and R109 say: in PROBING by the good count, in UP and DEGRADED by the unmasked faults
and the drill, in HELD not at all. A change of state has its notice, an entry into UP or DEGRADED gives an owed EXCHANGE
notice where the link is eligible for exchanges, and every path is reselected (R79, R103, R131). The answer carries the
state and the three conditions that result (GOOD as 0, FAULT as 1: log entry 10). -/
def Obligations.MeasurementTaken : Prop :=
  ∀ (f : Frame) (link : Byte) (delay : BitVec 32) (loss level : BitVec 16) (s : State), Takes f kLmeasure s →
    let e := exec (.lmeasure f link delay loss level) s
    (3 < link.toNat → e = .next (pushAnswer 0x53 f.tag [0x20] (arrive f s))) ∧
    ∀ i : Link, link.toNat = i.val →
      let l := s.link i
      let x : Measurement := ⟨min 65535 delay.toNat, (max 0 (min 1000 loss.toInt)).toNat,
        max (-128) (min 127 level.toInt), s.rqp.shipTime⟩
      let bad := fun m : Monitor => (match m with
        | .delay => decide (l.cfg.delayT < x.delay)
        | .loss => decide (l.cfg.lossT < x.loss)
        | .level => decide (x.level < l.cfg.levelT))
      (l.state = .off → e = .next (pushAnswer 0x53 f.tag [0x16] (arrive f s))) ∧
      (l.state ≠ .off → ∃ t r,
        e = .next (pushAnswer 0x53 f.tag [0x00, linkStateByte r.state, if r.monitors.delay.fault then 1 else 0,
          if r.monitors.loss.fault then 1 else 0, if r.monitors.level.fault then 1 else 0] t) ∧
        t.link i = r ∧ r = { l with last := some x, stale := r.stale, monitors := r.monitors, good := r.good, state := r.state } ∧
        r.stale = (if (l.state = .probing ∨ l.state = .up ∨ l.state = .degraded) ∧ 0 < l.cfg.staleTime
          then some l.cfg.staleTime else l.stale) ∧
        (∀ m : Monitor, let o := mget l.monitors m
          ((∃ d, l.drill = some d ∧ d.monitor = m) → mget r.monitors m = o) ∧
          ((∀ d, l.drill = some d → d.monitor ≠ m) →
            (bad m = o.fault → mget r.monitors m = { o with count := 0 }) ∧
            (bad m ≠ o.fault → o.count + 1 = mget l.cfg.debounce m → mget r.monitors m = ⟨bad m, 0, o.seen || bad m⟩) ∧
            (bad m ≠ o.fault → o.count + 1 ≠ mget l.cfg.debounce m →
              mget r.monitors m = { o with count := o.count + 1 }))) ∧
        (let faulty := ∃ m, (mget r.monitors m).fault = true ∧ mget l.cfg.mask m = false
         let wholeBad := ∃ m, bad m = true ∧ mget l.cfg.mask m = false
         (∀ c, l.state = .held c → r.state = l.state ∧ r.good = l.good) ∧
         (l.state = .probing → wholeBad → r.state = .probing ∧ r.good = 0) ∧
         (l.state = .probing → ¬ wholeBad → l.good + 1 < l.cfg.probe → r.state = .probing ∧ r.good = l.good + 1) ∧
         (l.state = .probing → ¬ wholeBad → l.cfg.probe ≤ l.good + 1 → r.good = 0 ∧
           (faulty → r.state = .degraded) ∧ (¬ faulty → r.state = .up)) ∧
         (l.state = .up ∨ l.state = .degraded → r.good = l.good ∧ (faulty ∨ l.drill.isSome → r.state = .degraded) ∧
           (¬ faulty → l.drill = none → r.state = .up))) ∧
        (r.state = l.state → t = (arrive f s).setLink i r) ∧
        (r.state ≠ l.state → LinkMoved (arrive f s) t i r
          (if l.state = .probing then 3 else if r.state = .degraded then 4 else 5) ∧ VisitorsKept s t))

/-- The stale timer and the hold timer of a link (R110, R112): a stale timer that runs on a link in PROBING, UP or
DEGRADED takes it to HELD for FAILURE, and with a hold time of 0 on to PROBING in the same step (log entry 14, DEDUCED),
with each SENT exchange on the link failed (R89); a hold timer that runs takes a link held for FAILURE to PROBING with its
monitors kept; each change reselects every path (R103, R131); neither does anything where it does not run (log entry 12,
DESIGN CHOICE). -/
def Claims.LinkTimers : Prop :=
  ∀ (i : Link) (s : State),
    let l := s.link i
    (l.stale = none → exec (.staleTimerExpiry i) s = .next s) ∧
    (l.hold = none → exec (.holdTimerExpiry i) s = .next s) ∧
    (l.stale.isSome → l.state = .probing ∨ l.state = .up ∨ l.state = .degraded →
      let held := dropDrill { l with state := .held .failure, stale := none, hold := some l.cfg.holdTime }
      ∃ t, exec (.staleTimerExpiry i) s = .next t ∧ LinkLeft s t i held ∧
        (0 < l.cfg.holdTime → LinkMoved s t i held 6) ∧
        (l.cfg.holdTime = 0 → ∃ u, LinkMoved s u i held 6 ∧ LinkMoved u t i
          { held with
            state := .probing, good := 0, hold := none
            stale := if l.cfg.staleTime = 0 then none else some l.cfg.staleTime } 8)) ∧
    (l.hold.isSome → l.state = .held .failure → ∃ t, exec (.holdTimerExpiry i) s = .next t ∧
      LinkMoved s t i
        { l with
          state := .probing, good := 0, hold := none
          stale := if l.cfg.staleTime = 0 then none else some l.cfg.staleTime } 8 ∧ VisitorsKept s t ∧ t.qxu = s.qxu)

/-- LDRILL (R115, R116): the four checks in their order; otherwise the link is DEGRADED with the drill recorded for the
clamped duration and its monitor in FAULT, latched, and every path is reselected (R103, R131). -/
def Claims.DrillStarts : Prop :=
  ∀ (f : Frame) (link monitor : Byte) (duration : BitVec 16) (s : State), Takes f kLdrill s →
    let refused := fun code : Byte =>
      exec (.ldrill f link monitor duration) s = .next (pushAnswer 0x57 f.tag [code] (arrive f s))
    (3 < link.toNat ∨ 2 < monitor.toNat → refused 0x20) ∧
    ∀ (i : Link) (m : Monitor), link.toNat = i.val → monitorOf monitor = some m →
      let l := s.link i
      let spare := ∃ j, j ≠ i ∧ (s.link j).state = .up ∧ (s.zone s.zne.pos.zone).permit.getLsbD j.val = true
      let seconds := max 1 (min 600 duration.toNat)
      (l.state ≠ .up → refused 0x16) ∧ (l.state = .up → ¬ spare → refused 0x19) ∧
      (l.state = .up → spare → (∃ j, (s.link j).drill.isSome) → refused 0x10) ∧
      (l.state = .up → spare → (∀ j, (s.link j).drill = none) →
        ∃ t, exec (.ldrill f link monitor duration) s =
            .next (pushAnswer 0x57 f.tag [if seconds = duration.toNat then 0x00 else 0x01] t) ∧
          LinkMoved (arrive f s) t i
            { l with state := .degraded, drill := some ⟨m, seconds⟩, monitors := mset l.monitors m ⟨true, 0, true⟩ } 11 ∧
          VisitorsKept s t ∧ t.qxu = s.qxu)

/-- The expiry of a drill timer (R117; one that does not run has no effect: log entry 12, DESIGN CHOICE): the drilled
monitor becomes GOOD with its flag kept; with another unmasked fault the link stays DEGRADED and exactly one notice is
given; otherwise it becomes UP, and every path is reselected (R103, R131). -/
def Claims.DrillEnds : Prop :=
  ∀ (i : Link) (s : State),
    let l := s.link i
    let r := dropDrill l
    let faulty := ∃ m, (mget r.monitors m).fault = true ∧ mget l.cfg.mask m = false
    (l.drill = none → exec (.drillTimerExpiry i) s = .next s) ∧
    (l.drill.isSome → l.state = .degraded → faulty → ∃ t, exec (.drillTimerExpiry i) s = .next t ∧
      t = (s.setLink i r).withRqp t.rqp ∧ Gives s t [⟨.link, .link i, 1, 3, 3, 0xFF, 12, 0, s.rqp.shipTime⟩] ∧ PortKept s t) ∧
    (l.drill.isSome → l.state = .degraded → ¬ faulty → ∃ t, exec (.drillTimerExpiry i) s = .next t ∧
      LinkMoved s t i { r with state := .up } 12 ∧ VisitorsKept s t ∧ t.qxu = s.qxu)

/-- Links that leave eligibility (R89): with no SENT exchange on them nothing happens; SENT exchanges on them at attempt 1
are each re-queued, in creation order, and every other exchange stands; one at attempt 2 that is the last in that order
ends as R91 says. The creation order names an entry once. -/
def Claims.ExchangesLoseLinks : Prop :=
  ∀ (lost : Link → Bool) (s : State),
    let hit := fun i => (s.entry i).ex.any fun x => x.sent && (currentLink x).any lost
    let t := linksLeave lost s
    ((∀ i ∈ s.qxu.order, hit i = false) → t = s) ∧
    (∀ before i, s.qxu.order = before ++ [i] → (∀ m ∈ before, hit m = false) → hit i = true → t = failExchange i s) ∧
    (s.qxu.order.Nodup → (∀ i ∈ s.qxu.order, ∀ x, hit i = true → (s.entry i).ex = some x → x.second = false) →
      (∀ i ∈ s.qxu.order, ∀ x, hit i = true → (s.entry i).ex = some x →
        t.entry i = ⟨(s.entry i).use + 1, some { x with sent := false, second := true, timer := s.settings.timeout }⟩) ∧
      (∀ i, i ∉ s.qxu.order ∨ hit i = false → t.entry i = s.entry i) ∧
      t.qxu.order = s.qxu.order.filter (fun i => !hit i) ++ s.qxu.order.filter (fun i => hit i) ∧
      t.qxu.deferred = s.qxu.deferred ∧ t.chu = s.chu ∧ OutsideVisitors s t ∧ PortKept s t ∧ NoticesKept s t)

/-- The timers of a link, LDRILL, the end of a drill, and the exchanges of a link that leaves eligibility. -/
def Obligations.LinkTimersAndDrill : Prop :=
  Claims.LinkTimers ∧ Claims.DrillStarts ∧ Claims.DrillEnds ∧ Claims.ExchangesLoseLinks

/-! ### Chapter 6: routes and link handover -/

/-- Eligibility and selection (R129, R130): a link is eligible when it is UP or DEGRADED and permitted by the zone in
force; the selection is the eligible pin, else the first UP and eligible link of the list, else the first DEGRADED and
eligible one, else the current link while it is eligible, else none. -/
def Claims.SelectionRule : Prop :=
  ∀ (p : Path) (s : State),
    (∀ l, s.eligible l = true ↔ ((s.link l).state = .up ∨ (s.link l).state = .degraded) ∧
      (s.zone s.zne.pos.zone).permit.getLsbD l.val = true) ∧
    let good := fun st l => (s.link l).state = st ∧ s.eligible l = true
    (∀ l, p.pin = some l → s.eligible l = true → s.selection p = some l) ∧
    ((∀ l, p.pin = some l → s.eligible l = false) →
      (∀ pre l post, p.prefs = pre ++ l :: post → good .up l → (∀ k ∈ pre, ¬ good .up k) → s.selection p = some l) ∧
      ((∀ k ∈ p.prefs, ¬ good .up k) →
        (∀ pre l post, p.prefs = pre ++ l :: post → good .degraded l → (∀ k ∈ pre, ¬ good .degraded k) →
          s.selection p = some l) ∧
        ((∀ k ∈ p.prefs, ¬ good .degraded k) →
          (∀ l, currentOf p.state = some l → s.eligible l = true → s.selection p = some l) ∧
          ((∀ l, currentOf p.state = some l → s.eligible l = false) → s.selection p = none))))

/-- What a reselection with a reason does to a path, case by case (R132, R133). -/
def Claims.ReselectionTable : Prop :=
  ∀ (r : Nat) (c : TrafficClass) (why : MoveReason) (s : State),
    let p := s.path r c
    let sel := s.selection p
    let e := fun l => s.eligible l = true
    let t := reselect r c why s
    let prepare := fun cur l => movedPath r c (.preparing cur l (s.route r).prepare) (some why) 1 (some cur) (some l) s
    let switch := fun cur l => movedPath r c (.steady l) (some why) 5 (some cur) (some l) s
    let strand := fun cur => movedPath r c .stranded (some why) 6 (some cur) none s
    (∀ cur, p.state = .steady cur →
      (sel = some cur → t = s) ∧ (∀ l, sel = some l → l ≠ cur → e cur → t = prepare cur l) ∧
      (∀ l, sel = some l → ¬ e cur → t = switch cur l) ∧ (sel = none → t = strand cur)) ∧
    (p.state = .stranded →
      (sel = none → t = s) ∧ ∀ l, sel = some l → t = movedPath r c (.steady l) (some .recovery) 5 none (some l) s) ∧
    (∀ cur n m, p.state = .preparing cur n m →
      (sel = some n → t = s) ∧
      (sel = some cur → cur ≠ n → t = movedPath r c (.steady cur) p.reason 2 (some cur) (some n) s) ∧
      (∀ l, sel = some l → l ≠ n → l ≠ cur → (e cur → t = prepare cur l) ∧ (¬ e cur → t = switch cur l)) ∧
      (sel = none → t = strand cur)) ∧
    (∀ cur n m, p.state = .bicast cur n m →
      (¬ e n → e cur → t = reselect r c .preference (movedPath r c (.steady cur) p.reason 2 (some cur) (some n) s)) ∧
      (¬ e n → ¬ e cur → (∀ l, sel = some l → t = switch cur l) ∧ (sel = none → t = strand cur)) ∧
      (e n → ¬ e cur → t = movedPath r c (.releasing n cur (s.route r).release) p.reason 3 (some cur) (some n) s) ∧
      (e n → e cur → t = s)) ∧
    ∀ cur x m, p.state = .releasing cur x m →
      (e cur → t = s) ∧ (¬ e cur → (∀ l, sel = some l → t = switch cur l) ∧ (sel = none → t = strand cur))

/-- A reselection of all paths reselects each with the reason given, in route order and within a route VOICE, DATA, MESSAGE
(R131); it reaches nothing outside the route engine but the notice queue (R142, R143), and keeps every route's
configuration and pins. -/
def Claims.ReselectionFrame : Prop :=
  ∀ (why : MoveReason) (s : State),
    reselectAll why s = ((List.range 32).flatMap fun r => [(r, .voice), (r, .data), (r, .message)]).foldl
      (fun (t : State) (x : Nat × TrafficClass) => reselect x.1 x.2 why t) s ∧
    OutsideRoutes s (reselectAll why s) ∧ PortKept s (reselectAll why s) ∧ NoticesKept s (reselectAll why s) ∧
      RoutesKept s (reselectAll why s)

/-- Selection, and the reselection of a path. -/
def Obligations.Selection : Prop := Claims.SelectionRule ∧ Claims.ReselectionTable ∧ Claims.ReselectionFrame

/-- RCONF (R125, R126): BAD_ARG on a route above 31 or a bad list; otherwise the three values are clamped, the three lists
replaced, the pins kept, and the three paths reselected with reason PREFERENCE, VOICE first. -/
def Claims.ConfigureRoute : Prop :=
  ∀ (f : Frame) (x : RconfFields) (s : State), Takes f kRconf s →
    (31 < x.route.toNat ∨ prefsOf x.voice = none ∨ prefsOf x.data = none ∨ prefsOf x.message = none →
      exec (.rconf f x) s = .next (pushAnswer 0x60 f.tag [0x20] (arrive f s))) ∧
    ∀ a b c, x.route.toNat ≤ 31 → prefsOf x.voice = some a → prefsOf x.data = some b → prefsOf x.message = some c →
      let i := x.route.toNat
      let o := s.route i
      let w : Route :=
        { bicast := min 500 x.bicast.toNat, prepare := max 1 (min 30 x.prepare.toNat)
          release := max 1 (min 30 x.release.toNat)
          paths := ⟨{ o.paths.voice with prefs := a }, { o.paths.data with prefs := b },
            { o.paths.message with prefs := c }⟩ }
      let inRange := w.bicast = x.bicast.toNat ∧ w.prepare = x.prepare.toNat ∧ w.release = x.release.toNat
      exec (.rconf f x) s = .next (pushAnswer 0x60 f.tag [if inRange then 0x00 else 0x01]
        (reselect i .message .preference (reselect i .data .preference (reselect i .voice .preference
          ((arrive f s).setRoute i w)))))

/-- RPIN and RUNPIN (R127): BAD_ARG on a route, class or link out of range; otherwise the pin is set or absent, that one
path is reselected with reason PIN, and the answer carries its state and current link. -/
def Claims.PinPath : Prop :=
  ∀ (f : Frame) (route cls link : Byte) (s : State),
    (Takes f kRpin s → 31 < route.toNat ∨ 2 < cls.toNat ∨ 3 < link.toNat →
      exec (.rpin f route cls link) s = .next (pushAnswer 0x61 f.tag [0x20] (arrive f s))) ∧
    (Takes f kRunpin s → 31 < route.toNat ∨ 2 < cls.toNat →
      exec (.runpin f route cls) s = .next (pushAnswer 0x62 f.tag [0x20] (arrive f s))) ∧
    ∀ c, route.toNat ≤ 31 → classOf cls = some c →
      let r := route.toNat
      let pinned := fun pin => reselect r c .pin ((arrive f s).setPath r c { s.path r c with pin := pin })
      let shown := fun t : State => [pathStateByte (t.path r c).state, optLink (currentOf (t.path r c).state)]
      (∀ l : Link, Takes f kRpin s → link.toNat = l.val → exec (.rpin f route cls link) s =
        .next (pushAnswer 0x61 f.tag (0x00 :: shown (pinned (some l))) (pinned (some l)))) ∧
      (Takes f kRunpin s → exec (.runpin f route cls) s =
        .next (pushAnswer 0x62 f.tag (0x00 :: shown (pinned none)) (pinned none)))

/-- RCONF, RPIN and RUNPIN. -/
def Obligations.RouteRequests : Prop := Claims.ConfigureRoute ∧ Claims.PinPath

/-- HREADY and HDONE (R134, R137): BAD_ARG out of range; STATE unless the path is PREPARING toward, or RELEASING from, the
named link; otherwise the step of the handover they end. -/
def Claims.HostConfirms : Prop :=
  ∀ (f : Frame) (route cls link : Byte) (s : State),
    (31 < route.toNat ∨ 2 < cls.toNat ∨ 3 < link.toNat →
      (Takes f kHready s → exec (.hready f route cls link) s = .next (pushAnswer 0x63 f.tag [0x20] (arrive f s))) ∧
      (Takes f kHdone s → exec (.hdone f route cls link) s = .next (pushAnswer 0x64 f.tag [0x20] (arrive f s)))) ∧
    ∀ c (l : Link), route.toNat ≤ 31 → classOf cls = some c → link.toNat = l.val →
      let r := route.toNat
      let p := s.path r c
      (Takes f kHready s →
        ((∀ cur m, p.state ≠ .preparing cur l m) →
          exec (.hready f route cls link) s = .next (pushAnswer 0x63 f.tag [0x16] (arrive f s))) ∧
        ∀ cur m, p.state = .preparing cur l m →
          (s.eligible cur = false ∨ (s.route r).bicast = 0 → exec (.hready f route cls link) s =
            .next (pushAnswer 0x63 f.tag [0x00, 3]
              (movedPath r c (.releasing l cur (s.route r).release) p.reason 3 (some cur) (some l) (arrive f s)))) ∧
          (s.eligible cur = true → (s.route r).bicast ≠ 0 → exec (.hready f route cls link) s =
            .next (pushAnswer 0x63 f.tag [0x00, 2]
              ((arrive f s).setPath r c { p with state := .bicast cur l (s.route r).bicast })))) ∧
      (Takes f kHdone s →
        ((∀ cur m, p.state ≠ .releasing cur l m) →
          exec (.hdone f route cls link) s = .next (pushAnswer 0x64 f.tag [0x16] (arrive f s))) ∧
        ∀ cur m, p.state = .releasing cur l m →
          let t := reselect r c .preference ((arrive f s).setPath r c { p with state := .steady cur })
          exec (.hdone f route cls link) s = .next (pushAnswer 0x64 f.tag [0x00, pathStateByte (t.path r c).state] t))

/-- The expiry of a path's timers (R135, R136, R138). A timer that does not run has no effect (log entry 12, DESIGN
CHOICE); a path that a prepare timer strands keeps its reason (log entry 19, DEDUCED); COMPLETE comes before the
reselection (log entry 15, DEDUCED). -/
def Claims.PathTimers : Prop :=
  ∀ (r : Nat) (c : TrafficClass) (s : State),
    let p := s.path r c
    let e := fun l => s.eligible l = true
    ((∀ cur n m, p.state ≠ .preparing cur n m) → exec (.prepareTimerExpiry r c) s = .next s) ∧
    ((∀ cur n m, p.state ≠ .bicast cur n m) → exec (.bicastTimerExpiry r c) s = .next s) ∧
    ((∀ cur n m, p.state ≠ .releasing cur n m) → exec (.releaseTimerExpiry r c) s = .next s) ∧
    ∀ cur n m,
      (p.state = .preparing cur n m →
        (e cur → exec (.prepareTimerExpiry r c) s =
          .next (reselect r c .preference (movedPath r c (.steady cur) p.reason 2 (some cur) (some n) s))) ∧
        (¬ e cur → e n → exec (.prepareTimerExpiry r c) s =
          .next (reselect r c .preference (movedPath r c (.steady n) p.reason 5 (some cur) (some n) s))) ∧
        (¬ e cur → ¬ e n → exec (.prepareTimerExpiry r c) s =
          .next (movedPath r c .stranded p.reason 6 (some cur) none s))) ∧
      (p.state = .bicast cur n m → exec (.bicastTimerExpiry r c) s =
        .next (movedPath r c (.releasing n cur (s.route r).release) p.reason 3 (some cur) (some n) s)) ∧
      (p.state = .releasing cur n m → exec (.releaseTimerExpiry r c) s =
        .next (reselect r c .preference (movedPath r c (.steady cur) p.reason 4 (some n) (some cur) s)))

/-- The steps of a handover. -/
def Obligations.HandoverSteps : Prop := Claims.HostConfirms ∧ Claims.PathTimers

/-- LOOKUP (R139–R141, R219): BAD_ARG for a class that is none of the three, STALE for a handle that is not live, and
otherwise the verdict of the first check that decides, with the links of the path that are eligible now; nothing but the
port changes. -/
def Obligations.Lookup : Prop :=
  ∀ (f : Frame) (handle : BitVec 16) (cls : Byte) (s : State), Takes f kLookup s →
    let e := exec (.lookup f handle cls) s
    let i := handle.toNat / 16
    (2 < cls.toNat → e = .next (pushAnswer 0x66 f.tag [0x20] (arrive f s))) ∧
    ∀ c, classOf cls = some c →
      (s.visitor i = none ∨ (s.slot i).gen.toNat ≠ handle.toNat % 16 →
        e = .next (pushAnswer 0x66 f.tag [0x15] (arrive f s))) ∧
      ∀ v, s.visitor i = some v → (s.slot i).gen.toNat = handle.toNat % 16 →
        let p := s.path v.route c
        let named := (match p.state with
          | .steady cur => [cur]
          | .preparing cur _ _ => [cur]
          | .bicast cur n _ => [cur, n]
          | .releasing cur _ _ => [cur]
          | .stranded => []).filter fun l => s.eligible l
        let out := fun (verdict reason : Byte) (ls : List Link) => e = .next (pushAnswer 0x66 f.tag
          ([0x00, verdict, reason, BitVec.ofNat 8 v.route, pathStateByte p.state, BitVec.ofNat 8 s.tariffInForce.val,
              BitVec.ofNat 8 ls.length] ++
            ((ls.flatMap fun l : Link => [BitVec.ofNat 8 l.val, linkStateByte (s.link l).state]) ++
              [0xFF, 0xFF, 0xFF, 0xFF]).take 4) (arrive f s))
        (v.state = .authorizing → out 1 1 []) ∧ (v.state = .suspended → out 1 2 []) ∧
        (v.state = .departing → out 2 3 []) ∧
        (v.state = .active →
          (v.cls = .emergency → c = .data → out 2 4 []) ∧
          (¬ (v.cls = .emergency ∧ c = .data) →
            (c = .data → ∀ q, v.quota = some q → (q.gate = .waiting → out 1 5 []) ∧ (q.gate = .shut → out 2 6 [])) ∧
            ((c = .data → ∀ q, v.quota = some q → q.gate = .opened) →
              (named = [] → out 1 7 []) ∧ (named ≠ [] → out 0 0 named))))

/-! ### Chapter 7: navigation and zones -/

/-- NAVCONF and FIXPOST (R147, R153): NAVCONF is answered OK, stores the divisor and enables, restarts or disables the
receiver; a FIXPOST in SERVICE is refused BAD_ARG for a quality that is not 1 or 2 and FULL with two fixes held, and
otherwise enters the tail as a HOST fix. Neither changes anything else. -/
def Obligations.Navigation : Prop :=
  (∀ (f : Frame) (divisor enable : Byte) (s : State), Takes f kNavconf s →
    let n := s.zne.nav
    let out := fun z : Zne => exec (.navconf f divisor enable) s =
      .next (pushAnswer 0x70 f.tag [0x00] ((arrive f s).withZne z))
    (enable[0] = false → out { s.zne with
      nav := { n with divisor := divisor, rx := .disabled, lineBreak := false, lastSeq := none }, fifo := [] }) ∧
    (enable[0] = true → n.rx = .disabled →
      out { s.zne with nav := { n with divisor := divisor, rx := .hunting, lineBreak := false } }) ∧
    (enable[0] = true → n.rx ≠ .disabled → out { s.zne with nav := { n with divisor := divisor, rx := .hunting } })) ∧
  ∀ (f : Frame) (east north : BitVec 24) (quality : Byte) (s : State), Takes f kFixpost s →
    let out := fun code t => exec (.fixpost f east north quality) s = .next (pushAnswer 0x71 f.tag [code] t)
    (quality.toNat = 0 ∨ 2 < quality.toNat → out 0x20 (arrive f s)) ∧
    (1 ≤ quality.toNat → quality.toNat ≤ 2 → s.rqp.mode = .service →
      (2 ≤ s.zne.fifo.length → out 0x11 (arrive f s)) ∧
      (s.zne.fifo.length < 2 → out 0x00 ((arrive f s).withZne
        { s.zne with fifo := s.zne.fifo ++ [⟨.host, east.toInt, north.toInt, quality.toNat, false⟩] })))

/-- One byte time on the NAV line (R148): each bit is the value of at least two of its three samples; a start bit judged
high is a false start, a stop bit judged high gives a good byte where all samples agree and a noisy one otherwise, and a
stop bit judged low a framing error, or a break where all data bits are low and the line is low at the end. -/
def Claims.ByteOutcome : Prop :=
  ∀ x : LineByte,
    let high := fun y : Samples => 2 ≤ y[0].toNat + y[1].toNat + y[2].toNat
    let steady := fun y : Samples => y[0] = y[1] ∧ y[1] = y[2]
    let data := [x.d0, x.d1, x.d2, x.d3, x.d4, x.d5, x.d6, x.d7]
    let clean := steady x.start ∧ (∀ y ∈ data, steady y) ∧ steady x.stop
    (∀ (k : Nat) (y : Samples), data[k]? = some y → ((lineValue x).getLsbD k = true ↔ high y)) ∧
    (high x.start → lineOutcome x = .falseStart) ∧
    (¬ high x.start → high x.stop → (clean → lineOutcome x = .good (lineValue x)) ∧
      (¬ clean → lineOutcome x = .noisy (lineValue x))) ∧
    (¬ high x.start → ¬ high x.stop →
      ((∀ y ∈ data, ¬ high y) → x.lowAtEnd = true → lineOutcome x = .broken) ∧
      (¬ ((∀ y ∈ data, ¬ high y) ∧ x.lowAtEnd = true) → lineOutcome x = .framing))

/-- What a received byte does (R149–R151). The three commands of a byte time act alike: the byte's samples decide. A
disabled receiver and a false start do nothing; HUNTING takes 7Eh alone; ASSEMBLING takes every byte and disposes of the
tenth by the four checks in their order; a framing error or a break drops a message in reception with one discard; the
first break of a row sets the status BREAK with one ZONE notice, and a byte clears it; a further break keeps the status
with no notice (log entry 9, DEDUCED). That the samples decide is log entry 36 (DESIGN CHOICE). -/
def Claims.ByteReceived : Prop :=
  ∀ (x : LineByte) (s : State),
    let n := s.zne.nav
    let e := exec (.navByte x) s
    let idle := { n with lineBreak := false }
    let drop := fun (why : NavDiscard) (n : Nav) =>
      { n with rx := .hunting, discards := min 65535 (n.discards + 1), lastReason := some why }
    let out := fun n' => e = .next (s.withZne { s.zne with nav := n' })
    exec (.navFramingError x) s = e ∧ exec (.navBreak x) s = e ∧
    (n.rx = .disabled ∨ lineOutcome x = .falseStart → e = .next s) ∧
    (n.rx ≠ .disabled →
      (∀ b noisy, lineOutcome x = (if noisy = true then LineOutcome.noisy b else .good b) →
        (n.rx = .hunting → b = 0x7E#8 → out { idle with rx := .assembling [0x7E] noisy }) ∧
        (n.rx = .hunting → b ≠ 0x7E#8 → out idle) ∧
        ∀ bs mark, n.rx = .assembling bs mark →
          let msg := bs ++ [b]
          let failed := fun why => out (drop why idle)
          let sum := ((msg.drop 1).map fun y => y.toNat).sum
          let quality := (byteAt msg 8).toNat
          (msg.length < 10 → out { idle with rx := .assembling msg (mark || noisy) }) ∧
          (10 ≤ msg.length →
            (sum % 256 ≠ 0 → failed .check) ∧
            (sum % 256 = 0 → quality = 0 ∨ 2 < quality → failed .quality) ∧
            (sum % 256 = 0 → 1 ≤ quality → quality ≤ 2 →
              (n.lastSeq = some (byteAt msg 1) → failed .duplicate) ∧
              (n.lastSeq ≠ some (byteAt msg 1) → 2 ≤ s.zne.fifo.length → failed .overrun) ∧
              (n.lastSeq ≠ some (byteAt msg 1) → s.zne.fifo.length < 2 → e = .next (s.withZne { s.zne with
                nav := { idle with rx := .hunting, lastSeq := some (byteAt msg 1) }
                fifo := s.zne.fifo ++ [⟨.nav (byteAt msg 1), (fieldAt 24 3 msg 2).toInt, (fieldAt 24 3 msg 5).toInt,
                  quality, mark || noisy⟩] }))))) ∧
      (lineOutcome x = .framing → (n.rx = .hunting → out idle) ∧
        ∀ bs mark, n.rx = .assembling bs mark → out (drop .framing idle)) ∧
      (lineOutcome x = .broken →
        let m := (match n.rx with
          | .assembling _ _ => drop .broken n
          | .disabled | .hunting => n)
        (n.lineBreak = true → out m) ∧
        (n.lineBreak = false → e = .next (giveNotice .zone .none 4 0 0 0 0 0
          (s.withZne { s.zne with nav := { m with lineBreak := true } })))))

/-- A message is its bytes one after another (log entry 36, DESIGN CHOICE, for one of no byte). -/
def Claims.MessageIsItsBytes : Prop :=
  ∀ (b : LineByte) (bs : List LineByte) (s : State), exec (.navMessage []) s = .next s ∧
    ∃ t, exec (.navByte b) s = .next t ∧ exec (.navMessage (b :: bs)) s = exec (.navMessage bs) t

/-- The NAV line. -/
def Obligations.NavLine : Prop := Claims.ByteOutcome ∧ Claims.ByteReceived ∧ Claims.MessageIsItsBytes

/-- The candidate of a fix (R159): the lowest enabled zone whose circle contains it, the zone in force widened by its
hysteresis except in NO_FIX, and 31 where none does. -/
def Claims.CandidateRule : Prop :=
  ∀ (x : Fix) (s : State),
    let reach := fun i : Nat => (((s.zone i).radius +
      if s.zne.pos.zone = i ∧ s.zne.pos.state ≠ .noFix then (s.zone i).hysteresis else 0 : Nat) : Int)
    let inside := fun i => (s.zone i).enabled = true ∧
      (x.east - (s.zone i).east) ^ 2 + (x.north - (s.zone i).north) ^ 2 ≤ reach i ^ 2
    (∀ k < 31, inside k → (∀ j < k, ¬ inside j) → s.candidateOf x = k) ∧
    ((∀ k < 31, ¬ inside k) → s.candidateOf x = 31)

/-- The values in force (R160). -/
def Claims.ValuesInForce : Prop :=
  ∀ s : State,
    let z := s.zone s.zne.pos.zone
    s.tariffInForce = z.tariff ∧ s.permitInForce = z.permit ∧
    (s.zne.pos.state = .noFix → s.policyInForce = .mute) ∧
    (s.zne.pos.state = .stale → s.settings.stalePolicy = .mute → s.policyInForce = .mute) ∧
    (s.zne.pos.state = .stale → s.settings.stalePolicy = .keep → s.policyInForce = z.policy) ∧
    (s.zne.pos.state = .fixed → s.policyInForce = z.policy)

/-- The taking of a fix (R152, R161–R163). With none in the FIFO nothing happens (log entry 27, DESIGN CHOICE). In CONFIG
it is dropped. In SERVICE it becomes the last taken fix and loads the stale timer; a candidate that is the zone in force
while FIXED clears the pending change; a wanted change takes effect on this fix (into MUTE, or a return that lifts
nothing), or when the count reaches the candidate's entry count, a lift being counted by clean NAV fixes alone. A change
that takes effect gives the ZONE notice CHANGED first, and where neither the policy nor the permit mask in force changed,
nothing else; a changed mask and a policy that turned are handed on behind the notice, in the order of R166: the SENT
exchanges on each link that left the mask fail (R89), one that entered it may give the owed notice (R79), the paths are
reselected (R131), and MUTING or UNMUTING begins with cause
POLICY (R175). (No probe runs in SERVICE: RadioSafe.) -/
def Claims.FixTaken : Prop :=
  ∀ s : State,
    (s.zne.fifo = [] → exec .fixEvaluation s = .next s) ∧
    ∀ x rest, s.zne.fifo = x :: rest →
      let p := s.zne.pos
      let k := s.candidateOf x
      let seen := { p with last := some x, stale := some s.settings.positionStale }
      let leaves := fun q => exec .fixEvaluation s = .next (s.withZne { s.zne with fifo := rest, pos := q })
      let before := s.policyInForce
      let after := (s.zone k).policy
      let lift := before = .mute ∧ after = .serve
      let clean := (∃ n, x.source = .nav n) ∧ x.noisy = false ∧ x.quality = 1
      let atOnce := (before = .serve ∧ after = .mute) ∨ (k = p.zone ∧ ¬ lift)
      let counts := ¬ atOnce ∧ (lift → clean)
      let held := if p.candidate = some k then p.confirm else 0
      let needed := if k = 31 then 3 else (s.zone k).entry
      let done := atOnce ∨ (counts ∧ needed ≤ held + 1)
      let code : Byte := if before = .serve ∧ after = .mute then 0 else if before = .mute ∧ after = .serve then 1
        else if k = p.zone then 2 else 3
      (s.rqp.mode = .config → leaves p) ∧
      (s.rqp.mode = .service → p.state = .fixed → k = p.zone → leaves { seen with candidate := none, confirm := 0 }) ∧
      (s.rqp.mode = .service → ¬ (p.state = .fixed ∧ k = p.zone) →
        (¬ done → (counts → leaves { seen with candidate := some k, confirm := held + 1 }) ∧
          (¬ counts → leaves { seen with candidate := some k, confirm := held })) ∧
        (done → s.rdc.probe = none → ∃ t, exec .fixEvaluation s = .next t ∧
          t.zne = { s.zne with fifo := rest, pos := { seen with state := .fixed, zone := k, candidate := none, confirm := 0 } } ∧
          (s.rqp.notices.length < 128 → ∃ more, t.rqp.notices = s.rqp.notices ++
            ⟨.zone, .zone k, 1, BitVec.ofNat 8 p.zone, BitVec.ofNat 8 k, positionByte p.state, code,
              BitVec.ofNat 8 ((policyByte after).toNat * 128 + (s.zone k).tariff.val * 16 + (s.zone k).permit.toNat),
              s.rqp.shipTime⟩ :: more) ∧
          PortKept s t ∧ RoutesKept s t ∧ t.lmn = s.lmn ∧ t.base = s.base ∧ t.pending = s.pending ∧
          (after = before → s.permitInForce ≠ (s.zone k).permit → t.rdc = s.rdc ∧
            LinksLost (fun l => s.permitInForce.getLsbD l.val && !(s.zone k).permit.getLsbD l.val) (s.withZne t.zne) t) ∧
          (after = before → s.permitInForce = (s.zone k).permit →
            t.vrg = s.vrg ∧ t.chu = s.chu ∧ t.qxu = s.qxu ∧ t.rte = s.rte ∧ t.rdc = s.rdc) ∧
          ∃ u, PermitHandedOn s.permitInForce (s.zone k).permit
              (giveNotice .zone (.zone k) 1 (BitVec.ofNat 8 p.zone) (BitVec.ofNat 8 k) (positionByte p.state) code
                (s.withZne t.zne).valuesByte (s.withZne t.zne)) u ∧
            (after = before → t = u) ∧ (after ≠ before → u.policyInForce = after ∧ PolicyHandedOn u t)))

/-- The expiry of the position stale timer (R164): a timer that does not run has no effect (log entry 12, DESIGN CHOICE);
the count is cleared; FIXED becomes STALE with one ZONE notice STALE and the policy in force MUTE or kept by the stale
policy, NO_FIX and STALE keep their state with no notice. Where the policy turns to MUTE it is handed on behind the notice:
MUTING begins with cause POLICY, unless the operator mute or the radio state already says so (R166, R175). -/
def Claims.PositionStale : Prop :=
  ∀ s : State,
    let p := s.zne.pos
    let q := { p with stale := none, candidate := none, confirm := 0 }
    let kept := s.settings.stalePolicy = .keep ∨ (s.zone p.zone).policy = .mute
    (p.stale = none → exec .positionStaleTimerExpiry s = .next s) ∧
    (p.stale.isSome → p.state ≠ .fixed →
      exec .positionStaleTimerExpiry s = .next (s.withZne { s.zne with pos := q })) ∧
    (p.stale.isSome → p.state = .fixed → s.rdc.probe = none → ∃ t, exec .positionStaleTimerExpiry s = .next t ∧
      t.zne = { s.zne with pos := { q with state := .stale } } ∧
      (s.rqp.notices.length < 128 → ∃ more, t.rqp.notices = s.rqp.notices ++
        ⟨.zone, .zone p.zone, 2, 0, 0, 0, 0, BitVec.ofNat 8
          ((if kept then (policyByte (s.zone p.zone).policy).toNat else 1) * 128 + (s.zone p.zone).tariff.val * 16 +
            (s.zone p.zone).permit.toNat), s.rqp.shipTime⟩ :: more) ∧
      PortKept s t ∧ t.rte = s.rte ∧ t.lmn = s.lmn ∧ t.base = s.base ∧ t.pending = s.pending ∧
      (kept → t.vrg = s.vrg ∧ t.chu = s.chu ∧ t.qxu = s.qxu ∧ t.rdc = s.rdc) ∧
      ∃ u, u = giveNotice .zone (.zone p.zone) 2 0 0 0 0 (s.withZne t.zne).valuesByte (s.withZne t.zne) ∧
        (kept → t = u) ∧ (¬ kept → u.policyInForce = .mute ∧ PolicyHandedOn u t))

/-- The evaluation of the position. -/
def Obligations.ZoneEvaluation : Prop :=
  Claims.CandidateRule ∧ Claims.ValuesInForce ∧ Claims.FixTaken ∧ Claims.PositionStale

/-- ZSET (R156, R157): BAD_ARG on its four checks; otherwise the zone's fields are replaced with radius and entry count at
the nearest limit, zone 31 taking its policy, tariff zone and permit mask alone, and the pending candidate is cleared
whatever zone was named; where no value in force changed nothing else happens, and otherwise the ZONE notice EDITED comes
first; behind it a changed permit mask and a policy that turned are handed on in the order of R166: the SENT exchanges on
each link that left the mask fail (R89), one that entered it may give the owed notice (R79), the paths are reselected
(R131), and MUTING or UNMUTING begins with cause POLICY (R175).
That the entry count byte of a ZSET of zone 31 is neither read nor clamped is log entry 26 (DEDUCED). (A
probe runs in CONFIG alone, where the position is NO_FIX: RadioSafe.) -/
def Obligations.SetZone : Prop :=
  ∀ (f : Frame) (x : ZsetFields) (s : State), Takes f kZset s →
    (31 < x.zone.toNat ∨ 1 < x.policy.toNat ∨ 3 < x.tariff.toNat ∨ 15 < x.permit.toNat →
      exec (.zset f x) s = .next (pushAnswer 0x73 f.tag [0x20] (arrive f s))) ∧
    ∀ (policy : Policy) (tariff : TariffZone) (permit : LinkSet), x.zone.toNat ≤ 31 → policyOf x.policy = some policy →
      x.tariff.toNat = tariff.val → x.permit.toNat = permit.toNat →
      let i := x.zone.toNat
      let last := i = 31
      let w : Zone := if last then { s.zone 31 with policy := policy, tariff := tariff, permit := permit }
        else
          { enabled := x.enable[0], east := x.east.toInt, north := x.north.toInt, radius := min 1048575 x.radius.toNat
            hysteresis := x.hysteresis.toNat, policy := policy, tariff := tariff, permit := permit
            entry := max 1 (min 8 x.entry.toNat) }
      let code : Byte := if last ∨ (w.radius = x.radius.toNat ∧ w.entry = x.entry.toNat) then 0x00 else 0x01
      let a := arrive f s
      let u := (a.setZone i w).setPos { s.zne.pos with candidate := none, confirm := 0 }
      s.rdc.probe = none ∨ s.zne.pos.state = .noFix → ∃ t, exec (.zset f x) s = .next (pushAnswer 0x73 f.tag [code] t) ∧ t.zne = u.zne ∧
        (u.inForce = s.inForce → t = u) ∧ (i ≠ s.zne.pos.zone → t = u) ∧
        (u.inForce ≠ s.inForce → (s.rqp.notices.length < 128 → ∃ more, t.rqp.notices = s.rqp.notices ++
            ⟨.zone, .zone i, 3, 0, 0, 0, 0, u.valuesByte, s.rqp.shipTime⟩ :: more) ∧
          PortKept a t ∧ RoutesKept s t ∧ t.lmn = s.lmn ∧ t.base = s.base ∧ t.pending = s.pending ∧
          (u.permitInForce = s.permitInForce → t.rte = s.rte) ∧
          (u.permitInForce ≠ s.permitInForce → u.policyInForce = s.policyInForce → t.rdc = s.rdc ∧
            LinksLost (fun l => s.permitInForce.getLsbD l.val && !u.permitInForce.getLsbD l.val) u t) ∧
          (u.permitInForce = s.permitInForce → u.policyInForce = s.policyInForce →
            t.vrg = s.vrg ∧ t.chu = s.chu ∧ t.qxu = s.qxu ∧ t.rdc = s.rdc) ∧
          ∃ w, PermitHandedOn s.permitInForce u.permitInForce (giveNotice .zone (.zone i) 3 0 0 0 0 u.valuesByte u) w ∧
            (u.policyInForce = s.policyInForce → t = w) ∧
            (u.policyInForce ≠ s.policyInForce → w.policyInForce = u.policyInForce ∧ PolicyHandedOn w t))

/-- The reads of chapters 5 to 8 (R120, R128, R154, R158, R190, R216): BAD_ARG for an index out of range; otherwise OK
with the record as it stands, in the order its rule lists it, absent values as FFh; LREAD clears the link's fault-seen
flags if its clear option is set, and no read changes anything else. (Where R217 names no code, R216's order of first
listing gives it, and what a rule sends by 'whether' is a flag, 1 for yes: log entry 10. That the attempt of a mark
without one and the sequence of a HOST fix are FFh: log entry 29, DEDUCED.) -/
def Obligations.ReadBlocks : Prop :=
  ∀ (f : Frame) (s : State),
    let opt := fun (n : Nat) (v : Option Nat) => match v with
      | some m => beBytes n m
      | none => List.replicate n (0xFF : Byte)
    let bit := fun b : Bool => if b = true then (1 : Byte) else 0
    let code := fun v : Option Byte => v.getD 0xFF
    let signed := fun (n : Nat) (v : Int) => beBytes n (v % 256 ^ n).toNat
    (∀ link clear, Takes f kLread s →
      (3 < link.toNat → exec (.lread f link clear) s = .next (pushAnswer 0x58 f.tag [0x20] (arrive f s))) ∧
      ∀ i : Link, link.toNat = i.val →
        let l := s.link i
        let c := l.cfg
        let mon := fun m : MonitorState => [bit m.fault, BitVec.ofNat 8 m.count, bit m.seen]
        exec (.lread f link clear) s = .next (pushAnswer 0x58 f.tag
          ([0x00] ++ beBytes 2 c.cost ++ beBytes 3 c.staleTime ++ beBytes 2 c.holdTime ++ beBytes 1 c.probe ++
            beBytes 2 c.delayT ++ beBytes 2 c.lossT ++ signed 1 c.levelT ++ beBytes 1 c.debounce.delay ++
            beBytes 1 c.debounce.loss ++ beBytes 1 c.debounce.level ++
            [BitVec.ofNat 8 (c.mask.delay.toNat + 2 * c.mask.loss.toNat + 4 * c.mask.level.toNat),
              linkStateByte l.state, holdCauseByte l.state] ++ beBytes 1 l.good ++
            mon l.monitors.delay ++ mon l.monitors.loss ++ mon l.monitors.level ++
            (match l.drill with
              | some d => monitorByte d.monitor :: beBytes 2 d.timer
              | none => List.replicate 3 0xFF) ++
            (match l.last with
              | some m => beBytes 4 m.delay ++ signed 2 m.loss ++ signed 2 m.level ++ beBytes 4 m.time.toNat
              | none => List.replicate 12 0xFF) ++ opt 3 l.stale ++ opt 2 l.hold)
          (if clear[0] then (arrive f s).setLink i
              { l with monitors := ⟨{ l.monitors.delay with seen := false }, { l.monitors.loss with seen := false },
                { l.monitors.level with seen := false }⟩ }
            else arrive f s))) ∧
    (∀ route, Takes f kRread s →
      (31 < route.toNat → exec (.rread f route) s = .next (pushAnswer 0x65 f.tag [0x20] (arrive f s))) ∧
      (route.toNat ≤ 31 →
        let r := s.route route.toNat
        let link := fun l : Option Link => code (l.map fun k : Link => BitVec.ofNat 8 k.val)
        let path := fun p : Path => [BitVec.ofNat 8 p.prefs.length] ++
          (p.prefs.map (fun k : Link => BitVec.ofNat 8 k.val) ++ [0, 0, 0, 0]).take 4 ++
          [link p.pin, pathStateByte p.state, link (currentOf p.state), link (nextOf p.state), link (releasedOf p.state),
            code (p.reason.map moveReasonByte)] ++
          (match p.state with
            | .preparing _ _ m => beBytes 1 m ++ [0xFF, 0xFF, 0xFF]
            | .bicast _ _ m => [0xFF] ++ beBytes 2 m ++ [0xFF]
            | .releasing _ _ m => [0xFF, 0xFF, 0xFF] ++ beBytes 1 m
            | .steady _ | .stranded => [0xFF, 0xFF, 0xFF, 0xFF])
        exec (.rread f route) s = .next (pushAnswer 0x65 f.tag
          ([0x00] ++ beBytes 2 r.bicast ++ beBytes 1 r.prepare ++ beBytes 1 r.release ++ path r.paths.voice ++
            path r.paths.data ++ path r.paths.message) (arrive f s)))) ∧
    (Takes f kNread s →
      let n := s.zne.nav
      let p := s.zne.pos
      exec (.nread f) s = .next (pushAnswer 0x72 f.tag
        ([0x00, bit (decide (n.rx ≠ .disabled)), n.divisor, receiverByte n.rx, bit n.lineBreak] ++ beBytes 2 n.discards ++
          [code (n.lastReason.map navDiscardByte), code n.lastSeq] ++ beBytes 1 s.zne.fifo.length ++
          [positionByte p.state] ++ beBytes 1 p.zone ++ opt 1 p.candidate ++ beBytes 1 p.confirm ++ opt 1 p.stale ++
          (match p.last with
            | some x => (match x.source with
                | .nav q => [0, q]
                | .host => [1, 0xFF]) ++ signed 3 x.east ++ signed 3 x.north ++ beBytes 1 x.quality ++ [bit x.noisy]
            | none => List.replicate 10 0xFF)) (arrive f s))) ∧
    (∀ zone, Takes f kZread s →
      (31 < zone.toNat → exec (.zread f zone) s = .next (pushAnswer 0x74 f.tag [0x20] (arrive f s))) ∧
      (zone.toNat ≤ 31 →
        let i := zone.toNat
        let z := s.zone i
        let geometry := if i = 31 then 1 :: List.replicate 11 0
          else [bit z.enabled] ++ signed 3 z.east ++ signed 3 z.north ++ beBytes 3 z.radius ++ beBytes 2 z.hysteresis
        exec (.zread f zone) s = .next (pushAnswer 0x74 f.tag
          ([0x00] ++ geometry ++ [policyByte z.policy] ++ beBytes 1 z.tariff.val ++ beBytes 1 z.permit.toNat ++
            beBytes 1 (if i = 31 then 3 else z.entry) ++ [bit (decide (s.zne.pos.zone = i))]) (arrive f s)))) ∧
    ∀ unit, Takes f kUread s →
      (15 < unit.toNat → exec (.uread f unit) s = .next (pushAnswer 0x83 f.tag [0x20] (arrive f s))) ∧
      (unit.toNat ≤ 15 →
        let u := s.unit unit.toNat
        exec (.uread f unit) s = .next (pushAnswer 0x83 f.tag
          ([0x00, unitStateByte u.state] ++ beBytes 1 u.misses ++
            (match u.mark with
              | none => [0, 0xFF]
              | some .identify => [1, 0xFF]
              | some .poll => [2, 0xFF]
              | some (.mute a) => [3, BitVec.ofNat 8 a]
              | some (.unmute a) => [4, BitVec.ofNat 8 a]) ++
            [bit (s.rdc.onBus.any fun y => decide (y.1 = unit.toNat))] ++
            (match u.lastStatus with
              | some x => [bit x.radiating, bit x.fault] ++ beBytes 4 x.time.toNat
              | none => List.replicate 6 0xFF) ++
            [code (u.lastFailure.map failureByte), radioByte s.rdc.radio, policyByte s.effectivePolicy, bit s.rdc.opMute,
              if s.rdc.rfoff then 0 else 1, bit s.rdc.busFault] ++ opt 2 s.rdc.deadline ++ opt 1 s.rdc.poll ++
            [bit s.rdc.probe.isSome]) (arrive f s)))
/-! ### Chapter 8: radio units and the cell bus -/

/-- The suspension of one visitor at a loss of service: SUSPENDED with the mute hold as its retire timer (R5). -/
def Claims.suspended (s : State) (v : Visitor) : Visitor :=
  { v with state := .suspended, retire := some s.settings.muteHold }

/-- The start of MUTING (R23): every ACTIVE visitor becomes SUSPENDED with the mute hold loaded, every AUTHORIZING one is
retired with reason MUTED, the others keep their state and timer (an exchange entry set free may go to a deferred one),
and the counts handed back are theirs. -/
def Claims.VisitorsMuted : Prop :=
  ∀ s : State, Canonical s →
    let t := (startOfMuting s).1
    let inState := fun x => (s.vrg.slots.filter fun e => decide (e.2.visitor.map (·.state) = some x)).length
    (startOfMuting s).2 = (inState .active, inState .authorizing) ∧
    ∀ i v, s.visitor i = some v →
      let kept := fun x : Visitor => ∃ w, t.visitor i = some w ∧ w = { x with xref := w.xref, deferred := w.deferred }
      (v.state = .active → kept (Claims.suspended s v)) ∧
      (v.state = .suspended ∨ v.state = .departing → kept v) ∧
      (v.state = .authorizing → (t.slot i).reason = some .muted ∧
        (t.visitor i = none ∨ ∃ w, t.visitor i = some w ∧ w.state = .departing))

/-- The number of ACTIVE visitors on a unit. -/
def Claims.activeOn (s : State) (u : Nat) : Nat :=
  (s.vrg.slots.filter fun e => match e.2.visitor with
    | some v => decide (v.state = .active ∧ v.unit = u)
    | none => false).length

/-- The loss of a unit (R24): its ACTIVE visitors become SUSPENDED, their number is handed back, and nothing else changes.
-/
def Claims.UnitVisitorsSuspended : Prop :=
  ∀ (u : Nat) (s : State),
    let t := (suspendUnit u s).1
    t = s.withVrg t.vrg ∧ t.vrg = { s.vrg with slots := t.vrg.slots } ∧
    (Canonical s → (suspendUnit u s).2 = Claims.activeOn s u) ∧
    ∀ i, t.slot i = match s.visitor i with
      | some v => if v.state = .active ∧ v.unit = u then { s.slot i with visitor := some (Claims.suspended s v) } else s.slot i
      | none => s.slot i

/-- The beginning of MUTING (R177): the visitors, accounts and exchanges are as the start of MUTING leaves them, and the
RADIO notice MUTING follows, with the numbers of visitors suspended and retired and the cause; the marks of every unit,
RFOFF where a unit is UNRESPONSIVE or EXCLUDED, the deadline loaded, and the radio MUTED at once, with its notice, where no
MUTE mark and no MUTE or UNMUTE transaction is left. -/
def Claims.MutingBegins : Prop :=
  ∀ (cause : PolicyCause) (s : State),
    let t := beginMuting cause s
    let lost := ∃ u < 16, (s.unit u).state = .unresponsive ∨ (s.unit u).state = .excluded
    let busy := (∃ u < 16, isMute (t.unit u).mark = true) ∨ ∃ u a, s.rdc.onBus = some (u, .mute a) ∨ s.rdc.onBus = some (u, .unmute a)
    let z := (startOfMuting (s.withRdc { s.rdc with radio := .muting })).1
    let inState := fun x => (s.vrg.slots.filter fun e => decide (e.2.visitor.map (·.state) = some x)).length
    let hi := fun n => BitVec.ofNat 8 (n / 256)
    let lo := fun n => BitVec.ofNat 8 n
    let begun : Notice := ⟨.radio, .none, 1, hi (inState .active), lo (inState .active), hi (inState .authorizing),
      lo (inState .authorizing), match cause with | .policy => 0 | .operator => 1, s.rqp.shipTime⟩
    let done := if t.rdc.radio = .muted then [(⟨.radio, .none, 3, 0, 0, 0, 0, 0, s.rqp.shipTime⟩ : Notice)] else []
    t.vrg = z.vrg ∧ t.chu = z.chu ∧ t.qxu = z.qxu ∧ (Canonical s → Gives z t (begun :: done)) ∧
    (inState .authorizing = 0 → z.rqp = s.rqp) ∧
    (∀ u < 16, t.unit u = { s.unit u with mark := match (s.unit u).state with
      | .serving | .faulty => if isMute (s.unit u).mark then (s.unit u).mark else some (.mute 1)
      | .unresponsive | .absent => if isUnmute (s.unit u).mark then some (.mute 1) else (s.unit u).mark
      | .muted => if isUnmute (s.unit u).mark then none else (s.unit u).mark
      | .excluded => (s.unit u).mark }) ∧
    (lost → t.rdc.rfoff = true) ∧ (¬ lost → t.rdc.rfoff = s.rdc.rfoff) ∧
    (busy → t.rdc.radio = .muting ∧ t.rdc.deadline = some s.settings.muteDeadline) ∧
    (¬ busy → t.rdc.radio = .muted ∧ t.rdc.deadline = none) ∧
    t.rdc.onBus = s.rdc.onBus ∧ t.rdc.poll = s.rdc.poll ∧ t.rdc.probe = s.rdc.probe ∧ t.lmn = s.lmn ∧ t.rte = s.rte ∧
    t.zne = s.zne ∧ t.base = s.base ∧ t.pending = s.pending ∧ PortKept s t ∧ NoticesKept s t

/-- The beginning of UNMUTING (R178): the deadline stops, RFOFF is released, the notice UNMUTING is given with its cause,
the marks of every unit, and the radio SERVING at once where nothing remains to be done; visitors are not resumed. -/
def Claims.UnmutingBegins : Prop :=
  ∀ (cause : PolicyCause) (s : State),
    let t := beginUnmuting cause s
    let faulty := fun r : UnitRec => ∃ x, r.lastStatus = some x ∧ x.fault = true
    let busy := (∃ u < 16, isUnmute (t.unit u).mark = true) ∨ ∃ u a, s.rdc.onBus = some (u, .mute a) ∨ s.rdc.onBus = some (u, .unmute a)
    let done := if t.rdc.radio = .serving then [(⟨.radio, .none, 4, 0, 0, 0, 0, 0, s.rqp.shipTime⟩ : Notice)] else []
    (∀ u < 16, let r := s.unit u
      (r.state = .serving → t.unit u = { r with mark := if isMute r.mark then none else r.mark }) ∧
      (r.state = .muted → t.unit u = { r with mark := some (.unmute 1) }) ∧
      (r.state = .unresponsive → isMute r.mark = true → ¬ faulty r → t.unit u = { r with mark := some (.unmute 1) }) ∧
      (r.state = .unresponsive → isMute r.mark = false ∨ faulty r → t.unit u = r) ∧
      (r.state = .faulty ∨ r.state = .absent ∨ r.state = .excluded → t.unit u = r)) ∧
    (busy → t.rdc.radio = .unmuting) ∧ (¬ busy → t.rdc.radio = .serving) ∧
    t.rdc = { s.rdc with units := t.rdc.units, radio := t.rdc.radio, deadline := none, rfoff := false } ∧
    Gives s t (⟨.radio, .none, 2, 0, 0, 0, 0, match cause with | .policy => 0 | .operator => 1, s.rqp.shipTime⟩ :: done) ∧
    t = (s.withRdc t.rdc).withRqp t.rqp ∧ PortKept s t

/-- RMUTE and RRELEASE (R175, R176): always answered OK. Where the operator mute already stands so, nothing changes; where
the policy in force is MUTE, the mark alone changes; where the effective policy turns with the radio still the other way,
MUTING or UNMUTING begins with cause OPERATOR and the arbiter runs. -/
def Claims.OperatorRequests : Prop :=
  ∀ (f : Frame) (s : State),
    let a := arrive f s
    let with' := fun b => a.withRdc { s.rdc with opMute := b }
    let rmute := fun t => exec (.rmute f) s = .next (pushAnswer 0x80 f.tag [0x00] t)
    let rrelease := fun t => exec (.rrelease f) s = .next (pushAnswer 0x81 f.tag [0x00] t)
    (Takes f kRmute s →
      (s.rdc.opMute = true → rmute a) ∧
      (s.rdc.opMute = false → s.policyInForce = .mute ∨ silencing s.rdc.radio = true → rmute (with' true)) ∧
      (s.rdc.opMute = false → s.policyInForce = .serve → silencing s.rdc.radio = false →
        rmute (settleBus (beginMuting .operator (with' true))))) ∧
    (Takes f kRrelease s →
      (s.rdc.opMute = false → rrelease a) ∧
      (s.rdc.opMute = true → s.policyInForce = .mute ∨ silencing s.rdc.radio = false → rrelease (with' false)) ∧
      (s.rdc.opMute = true → s.policyInForce = .serve → silencing s.rdc.radio = true →
        rrelease (settleBus (beginUnmuting .operator (with' false)))))

/-- RMUTE, RRELEASE, and the beginning of MUTING and UNMUTING. -/
def Obligations.OperatorMute : Prop :=
  Claims.VisitorsMuted ∧ Claims.UnitVisitorsSuspended ∧ Claims.MutingBegins ∧ Claims.UnmutingBegins ∧
    Claims.OperatorRequests

/-- A change of a unit's state (R170, R181, R182): none where the state is kept; otherwise one UNIT notice, and for FAULTY,
UNRESPONSIVE and EXCLUDED the unit's ACTIVE visitors suspended before it and their number in it, with RFOFF asserted for
the last two while the radio is MUTING or MUTED. -/
def Claims.UnitChanges : Prop :=
  ∀ (u : Nat) (new : UnitState) (cause : UnitCause) (s : State),
    let old := (s.unit u).state
    let s' := s.setUnit u { s.unit u with state := new }
    (old = new → changeUnit u new cause s = s) ∧
    (old ≠ new → new = .absent ∨ new = .serving ∨ new = .muted → changeUnit u new cause s =
      giveNotice .radio (.unit u) 8 (unitStateByte old) (unitStateByte new) (unitCauseByte cause) 0 0 s') ∧
    (old ≠ new → new = .faulty ∨ new = .unresponsive ∨ new = .excluded →
      let v := (suspendUnit u s').1
      let n := (suspendUnit u s').2
      let off := s.rdc.rfoff || (decide (new ≠ .faulty) && silencing s.rdc.radio)
      changeUnit u new cause s = giveNotice .radio (.unit u) 8 (unitStateByte old) (unitStateByte new) (unitCauseByte cause)
        (BitVec.ofNat 8 (n / 256)) (BitVec.ofNat 8 n) (v.withRdc { v.rdc with rfoff := off }))

/-- UCMD (R189): each command's refusals; EXCLUDE with its UNIT notice, which carries the number of ACTIVE visitors the
unit had, INCLUDE and PROBE where the bus is busy, so that no transaction starts with the answer, and PROBE where the bus
is free, so that its own does. (The answer of PROBE codes placed as 0 and kept as 1: log entry 10,
DEDUCED. That the answer of a START ended by a UCMD joins the queue first is log entry 35, DESIGN CHOICE.) -/
def Claims.UnitCommands : Prop :=
  ∀ (f : Frame) (unit : Byte) (s : State), Takes f kUcmd s →
    let u := unit.toNat
    let r := s.unit u
    let a := arrive f s
    let answers := fun c p t => exec c s = .next (pushAnswer 0x82 f.tag p t)
    let quiet := s.rdc.onBus.isSome ∨ ((∀ v < 16, (s.unit v).mark = none) ∧ s.rdc.probe = none)
    (15 < u → answers (.ucmdExclude f unit) [0x20] a ∧ answers (.ucmdInclude f unit) [0x20] a ∧
      answers (.ucmdProbe f unit) [0x20] a) ∧
    (u ≤ 15 → r.state = .excluded →
      answers (.ucmdExclude f unit) [0x16] a ∧ answers (.ucmdProbe f unit) [0x16] a ∧
      ∃ t, answers (.ucmdInclude f unit) [0x00] t ∧
        t = endCheck (giveNotice .radio (.unit u) 8 5 0 8 0 0
          (a.setUnit u { r with state := .absent, misses := 0, lastStatus := none }))) ∧
    (u ≤ 15 → r.state ≠ .excluded →
      answers (.ucmdInclude f unit) [0x16] a ∧
      (∃ t, answers (.ucmdExclude f unit) [0x00] t ∧
        let w := changeUnit u .excluded .exclude a
        t = settleBus (endCheck (w.setUnit u { w.unit u with mark := none }))) ∧
      (quiet → ∃ t, answers (.ucmdExclude f unit) [0x00] t ∧
        t.unit u = { r with state := .excluded, mark := none } ∧ (∀ v, v ≠ u → t.unit v = s.unit v) ∧
        (silencing s.rdc.radio = true → t.rdc.rfoff = true) ∧ (silencing s.rdc.radio = false → t.rdc.rfoff = s.rdc.rfoff) ∧
        t.rdc.onBus = s.rdc.onBus ∧ t.vrg = (suspendUnit u s).1.vrg ∧ t.chu = s.chu ∧ t.qxu = s.qxu ∧ t.lmn = s.lmn ∧
        t.rte = s.rte ∧ t.zne = s.zne ∧ PortKept a t ∧ NoticesKept s t ∧
        (Canonical s → Gives s t (⟨.radio, .unit u, 8, unitStateByte r.state, 5, 7, BitVec.ofNat 8 (Claims.activeOn s u / 256),
          BitVec.ofNat 8 (Claims.activeOn s u), s.rqp.shipTime⟩ ::
            (if t.rdc.radio = s.rdc.radio then []
              else [⟨.radio, .none, if t.rdc.radio = .muted then 3 else 4, 0, 0, 0, 0, 0, s.rqp.shipTime⟩])))) ∧
      let m : Mark := if r.state = .absent then .identify else .poll
      answers (.ucmdProbe f unit) [0x00, if r.mark = none then 0 else 1]
        (settleBus (placeMark u m a)) ∧
      (s.rdc.onBus.isSome → answers (.ucmdProbe f unit) [0x00, if r.mark = none then 0 else 1]
        (a.setUnit u { r with mark := if r.mark = none then some m else r.mark })) ∧
      (s.rdc.onBus = none → (∀ v < 16, (s.unit v).mark = none) → s.rdc.wire = [] → s.rdc.busFault = false →
        answers (.ucmdProbe f unit) [0x00, 0]
          ((a.setUnit u r).withRdc { (a.setUnit u r).rdc with
            onBus := some (u, m), speed := s.settings.busSpeed
            recovery := s.rdc.recovery ++ [(s.settings.busSpeed, [])] })))

/-- UCMD and the change of a unit's state. -/
def Obligations.UnitCommands : Prop := Claims.UnitChanges ∧ Claims.UnitCommands

/-- Placing a mark (R171): none for an EXCLUDED unit; MUTE and UNMUTE replace each other and a poll, and nothing else
replaces a mark that is held. -/
def Claims.MarkPlaced : Prop :=
  ∀ (u : Nat) (m : Mark) (s : State),
    let r := s.unit u
    let holds := fun x => placeMark u m s = s.setUnit u { r with mark := some x }
    (r.state = .excluded → placeMark u m s = s) ∧
    (r.state ≠ .excluded →
      (r.mark = none → holds m) ∧
      (∀ h, r.mark = some h → (h = .poll ∨ h = .identify) → (∃ a, m = .mute a ∨ m = .unmute a) → holds m) ∧
      (∀ h, r.mark = some h → (h = .poll ∨ h = .identify) → (m = .poll ∨ m = .identify) → holds h) ∧
      (∀ a b, r.mark = some (.mute a) → m = .unmute b → holds m) ∧
      (∀ a, r.mark = some (.mute a) → (∀ b, m ≠ .unmute b) → holds (.mute a)) ∧
      (∀ a b, r.mark = some (.unmute a) → m = .mute b → holds m) ∧
      (∀ a, r.mark = some (.unmute a) → (∀ b, m ≠ .mute b) → holds (.unmute a)))

/-- The end check (R179). -/
def Claims.EndCheck : Prop :=
  ∀ s : State,
    let onBus := ∃ u a, s.rdc.onBus = some (u, .mute a) ∨ s.rdc.onBus = some (u, .unmute a)
    let muting := onBus ∨ ∃ u < 16, isMute (s.unit u).mark = true
    let unmuting := onBus ∨ ∃ u < 16, isUnmute (s.unit u).mark = true
    (s.rdc.radio = .muted ∨ s.rdc.radio = .serving → endCheck s = s) ∧
    (s.rdc.radio = .muting → (muting → endCheck s = s) ∧ (¬ muting → endCheck s =
      giveNotice .radio .none 3 0 0 0 0 0 (s.withRdc { s.rdc with radio := .muted, deadline := none }))) ∧
    (s.rdc.radio = .unmuting → (unmuting → endCheck s = s) ∧ (¬ unmuting → endCheck s =
      giveNotice .radio .none 4 0 0 0 0 0 (s.withRdc { s.rdc with radio := .serving })))

/-- The arbiter (R169, R171, R172, R205): a busy bus and a table with no mark start nothing. Otherwise the next mark is a
MUTE where a unit holds one, an UNMUTE where none holds a MUTE, and a POLL or IDENTIFY where none holds either, each of the
lowest address; it leaves its place and its transaction takes the clock the setting gives. It is on the bus where up to 9
clock pulses raise the data wire, with the notice BUS_OK where the bus was in FAULT; where they do not, it has failed with
BUS, the notice BUS_FAULT is given where the bus was OK, and the arbiter goes on. What the part drove at each check is no
pulse on a wire that is high, and otherwise the pulses and a STOP. What each check finds is the model's open value (log
entry 6, DESIGN CHOICE), the clock of the pulses is log entry 28 (DEDUCED), and that BUS_FAULT stands before the notices of
the transaction it fails is log entry 30 (DEDUCED). -/
def Claims.Arbiter : Prop :=
  ∀ (n : Nat) (s : State),
    settleBus s = endProbe (arbitrate 64 s) ∧
    (s.rdc.onBus.isSome → arbitrate n s = s) ∧ ((∀ u < 16, (s.unit u).mark = none) → arbitrate n s = s) ∧
    ∀ u < 16, ∀ m, s.rdc.onBus = none → (s.unit u).mark = some m →
      let noMute := fun v => ∀ a, (s.unit v).mark ≠ some (.mute a)
      let noUnmute := fun v => ∀ a, (s.unit v).mark ≠ some (.unmute a)
      (∃ a, m = .mute a) ∧ (∀ v < u, noMute v) ∨
        (∃ a, m = .unmute a) ∧ (∀ v < 16, noMute v) ∧ (∀ v < u, noUnmute v) ∨
        (m = .poll ∨ m = .identify) ∧ (∀ v < 16, noMute v ∧ noUnmute v) ∧ (∀ v < u, (s.unit v).mark = none) →
      let needed := s.rdc.wire.headD 0
      let t := s.setUnit u { s.unit u with mark := none }
      let checked := fun fault => t.withRdc { t.rdc with
        speed := s.settings.busSpeed, busFault := fault
        wire := match s.rdc.wire with | _ :: k :: later => k :: later | w => w
        recovery := s.rdc.recovery ++ [(s.settings.busSpeed,
          if needed = 0 then [] else List.replicate (min 9 needed) (.pulse true) ++ [.stop])] }
      (needed ≤ 9 → arbitrate (n + 1) s =
        (if s.rdc.busFault then giveNotice .radio .none 7 0 0 0 0 0 else id)
          ((checked false).withRdc { (checked false).rdc with onBus := some (u, m) })) ∧
      (9 < needed → arbitrate (n + 1) s = arbitrate n (noackRule u m .bus
        ((if s.rdc.busFault then id else giveNotice .radio .none 6 0 0 0 0 0) (checked true))))

/-- The mute deadline and the poll timer (R180, R183): a timer that does not run has no effect (log entry 12, DESIGN
CHOICE); the deadline asserts RFOFF and gives the notice DEADLINE with the number of units still to mute; the poll timer
is loaded again and a round marks every unit that is not EXCLUDED and holds no mark, for IDENTIFY if ABSENT and for POLL
otherwise. That an expired deadline is absent is log entry 33 (DEDUCED). -/
def Claims.RadioTimers : Prop :=
  ∀ s : State,
    let toMute := ((List.range 16).filter fun u =>
      isMute (s.unit u).mark || (match s.rdc.onBus with | some (v, .mute _) => decide (v = u) | _ => false)).length
    (s.rdc.deadline = none → exec .muteDeadlineExpiry s = .next s) ∧
    (s.rdc.deadline.isSome → exec .muteDeadlineExpiry s = .next (giveNotice .radio .none 5 (BitVec.ofNat 8 toMute) 0 0 0 0
      (s.withRdc { s.rdc with deadline := none, rfoff := true }))) ∧
    (s.rdc.poll = none → exec .pollTimerExpiry s = .next s) ∧
    (s.rdc.poll.isSome → ∃ t, exec .pollTimerExpiry s = .next (settleBus t) ∧ t = s.withRdc t.rdc ∧
      t.rdc = { s.rdc with units := t.rdc.units, poll := some s.settings.pollInterval } ∧
      ∀ u < 16, let r := s.unit u
        t.unit u = if r.state = .excluded ∨ r.mark.isSome then r
          else { r with mark := some (if r.state = .absent then .identify else .poll) })

/-- Marks, the arbiter, the end check and the radio's timers. -/
def Obligations.MarksAndBus : Prop := Claims.MarkPlaced ∧ Claims.EndCheck ∧ Claims.Arbiter ∧ Claims.RadioTimers

/-- What the part drives on the wires (R168, R230): START, each byte it sends as 8 bits with the most significant first
and a ninth pulse left to the unit's acknowledgement, for a POLL the two status bytes with the first acknowledged and the
second not, STOP; after a byte that is not acknowledged STOP follows at once and no further byte is sent. -/
def Claims.Wires : Prop :=
  ∀ u < 16, ∀ a : Nat,
    let byte := fun n : Nat => ((List.range 8).map fun k => BusSymbol.pulse (n.testBit (7 - k))) ++ [.pulse true]
    let left := fun n : Nat => List.replicate n (BusSymbol.pulse true)
    let writes := fun (m : Mark) (command argument : Nat) =>
      let whole := [.start] ++ byte (2 * u) ++ byte command ++ byte argument ++ [.stop]
      wholeTransaction u m = whole ∧ failedTransaction u m .argument = whole ∧
        failedTransaction u m .address = [.start] ++ byte (2 * u) ++ [.stop] ∧
        failedTransaction u m .command = [.start] ++ byte (2 * u) ++ byte command ++ [.stop]
    let poll := [.start] ++ byte (2 * u + 1) ++ byte 0x30 ++ left 8 ++ [.pulse false] ++ left 9 ++ [.stop]
    writes .identify 0x10 0 ∧ writes (.mute a) 0x20 0 ∧ writes (.unmute a) 0x21 1 ∧ wholeTransaction u .poll = poll ∧
      failedTransaction u .poll .status = poll ∧
      failedTransaction u .poll .address = [.start] ++ byte (2 * u + 1) ++ [.stop] ∧
      failedTransaction u .poll .command = [.start] ++ byte (2 * u + 1) ++ byte 0x30 ++ [.stop]

/-- Which rule a completion runs (R168, R173, R174, R184, R185, R230): the transaction on the bus is over, its rule acts,
the end check and the arbiter follow. A POLL whose second status byte is not the complement of the first completed NOACK
with STATUS. What the part drove is recorded, with the clock it began with, whatever the setting is by now (R205). A
completion that no transaction on the bus can have has no effect (log entry 13, DESIGN CHOICE). That the end check comes
before the arbiter starts the next mark is log entry 31 (DEDUCED). -/
def Claims.CompletionRules : Prop :=
  ∀ (wire : List Nat) (failure : BusFailure) (first second : Byte) (s : State),
    let runs := fun c sent g =>
      exec c s = .next (settleBus (endCheck (g (s.withRdc { s.rdc with
        onBus := none, wire := wire, sent := sent, sentAt := s.rdc.speed, recovery := [] }))))
    (∀ u m, s.rdc.onBus = some (u, m) → m ≠ .poll →
      runs (.commandAnswered wire) (wholeTransaction u m) (commandAnsweredRule u m) ∧
      runs (.commandNoack failure wire) (failedTransaction u m failure) (noackRule u m failure) ∧
      exec (.pollAnswered first second wire) s = .next s ∧ exec (.pollNoack failure wire) s = .next s) ∧
    (∀ u, s.rdc.onBus = some (u, .poll) →
      (second = ~~~first → runs (.pollAnswered first second wire) (wholeTransaction u .poll)
        (pollAnsweredRule u first[0] first[1])) ∧
      (second ≠ ~~~first → runs (.pollAnswered first second wire) (wholeTransaction u .poll)
        (noackRule u .poll .status)) ∧
      runs (.pollNoack failure wire) (failedTransaction u .poll failure) (noackRule u .poll failure) ∧
      exec (.commandAnswered wire) s = .next s ∧ exec (.commandNoack failure wire) s = .next s) ∧
    (s.rdc.onBus = none →
      exec (.commandAnswered wire) s = .next s ∧ exec (.commandNoack failure wire) s = .next s ∧
      exec (.pollAnswered first second wire) s = .next s ∧ exec (.pollNoack failure wire) s = .next s)

/-- A command that was answered (R173). That the miss count of a unit which is EXCLUDED by now becomes 0 too is log entry
32 (DEDUCED). -/
def Claims.AnsweredTable : Prop :=
  ∀ (u a : Nat) (s : State),
    let r := s.unit u
    let z := s.setUnit u { r with misses := 0 }
    let t := fun m => commandAnsweredRule u m s
    (r.state = .excluded → t .identify = z ∧ t (.mute a) = z ∧ t (.unmute a) = z) ∧
    (t .identify = if r.state = .absent then placeMark u (.mute 1) z else z) ∧
    (r.state = .faulty → t (.mute a) = z) ∧
    (r.state = .absent ∨ r.state = .serving ∨ r.state = .muted ∨ r.state = .unresponsive →
      t (.mute a) = (if s.effectivePolicy = .serve then placeMark u (.unmute 1) else id) (changeUnit u .muted .muteAck z)) ∧
    (r.state = .absent ∨ r.state = .faulty → t (.unmute a) = placeMark u (.mute 1) z) ∧
    (r.state = .muted ∨ r.state = .unresponsive ∨ r.state = .serving →
      t (.unmute a) =
        (if s.effectivePolicy = .mute then placeMark u (.mute 1) else id) (changeUnit u .serving .unmuteAck z))

/-- A transaction that was not acknowledged (R174, R185). The way it failed is recorded in every case, that
of a unit which is EXCLUDED by now too (log entry 22, DEDUCED). -/
def Claims.NoackTable : Prop :=
  ∀ (u : Nat) (failure : BusFailure) (s : State),
    let r := s.unit u
    let z := s.setUnit u { r with lastFailure := some failure }
    let t := fun m => noackRule u m failure s
    let commanded := ∃ b, r.mark = some (.mute b) ∨ r.mark = some (.unmute b)
    let muteWanted := s.effectivePolicy = .mute ∨ r.state = .absent ∨ r.state = .faulty ∨
      ∃ x, r.lastStatus = some x ∧ x.fault = true
    let unmuteWanted := s.effectivePolicy = .serve ∧ r.state ≠ .faulty
    let lost := endCheck (let w := changeUnit u .unresponsive .attempts z; w.setUnit u { w.unit u with mark := none })
    (t .identify = endCheck z) ∧
    (∀ a, r.state = .excluded ∨ ¬ muteWanted ∨ commanded → t (.mute a) = endCheck z) ∧
    (∀ a, r.state = .excluded ∨ ¬ unmuteWanted ∨ commanded → t (.unmute a) = endCheck z) ∧
    (∀ a, r.state ≠ .excluded → muteWanted → ¬ commanded →
      (a < 3 → t (.mute a) = endCheck (z.setUnit u { r with lastFailure := some failure, mark := some (.mute (a + 1)) })) ∧
      (3 ≤ a → t (.mute a) = lost)) ∧
    (∀ a, r.state ≠ .excluded → unmuteWanted → ¬ commanded →
      (a < 3 → t (.unmute a) =
        endCheck (z.setUnit u { r with lastFailure := some failure, mark := some (.unmute (a + 1)) })) ∧
      (3 ≤ a → t (.unmute a) = lost)) ∧
    (r.state = .serving ∨ r.state = .muted →
      (r.misses < 2 → t .poll =
        endCheck (z.setUnit u { r with lastFailure := some failure, misses := r.misses + 1 })) ∧
      (2 ≤ r.misses → t .poll = endCheck (changeUnit u .unresponsive .missed
        (z.setUnit u { r with lastFailure := some failure, misses := 3 })))) ∧
    (r.state ≠ .serving → r.state ≠ .muted → t .poll = endCheck z)

/-- A POLL that was answered (R184). That the miss count of a unit which is EXCLUDED by now becomes 0 too is log entry 32
(DEDUCED). -/
def Claims.PollTable : Prop :=
  ∀ (u : Nat) (radiating fault : Bool) (s : State),
    let r := s.unit u
    let z := s.setUnit u { r with misses := 0, lastStatus := some ⟨radiating, fault, s.rqp.shipTime⟩ }
    let t := pollAnsweredRule u radiating fault s
    let mute := placeMark u (.mute 1)
    let unmute := placeMark u (.unmute 1)
    let silent := s.effectivePolicy = .mute
    (r.state = .excluded → t = z) ∧ (r.state = .absent → t = mute z) ∧
    (r.state = .unresponsive → t = if fault = true ∨ silent then mute z else unmute z) ∧
    (r.state = .serving ∨ r.state = .muted → fault = true → t = mute (changeUnit u .faulty .fault z)) ∧
    (r.state = .faulty → fault = true → t = if radiating = true then mute z else z) ∧
    (r.state = .faulty → fault = false → t =
      (if radiating = true then mute else if silent then id else unmute) (changeUnit u .muted .faultClear z)) ∧
    (r.state = .serving ∨ r.state = .muted → fault = false →
      (radiating = true → silent → t = mute z) ∧ (radiating = false → ¬ silent → t = unmute z) ∧
      (radiating = true → ¬ silent → t = if r.state = .muted then unmute z else z) ∧
      (radiating = false → silent → t = z))

/-- The completions of cell bus transactions. -/
def Obligations.Completions : Prop :=
  Claims.Wires ∧ Claims.CompletionRules ∧ Claims.AnsweredTable ∧ Claims.NoackTable ∧ Claims.PollTable

/-! ### Invariants and encodings -/

/-- Every step keeps the canonical form of the tables (the model's own form, log entry 2), and every path that names two
links names two different ones (R123). -/
def Obligations.TablesAndPathsKept : Prop :=
  ∀ s t : State, step s = .next t → (Canonical s → Canonical t) ∧ (PathShape s → PathShape t)

/-- Every step keeps it so that an OPEN data gate has credit behind it, waits for nothing and belongs to a visitor that is
not DEPARTING (R69, R70, R74, R76, R139). -/
def Obligations.GateSoundKept : Prop := ∀ s t : State, GateSound s → step s = .next t → GateSound t

/-- Every step keeps the radio controller obedient to the effective policy: in MUTED no unit is SERVING, and RFOFF covers
every unit that is UNRESPONSIVE or EXCLUDED while the radio is MUTING or MUTED (R175, R179, R181). -/
def Obligations.RadioSafeKept : Prop := ∀ s t : State, RadioSafe s → step s = .next t → RadioSafe t

/-- The reset state meets the four invariants. -/
def Claims.ResetMeetsInvariants : Prop :=
  Canonical State.reset ∧ PathShape State.reset ∧ GateSound State.reset ∧ RadioSafe State.reset

/-- Device reset, and the invariants in the reset state. -/
def Obligations.ResetState : Prop := Claims.ResetValues ∧ Claims.ResetMeetsInvariants

/-- The transaction that carries a well-formed request is read back as that request, whatever its fields hold and however
many bytes FFh follow, while its tag is FREE, and a RESYNC with its tag BUSY too (R192, R193, R197, R209–R213). -/
def Obligations.DecodeEncode : Prop :=
  ∀ (i : Instr) (f : Frame) (k : RequestKind) (p bs : List Byte) (busy : Fin 16 → Bool), payloadOf i = some (f, k, p) →
    wellFormed i = true → transactionOf i = some bs → busy f.tag = false ∨ k.code = 0x96 → commandOf busy bs = i
end

