-- ==== Sys2Proof/Laws/Bytes.lean ====
section
/-! SUPPORT. The laws of byte strings: lengths of encoded numbers and reading a number back from its bytes (R209). -/

namespace Sys2Proof

@[simp] theorem beBytes_length (n v : Nat) : (beBytes n v).length = n := by
  induction n generalizing v with
  | zero => rfl
  | succ n ih => simp [beBytes, ih]

@[simp] theorem rateBytes_length (r : RateField) : (rateBytes r).length = 9 := by simp [rateBytes]

@[simp] theorem prefBytes_length (p : PrefField) : (prefBytes p).length = 5 := by simp [prefBytes]

theorem flatMap_rateBytes_length (rs : List RateField) : (rs.flatMap rateBytes).length = 9 * rs.length := by
  induction rs with
  | nil => rfl
  | cons r rs ih => simp [ih]; omega

/-- A byte string reads as the bytes of its front part times their weight, plus those of its back part. -/
theorem beNat_append (a b : List Byte) : beNat (a ++ b) = beNat a * 256 ^ b.length + beNat b := by
  have main : ∀ (b : List Byte) (acc : Nat),
      b.foldl (fun a x => a * 256 + x.toNat) acc = acc * 256 ^ b.length + b.foldl (fun a x => a * 256 + x.toNat) 0 := by
    intro b
    induction b with
    | nil => intro acc; simp
    | cons x xs ih =>
      intro acc
      rw [List.foldl_cons, ih, List.foldl_cons, ih (0 * 256 + x.toNat), List.length_cons, pow_succ]
      ring
  unfold beNat
  rw [List.foldl_append, main]

/-- A number that fits in `n` bytes is read back from them. -/
theorem beNat_beBytes (n v : Nat) : beNat (beBytes n v) = v % 256 ^ n := by
  induction n generalizing v with
  | zero => simp [beBytes, beNat, Nat.mod_one]
  | succ n ih =>
    have h : beBytes (n + 1) v = [BitVec.ofNat 8 (v / 256 ^ n)] ++ beBytes n v := rfl
    have one : ∀ b : Byte, beNat [b] = b.toNat := fun b => by simp [beNat]
    have byte : ∀ x : Nat, (BitVec.ofNat 8 x).toNat = x % 256 := fun x => by simp [BitVec.toNat_ofNat]
    have split : v % 256 ^ (n + 1) = v % 256 ^ n + 256 ^ n * (v / 256 ^ n % 256) := by rw [pow_succ, Nat.mod_mul]
    rw [h, beNat_append, ih, beBytes_length, one, byte, split, Nat.mul_comm, Nat.add_comm]

end Sys2Proof
end

