-- ==== Sys2Proof/Laws/Table.lean ====
section
/-! SUPPORT. The laws of the containers: reading after writing, and the canonical form kept by every operation. -/

namespace Sys2Proof.Machine

variable {α : Type}

/-! ### Tables -/

theorem tget_terase_self (d : α) (t : Table α) (i : Nat) : tget d (terase t i) i = d := by
  induction t with
  | nil => rfl
  | cons e t ih =>
    obtain ⟨k, v⟩ := e
    by_cases h : k = i
    · simp [terase, h, ih]
    · simp [terase, tget, h, ih]

theorem tget_terase_other (d : α) (t : Table α) {i j : Nat} (hij : i ≠ j) : tget d (terase t i) j = tget d t j := by
  induction t with
  | nil => rfl
  | cons e t ih =>
    obtain ⟨k, v⟩ := e
    by_cases h : k = i
    · subst h
      simp [terase, tget, hij, ih]
    · simp [terase, tget, h, ih]

theorem tget_tinsert_other (d : α) (t : Table α) {i j : Nat} (v : α) (hij : i ≠ j) :
    tget d (tinsert t i v) j = tget d t j := by
  induction t with
  | nil => simp [tinsert, tget, hij]
  | cons e t ih =>
    obtain ⟨k, w⟩ := e
    by_cases h : i < k
    · simp [tinsert, tget, h, hij]
    · simp [tinsert, tget, h, ih]

/-- No entry of an index is listed. -/
def unlisted (t : Table α) (i : Nat) : Prop := ∀ e ∈ t, e.1 ≠ i

theorem unlisted_terase (t : Table α) (i : Nat) : unlisted (terase t i) i := by
  induction t with
  | nil => intro e he; cases he
  | cons e t ih =>
    obtain ⟨k, v⟩ := e
    by_cases h : k = i
    · simpa [terase, h] using ih
    · intro x hx
      simp only [terase, h, if_false, List.mem_cons] at hx
      rcases hx with rfl | hx
      · exact h
      · exact ih x hx

theorem tget_tinsert_self (d : α) (t : Table α) (i : Nat) (v : α) (h : unlisted t i) : tget d (tinsert t i v) i = v := by
  induction t with
  | nil => simp [tinsert, tget]
  | cons e t ih =>
    obtain ⟨k, w⟩ := e
    have hk : k ≠ i := h (k, w) (by simp)
    by_cases hlt : i < k
    · simp [tinsert, tget, hlt]
    · simpa [tinsert, tget, hlt, hk] using ih fun e he => h e (by simp [he])

/-- A record read after it was written is the record written. -/
@[simp] theorem tget_tset_self [DecidableEq α] (d : α) (t : Table α) (i : Nat) (v : α) : tget d (tset d t i v) i = v := by
  by_cases h : v = d
  · simp [tset, h, tget_terase_self]
  · simp [tset, h, tget_tinsert_self d _ i v (unlisted_terase t i)]

/-- A write leaves every other record. -/
theorem tget_tset_other [DecidableEq α] (d : α) (t : Table α) {i j : Nat} (v : α) (hij : i ≠ j) :
    tget d (tset d t i v) j = tget d t j := by
  by_cases h : v = d
  · simp [tset, h, tget_terase_other d t hij]
  · simp [tset, h, tget_tinsert_other d _ v hij, tget_terase_other d t hij]

/-- What a table reads after a write, at any index. -/
theorem tget_tset [DecidableEq α] (d : α) (t : Table α) (i j : Nat) (v : α) :
    tget d (tset d t i v) j = if i = j then v else tget d t j := by
  by_cases h : i = j
  · subst h; simp
  · simp [h, tget_tset_other d t v h]

theorem tget_tmap (d : α) (g : α → α) (t : Table α) (i : Nat) (hd : g d = d) : tget d (tmap g t) i = g (tget d t i) := by
  induction t with
  | nil => simp [tmap, tget, hd]
  | cons e t ih =>
    obtain ⟨k, v⟩ := e
    by_cases h : k = i
    · simp [tmap, tget, h]
    · simpa [tmap, tget, h] using ih

/-! ### The canonical form -/

theorem canonicalFrom_mono [DecidableEq α] {d : α} {t : Table α} {lo lo' : Nat} (hlo : lo' ≤ lo)
    (h : canonicalFrom d lo t = true) : canonicalFrom d lo' t = true := by
  cases t with
  | nil => rfl
  | cons e t =>
    obtain ⟨k, v⟩ := e
    simp only [canonicalFrom, Bool.and_eq_true, decide_eq_true_eq] at h ⊢
    exact ⟨⟨hlo.trans h.1.1, h.1.2⟩, h.2⟩

theorem canonicalFrom_terase [DecidableEq α] {d : α} (t : Table α) (i : Nat) {lo : Nat}
    (h : canonicalFrom d lo t = true) : canonicalFrom d lo (terase t i) = true := by
  induction t generalizing lo with
  | nil => exact h
  | cons e t ih =>
    obtain ⟨k, v⟩ := e
    simp only [canonicalFrom, Bool.and_eq_true, decide_eq_true_eq] at h
    by_cases hk : k = i
    · simp only [terase, hk, if_true]
      exact canonicalFrom_mono (by omega) (ih h.2)
    · simp only [terase, hk, if_false, canonicalFrom, Bool.and_eq_true, decide_eq_true_eq]
      exact ⟨h.1, ih h.2⟩

theorem canonicalFrom_tinsert [DecidableEq α] {d : α} (t : Table α) (i : Nat) (v : α) (hv : v ≠ d) (hu : unlisted t i)
    {lo : Nat} (hlo : lo ≤ i) (h : canonicalFrom d lo t = true) : canonicalFrom d lo (tinsert t i v) = true := by
  induction t generalizing lo with
  | nil => simp [tinsert, canonicalFrom, hlo, hv]
  | cons e t ih =>
    obtain ⟨k, w⟩ := e
    have hk : k ≠ i := hu (k, w) (by simp)
    simp only [canonicalFrom, Bool.and_eq_true, decide_eq_true_eq] at h
    by_cases hlt : i < k
    · simp only [tinsert, hlt, if_true, canonicalFrom, Bool.and_eq_true, decide_eq_true_eq]
      exact ⟨⟨hlo, hv⟩, ⟨⟨by omega, h.1.2⟩, h.2⟩⟩
    · simp only [tinsert, hlt, if_false, canonicalFrom, Bool.and_eq_true, decide_eq_true_eq]
      exact ⟨h.1, ih (fun e he => hu e (by simp [he])) (by omega) h.2⟩

/-- A write keeps the canonical form. -/
theorem canonical_tset [DecidableEq α] {d : α} {t : Table α} (i : Nat) (v : α) (h : canonical d t = true) :
    canonical d (tset d t i v) = true := by
  by_cases hv : v = d
  · simpa [canonical, tset, hv] using canonicalFrom_terase t i h
  · simpa [canonical, tset, hv] using
      canonicalFrom_tinsert _ i v hv (unlisted_terase t i) (Nat.zero_le i) (canonicalFrom_terase t i h)

/-- A change of every listed record keeps the canonical form, if it takes no record to its reset value. -/
theorem canonical_tmap [DecidableEq α] {d : α} {t : Table α} (g : α → α) (hg : ∀ v, v ≠ d → g v ≠ d)
    (h : canonical d t = true) : canonical d (tmap g t) = true := by
  have main : ∀ (t : Table α) (lo : Nat), canonicalFrom d lo t = true → canonicalFrom d lo (tmap g t) = true := by
    intro t
    induction t with
    | nil => intro lo h; exact h
    | cons e t ih =>
      intro lo h
      obtain ⟨k, v⟩ := e
      simp only [canonicalFrom, Bool.and_eq_true, decide_eq_true_eq] at h
      simp only [tmap, List.map_cons, canonicalFrom, Bool.and_eq_true, decide_eq_true_eq]
      exact ⟨⟨h.1.1, hg v h.1.2⟩, ih _ h.2⟩
  exact main t 0 h

/-- What `firstIndex` finds satisfies the test, is the least such index from where it began, and lies in the range. -/
theorem firstIndex_spec (d : α) (p : α → Bool) (t : Table α) (fuel i j : Nat) (h : firstIndex d p t fuel i = some j) :
    p (tget d t j) = true ∧ i ≤ j ∧ j < i + fuel ∧ ∀ k, i ≤ k → k < j → p (tget d t k) = false := by
  induction fuel generalizing i with
  | zero => simp [firstIndex] at h
  | succ n ih =>
    by_cases hp : p (tget d t i) = true
    · simp only [firstIndex, hp, if_true, Option.some.injEq] at h
      subst h
      exact ⟨hp, le_refl _, by omega, fun k h1 h2 => absurd h2 (by omega)⟩
    · simp only [firstIndex, hp] at h
      obtain ⟨h1, h2, h3, h4⟩ := ih (i + 1) h
      refine ⟨h1, by omega, by omega, fun k hk hkj => ?_⟩
      by_cases hki : k = i
      · subst hki; simpa using hp
      · exact h4 k (by omega) hkj

/-- `firstIndex` finds nothing only where no index in the range satisfies the test. -/
theorem firstIndex_none (d : α) (p : α → Bool) (t : Table α) (fuel i : Nat) (h : firstIndex d p t fuel i = none) :
    ∀ k, i ≤ k → k < i + fuel → p (tget d t k) = false := by
  induction fuel generalizing i with
  | zero => intro k h1 h2; omega
  | succ n ih =>
    intro k h1 h2
    by_cases hp : p (tget d t i) = true
    · simp [firstIndex, hp] at h
    · simp only [firstIndex, hp] at h
      by_cases hki : k = i
      · subst hki; simpa using hp
      · exact ih (i + 1) h k (by omega) (by omega)

/-! ### The small families -/

@[simp] theorem qget_qset_self (q : Quad α) (i : Fin 4) (v : α) : qget (qset q i v) i = v := by
  fin_cases i <;> rfl

theorem qget_qset_other (q : Quad α) {i j : Fin 4} (v : α) (hij : i ≠ j) : qget (qset q i v) j = qget q j := by
  fin_cases i <;> fin_cases j <;> first | rfl | exact absurd rfl hij

theorem qget_qset (q : Quad α) (i j : Fin 4) (v : α) : qget (qset q i v) j = if i = j then v else qget q j := by
  by_cases h : i = j
  · subst h; simp
  · simp [h, qget_qset_other q v h]

@[simp] theorem qget_qmap (g : α → α) (q : Quad α) (i : Fin 4) : qget (qmap g q) i = g (qget q i) := by
  fin_cases i <;> rfl

@[simp] theorem qget_quadOf (v : α) (i : Fin 4) : qget (quadOf v) i = v := by
  fin_cases i <;> rfl

@[simp] theorem cget_cset_self (p : PerClass α) (c : TrafficClass) (v : α) : cget (cset p c v) c = v := by
  cases c <;> rfl

theorem cget_cset (p : PerClass α) (c c' : TrafficClass) (v : α) :
    cget (cset p c v) c' = if c = c' then v else cget p c' := by
  cases c <;> cases c' <;> rfl

@[simp] theorem mget_mset_self (p : PerMonitor α) (m : Monitor) (v : α) : mget (mset p m v) m = v := by
  cases m <;> rfl

theorem mget_mset (p : PerMonitor α) (m m' : Monitor) (v : α) :
    mget (mset p m v) m' = if m = m' then v else mget p m' := by
  cases m <;> cases m' <;> rfl

end Sys2Proof.Machine
end

