-- ==== Sys2Proof/Laws/State.lean ====
section
/-! SUPPORT. One lemma for each field and each update of State, and for each record read by index: what an update writes and
what it leaves. -/

namespace Sys2Proof.Machine.State

/-! ### withRqp -/

@[simp] theorem withRqp_rqp (s : State) (b : Rqp) : (s.withRqp b).rqp = b := rfl
@[simp] theorem withRqp_vrg (s : State) (b : Rqp) : (s.withRqp b).vrg = s.vrg := rfl
@[simp] theorem withRqp_chu (s : State) (b : Rqp) : (s.withRqp b).chu = s.chu := rfl
@[simp] theorem withRqp_qxu (s : State) (b : Rqp) : (s.withRqp b).qxu = s.qxu := rfl
@[simp] theorem withRqp_lmn (s : State) (b : Rqp) : (s.withRqp b).lmn = s.lmn := rfl
@[simp] theorem withRqp_rte (s : State) (b : Rqp) : (s.withRqp b).rte = s.rte := rfl
@[simp] theorem withRqp_zne (s : State) (b : Rqp) : (s.withRqp b).zne = s.zne := rfl
@[simp] theorem withRqp_rdc (s : State) (b : Rqp) : (s.withRqp b).rdc = s.rdc := rfl
@[simp] theorem withRqp_base (s : State) (b : Rqp) : (s.withRqp b).base = s.base := rfl
@[simp] theorem withRqp_pending (s : State) (b : Rqp) : (s.withRqp b).pending = s.pending := rfl

/-! ### withVrg -/

@[simp] theorem withVrg_rqp (s : State) (b : Vrg) : (s.withVrg b).rqp = s.rqp := rfl
@[simp] theorem withVrg_vrg (s : State) (b : Vrg) : (s.withVrg b).vrg = b := rfl
@[simp] theorem withVrg_chu (s : State) (b : Vrg) : (s.withVrg b).chu = s.chu := rfl
@[simp] theorem withVrg_qxu (s : State) (b : Vrg) : (s.withVrg b).qxu = s.qxu := rfl
@[simp] theorem withVrg_lmn (s : State) (b : Vrg) : (s.withVrg b).lmn = s.lmn := rfl
@[simp] theorem withVrg_rte (s : State) (b : Vrg) : (s.withVrg b).rte = s.rte := rfl
@[simp] theorem withVrg_zne (s : State) (b : Vrg) : (s.withVrg b).zne = s.zne := rfl
@[simp] theorem withVrg_rdc (s : State) (b : Vrg) : (s.withVrg b).rdc = s.rdc := rfl
@[simp] theorem withVrg_base (s : State) (b : Vrg) : (s.withVrg b).base = s.base := rfl
@[simp] theorem withVrg_pending (s : State) (b : Vrg) : (s.withVrg b).pending = s.pending := rfl

/-! ### withChu -/

@[simp] theorem withChu_rqp (s : State) (b : Chu) : (s.withChu b).rqp = s.rqp := rfl
@[simp] theorem withChu_vrg (s : State) (b : Chu) : (s.withChu b).vrg = s.vrg := rfl
@[simp] theorem withChu_chu (s : State) (b : Chu) : (s.withChu b).chu = b := rfl
@[simp] theorem withChu_qxu (s : State) (b : Chu) : (s.withChu b).qxu = s.qxu := rfl
@[simp] theorem withChu_lmn (s : State) (b : Chu) : (s.withChu b).lmn = s.lmn := rfl
@[simp] theorem withChu_rte (s : State) (b : Chu) : (s.withChu b).rte = s.rte := rfl
@[simp] theorem withChu_zne (s : State) (b : Chu) : (s.withChu b).zne = s.zne := rfl
@[simp] theorem withChu_rdc (s : State) (b : Chu) : (s.withChu b).rdc = s.rdc := rfl
@[simp] theorem withChu_base (s : State) (b : Chu) : (s.withChu b).base = s.base := rfl
@[simp] theorem withChu_pending (s : State) (b : Chu) : (s.withChu b).pending = s.pending := rfl

/-! ### withQxu -/

@[simp] theorem withQxu_rqp (s : State) (b : Qxu) : (s.withQxu b).rqp = s.rqp := rfl
@[simp] theorem withQxu_vrg (s : State) (b : Qxu) : (s.withQxu b).vrg = s.vrg := rfl
@[simp] theorem withQxu_chu (s : State) (b : Qxu) : (s.withQxu b).chu = s.chu := rfl
@[simp] theorem withQxu_qxu (s : State) (b : Qxu) : (s.withQxu b).qxu = b := rfl
@[simp] theorem withQxu_lmn (s : State) (b : Qxu) : (s.withQxu b).lmn = s.lmn := rfl
@[simp] theorem withQxu_rte (s : State) (b : Qxu) : (s.withQxu b).rte = s.rte := rfl
@[simp] theorem withQxu_zne (s : State) (b : Qxu) : (s.withQxu b).zne = s.zne := rfl
@[simp] theorem withQxu_rdc (s : State) (b : Qxu) : (s.withQxu b).rdc = s.rdc := rfl
@[simp] theorem withQxu_base (s : State) (b : Qxu) : (s.withQxu b).base = s.base := rfl
@[simp] theorem withQxu_pending (s : State) (b : Qxu) : (s.withQxu b).pending = s.pending := rfl

/-! ### withLmn -/

@[simp] theorem withLmn_rqp (s : State) (b : Lmn) : (s.withLmn b).rqp = s.rqp := rfl
@[simp] theorem withLmn_vrg (s : State) (b : Lmn) : (s.withLmn b).vrg = s.vrg := rfl
@[simp] theorem withLmn_chu (s : State) (b : Lmn) : (s.withLmn b).chu = s.chu := rfl
@[simp] theorem withLmn_qxu (s : State) (b : Lmn) : (s.withLmn b).qxu = s.qxu := rfl
@[simp] theorem withLmn_lmn (s : State) (b : Lmn) : (s.withLmn b).lmn = b := rfl
@[simp] theorem withLmn_rte (s : State) (b : Lmn) : (s.withLmn b).rte = s.rte := rfl
@[simp] theorem withLmn_zne (s : State) (b : Lmn) : (s.withLmn b).zne = s.zne := rfl
@[simp] theorem withLmn_rdc (s : State) (b : Lmn) : (s.withLmn b).rdc = s.rdc := rfl
@[simp] theorem withLmn_base (s : State) (b : Lmn) : (s.withLmn b).base = s.base := rfl
@[simp] theorem withLmn_pending (s : State) (b : Lmn) : (s.withLmn b).pending = s.pending := rfl

/-! ### withRte -/

@[simp] theorem withRte_rqp (s : State) (b : Rte) : (s.withRte b).rqp = s.rqp := rfl
@[simp] theorem withRte_vrg (s : State) (b : Rte) : (s.withRte b).vrg = s.vrg := rfl
@[simp] theorem withRte_chu (s : State) (b : Rte) : (s.withRte b).chu = s.chu := rfl
@[simp] theorem withRte_qxu (s : State) (b : Rte) : (s.withRte b).qxu = s.qxu := rfl
@[simp] theorem withRte_lmn (s : State) (b : Rte) : (s.withRte b).lmn = s.lmn := rfl
@[simp] theorem withRte_rte (s : State) (b : Rte) : (s.withRte b).rte = b := rfl
@[simp] theorem withRte_zne (s : State) (b : Rte) : (s.withRte b).zne = s.zne := rfl
@[simp] theorem withRte_rdc (s : State) (b : Rte) : (s.withRte b).rdc = s.rdc := rfl
@[simp] theorem withRte_base (s : State) (b : Rte) : (s.withRte b).base = s.base := rfl
@[simp] theorem withRte_pending (s : State) (b : Rte) : (s.withRte b).pending = s.pending := rfl

/-! ### withZne -/

@[simp] theorem withZne_rqp (s : State) (b : Zne) : (s.withZne b).rqp = s.rqp := rfl
@[simp] theorem withZne_vrg (s : State) (b : Zne) : (s.withZne b).vrg = s.vrg := rfl
@[simp] theorem withZne_chu (s : State) (b : Zne) : (s.withZne b).chu = s.chu := rfl
@[simp] theorem withZne_qxu (s : State) (b : Zne) : (s.withZne b).qxu = s.qxu := rfl
@[simp] theorem withZne_lmn (s : State) (b : Zne) : (s.withZne b).lmn = s.lmn := rfl
@[simp] theorem withZne_rte (s : State) (b : Zne) : (s.withZne b).rte = s.rte := rfl
@[simp] theorem withZne_zne (s : State) (b : Zne) : (s.withZne b).zne = b := rfl
@[simp] theorem withZne_rdc (s : State) (b : Zne) : (s.withZne b).rdc = s.rdc := rfl
@[simp] theorem withZne_base (s : State) (b : Zne) : (s.withZne b).base = s.base := rfl
@[simp] theorem withZne_pending (s : State) (b : Zne) : (s.withZne b).pending = s.pending := rfl

/-! ### withRdc -/

@[simp] theorem withRdc_rqp (s : State) (b : Rdc) : (s.withRdc b).rqp = s.rqp := rfl
@[simp] theorem withRdc_vrg (s : State) (b : Rdc) : (s.withRdc b).vrg = s.vrg := rfl
@[simp] theorem withRdc_chu (s : State) (b : Rdc) : (s.withRdc b).chu = s.chu := rfl
@[simp] theorem withRdc_qxu (s : State) (b : Rdc) : (s.withRdc b).qxu = s.qxu := rfl
@[simp] theorem withRdc_lmn (s : State) (b : Rdc) : (s.withRdc b).lmn = s.lmn := rfl
@[simp] theorem withRdc_rte (s : State) (b : Rdc) : (s.withRdc b).rte = s.rte := rfl
@[simp] theorem withRdc_zne (s : State) (b : Rdc) : (s.withRdc b).zne = s.zne := rfl
@[simp] theorem withRdc_rdc (s : State) (b : Rdc) : (s.withRdc b).rdc = b := rfl
@[simp] theorem withRdc_base (s : State) (b : Rdc) : (s.withRdc b).base = s.base := rfl
@[simp] theorem withRdc_pending (s : State) (b : Rdc) : (s.withRdc b).pending = s.pending := rfl

/-! ### withBase -/

@[simp] theorem withBase_rqp (s : State) (b : TimeBase) : (s.withBase b).rqp = s.rqp := rfl
@[simp] theorem withBase_vrg (s : State) (b : TimeBase) : (s.withBase b).vrg = s.vrg := rfl
@[simp] theorem withBase_chu (s : State) (b : TimeBase) : (s.withBase b).chu = s.chu := rfl
@[simp] theorem withBase_qxu (s : State) (b : TimeBase) : (s.withBase b).qxu = s.qxu := rfl
@[simp] theorem withBase_lmn (s : State) (b : TimeBase) : (s.withBase b).lmn = s.lmn := rfl
@[simp] theorem withBase_rte (s : State) (b : TimeBase) : (s.withBase b).rte = s.rte := rfl
@[simp] theorem withBase_zne (s : State) (b : TimeBase) : (s.withBase b).zne = s.zne := rfl
@[simp] theorem withBase_rdc (s : State) (b : TimeBase) : (s.withBase b).rdc = s.rdc := rfl
@[simp] theorem withBase_base (s : State) (b : TimeBase) : (s.withBase b).base = b := rfl
@[simp] theorem withBase_pending (s : State) (b : TimeBase) : (s.withBase b).pending = s.pending := rfl

/-! ### withPending -/

@[simp] theorem withPending_rqp (s : State) (b : List Instr) : (s.withPending b).rqp = s.rqp := rfl
@[simp] theorem withPending_vrg (s : State) (b : List Instr) : (s.withPending b).vrg = s.vrg := rfl
@[simp] theorem withPending_chu (s : State) (b : List Instr) : (s.withPending b).chu = s.chu := rfl
@[simp] theorem withPending_qxu (s : State) (b : List Instr) : (s.withPending b).qxu = s.qxu := rfl
@[simp] theorem withPending_lmn (s : State) (b : List Instr) : (s.withPending b).lmn = s.lmn := rfl
@[simp] theorem withPending_rte (s : State) (b : List Instr) : (s.withPending b).rte = s.rte := rfl
@[simp] theorem withPending_zne (s : State) (b : List Instr) : (s.withPending b).zne = s.zne := rfl
@[simp] theorem withPending_rdc (s : State) (b : List Instr) : (s.withPending b).rdc = s.rdc := rfl
@[simp] theorem withPending_base (s : State) (b : List Instr) : (s.withPending b).base = s.base := rfl
@[simp] theorem withPending_pending (s : State) (b : List Instr) : (s.withPending b).pending = b := rfl

/-! ### setSlot and slot -/

@[simp] theorem setSlot_rqp (s : State) (i : Nat) (v : Slot) : (s.setSlot i v).rqp = s.rqp := rfl
@[simp] theorem setSlot_chu (s : State) (i : Nat) (v : Slot) : (s.setSlot i v).chu = s.chu := rfl
@[simp] theorem setSlot_qxu (s : State) (i : Nat) (v : Slot) : (s.setSlot i v).qxu = s.qxu := rfl
@[simp] theorem setSlot_lmn (s : State) (i : Nat) (v : Slot) : (s.setSlot i v).lmn = s.lmn := rfl
@[simp] theorem setSlot_rte (s : State) (i : Nat) (v : Slot) : (s.setSlot i v).rte = s.rte := rfl
@[simp] theorem setSlot_zne (s : State) (i : Nat) (v : Slot) : (s.setSlot i v).zne = s.zne := rfl
@[simp] theorem setSlot_rdc (s : State) (i : Nat) (v : Slot) : (s.setSlot i v).rdc = s.rdc := rfl
@[simp] theorem setSlot_base (s : State) (i : Nat) (v : Slot) : (s.setSlot i v).base = s.base := rfl
@[simp] theorem setSlot_pending (s : State) (i : Nat) (v : Slot) : (s.setSlot i v).pending = s.pending := rfl
@[simp] theorem setSlot_vrg_activity (s : State) (i : Nat) (v : Slot) : (s.setSlot i v).vrg.activity = s.vrg.activity := rfl
@[simp] theorem setSlot_vrg_purge (s : State) (i : Nat) (v : Slot) : (s.setSlot i v).vrg.purge = s.vrg.purge := rfl
@[simp] theorem withRqp_slot (s : State) (b : Rqp) (i : Nat) : (s.withRqp b).slot i = s.slot i := rfl
@[simp] theorem withChu_slot (s : State) (b : Chu) (i : Nat) : (s.withChu b).slot i = s.slot i := rfl
@[simp] theorem withQxu_slot (s : State) (b : Qxu) (i : Nat) : (s.withQxu b).slot i = s.slot i := rfl
@[simp] theorem withLmn_slot (s : State) (b : Lmn) (i : Nat) : (s.withLmn b).slot i = s.slot i := rfl
@[simp] theorem withRte_slot (s : State) (b : Rte) (i : Nat) : (s.withRte b).slot i = s.slot i := rfl
@[simp] theorem withZne_slot (s : State) (b : Zne) (i : Nat) : (s.withZne b).slot i = s.slot i := rfl
@[simp] theorem withRdc_slot (s : State) (b : Rdc) (i : Nat) : (s.withRdc b).slot i = s.slot i := rfl
@[simp] theorem withBase_slot (s : State) (b : TimeBase) (i : Nat) : (s.withBase b).slot i = s.slot i := rfl
@[simp] theorem withPending_slot (s : State) (b : List Instr) (i : Nat) : (s.withPending b).slot i = s.slot i := rfl
@[simp] theorem setPartner_slot (s : State) (i : Nat) (v : Option Partner) (j : Nat) : (s.setPartner i v).slot j = s.slot j := rfl
@[simp] theorem setPlan_slot (s : State) (i : Nat) (v : Plan) (j : Nat) : (s.setPlan i v).slot j = s.slot j := rfl
@[simp] theorem setAccount_slot (s : State) (i : Nat) (v : Option Account) (j : Nat) : (s.setAccount i v).slot j = s.slot j := rfl
@[simp] theorem setEntry_slot (s : State) (i : Nat) (v : XEntry) (j : Nat) : (s.setEntry i v).slot j = s.slot j := rfl
@[simp] theorem setLink_slot (s : State) (i : Link) (v : LinkRec) (j : Nat) : (s.setLink i v).slot j = s.slot j := rfl
@[simp] theorem setRoute_slot (s : State) (i : Nat) (v : Route) (j : Nat) : (s.setRoute i v).slot j = s.slot j := rfl
@[simp] theorem setZone_slot (s : State) (i : Nat) (v : Zone) (j : Nat) : (s.setZone i v).slot j = s.slot j := rfl
@[simp] theorem setUnit_slot (s : State) (i : Nat) (v : UnitRec) (j : Nat) : (s.setUnit i v).slot j = s.slot j := rfl
@[simp] theorem setSlot_slot_self (s : State) (i : Nat) (v : Slot) : (s.setSlot i v).slot i = v := by
  simp [slot, setSlot]
theorem setSlot_slot (s : State) (i j : Nat) (v : Slot) : (s.setSlot i v).slot j = if i = j then v else s.slot j := by
  simp [slot, setSlot, tget_tset]

/-! ### setPartner and partner -/

@[simp] theorem setPartner_rqp (s : State) (i : Nat) (v : Option Partner) : (s.setPartner i v).rqp = s.rqp := rfl
@[simp] theorem setPartner_vrg (s : State) (i : Nat) (v : Option Partner) : (s.setPartner i v).vrg = s.vrg := rfl
@[simp] theorem setPartner_qxu (s : State) (i : Nat) (v : Option Partner) : (s.setPartner i v).qxu = s.qxu := rfl
@[simp] theorem setPartner_lmn (s : State) (i : Nat) (v : Option Partner) : (s.setPartner i v).lmn = s.lmn := rfl
@[simp] theorem setPartner_rte (s : State) (i : Nat) (v : Option Partner) : (s.setPartner i v).rte = s.rte := rfl
@[simp] theorem setPartner_zne (s : State) (i : Nat) (v : Option Partner) : (s.setPartner i v).zne = s.zne := rfl
@[simp] theorem setPartner_rdc (s : State) (i : Nat) (v : Option Partner) : (s.setPartner i v).rdc = s.rdc := rfl
@[simp] theorem setPartner_base (s : State) (i : Nat) (v : Option Partner) : (s.setPartner i v).base = s.base := rfl
@[simp] theorem setPartner_pending (s : State) (i : Nat) (v : Option Partner) : (s.setPartner i v).pending = s.pending := rfl
@[simp] theorem setPartner_chu_plans (s : State) (i : Nat) (v : Option Partner) : (s.setPartner i v).chu.plans = s.chu.plans := rfl
@[simp] theorem setPartner_chu_accounts (s : State) (i : Nat) (v : Option Partner) : (s.setPartner i v).chu.accounts = s.chu.accounts := rfl
@[simp] theorem setPartner_chu_freeAccounts (s : State) (i : Nat) (v : Option Partner) : (s.setPartner i v).chu.freeAccounts = s.chu.freeAccounts := rfl
@[simp] theorem setPartner_chu_armed (s : State) (i : Nat) (v : Option Partner) : (s.setPartner i v).chu.armed = s.chu.armed := rfl
@[simp] theorem setPartner_chu_emergency (s : State) (i : Nat) (v : Option Partner) : (s.setPartner i v).chu.emergency = s.chu.emergency := rfl
@[simp] theorem setPartner_chu_unattributed (s : State) (i : Nat) (v : Option Partner) : (s.setPartner i v).chu.unattributed = s.chu.unattributed := rfl
@[simp] theorem withRqp_partner (s : State) (b : Rqp) (i : Nat) : (s.withRqp b).partner i = s.partner i := rfl
@[simp] theorem withVrg_partner (s : State) (b : Vrg) (i : Nat) : (s.withVrg b).partner i = s.partner i := rfl
@[simp] theorem withQxu_partner (s : State) (b : Qxu) (i : Nat) : (s.withQxu b).partner i = s.partner i := rfl
@[simp] theorem withLmn_partner (s : State) (b : Lmn) (i : Nat) : (s.withLmn b).partner i = s.partner i := rfl
@[simp] theorem withRte_partner (s : State) (b : Rte) (i : Nat) : (s.withRte b).partner i = s.partner i := rfl
@[simp] theorem withZne_partner (s : State) (b : Zne) (i : Nat) : (s.withZne b).partner i = s.partner i := rfl
@[simp] theorem withRdc_partner (s : State) (b : Rdc) (i : Nat) : (s.withRdc b).partner i = s.partner i := rfl
@[simp] theorem withBase_partner (s : State) (b : TimeBase) (i : Nat) : (s.withBase b).partner i = s.partner i := rfl
@[simp] theorem withPending_partner (s : State) (b : List Instr) (i : Nat) : (s.withPending b).partner i = s.partner i := rfl
@[simp] theorem setSlot_partner (s : State) (i : Nat) (v : Slot) (j : Nat) : (s.setSlot i v).partner j = s.partner j := rfl
@[simp] theorem setPlan_partner (s : State) (i : Nat) (v : Plan) (j : Nat) : (s.setPlan i v).partner j = s.partner j := rfl
@[simp] theorem setAccount_partner (s : State) (i : Nat) (v : Option Account) (j : Nat) : (s.setAccount i v).partner j = s.partner j := rfl
@[simp] theorem setEntry_partner (s : State) (i : Nat) (v : XEntry) (j : Nat) : (s.setEntry i v).partner j = s.partner j := rfl
@[simp] theorem setLink_partner (s : State) (i : Link) (v : LinkRec) (j : Nat) : (s.setLink i v).partner j = s.partner j := rfl
@[simp] theorem setRoute_partner (s : State) (i : Nat) (v : Route) (j : Nat) : (s.setRoute i v).partner j = s.partner j := rfl
@[simp] theorem setZone_partner (s : State) (i : Nat) (v : Zone) (j : Nat) : (s.setZone i v).partner j = s.partner j := rfl
@[simp] theorem setUnit_partner (s : State) (i : Nat) (v : UnitRec) (j : Nat) : (s.setUnit i v).partner j = s.partner j := rfl
@[simp] theorem setPartner_partner_self (s : State) (i : Nat) (v : Option Partner) : (s.setPartner i v).partner i = v := by
  simp [partner, setPartner]
theorem setPartner_partner (s : State) (i j : Nat) (v : Option Partner) : (s.setPartner i v).partner j = if i = j then v else s.partner j := by
  simp [partner, setPartner, tget_tset]

/-! ### setPlan and plan -/

@[simp] theorem setPlan_rqp (s : State) (i : Nat) (v : Plan) : (s.setPlan i v).rqp = s.rqp := rfl
@[simp] theorem setPlan_vrg (s : State) (i : Nat) (v : Plan) : (s.setPlan i v).vrg = s.vrg := rfl
@[simp] theorem setPlan_qxu (s : State) (i : Nat) (v : Plan) : (s.setPlan i v).qxu = s.qxu := rfl
@[simp] theorem setPlan_lmn (s : State) (i : Nat) (v : Plan) : (s.setPlan i v).lmn = s.lmn := rfl
@[simp] theorem setPlan_rte (s : State) (i : Nat) (v : Plan) : (s.setPlan i v).rte = s.rte := rfl
@[simp] theorem setPlan_zne (s : State) (i : Nat) (v : Plan) : (s.setPlan i v).zne = s.zne := rfl
@[simp] theorem setPlan_rdc (s : State) (i : Nat) (v : Plan) : (s.setPlan i v).rdc = s.rdc := rfl
@[simp] theorem setPlan_base (s : State) (i : Nat) (v : Plan) : (s.setPlan i v).base = s.base := rfl
@[simp] theorem setPlan_pending (s : State) (i : Nat) (v : Plan) : (s.setPlan i v).pending = s.pending := rfl
@[simp] theorem setPlan_chu_partners (s : State) (i : Nat) (v : Plan) : (s.setPlan i v).chu.partners = s.chu.partners := rfl
@[simp] theorem setPlan_chu_accounts (s : State) (i : Nat) (v : Plan) : (s.setPlan i v).chu.accounts = s.chu.accounts := rfl
@[simp] theorem setPlan_chu_freeAccounts (s : State) (i : Nat) (v : Plan) : (s.setPlan i v).chu.freeAccounts = s.chu.freeAccounts := rfl
@[simp] theorem setPlan_chu_armed (s : State) (i : Nat) (v : Plan) : (s.setPlan i v).chu.armed = s.chu.armed := rfl
@[simp] theorem setPlan_chu_emergency (s : State) (i : Nat) (v : Plan) : (s.setPlan i v).chu.emergency = s.chu.emergency := rfl
@[simp] theorem setPlan_chu_unattributed (s : State) (i : Nat) (v : Plan) : (s.setPlan i v).chu.unattributed = s.chu.unattributed := rfl
@[simp] theorem withRqp_plan (s : State) (b : Rqp) (i : Nat) : (s.withRqp b).plan i = s.plan i := rfl
@[simp] theorem withVrg_plan (s : State) (b : Vrg) (i : Nat) : (s.withVrg b).plan i = s.plan i := rfl
@[simp] theorem withQxu_plan (s : State) (b : Qxu) (i : Nat) : (s.withQxu b).plan i = s.plan i := rfl
@[simp] theorem withLmn_plan (s : State) (b : Lmn) (i : Nat) : (s.withLmn b).plan i = s.plan i := rfl
@[simp] theorem withRte_plan (s : State) (b : Rte) (i : Nat) : (s.withRte b).plan i = s.plan i := rfl
@[simp] theorem withZne_plan (s : State) (b : Zne) (i : Nat) : (s.withZne b).plan i = s.plan i := rfl
@[simp] theorem withRdc_plan (s : State) (b : Rdc) (i : Nat) : (s.withRdc b).plan i = s.plan i := rfl
@[simp] theorem withBase_plan (s : State) (b : TimeBase) (i : Nat) : (s.withBase b).plan i = s.plan i := rfl
@[simp] theorem withPending_plan (s : State) (b : List Instr) (i : Nat) : (s.withPending b).plan i = s.plan i := rfl
@[simp] theorem setSlot_plan (s : State) (i : Nat) (v : Slot) (j : Nat) : (s.setSlot i v).plan j = s.plan j := rfl
@[simp] theorem setPartner_plan (s : State) (i : Nat) (v : Option Partner) (j : Nat) : (s.setPartner i v).plan j = s.plan j := rfl
@[simp] theorem setAccount_plan (s : State) (i : Nat) (v : Option Account) (j : Nat) : (s.setAccount i v).plan j = s.plan j := rfl
@[simp] theorem setEntry_plan (s : State) (i : Nat) (v : XEntry) (j : Nat) : (s.setEntry i v).plan j = s.plan j := rfl
@[simp] theorem setLink_plan (s : State) (i : Link) (v : LinkRec) (j : Nat) : (s.setLink i v).plan j = s.plan j := rfl
@[simp] theorem setRoute_plan (s : State) (i : Nat) (v : Route) (j : Nat) : (s.setRoute i v).plan j = s.plan j := rfl
@[simp] theorem setZone_plan (s : State) (i : Nat) (v : Zone) (j : Nat) : (s.setZone i v).plan j = s.plan j := rfl
@[simp] theorem setUnit_plan (s : State) (i : Nat) (v : UnitRec) (j : Nat) : (s.setUnit i v).plan j = s.plan j := rfl
@[simp] theorem setPlan_plan_self (s : State) (i : Nat) (v : Plan) : (s.setPlan i v).plan i = v := by
  simp [plan, setPlan]
theorem setPlan_plan (s : State) (i j : Nat) (v : Plan) : (s.setPlan i v).plan j = if i = j then v else s.plan j := by
  simp [plan, setPlan, tget_tset]

/-! ### setAccount and account -/

@[simp] theorem setAccount_rqp (s : State) (i : Nat) (v : Option Account) : (s.setAccount i v).rqp = s.rqp := rfl
@[simp] theorem setAccount_vrg (s : State) (i : Nat) (v : Option Account) : (s.setAccount i v).vrg = s.vrg := rfl
@[simp] theorem setAccount_qxu (s : State) (i : Nat) (v : Option Account) : (s.setAccount i v).qxu = s.qxu := rfl
@[simp] theorem setAccount_lmn (s : State) (i : Nat) (v : Option Account) : (s.setAccount i v).lmn = s.lmn := rfl
@[simp] theorem setAccount_rte (s : State) (i : Nat) (v : Option Account) : (s.setAccount i v).rte = s.rte := rfl
@[simp] theorem setAccount_zne (s : State) (i : Nat) (v : Option Account) : (s.setAccount i v).zne = s.zne := rfl
@[simp] theorem setAccount_rdc (s : State) (i : Nat) (v : Option Account) : (s.setAccount i v).rdc = s.rdc := rfl
@[simp] theorem setAccount_base (s : State) (i : Nat) (v : Option Account) : (s.setAccount i v).base = s.base := rfl
@[simp] theorem setAccount_pending (s : State) (i : Nat) (v : Option Account) : (s.setAccount i v).pending = s.pending := rfl
@[simp] theorem setAccount_chu_partners (s : State) (i : Nat) (v : Option Account) : (s.setAccount i v).chu.partners = s.chu.partners := rfl
@[simp] theorem setAccount_chu_plans (s : State) (i : Nat) (v : Option Account) : (s.setAccount i v).chu.plans = s.chu.plans := rfl
@[simp] theorem setAccount_chu_freeAccounts (s : State) (i : Nat) (v : Option Account) : (s.setAccount i v).chu.freeAccounts = s.chu.freeAccounts := rfl
@[simp] theorem setAccount_chu_armed (s : State) (i : Nat) (v : Option Account) : (s.setAccount i v).chu.armed = s.chu.armed := rfl
@[simp] theorem setAccount_chu_emergency (s : State) (i : Nat) (v : Option Account) : (s.setAccount i v).chu.emergency = s.chu.emergency := rfl
@[simp] theorem setAccount_chu_unattributed (s : State) (i : Nat) (v : Option Account) : (s.setAccount i v).chu.unattributed = s.chu.unattributed := rfl
@[simp] theorem withRqp_account (s : State) (b : Rqp) (i : Nat) : (s.withRqp b).account i = s.account i := rfl
@[simp] theorem withVrg_account (s : State) (b : Vrg) (i : Nat) : (s.withVrg b).account i = s.account i := rfl
@[simp] theorem withQxu_account (s : State) (b : Qxu) (i : Nat) : (s.withQxu b).account i = s.account i := rfl
@[simp] theorem withLmn_account (s : State) (b : Lmn) (i : Nat) : (s.withLmn b).account i = s.account i := rfl
@[simp] theorem withRte_account (s : State) (b : Rte) (i : Nat) : (s.withRte b).account i = s.account i := rfl
@[simp] theorem withZne_account (s : State) (b : Zne) (i : Nat) : (s.withZne b).account i = s.account i := rfl
@[simp] theorem withRdc_account (s : State) (b : Rdc) (i : Nat) : (s.withRdc b).account i = s.account i := rfl
@[simp] theorem withBase_account (s : State) (b : TimeBase) (i : Nat) : (s.withBase b).account i = s.account i := rfl
@[simp] theorem withPending_account (s : State) (b : List Instr) (i : Nat) : (s.withPending b).account i = s.account i := rfl
@[simp] theorem setSlot_account (s : State) (i : Nat) (v : Slot) (j : Nat) : (s.setSlot i v).account j = s.account j := rfl
@[simp] theorem setPartner_account (s : State) (i : Nat) (v : Option Partner) (j : Nat) : (s.setPartner i v).account j = s.account j := rfl
@[simp] theorem setPlan_account (s : State) (i : Nat) (v : Plan) (j : Nat) : (s.setPlan i v).account j = s.account j := rfl
@[simp] theorem setEntry_account (s : State) (i : Nat) (v : XEntry) (j : Nat) : (s.setEntry i v).account j = s.account j := rfl
@[simp] theorem setLink_account (s : State) (i : Link) (v : LinkRec) (j : Nat) : (s.setLink i v).account j = s.account j := rfl
@[simp] theorem setRoute_account (s : State) (i : Nat) (v : Route) (j : Nat) : (s.setRoute i v).account j = s.account j := rfl
@[simp] theorem setZone_account (s : State) (i : Nat) (v : Zone) (j : Nat) : (s.setZone i v).account j = s.account j := rfl
@[simp] theorem setUnit_account (s : State) (i : Nat) (v : UnitRec) (j : Nat) : (s.setUnit i v).account j = s.account j := rfl
@[simp] theorem setAccount_account_self (s : State) (i : Nat) (v : Option Account) : (s.setAccount i v).account i = v := by
  simp [account, setAccount]
theorem setAccount_account (s : State) (i j : Nat) (v : Option Account) : (s.setAccount i v).account j = if i = j then v else s.account j := by
  simp [account, setAccount, tget_tset]

/-! ### setEntry and entry -/

@[simp] theorem setEntry_rqp (s : State) (i : Nat) (v : XEntry) : (s.setEntry i v).rqp = s.rqp := rfl
@[simp] theorem setEntry_vrg (s : State) (i : Nat) (v : XEntry) : (s.setEntry i v).vrg = s.vrg := rfl
@[simp] theorem setEntry_chu (s : State) (i : Nat) (v : XEntry) : (s.setEntry i v).chu = s.chu := rfl
@[simp] theorem setEntry_lmn (s : State) (i : Nat) (v : XEntry) : (s.setEntry i v).lmn = s.lmn := rfl
@[simp] theorem setEntry_rte (s : State) (i : Nat) (v : XEntry) : (s.setEntry i v).rte = s.rte := rfl
@[simp] theorem setEntry_zne (s : State) (i : Nat) (v : XEntry) : (s.setEntry i v).zne = s.zne := rfl
@[simp] theorem setEntry_rdc (s : State) (i : Nat) (v : XEntry) : (s.setEntry i v).rdc = s.rdc := rfl
@[simp] theorem setEntry_base (s : State) (i : Nat) (v : XEntry) : (s.setEntry i v).base = s.base := rfl
@[simp] theorem setEntry_pending (s : State) (i : Nat) (v : XEntry) : (s.setEntry i v).pending = s.pending := rfl
@[simp] theorem setEntry_qxu_order (s : State) (i : Nat) (v : XEntry) : (s.setEntry i v).qxu.order = s.qxu.order := rfl
@[simp] theorem setEntry_qxu_deferred (s : State) (i : Nat) (v : XEntry) : (s.setEntry i v).qxu.deferred = s.qxu.deferred := rfl
@[simp] theorem setEntry_qxu_owed (s : State) (i : Nat) (v : XEntry) : (s.setEntry i v).qxu.owed = s.qxu.owed := rfl
@[simp] theorem withRqp_entry (s : State) (b : Rqp) (i : Nat) : (s.withRqp b).entry i = s.entry i := rfl
@[simp] theorem withVrg_entry (s : State) (b : Vrg) (i : Nat) : (s.withVrg b).entry i = s.entry i := rfl
@[simp] theorem withChu_entry (s : State) (b : Chu) (i : Nat) : (s.withChu b).entry i = s.entry i := rfl
@[simp] theorem withLmn_entry (s : State) (b : Lmn) (i : Nat) : (s.withLmn b).entry i = s.entry i := rfl
@[simp] theorem withRte_entry (s : State) (b : Rte) (i : Nat) : (s.withRte b).entry i = s.entry i := rfl
@[simp] theorem withZne_entry (s : State) (b : Zne) (i : Nat) : (s.withZne b).entry i = s.entry i := rfl
@[simp] theorem withRdc_entry (s : State) (b : Rdc) (i : Nat) : (s.withRdc b).entry i = s.entry i := rfl
@[simp] theorem withBase_entry (s : State) (b : TimeBase) (i : Nat) : (s.withBase b).entry i = s.entry i := rfl
@[simp] theorem withPending_entry (s : State) (b : List Instr) (i : Nat) : (s.withPending b).entry i = s.entry i := rfl
@[simp] theorem setSlot_entry (s : State) (i : Nat) (v : Slot) (j : Nat) : (s.setSlot i v).entry j = s.entry j := rfl
@[simp] theorem setPartner_entry (s : State) (i : Nat) (v : Option Partner) (j : Nat) : (s.setPartner i v).entry j = s.entry j := rfl
@[simp] theorem setPlan_entry (s : State) (i : Nat) (v : Plan) (j : Nat) : (s.setPlan i v).entry j = s.entry j := rfl
@[simp] theorem setAccount_entry (s : State) (i : Nat) (v : Option Account) (j : Nat) : (s.setAccount i v).entry j = s.entry j := rfl
@[simp] theorem setLink_entry (s : State) (i : Link) (v : LinkRec) (j : Nat) : (s.setLink i v).entry j = s.entry j := rfl
@[simp] theorem setRoute_entry (s : State) (i : Nat) (v : Route) (j : Nat) : (s.setRoute i v).entry j = s.entry j := rfl
@[simp] theorem setZone_entry (s : State) (i : Nat) (v : Zone) (j : Nat) : (s.setZone i v).entry j = s.entry j := rfl
@[simp] theorem setUnit_entry (s : State) (i : Nat) (v : UnitRec) (j : Nat) : (s.setUnit i v).entry j = s.entry j := rfl
@[simp] theorem setEntry_entry_self (s : State) (i : Nat) (v : XEntry) : (s.setEntry i v).entry i = v := by
  simp [entry, setEntry]
theorem setEntry_entry (s : State) (i j : Nat) (v : XEntry) : (s.setEntry i v).entry j = if i = j then v else s.entry j := by
  simp [entry, setEntry, tget_tset]

/-! ### setLink and link -/

@[simp] theorem setLink_rqp (s : State) (i : Link) (v : LinkRec) : (s.setLink i v).rqp = s.rqp := rfl
@[simp] theorem setLink_vrg (s : State) (i : Link) (v : LinkRec) : (s.setLink i v).vrg = s.vrg := rfl
@[simp] theorem setLink_chu (s : State) (i : Link) (v : LinkRec) : (s.setLink i v).chu = s.chu := rfl
@[simp] theorem setLink_qxu (s : State) (i : Link) (v : LinkRec) : (s.setLink i v).qxu = s.qxu := rfl
@[simp] theorem setLink_rte (s : State) (i : Link) (v : LinkRec) : (s.setLink i v).rte = s.rte := rfl
@[simp] theorem setLink_zne (s : State) (i : Link) (v : LinkRec) : (s.setLink i v).zne = s.zne := rfl
@[simp] theorem setLink_rdc (s : State) (i : Link) (v : LinkRec) : (s.setLink i v).rdc = s.rdc := rfl
@[simp] theorem setLink_base (s : State) (i : Link) (v : LinkRec) : (s.setLink i v).base = s.base := rfl
@[simp] theorem setLink_pending (s : State) (i : Link) (v : LinkRec) : (s.setLink i v).pending = s.pending := rfl
@[simp] theorem withRqp_link (s : State) (b : Rqp) (i : Link) : (s.withRqp b).link i = s.link i := rfl
@[simp] theorem withVrg_link (s : State) (b : Vrg) (i : Link) : (s.withVrg b).link i = s.link i := rfl
@[simp] theorem withChu_link (s : State) (b : Chu) (i : Link) : (s.withChu b).link i = s.link i := rfl
@[simp] theorem withQxu_link (s : State) (b : Qxu) (i : Link) : (s.withQxu b).link i = s.link i := rfl
@[simp] theorem withRte_link (s : State) (b : Rte) (i : Link) : (s.withRte b).link i = s.link i := rfl
@[simp] theorem withZne_link (s : State) (b : Zne) (i : Link) : (s.withZne b).link i = s.link i := rfl
@[simp] theorem withRdc_link (s : State) (b : Rdc) (i : Link) : (s.withRdc b).link i = s.link i := rfl
@[simp] theorem withBase_link (s : State) (b : TimeBase) (i : Link) : (s.withBase b).link i = s.link i := rfl
@[simp] theorem withPending_link (s : State) (b : List Instr) (i : Link) : (s.withPending b).link i = s.link i := rfl
@[simp] theorem setSlot_link (s : State) (i : Nat) (v : Slot) (j : Link) : (s.setSlot i v).link j = s.link j := rfl
@[simp] theorem setPartner_link (s : State) (i : Nat) (v : Option Partner) (j : Link) : (s.setPartner i v).link j = s.link j := rfl
@[simp] theorem setPlan_link (s : State) (i : Nat) (v : Plan) (j : Link) : (s.setPlan i v).link j = s.link j := rfl
@[simp] theorem setAccount_link (s : State) (i : Nat) (v : Option Account) (j : Link) : (s.setAccount i v).link j = s.link j := rfl
@[simp] theorem setEntry_link (s : State) (i : Nat) (v : XEntry) (j : Link) : (s.setEntry i v).link j = s.link j := rfl
@[simp] theorem setRoute_link (s : State) (i : Nat) (v : Route) (j : Link) : (s.setRoute i v).link j = s.link j := rfl
@[simp] theorem setZone_link (s : State) (i : Nat) (v : Zone) (j : Link) : (s.setZone i v).link j = s.link j := rfl
@[simp] theorem setUnit_link (s : State) (i : Nat) (v : UnitRec) (j : Link) : (s.setUnit i v).link j = s.link j := rfl
@[simp] theorem setLink_link_self (s : State) (i : Link) (v : LinkRec) : (s.setLink i v).link i = v := by
  simp [link, setLink]
theorem setLink_link (s : State) (i j : Link) (v : LinkRec) : (s.setLink i v).link j = if i = j then v else s.link j := by
  simp [link, setLink, qget_qset]

/-! ### setRoute and route -/

@[simp] theorem setRoute_rqp (s : State) (i : Nat) (v : Route) : (s.setRoute i v).rqp = s.rqp := rfl
@[simp] theorem setRoute_vrg (s : State) (i : Nat) (v : Route) : (s.setRoute i v).vrg = s.vrg := rfl
@[simp] theorem setRoute_chu (s : State) (i : Nat) (v : Route) : (s.setRoute i v).chu = s.chu := rfl
@[simp] theorem setRoute_qxu (s : State) (i : Nat) (v : Route) : (s.setRoute i v).qxu = s.qxu := rfl
@[simp] theorem setRoute_lmn (s : State) (i : Nat) (v : Route) : (s.setRoute i v).lmn = s.lmn := rfl
@[simp] theorem setRoute_zne (s : State) (i : Nat) (v : Route) : (s.setRoute i v).zne = s.zne := rfl
@[simp] theorem setRoute_rdc (s : State) (i : Nat) (v : Route) : (s.setRoute i v).rdc = s.rdc := rfl
@[simp] theorem setRoute_base (s : State) (i : Nat) (v : Route) : (s.setRoute i v).base = s.base := rfl
@[simp] theorem setRoute_pending (s : State) (i : Nat) (v : Route) : (s.setRoute i v).pending = s.pending := rfl
@[simp] theorem withRqp_route (s : State) (b : Rqp) (i : Nat) : (s.withRqp b).route i = s.route i := rfl
@[simp] theorem withVrg_route (s : State) (b : Vrg) (i : Nat) : (s.withVrg b).route i = s.route i := rfl
@[simp] theorem withChu_route (s : State) (b : Chu) (i : Nat) : (s.withChu b).route i = s.route i := rfl
@[simp] theorem withQxu_route (s : State) (b : Qxu) (i : Nat) : (s.withQxu b).route i = s.route i := rfl
@[simp] theorem withLmn_route (s : State) (b : Lmn) (i : Nat) : (s.withLmn b).route i = s.route i := rfl
@[simp] theorem withZne_route (s : State) (b : Zne) (i : Nat) : (s.withZne b).route i = s.route i := rfl
@[simp] theorem withRdc_route (s : State) (b : Rdc) (i : Nat) : (s.withRdc b).route i = s.route i := rfl
@[simp] theorem withBase_route (s : State) (b : TimeBase) (i : Nat) : (s.withBase b).route i = s.route i := rfl
@[simp] theorem withPending_route (s : State) (b : List Instr) (i : Nat) : (s.withPending b).route i = s.route i := rfl
@[simp] theorem setSlot_route (s : State) (i : Nat) (v : Slot) (j : Nat) : (s.setSlot i v).route j = s.route j := rfl
@[simp] theorem setPartner_route (s : State) (i : Nat) (v : Option Partner) (j : Nat) : (s.setPartner i v).route j = s.route j := rfl
@[simp] theorem setPlan_route (s : State) (i : Nat) (v : Plan) (j : Nat) : (s.setPlan i v).route j = s.route j := rfl
@[simp] theorem setAccount_route (s : State) (i : Nat) (v : Option Account) (j : Nat) : (s.setAccount i v).route j = s.route j := rfl
@[simp] theorem setEntry_route (s : State) (i : Nat) (v : XEntry) (j : Nat) : (s.setEntry i v).route j = s.route j := rfl
@[simp] theorem setLink_route (s : State) (i : Link) (v : LinkRec) (j : Nat) : (s.setLink i v).route j = s.route j := rfl
@[simp] theorem setZone_route (s : State) (i : Nat) (v : Zone) (j : Nat) : (s.setZone i v).route j = s.route j := rfl
@[simp] theorem setUnit_route (s : State) (i : Nat) (v : UnitRec) (j : Nat) : (s.setUnit i v).route j = s.route j := rfl
@[simp] theorem setRoute_route_self (s : State) (i : Nat) (v : Route) : (s.setRoute i v).route i = v := by
  simp [route, setRoute]
theorem setRoute_route (s : State) (i j : Nat) (v : Route) : (s.setRoute i v).route j = if i = j then v else s.route j := by
  simp [route, setRoute, tget_tset]

/-! ### setZone and zone -/

@[simp] theorem setZone_rqp (s : State) (i : Nat) (v : Zone) : (s.setZone i v).rqp = s.rqp := rfl
@[simp] theorem setZone_vrg (s : State) (i : Nat) (v : Zone) : (s.setZone i v).vrg = s.vrg := rfl
@[simp] theorem setZone_chu (s : State) (i : Nat) (v : Zone) : (s.setZone i v).chu = s.chu := rfl
@[simp] theorem setZone_qxu (s : State) (i : Nat) (v : Zone) : (s.setZone i v).qxu = s.qxu := rfl
@[simp] theorem setZone_lmn (s : State) (i : Nat) (v : Zone) : (s.setZone i v).lmn = s.lmn := rfl
@[simp] theorem setZone_rte (s : State) (i : Nat) (v : Zone) : (s.setZone i v).rte = s.rte := rfl
@[simp] theorem setZone_rdc (s : State) (i : Nat) (v : Zone) : (s.setZone i v).rdc = s.rdc := rfl
@[simp] theorem setZone_base (s : State) (i : Nat) (v : Zone) : (s.setZone i v).base = s.base := rfl
@[simp] theorem setZone_pending (s : State) (i : Nat) (v : Zone) : (s.setZone i v).pending = s.pending := rfl
@[simp] theorem setZone_zne_nav (s : State) (i : Nat) (v : Zone) : (s.setZone i v).zne.nav = s.zne.nav := rfl
@[simp] theorem setZone_zne_fifo (s : State) (i : Nat) (v : Zone) : (s.setZone i v).zne.fifo = s.zne.fifo := rfl
@[simp] theorem setZone_zne_pos (s : State) (i : Nat) (v : Zone) : (s.setZone i v).zne.pos = s.zne.pos := rfl
@[simp] theorem withRqp_zone (s : State) (b : Rqp) (i : Nat) : (s.withRqp b).zone i = s.zone i := rfl
@[simp] theorem withVrg_zone (s : State) (b : Vrg) (i : Nat) : (s.withVrg b).zone i = s.zone i := rfl
@[simp] theorem withChu_zone (s : State) (b : Chu) (i : Nat) : (s.withChu b).zone i = s.zone i := rfl
@[simp] theorem withQxu_zone (s : State) (b : Qxu) (i : Nat) : (s.withQxu b).zone i = s.zone i := rfl
@[simp] theorem withLmn_zone (s : State) (b : Lmn) (i : Nat) : (s.withLmn b).zone i = s.zone i := rfl
@[simp] theorem withRte_zone (s : State) (b : Rte) (i : Nat) : (s.withRte b).zone i = s.zone i := rfl
@[simp] theorem withRdc_zone (s : State) (b : Rdc) (i : Nat) : (s.withRdc b).zone i = s.zone i := rfl
@[simp] theorem withBase_zone (s : State) (b : TimeBase) (i : Nat) : (s.withBase b).zone i = s.zone i := rfl
@[simp] theorem withPending_zone (s : State) (b : List Instr) (i : Nat) : (s.withPending b).zone i = s.zone i := rfl
@[simp] theorem setSlot_zone (s : State) (i : Nat) (v : Slot) (j : Nat) : (s.setSlot i v).zone j = s.zone j := rfl
@[simp] theorem setPartner_zone (s : State) (i : Nat) (v : Option Partner) (j : Nat) : (s.setPartner i v).zone j = s.zone j := rfl
@[simp] theorem setPlan_zone (s : State) (i : Nat) (v : Plan) (j : Nat) : (s.setPlan i v).zone j = s.zone j := rfl
@[simp] theorem setAccount_zone (s : State) (i : Nat) (v : Option Account) (j : Nat) : (s.setAccount i v).zone j = s.zone j := rfl
@[simp] theorem setEntry_zone (s : State) (i : Nat) (v : XEntry) (j : Nat) : (s.setEntry i v).zone j = s.zone j := rfl
@[simp] theorem setLink_zone (s : State) (i : Link) (v : LinkRec) (j : Nat) : (s.setLink i v).zone j = s.zone j := rfl
@[simp] theorem setRoute_zone (s : State) (i : Nat) (v : Route) (j : Nat) : (s.setRoute i v).zone j = s.zone j := rfl
@[simp] theorem setUnit_zone (s : State) (i : Nat) (v : UnitRec) (j : Nat) : (s.setUnit i v).zone j = s.zone j := rfl
@[simp] theorem setZone_zone_self (s : State) (i : Nat) (v : Zone) : (s.setZone i v).zone i = v := by
  simp [zone, setZone]
theorem setZone_zone (s : State) (i j : Nat) (v : Zone) : (s.setZone i v).zone j = if i = j then v else s.zone j := by
  simp [zone, setZone, tget_tset]

/-! ### setUnit and unit -/

@[simp] theorem setUnit_rqp (s : State) (i : Nat) (v : UnitRec) : (s.setUnit i v).rqp = s.rqp := rfl
@[simp] theorem setUnit_vrg (s : State) (i : Nat) (v : UnitRec) : (s.setUnit i v).vrg = s.vrg := rfl
@[simp] theorem setUnit_chu (s : State) (i : Nat) (v : UnitRec) : (s.setUnit i v).chu = s.chu := rfl
@[simp] theorem setUnit_qxu (s : State) (i : Nat) (v : UnitRec) : (s.setUnit i v).qxu = s.qxu := rfl
@[simp] theorem setUnit_lmn (s : State) (i : Nat) (v : UnitRec) : (s.setUnit i v).lmn = s.lmn := rfl
@[simp] theorem setUnit_rte (s : State) (i : Nat) (v : UnitRec) : (s.setUnit i v).rte = s.rte := rfl
@[simp] theorem setUnit_zne (s : State) (i : Nat) (v : UnitRec) : (s.setUnit i v).zne = s.zne := rfl
@[simp] theorem setUnit_base (s : State) (i : Nat) (v : UnitRec) : (s.setUnit i v).base = s.base := rfl
@[simp] theorem setUnit_pending (s : State) (i : Nat) (v : UnitRec) : (s.setUnit i v).pending = s.pending := rfl
@[simp] theorem setUnit_rdc_busFault (s : State) (i : Nat) (v : UnitRec) : (s.setUnit i v).rdc.busFault = s.rdc.busFault := rfl
@[simp] theorem setUnit_rdc_onBus (s : State) (i : Nat) (v : UnitRec) : (s.setUnit i v).rdc.onBus = s.rdc.onBus := rfl
@[simp] theorem setUnit_rdc_speed (s : State) (i : Nat) (v : UnitRec) : (s.setUnit i v).rdc.speed = s.rdc.speed := rfl
@[simp] theorem setUnit_rdc_wire (s : State) (i : Nat) (v : UnitRec) : (s.setUnit i v).rdc.wire = s.rdc.wire := rfl
@[simp] theorem setUnit_rdc_sent (s : State) (i : Nat) (v : UnitRec) : (s.setUnit i v).rdc.sent = s.rdc.sent := rfl
@[simp] theorem setUnit_rdc_sentAt (s : State) (i : Nat) (v : UnitRec) : (s.setUnit i v).rdc.sentAt = s.rdc.sentAt := rfl
@[simp] theorem setUnit_rdc_recovery (s : State) (i : Nat) (v : UnitRec) : (s.setUnit i v).rdc.recovery = s.rdc.recovery := rfl
@[simp] theorem setUnit_rdc_resets (s : State) (i : Nat) (v : UnitRec) : (s.setUnit i v).rdc.resets = s.rdc.resets := rfl
@[simp] theorem setUnit_rdc_radio (s : State) (i : Nat) (v : UnitRec) : (s.setUnit i v).rdc.radio = s.rdc.radio := rfl
@[simp] theorem setUnit_rdc_opMute (s : State) (i : Nat) (v : UnitRec) : (s.setUnit i v).rdc.opMute = s.rdc.opMute := rfl
@[simp] theorem setUnit_rdc_rfoff (s : State) (i : Nat) (v : UnitRec) : (s.setUnit i v).rdc.rfoff = s.rdc.rfoff := rfl
@[simp] theorem setUnit_rdc_deadline (s : State) (i : Nat) (v : UnitRec) : (s.setUnit i v).rdc.deadline = s.rdc.deadline := rfl
@[simp] theorem setUnit_rdc_poll (s : State) (i : Nat) (v : UnitRec) : (s.setUnit i v).rdc.poll = s.rdc.poll := rfl
@[simp] theorem setUnit_rdc_probe (s : State) (i : Nat) (v : UnitRec) : (s.setUnit i v).rdc.probe = s.rdc.probe := rfl
@[simp] theorem withRqp_unit (s : State) (b : Rqp) (i : Nat) : (s.withRqp b).unit i = s.unit i := rfl
@[simp] theorem withVrg_unit (s : State) (b : Vrg) (i : Nat) : (s.withVrg b).unit i = s.unit i := rfl
@[simp] theorem withChu_unit (s : State) (b : Chu) (i : Nat) : (s.withChu b).unit i = s.unit i := rfl
@[simp] theorem withQxu_unit (s : State) (b : Qxu) (i : Nat) : (s.withQxu b).unit i = s.unit i := rfl
@[simp] theorem withLmn_unit (s : State) (b : Lmn) (i : Nat) : (s.withLmn b).unit i = s.unit i := rfl
@[simp] theorem withRte_unit (s : State) (b : Rte) (i : Nat) : (s.withRte b).unit i = s.unit i := rfl
@[simp] theorem withZne_unit (s : State) (b : Zne) (i : Nat) : (s.withZne b).unit i = s.unit i := rfl
@[simp] theorem withBase_unit (s : State) (b : TimeBase) (i : Nat) : (s.withBase b).unit i = s.unit i := rfl
@[simp] theorem withPending_unit (s : State) (b : List Instr) (i : Nat) : (s.withPending b).unit i = s.unit i := rfl
@[simp] theorem setSlot_unit (s : State) (i : Nat) (v : Slot) (j : Nat) : (s.setSlot i v).unit j = s.unit j := rfl
@[simp] theorem setPartner_unit (s : State) (i : Nat) (v : Option Partner) (j : Nat) : (s.setPartner i v).unit j = s.unit j := rfl
@[simp] theorem setPlan_unit (s : State) (i : Nat) (v : Plan) (j : Nat) : (s.setPlan i v).unit j = s.unit j := rfl
@[simp] theorem setAccount_unit (s : State) (i : Nat) (v : Option Account) (j : Nat) : (s.setAccount i v).unit j = s.unit j := rfl
@[simp] theorem setEntry_unit (s : State) (i : Nat) (v : XEntry) (j : Nat) : (s.setEntry i v).unit j = s.unit j := rfl
@[simp] theorem setLink_unit (s : State) (i : Link) (v : LinkRec) (j : Nat) : (s.setLink i v).unit j = s.unit j := rfl
@[simp] theorem setRoute_unit (s : State) (i : Nat) (v : Route) (j : Nat) : (s.setRoute i v).unit j = s.unit j := rfl
@[simp] theorem setZone_unit (s : State) (i : Nat) (v : Zone) (j : Nat) : (s.setZone i v).unit j = s.unit j := rfl
@[simp] theorem setUnit_unit_self (s : State) (i : Nat) (v : UnitRec) : (s.setUnit i v).unit i = v := by
  simp [unit, setUnit]
theorem setUnit_unit (s : State) (i j : Nat) (v : UnitRec) : (s.setUnit i v).unit j = if i = j then v else s.unit j := by
  simp [unit, setUnit, tget_tset]

/-! ### Visitors and paths -/

theorem visitor_eq (s : State) (i : Nat) : s.visitor i = (s.slot i).visitor := rfl

@[simp] theorem setSlot_visitor_self (s : State) (i : Nat) (v : Slot) : (s.setSlot i v).visitor i = v.visitor := by
  simp [visitor]

theorem setSlot_visitor (s : State) (i j : Nat) (v : Slot) :
    (s.setSlot i v).visitor j = if i = j then v.visitor else s.visitor j := by
  unfold visitor
  rw [setSlot_slot]
  split <;> rfl

@[simp] theorem setPath_path_self (s : State) (r : Nat) (c : TrafficClass) (p : Path) : (s.setPath r c p).path r c = p := by
  simp [path, setPath]

theorem setPath_path (s : State) (r r' : Nat) (c c' : TrafficClass) (p : Path) :
    (s.setPath r c p).path r' c' = if r = r' ∧ c = c' then p else s.path r' c' := by
  unfold path setPath
  rw [setRoute_route]
  by_cases h : r = r'
  · subst h; simp [cget_cset]
  · simp [h]

end Sys2Proof.Machine.State
end

