-- ==== Sys2Proof/Laws/Frames.lean ====
section
/-! SUPPORT. For each shared operation, the blocks of the part it leaves as they were. The blocks not named in a lemma are
the ones the operation may write. -/

namespace Sys2Proof.Machine

/-- What every step of a fold keeps, the fold keeps. -/
theorem foldl_keeps {σ β γ : Type} (g : σ → γ) (f : σ → β → σ) (h : ∀ s x, g (f s x) = g s) (l : List β) (s : σ) :
    g (l.foldl f s) = g s := by
  induction l generalizing s with
  | nil => rfl
  | cons x xs ih => rw [List.foldl_cons, ih, h]

theorem giveNotice_frame (k : NoticeKind) (j : Subject) (d v1 v2 v3 v4 v5 : Byte) (s : State) :
    (giveNotice k j d v1 v2 v3 v4 v5 s).vrg = s.vrg ∧ (giveNotice k j d v1 v2 v3 v4 v5 s).chu = s.chu ∧ (giveNotice k j d v1 v2 v3 v4 v5 s).qxu = s.qxu ∧ (giveNotice k j d v1 v2 v3 v4 v5 s).lmn = s.lmn ∧ (giveNotice k j d v1 v2 v3 v4 v5 s).rte = s.rte ∧ (giveNotice k j d v1 v2 v3 v4 v5 s).zne = s.zne ∧ (giveNotice k j d v1 v2 v3 v4 v5 s).rdc = s.rdc ∧ (giveNotice k j d v1 v2 v3 v4 v5 s).base = s.base ∧ (giveNotice k j d v1 v2 v3 v4 v5 s).pending = s.pending := by
  refine ⟨?_, ?_, ?_, ?_, ?_, ?_, ?_, ?_, ?_⟩ <;>
    (unfold giveNotice; (try dsimp only); (repeat' split); all_goals simp)

@[simp] theorem giveNotice_vrg (k : NoticeKind) (j : Subject) (d v1 v2 v3 v4 v5 : Byte) (s : State) : (giveNotice k j d v1 v2 v3 v4 v5 s).vrg = s.vrg := (giveNotice_frame k j d v1 v2 v3 v4 v5 s).1
@[simp] theorem giveNotice_chu (k : NoticeKind) (j : Subject) (d v1 v2 v3 v4 v5 : Byte) (s : State) : (giveNotice k j d v1 v2 v3 v4 v5 s).chu = s.chu := (giveNotice_frame k j d v1 v2 v3 v4 v5 s).2.1
@[simp] theorem giveNotice_qxu (k : NoticeKind) (j : Subject) (d v1 v2 v3 v4 v5 : Byte) (s : State) : (giveNotice k j d v1 v2 v3 v4 v5 s).qxu = s.qxu := (giveNotice_frame k j d v1 v2 v3 v4 v5 s).2.2.1
@[simp] theorem giveNotice_lmn (k : NoticeKind) (j : Subject) (d v1 v2 v3 v4 v5 : Byte) (s : State) : (giveNotice k j d v1 v2 v3 v4 v5 s).lmn = s.lmn := (giveNotice_frame k j d v1 v2 v3 v4 v5 s).2.2.2.1
@[simp] theorem giveNotice_rte (k : NoticeKind) (j : Subject) (d v1 v2 v3 v4 v5 : Byte) (s : State) : (giveNotice k j d v1 v2 v3 v4 v5 s).rte = s.rte := (giveNotice_frame k j d v1 v2 v3 v4 v5 s).2.2.2.2.1
@[simp] theorem giveNotice_zne (k : NoticeKind) (j : Subject) (d v1 v2 v3 v4 v5 : Byte) (s : State) : (giveNotice k j d v1 v2 v3 v4 v5 s).zne = s.zne := (giveNotice_frame k j d v1 v2 v3 v4 v5 s).2.2.2.2.2.1
@[simp] theorem giveNotice_rdc (k : NoticeKind) (j : Subject) (d v1 v2 v3 v4 v5 : Byte) (s : State) : (giveNotice k j d v1 v2 v3 v4 v5 s).rdc = s.rdc := (giveNotice_frame k j d v1 v2 v3 v4 v5 s).2.2.2.2.2.2.1
@[simp] theorem giveNotice_base (k : NoticeKind) (j : Subject) (d v1 v2 v3 v4 v5 : Byte) (s : State) : (giveNotice k j d v1 v2 v3 v4 v5 s).base = s.base := (giveNotice_frame k j d v1 v2 v3 v4 v5 s).2.2.2.2.2.2.2.1
@[simp] theorem giveNotice_pending (k : NoticeKind) (j : Subject) (d v1 v2 v3 v4 v5 : Byte) (s : State) : (giveNotice k j d v1 v2 v3 v4 v5 s).pending = s.pending := (giveNotice_frame k j d v1 v2 v3 v4 v5 s).2.2.2.2.2.2.2.2

theorem setTag_frame (t : Fin 16) (b : Bool) (s : State) :
    (setTag t b s).vrg = s.vrg ∧ (setTag t b s).chu = s.chu ∧ (setTag t b s).qxu = s.qxu ∧ (setTag t b s).lmn = s.lmn ∧ (setTag t b s).rte = s.rte ∧ (setTag t b s).zne = s.zne ∧ (setTag t b s).rdc = s.rdc ∧ (setTag t b s).base = s.base ∧ (setTag t b s).pending = s.pending := by
  refine ⟨?_, ?_, ?_, ?_, ?_, ?_, ?_, ?_, ?_⟩ <;>
    (unfold setTag; (try dsimp only); all_goals simp)

@[simp] theorem setTag_vrg (t : Fin 16) (b : Bool) (s : State) : (setTag t b s).vrg = s.vrg := (setTag_frame t b s).1
@[simp] theorem setTag_chu (t : Fin 16) (b : Bool) (s : State) : (setTag t b s).chu = s.chu := (setTag_frame t b s).2.1
@[simp] theorem setTag_qxu (t : Fin 16) (b : Bool) (s : State) : (setTag t b s).qxu = s.qxu := (setTag_frame t b s).2.2.1
@[simp] theorem setTag_lmn (t : Fin 16) (b : Bool) (s : State) : (setTag t b s).lmn = s.lmn := (setTag_frame t b s).2.2.2.1
@[simp] theorem setTag_rte (t : Fin 16) (b : Bool) (s : State) : (setTag t b s).rte = s.rte := (setTag_frame t b s).2.2.2.2.1
@[simp] theorem setTag_zne (t : Fin 16) (b : Bool) (s : State) : (setTag t b s).zne = s.zne := (setTag_frame t b s).2.2.2.2.2.1
@[simp] theorem setTag_rdc (t : Fin 16) (b : Bool) (s : State) : (setTag t b s).rdc = s.rdc := (setTag_frame t b s).2.2.2.2.2.2.1
@[simp] theorem setTag_base (t : Fin 16) (b : Bool) (s : State) : (setTag t b s).base = s.base := (setTag_frame t b s).2.2.2.2.2.2.2.1
@[simp] theorem setTag_pending (t : Fin 16) (b : Bool) (s : State) : (setTag t b s).pending = s.pending := (setTag_frame t b s).2.2.2.2.2.2.2.2

theorem pushAnswer_frame (k : Byte) (t : Fin 16) (p : List Byte) (s : State) :
    (pushAnswer k t p s).vrg = s.vrg ∧ (pushAnswer k t p s).chu = s.chu ∧ (pushAnswer k t p s).qxu = s.qxu ∧ (pushAnswer k t p s).lmn = s.lmn ∧ (pushAnswer k t p s).rte = s.rte ∧ (pushAnswer k t p s).zne = s.zne ∧ (pushAnswer k t p s).rdc = s.rdc ∧ (pushAnswer k t p s).base = s.base ∧ (pushAnswer k t p s).pending = s.pending := by
  refine ⟨?_, ?_, ?_, ?_, ?_, ?_, ?_, ?_, ?_⟩ <;>
    (unfold pushAnswer; (try dsimp only); all_goals simp)

@[simp] theorem pushAnswer_vrg (k : Byte) (t : Fin 16) (p : List Byte) (s : State) : (pushAnswer k t p s).vrg = s.vrg := (pushAnswer_frame k t p s).1
@[simp] theorem pushAnswer_chu (k : Byte) (t : Fin 16) (p : List Byte) (s : State) : (pushAnswer k t p s).chu = s.chu := (pushAnswer_frame k t p s).2.1
@[simp] theorem pushAnswer_qxu (k : Byte) (t : Fin 16) (p : List Byte) (s : State) : (pushAnswer k t p s).qxu = s.qxu := (pushAnswer_frame k t p s).2.2.1
@[simp] theorem pushAnswer_lmn (k : Byte) (t : Fin 16) (p : List Byte) (s : State) : (pushAnswer k t p s).lmn = s.lmn := (pushAnswer_frame k t p s).2.2.2.1
@[simp] theorem pushAnswer_rte (k : Byte) (t : Fin 16) (p : List Byte) (s : State) : (pushAnswer k t p s).rte = s.rte := (pushAnswer_frame k t p s).2.2.2.2.1
@[simp] theorem pushAnswer_zne (k : Byte) (t : Fin 16) (p : List Byte) (s : State) : (pushAnswer k t p s).zne = s.zne := (pushAnswer_frame k t p s).2.2.2.2.2.1
@[simp] theorem pushAnswer_rdc (k : Byte) (t : Fin 16) (p : List Byte) (s : State) : (pushAnswer k t p s).rdc = s.rdc := (pushAnswer_frame k t p s).2.2.2.2.2.2.1
@[simp] theorem pushAnswer_base (k : Byte) (t : Fin 16) (p : List Byte) (s : State) : (pushAnswer k t p s).base = s.base := (pushAnswer_frame k t p s).2.2.2.2.2.2.2.1
@[simp] theorem pushAnswer_pending (k : Byte) (t : Fin 16) (p : List Byte) (s : State) : (pushAnswer k t p s).pending = s.pending := (pushAnswer_frame k t p s).2.2.2.2.2.2.2.2

theorem answerInFlight_frame (k : Byte) (r : InFlight) (p : List Byte) (s : State) :
    (answerInFlight k r p s).vrg = s.vrg ∧ (answerInFlight k r p s).chu = s.chu ∧ (answerInFlight k r p s).qxu = s.qxu ∧ (answerInFlight k r p s).lmn = s.lmn ∧ (answerInFlight k r p s).rte = s.rte ∧ (answerInFlight k r p s).zne = s.zne ∧ (answerInFlight k r p s).rdc = s.rdc ∧ (answerInFlight k r p s).base = s.base ∧ (answerInFlight k r p s).pending = s.pending := by
  refine ⟨?_, ?_, ?_, ?_, ?_, ?_, ?_, ?_, ?_⟩ <;>
    (unfold answerInFlight; (repeat' split); all_goals simp)

@[simp] theorem answerInFlight_vrg (k : Byte) (r : InFlight) (p : List Byte) (s : State) : (answerInFlight k r p s).vrg = s.vrg := (answerInFlight_frame k r p s).1
@[simp] theorem answerInFlight_chu (k : Byte) (r : InFlight) (p : List Byte) (s : State) : (answerInFlight k r p s).chu = s.chu := (answerInFlight_frame k r p s).2.1
@[simp] theorem answerInFlight_qxu (k : Byte) (r : InFlight) (p : List Byte) (s : State) : (answerInFlight k r p s).qxu = s.qxu := (answerInFlight_frame k r p s).2.2.1
@[simp] theorem answerInFlight_lmn (k : Byte) (r : InFlight) (p : List Byte) (s : State) : (answerInFlight k r p s).lmn = s.lmn := (answerInFlight_frame k r p s).2.2.2.1
@[simp] theorem answerInFlight_rte (k : Byte) (r : InFlight) (p : List Byte) (s : State) : (answerInFlight k r p s).rte = s.rte := (answerInFlight_frame k r p s).2.2.2.2.1
@[simp] theorem answerInFlight_zne (k : Byte) (r : InFlight) (p : List Byte) (s : State) : (answerInFlight k r p s).zne = s.zne := (answerInFlight_frame k r p s).2.2.2.2.2.1
@[simp] theorem answerInFlight_rdc (k : Byte) (r : InFlight) (p : List Byte) (s : State) : (answerInFlight k r p s).rdc = s.rdc := (answerInFlight_frame k r p s).2.2.2.2.2.2.1
@[simp] theorem answerInFlight_base (k : Byte) (r : InFlight) (p : List Byte) (s : State) : (answerInFlight k r p s).base = s.base := (answerInFlight_frame k r p s).2.2.2.2.2.2.2.1
@[simp] theorem answerInFlight_pending (k : Byte) (r : InFlight) (p : List Byte) (s : State) : (answerInFlight k r p s).pending = s.pending := (answerInFlight_frame k r p s).2.2.2.2.2.2.2.2

theorem countDiscard_frame (c : DiscardCount) (s : State) :
    (countDiscard c s).vrg = s.vrg ∧ (countDiscard c s).chu = s.chu ∧ (countDiscard c s).qxu = s.qxu ∧ (countDiscard c s).lmn = s.lmn ∧ (countDiscard c s).rte = s.rte ∧ (countDiscard c s).zne = s.zne ∧ (countDiscard c s).rdc = s.rdc ∧ (countDiscard c s).base = s.base ∧ (countDiscard c s).pending = s.pending := by
  refine ⟨?_, ?_, ?_, ?_, ?_, ?_, ?_, ?_, ?_⟩ <;>
    (unfold countDiscard; (try dsimp only); (repeat' split); all_goals simp)

@[simp] theorem countDiscard_vrg (c : DiscardCount) (s : State) : (countDiscard c s).vrg = s.vrg := (countDiscard_frame c s).1
@[simp] theorem countDiscard_chu (c : DiscardCount) (s : State) : (countDiscard c s).chu = s.chu := (countDiscard_frame c s).2.1
@[simp] theorem countDiscard_qxu (c : DiscardCount) (s : State) : (countDiscard c s).qxu = s.qxu := (countDiscard_frame c s).2.2.1
@[simp] theorem countDiscard_lmn (c : DiscardCount) (s : State) : (countDiscard c s).lmn = s.lmn := (countDiscard_frame c s).2.2.2.1
@[simp] theorem countDiscard_rte (c : DiscardCount) (s : State) : (countDiscard c s).rte = s.rte := (countDiscard_frame c s).2.2.2.2.1
@[simp] theorem countDiscard_zne (c : DiscardCount) (s : State) : (countDiscard c s).zne = s.zne := (countDiscard_frame c s).2.2.2.2.2.1
@[simp] theorem countDiscard_rdc (c : DiscardCount) (s : State) : (countDiscard c s).rdc = s.rdc := (countDiscard_frame c s).2.2.2.2.2.2.1
@[simp] theorem countDiscard_base (c : DiscardCount) (s : State) : (countDiscard c s).base = s.base := (countDiscard_frame c s).2.2.2.2.2.2.2.1
@[simp] theorem countDiscard_pending (c : DiscardCount) (s : State) : (countDiscard c s).pending = s.pending := (countDiscard_frame c s).2.2.2.2.2.2.2.2

theorem settleOut_frame (n : Nat) (s : State) :
    (settleOut n s).vrg = s.vrg ∧ (settleOut n s).chu = s.chu ∧ (settleOut n s).qxu = s.qxu ∧ (settleOut n s).lmn = s.lmn ∧ (settleOut n s).rte = s.rte ∧ (settleOut n s).zne = s.zne ∧ (settleOut n s).rdc = s.rdc ∧ (settleOut n s).base = s.base ∧ (settleOut n s).pending = s.pending := by
  refine ⟨?_, ?_, ?_, ?_, ?_, ?_, ?_, ?_, ?_⟩ <;>
    (unfold settleOut; (try dsimp only); (repeat' split); all_goals simp)

@[simp] theorem settleOut_vrg (n : Nat) (s : State) : (settleOut n s).vrg = s.vrg := (settleOut_frame n s).1
@[simp] theorem settleOut_chu (n : Nat) (s : State) : (settleOut n s).chu = s.chu := (settleOut_frame n s).2.1
@[simp] theorem settleOut_qxu (n : Nat) (s : State) : (settleOut n s).qxu = s.qxu := (settleOut_frame n s).2.2.1
@[simp] theorem settleOut_lmn (n : Nat) (s : State) : (settleOut n s).lmn = s.lmn := (settleOut_frame n s).2.2.2.1
@[simp] theorem settleOut_rte (n : Nat) (s : State) : (settleOut n s).rte = s.rte := (settleOut_frame n s).2.2.2.2.1
@[simp] theorem settleOut_zne (n : Nat) (s : State) : (settleOut n s).zne = s.zne := (settleOut_frame n s).2.2.2.2.2.1
@[simp] theorem settleOut_rdc (n : Nat) (s : State) : (settleOut n s).rdc = s.rdc := (settleOut_frame n s).2.2.2.2.2.2.1
@[simp] theorem settleOut_base (n : Nat) (s : State) : (settleOut n s).base = s.base := (settleOut_frame n s).2.2.2.2.2.2.2.1
@[simp] theorem settleOut_pending (n : Nat) (s : State) : (settleOut n s).pending = s.pending := (settleOut_frame n s).2.2.2.2.2.2.2.2

theorem arrive_frame (f : Frame) (s : State) :
    (arrive f s).vrg = s.vrg ∧ (arrive f s).chu = s.chu ∧ (arrive f s).qxu = s.qxu ∧ (arrive f s).lmn = s.lmn ∧ (arrive f s).rte = s.rte ∧ (arrive f s).zne = s.zne ∧ (arrive f s).rdc = s.rdc ∧ (arrive f s).base = s.base ∧ (arrive f s).pending = s.pending := by
  refine ⟨?_, ?_, ?_, ?_, ?_, ?_, ?_, ?_, ?_⟩ <;>
    (unfold arrive; all_goals simp)

@[simp] theorem arrive_vrg (f : Frame) (s : State) : (arrive f s).vrg = s.vrg := (arrive_frame f s).1
@[simp] theorem arrive_chu (f : Frame) (s : State) : (arrive f s).chu = s.chu := (arrive_frame f s).2.1
@[simp] theorem arrive_qxu (f : Frame) (s : State) : (arrive f s).qxu = s.qxu := (arrive_frame f s).2.2.1
@[simp] theorem arrive_lmn (f : Frame) (s : State) : (arrive f s).lmn = s.lmn := (arrive_frame f s).2.2.2.1
@[simp] theorem arrive_rte (f : Frame) (s : State) : (arrive f s).rte = s.rte := (arrive_frame f s).2.2.2.2.1
@[simp] theorem arrive_zne (f : Frame) (s : State) : (arrive f s).zne = s.zne := (arrive_frame f s).2.2.2.2.2.1
@[simp] theorem arrive_rdc (f : Frame) (s : State) : (arrive f s).rdc = s.rdc := (arrive_frame f s).2.2.2.2.2.2.1
@[simp] theorem arrive_base (f : Frame) (s : State) : (arrive f s).base = s.base := (arrive_frame f s).2.2.2.2.2.2.2.1
@[simp] theorem arrive_pending (f : Frame) (s : State) : (arrive f s).pending = s.pending := (arrive_frame f s).2.2.2.2.2.2.2.2

theorem State.updVisitor_frame (i : Nat) (g : Visitor → Visitor) (s : State) :
    (s.updVisitor i g).rqp = s.rqp ∧ (s.updVisitor i g).chu = s.chu ∧ (s.updVisitor i g).qxu = s.qxu ∧ (s.updVisitor i g).lmn = s.lmn ∧ (s.updVisitor i g).rte = s.rte ∧ (s.updVisitor i g).zne = s.zne ∧ (s.updVisitor i g).rdc = s.rdc ∧ (s.updVisitor i g).base = s.base ∧ (s.updVisitor i g).pending = s.pending := by
  refine ⟨?_, ?_, ?_, ?_, ?_, ?_, ?_, ?_, ?_⟩ <;>
    (unfold State.updVisitor; (try dsimp only); (repeat' split); all_goals simp)

@[simp] theorem State.updVisitor_rqp (i : Nat) (g : Visitor → Visitor) (s : State) : (s.updVisitor i g).rqp = s.rqp := (State.updVisitor_frame i g s).1
@[simp] theorem State.updVisitor_chu (i : Nat) (g : Visitor → Visitor) (s : State) : (s.updVisitor i g).chu = s.chu := (State.updVisitor_frame i g s).2.1
@[simp] theorem State.updVisitor_qxu (i : Nat) (g : Visitor → Visitor) (s : State) : (s.updVisitor i g).qxu = s.qxu := (State.updVisitor_frame i g s).2.2.1
@[simp] theorem State.updVisitor_lmn (i : Nat) (g : Visitor → Visitor) (s : State) : (s.updVisitor i g).lmn = s.lmn := (State.updVisitor_frame i g s).2.2.2.1
@[simp] theorem State.updVisitor_rte (i : Nat) (g : Visitor → Visitor) (s : State) : (s.updVisitor i g).rte = s.rte := (State.updVisitor_frame i g s).2.2.2.2.1
@[simp] theorem State.updVisitor_zne (i : Nat) (g : Visitor → Visitor) (s : State) : (s.updVisitor i g).zne = s.zne := (State.updVisitor_frame i g s).2.2.2.2.2.1
@[simp] theorem State.updVisitor_rdc (i : Nat) (g : Visitor → Visitor) (s : State) : (s.updVisitor i g).rdc = s.rdc := (State.updVisitor_frame i g s).2.2.2.2.2.2.1
@[simp] theorem State.updVisitor_base (i : Nat) (g : Visitor → Visitor) (s : State) : (s.updVisitor i g).base = s.base := (State.updVisitor_frame i g s).2.2.2.2.2.2.2.1
@[simp] theorem State.updVisitor_pending (i : Nat) (g : Visitor → Visitor) (s : State) : (s.updVisitor i g).pending = s.pending := (State.updVisitor_frame i g s).2.2.2.2.2.2.2.2

theorem State.updQuota_frame (i : Nat) (g : Quota → Quota) (s : State) :
    (s.updQuota i g).rqp = s.rqp ∧ (s.updQuota i g).chu = s.chu ∧ (s.updQuota i g).qxu = s.qxu ∧ (s.updQuota i g).lmn = s.lmn ∧ (s.updQuota i g).rte = s.rte ∧ (s.updQuota i g).zne = s.zne ∧ (s.updQuota i g).rdc = s.rdc ∧ (s.updQuota i g).base = s.base ∧ (s.updQuota i g).pending = s.pending := by
  refine ⟨?_, ?_, ?_, ?_, ?_, ?_, ?_, ?_, ?_⟩ <;>
    (unfold State.updQuota; all_goals simp)

@[simp] theorem State.updQuota_rqp (i : Nat) (g : Quota → Quota) (s : State) : (s.updQuota i g).rqp = s.rqp := (State.updQuota_frame i g s).1
@[simp] theorem State.updQuota_chu (i : Nat) (g : Quota → Quota) (s : State) : (s.updQuota i g).chu = s.chu := (State.updQuota_frame i g s).2.1
@[simp] theorem State.updQuota_qxu (i : Nat) (g : Quota → Quota) (s : State) : (s.updQuota i g).qxu = s.qxu := (State.updQuota_frame i g s).2.2.1
@[simp] theorem State.updQuota_lmn (i : Nat) (g : Quota → Quota) (s : State) : (s.updQuota i g).lmn = s.lmn := (State.updQuota_frame i g s).2.2.2.1
@[simp] theorem State.updQuota_rte (i : Nat) (g : Quota → Quota) (s : State) : (s.updQuota i g).rte = s.rte := (State.updQuota_frame i g s).2.2.2.2.1
@[simp] theorem State.updQuota_zne (i : Nat) (g : Quota → Quota) (s : State) : (s.updQuota i g).zne = s.zne := (State.updQuota_frame i g s).2.2.2.2.2.1
@[simp] theorem State.updQuota_rdc (i : Nat) (g : Quota → Quota) (s : State) : (s.updQuota i g).rdc = s.rdc := (State.updQuota_frame i g s).2.2.2.2.2.2.1
@[simp] theorem State.updQuota_base (i : Nat) (g : Quota → Quota) (s : State) : (s.updQuota i g).base = s.base := (State.updQuota_frame i g s).2.2.2.2.2.2.2.1
@[simp] theorem State.updQuota_pending (i : Nat) (g : Quota → Quota) (s : State) : (s.updQuota i g).pending = s.pending := (State.updQuota_frame i g s).2.2.2.2.2.2.2.2

theorem State.setPath_frame (r : Nat) (c : TrafficClass) (p : Path) (s : State) :
    (s.setPath r c p).rqp = s.rqp ∧ (s.setPath r c p).vrg = s.vrg ∧ (s.setPath r c p).chu = s.chu ∧ (s.setPath r c p).qxu = s.qxu ∧ (s.setPath r c p).lmn = s.lmn ∧ (s.setPath r c p).zne = s.zne ∧ (s.setPath r c p).rdc = s.rdc ∧ (s.setPath r c p).base = s.base ∧ (s.setPath r c p).pending = s.pending := by
  refine ⟨?_, ?_, ?_, ?_, ?_, ?_, ?_, ?_, ?_⟩ <;>
    (unfold State.setPath; (try dsimp only); all_goals simp)

@[simp] theorem State.setPath_rqp (r : Nat) (c : TrafficClass) (p : Path) (s : State) : (s.setPath r c p).rqp = s.rqp := (State.setPath_frame r c p s).1
@[simp] theorem State.setPath_vrg (r : Nat) (c : TrafficClass) (p : Path) (s : State) : (s.setPath r c p).vrg = s.vrg := (State.setPath_frame r c p s).2.1
@[simp] theorem State.setPath_chu (r : Nat) (c : TrafficClass) (p : Path) (s : State) : (s.setPath r c p).chu = s.chu := (State.setPath_frame r c p s).2.2.1
@[simp] theorem State.setPath_qxu (r : Nat) (c : TrafficClass) (p : Path) (s : State) : (s.setPath r c p).qxu = s.qxu := (State.setPath_frame r c p s).2.2.2.1
@[simp] theorem State.setPath_lmn (r : Nat) (c : TrafficClass) (p : Path) (s : State) : (s.setPath r c p).lmn = s.lmn := (State.setPath_frame r c p s).2.2.2.2.1
@[simp] theorem State.setPath_zne (r : Nat) (c : TrafficClass) (p : Path) (s : State) : (s.setPath r c p).zne = s.zne := (State.setPath_frame r c p s).2.2.2.2.2.1
@[simp] theorem State.setPath_rdc (r : Nat) (c : TrafficClass) (p : Path) (s : State) : (s.setPath r c p).rdc = s.rdc := (State.setPath_frame r c p s).2.2.2.2.2.2.1
@[simp] theorem State.setPath_base (r : Nat) (c : TrafficClass) (p : Path) (s : State) : (s.setPath r c p).base = s.base := (State.setPath_frame r c p s).2.2.2.2.2.2.2.1
@[simp] theorem State.setPath_pending (r : Nat) (c : TrafficClass) (p : Path) (s : State) : (s.setPath r c p).pending = s.pending := (State.setPath_frame r c p s).2.2.2.2.2.2.2.2

theorem State.setNav_frame (n : Nav) (s : State) :
    (s.setNav n).rqp = s.rqp ∧ (s.setNav n).vrg = s.vrg ∧ (s.setNav n).chu = s.chu ∧ (s.setNav n).qxu = s.qxu ∧ (s.setNav n).lmn = s.lmn ∧ (s.setNav n).rte = s.rte ∧ (s.setNav n).rdc = s.rdc ∧ (s.setNav n).base = s.base ∧ (s.setNav n).pending = s.pending := by
  refine ⟨?_, ?_, ?_, ?_, ?_, ?_, ?_, ?_, ?_⟩ <;>
    (unfold State.setNav; (try dsimp only); all_goals simp)

@[simp] theorem State.setNav_rqp (n : Nav) (s : State) : (s.setNav n).rqp = s.rqp := (State.setNav_frame n s).1
@[simp] theorem State.setNav_vrg (n : Nav) (s : State) : (s.setNav n).vrg = s.vrg := (State.setNav_frame n s).2.1
@[simp] theorem State.setNav_chu (n : Nav) (s : State) : (s.setNav n).chu = s.chu := (State.setNav_frame n s).2.2.1
@[simp] theorem State.setNav_qxu (n : Nav) (s : State) : (s.setNav n).qxu = s.qxu := (State.setNav_frame n s).2.2.2.1
@[simp] theorem State.setNav_lmn (n : Nav) (s : State) : (s.setNav n).lmn = s.lmn := (State.setNav_frame n s).2.2.2.2.1
@[simp] theorem State.setNav_rte (n : Nav) (s : State) : (s.setNav n).rte = s.rte := (State.setNav_frame n s).2.2.2.2.2.1
@[simp] theorem State.setNav_rdc (n : Nav) (s : State) : (s.setNav n).rdc = s.rdc := (State.setNav_frame n s).2.2.2.2.2.2.1
@[simp] theorem State.setNav_base (n : Nav) (s : State) : (s.setNav n).base = s.base := (State.setNav_frame n s).2.2.2.2.2.2.2.1
@[simp] theorem State.setNav_pending (n : Nav) (s : State) : (s.setNav n).pending = s.pending := (State.setNav_frame n s).2.2.2.2.2.2.2.2

theorem State.setPos_frame (p : Position) (s : State) :
    (s.setPos p).rqp = s.rqp ∧ (s.setPos p).vrg = s.vrg ∧ (s.setPos p).chu = s.chu ∧ (s.setPos p).qxu = s.qxu ∧ (s.setPos p).lmn = s.lmn ∧ (s.setPos p).rte = s.rte ∧ (s.setPos p).rdc = s.rdc ∧ (s.setPos p).base = s.base ∧ (s.setPos p).pending = s.pending := by
  refine ⟨?_, ?_, ?_, ?_, ?_, ?_, ?_, ?_, ?_⟩ <;>
    (unfold State.setPos; (try dsimp only); all_goals simp)

@[simp] theorem State.setPos_rqp (p : Position) (s : State) : (s.setPos p).rqp = s.rqp := (State.setPos_frame p s).1
@[simp] theorem State.setPos_vrg (p : Position) (s : State) : (s.setPos p).vrg = s.vrg := (State.setPos_frame p s).2.1
@[simp] theorem State.setPos_chu (p : Position) (s : State) : (s.setPos p).chu = s.chu := (State.setPos_frame p s).2.2.1
@[simp] theorem State.setPos_qxu (p : Position) (s : State) : (s.setPos p).qxu = s.qxu := (State.setPos_frame p s).2.2.2.1
@[simp] theorem State.setPos_lmn (p : Position) (s : State) : (s.setPos p).lmn = s.lmn := (State.setPos_frame p s).2.2.2.2.1
@[simp] theorem State.setPos_rte (p : Position) (s : State) : (s.setPos p).rte = s.rte := (State.setPos_frame p s).2.2.2.2.2.1
@[simp] theorem State.setPos_rdc (p : Position) (s : State) : (s.setPos p).rdc = s.rdc := (State.setPos_frame p s).2.2.2.2.2.2.1
@[simp] theorem State.setPos_base (p : Position) (s : State) : (s.setPos p).base = s.base := (State.setPos_frame p s).2.2.2.2.2.2.2.1
@[simp] theorem State.setPos_pending (p : Position) (s : State) : (s.setPos p).pending = s.pending := (State.setPos_frame p s).2.2.2.2.2.2.2.2

theorem accountTaken_frame (s : State) :
    (accountTaken s).vrg = s.vrg ∧ (accountTaken s).qxu = s.qxu ∧ (accountTaken s).lmn = s.lmn ∧ (accountTaken s).rte = s.rte ∧ (accountTaken s).zne = s.zne ∧ (accountTaken s).rdc = s.rdc ∧ (accountTaken s).base = s.base ∧ (accountTaken s).pending = s.pending := by
  refine ⟨?_, ?_, ?_, ?_, ?_, ?_, ?_, ?_⟩ <;>
    (unfold accountTaken; (try dsimp only); (repeat' split); all_goals simp)

@[simp] theorem accountTaken_vrg (s : State) : (accountTaken s).vrg = s.vrg := (accountTaken_frame s).1
@[simp] theorem accountTaken_qxu (s : State) : (accountTaken s).qxu = s.qxu := (accountTaken_frame s).2.1
@[simp] theorem accountTaken_lmn (s : State) : (accountTaken s).lmn = s.lmn := (accountTaken_frame s).2.2.1
@[simp] theorem accountTaken_rte (s : State) : (accountTaken s).rte = s.rte := (accountTaken_frame s).2.2.2.1
@[simp] theorem accountTaken_zne (s : State) : (accountTaken s).zne = s.zne := (accountTaken_frame s).2.2.2.2.1
@[simp] theorem accountTaken_rdc (s : State) : (accountTaken s).rdc = s.rdc := (accountTaken_frame s).2.2.2.2.2.1
@[simp] theorem accountTaken_base (s : State) : (accountTaken s).base = s.base := (accountTaken_frame s).2.2.2.2.2.2.1
@[simp] theorem accountTaken_pending (s : State) : (accountTaken s).pending = s.pending := (accountTaken_frame s).2.2.2.2.2.2.2

theorem accountFreed_frame (s : State) :
    (accountFreed s).rqp = s.rqp ∧ (accountFreed s).vrg = s.vrg ∧ (accountFreed s).qxu = s.qxu ∧ (accountFreed s).lmn = s.lmn ∧ (accountFreed s).rte = s.rte ∧ (accountFreed s).zne = s.zne ∧ (accountFreed s).rdc = s.rdc ∧ (accountFreed s).base = s.base ∧ (accountFreed s).pending = s.pending := by
  refine ⟨?_, ?_, ?_, ?_, ?_, ?_, ?_, ?_, ?_⟩ <;>
    (unfold accountFreed; (try dsimp only); all_goals simp)

@[simp] theorem accountFreed_rqp (s : State) : (accountFreed s).rqp = s.rqp := (accountFreed_frame s).1
@[simp] theorem accountFreed_vrg (s : State) : (accountFreed s).vrg = s.vrg := (accountFreed_frame s).2.1
@[simp] theorem accountFreed_qxu (s : State) : (accountFreed s).qxu = s.qxu := (accountFreed_frame s).2.2.1
@[simp] theorem accountFreed_lmn (s : State) : (accountFreed s).lmn = s.lmn := (accountFreed_frame s).2.2.2.1
@[simp] theorem accountFreed_rte (s : State) : (accountFreed s).rte = s.rte := (accountFreed_frame s).2.2.2.2.1
@[simp] theorem accountFreed_zne (s : State) : (accountFreed s).zne = s.zne := (accountFreed_frame s).2.2.2.2.2.1
@[simp] theorem accountFreed_rdc (s : State) : (accountFreed s).rdc = s.rdc := (accountFreed_frame s).2.2.2.2.2.2.1
@[simp] theorem accountFreed_base (s : State) : (accountFreed s).base = s.base := (accountFreed_frame s).2.2.2.2.2.2.2.1
@[simp] theorem accountFreed_pending (s : State) : (accountFreed s).pending = s.pending := (accountFreed_frame s).2.2.2.2.2.2.2.2

theorem commitAccount_frame (i : Nat) (a : Account) (hit : Bool) (s : State) :
    (commitAccount i a hit s).vrg = s.vrg ∧ (commitAccount i a hit s).qxu = s.qxu ∧ (commitAccount i a hit s).lmn = s.lmn ∧ (commitAccount i a hit s).rte = s.rte ∧ (commitAccount i a hit s).zne = s.zne ∧ (commitAccount i a hit s).rdc = s.rdc ∧ (commitAccount i a hit s).base = s.base ∧ (commitAccount i a hit s).pending = s.pending := by
  refine ⟨?_, ?_, ?_, ?_, ?_, ?_, ?_, ?_⟩ <;>
    (unfold commitAccount; (try dsimp only); (repeat' split); all_goals simp)

@[simp] theorem commitAccount_vrg (i : Nat) (a : Account) (hit : Bool) (s : State) : (commitAccount i a hit s).vrg = s.vrg := (commitAccount_frame i a hit s).1
@[simp] theorem commitAccount_qxu (i : Nat) (a : Account) (hit : Bool) (s : State) : (commitAccount i a hit s).qxu = s.qxu := (commitAccount_frame i a hit s).2.1
@[simp] theorem commitAccount_lmn (i : Nat) (a : Account) (hit : Bool) (s : State) : (commitAccount i a hit s).lmn = s.lmn := (commitAccount_frame i a hit s).2.2.1
@[simp] theorem commitAccount_rte (i : Nat) (a : Account) (hit : Bool) (s : State) : (commitAccount i a hit s).rte = s.rte := (commitAccount_frame i a hit s).2.2.2.1
@[simp] theorem commitAccount_zne (i : Nat) (a : Account) (hit : Bool) (s : State) : (commitAccount i a hit s).zne = s.zne := (commitAccount_frame i a hit s).2.2.2.2.1
@[simp] theorem commitAccount_rdc (i : Nat) (a : Account) (hit : Bool) (s : State) : (commitAccount i a hit s).rdc = s.rdc := (commitAccount_frame i a hit s).2.2.2.2.2.1
@[simp] theorem commitAccount_base (i : Nat) (a : Account) (hit : Bool) (s : State) : (commitAccount i a hit s).base = s.base := (commitAccount_frame i a hit s).2.2.2.2.2.2.1
@[simp] theorem commitAccount_pending (i : Nat) (a : Account) (hit : Bool) (s : State) : (commitAccount i a hit s).pending = s.pending := (commitAccount_frame i a hit s).2.2.2.2.2.2.2

theorem State.updAccount_frame (i : Nat) (g : Account → Account) (s : State) :
    (s.updAccount i g).rqp = s.rqp ∧ (s.updAccount i g).vrg = s.vrg ∧ (s.updAccount i g).qxu = s.qxu ∧ (s.updAccount i g).lmn = s.lmn ∧ (s.updAccount i g).rte = s.rte ∧ (s.updAccount i g).zne = s.zne ∧ (s.updAccount i g).rdc = s.rdc ∧ (s.updAccount i g).base = s.base ∧ (s.updAccount i g).pending = s.pending := by
  refine ⟨?_, ?_, ?_, ?_, ?_, ?_, ?_, ?_, ?_⟩ <;>
    (unfold State.updAccount; (repeat' split); all_goals simp)

@[simp] theorem State.updAccount_rqp (i : Nat) (g : Account → Account) (s : State) : (s.updAccount i g).rqp = s.rqp := (State.updAccount_frame i g s).1
@[simp] theorem State.updAccount_vrg (i : Nat) (g : Account → Account) (s : State) : (s.updAccount i g).vrg = s.vrg := (State.updAccount_frame i g s).2.1
@[simp] theorem State.updAccount_qxu (i : Nat) (g : Account → Account) (s : State) : (s.updAccount i g).qxu = s.qxu := (State.updAccount_frame i g s).2.2.1
@[simp] theorem State.updAccount_lmn (i : Nat) (g : Account → Account) (s : State) : (s.updAccount i g).lmn = s.lmn := (State.updAccount_frame i g s).2.2.2.1
@[simp] theorem State.updAccount_rte (i : Nat) (g : Account → Account) (s : State) : (s.updAccount i g).rte = s.rte := (State.updAccount_frame i g s).2.2.2.2.1
@[simp] theorem State.updAccount_zne (i : Nat) (g : Account → Account) (s : State) : (s.updAccount i g).zne = s.zne := (State.updAccount_frame i g s).2.2.2.2.2.1
@[simp] theorem State.updAccount_rdc (i : Nat) (g : Account → Account) (s : State) : (s.updAccount i g).rdc = s.rdc := (State.updAccount_frame i g s).2.2.2.2.2.2.1
@[simp] theorem State.updAccount_base (i : Nat) (g : Account → Account) (s : State) : (s.updAccount i g).base = s.base := (State.updAccount_frame i g s).2.2.2.2.2.2.2.1
@[simp] theorem State.updAccount_pending (i : Nat) (g : Account → Account) (s : State) : (s.updAccount i g).pending = s.pending := (State.updAccount_frame i g s).2.2.2.2.2.2.2.2

theorem ratePost_frame (i : Nat) (p : Option Partner) (c : TrafficClass) (up : Bool) (n : Nat) (l : Link) (s : State) :
    ((ratePost i p c up n l s).1).vrg = s.vrg ∧ ((ratePost i p c up n l s).1).qxu = s.qxu ∧ ((ratePost i p c up n l s).1).lmn = s.lmn ∧ ((ratePost i p c up n l s).1).rte = s.rte ∧ ((ratePost i p c up n l s).1).zne = s.zne ∧ ((ratePost i p c up n l s).1).rdc = s.rdc ∧ ((ratePost i p c up n l s).1).base = s.base ∧ ((ratePost i p c up n l s).1).pending = s.pending := by
  refine ⟨?_, ?_, ?_, ?_, ?_, ?_, ?_, ?_⟩ <;>
    (unfold ratePost; (try dsimp only); (repeat' split); all_goals simp)

@[simp] theorem ratePost_vrg (i : Nat) (p : Option Partner) (c : TrafficClass) (up : Bool) (n : Nat) (l : Link) (s : State) : ((ratePost i p c up n l s).1).vrg = s.vrg := (ratePost_frame i p c up n l s).1
@[simp] theorem ratePost_qxu (i : Nat) (p : Option Partner) (c : TrafficClass) (up : Bool) (n : Nat) (l : Link) (s : State) : ((ratePost i p c up n l s).1).qxu = s.qxu := (ratePost_frame i p c up n l s).2.1
@[simp] theorem ratePost_lmn (i : Nat) (p : Option Partner) (c : TrafficClass) (up : Bool) (n : Nat) (l : Link) (s : State) : ((ratePost i p c up n l s).1).lmn = s.lmn := (ratePost_frame i p c up n l s).2.2.1
@[simp] theorem ratePost_rte (i : Nat) (p : Option Partner) (c : TrafficClass) (up : Bool) (n : Nat) (l : Link) (s : State) : ((ratePost i p c up n l s).1).rte = s.rte := (ratePost_frame i p c up n l s).2.2.2.1
@[simp] theorem ratePost_zne (i : Nat) (p : Option Partner) (c : TrafficClass) (up : Bool) (n : Nat) (l : Link) (s : State) : ((ratePost i p c up n l s).1).zne = s.zne := (ratePost_frame i p c up n l s).2.2.2.2.1
@[simp] theorem ratePost_rdc (i : Nat) (p : Option Partner) (c : TrafficClass) (up : Bool) (n : Nat) (l : Link) (s : State) : ((ratePost i p c up n l s).1).rdc = s.rdc := (ratePost_frame i p c up n l s).2.2.2.2.2.1
@[simp] theorem ratePost_base (i : Nat) (p : Option Partner) (c : TrafficClass) (up : Bool) (n : Nat) (l : Link) (s : State) : ((ratePost i p c up n l s).1).base = s.base := (ratePost_frame i p c up n l s).2.2.2.2.2.2.1
@[simp] theorem ratePost_pending (i : Nat) (p : Option Partner) (c : TrafficClass) (up : Bool) (n : Nat) (l : Link) (s : State) : ((ratePost i p c up n l s).1).pending = s.pending := (ratePost_frame i p c up n l s).2.2.2.2.2.2.2

theorem closeOut_frame (i : Nat) (p : Option Partner) (s : State) :
    ((closeOut i p s).1).vrg = s.vrg ∧ ((closeOut i p s).1).qxu = s.qxu ∧ ((closeOut i p s).1).lmn = s.lmn ∧ ((closeOut i p s).1).rte = s.rte ∧ ((closeOut i p s).1).zne = s.zne ∧ ((closeOut i p s).1).rdc = s.rdc ∧ ((closeOut i p s).1).base = s.base ∧ ((closeOut i p s).1).pending = s.pending := by
  refine ⟨?_, ?_, ?_, ?_, ?_, ?_, ?_, ?_⟩ <;>
    (unfold closeOut; (try dsimp only); (repeat' split); all_goals simp)

@[simp] theorem closeOut_vrg (i : Nat) (p : Option Partner) (s : State) : ((closeOut i p s).1).vrg = s.vrg := (closeOut_frame i p s).1
@[simp] theorem closeOut_qxu (i : Nat) (p : Option Partner) (s : State) : ((closeOut i p s).1).qxu = s.qxu := (closeOut_frame i p s).2.1
@[simp] theorem closeOut_lmn (i : Nat) (p : Option Partner) (s : State) : ((closeOut i p s).1).lmn = s.lmn := (closeOut_frame i p s).2.2.1
@[simp] theorem closeOut_rte (i : Nat) (p : Option Partner) (s : State) : ((closeOut i p s).1).rte = s.rte := (closeOut_frame i p s).2.2.2.1
@[simp] theorem closeOut_zne (i : Nat) (p : Option Partner) (s : State) : ((closeOut i p s).1).zne = s.zne := (closeOut_frame i p s).2.2.2.2.1
@[simp] theorem closeOut_rdc (i : Nat) (p : Option Partner) (s : State) : ((closeOut i p s).1).rdc = s.rdc := (closeOut_frame i p s).2.2.2.2.2.1
@[simp] theorem closeOut_base (i : Nat) (p : Option Partner) (s : State) : ((closeOut i p s).1).base = s.base := (closeOut_frame i p s).2.2.2.2.2.2.1
@[simp] theorem closeOut_pending (i : Nat) (p : Option Partner) (s : State) : ((closeOut i p s).1).pending = s.pending := (closeOut_frame i p s).2.2.2.2.2.2.2

theorem takeAccount_frame (i : Nat) (sid hnc : Digits) (s : State) :
    (takeAccount i sid hnc s).vrg = s.vrg ∧ (takeAccount i sid hnc s).qxu = s.qxu ∧ (takeAccount i sid hnc s).lmn = s.lmn ∧ (takeAccount i sid hnc s).rte = s.rte ∧ (takeAccount i sid hnc s).zne = s.zne ∧ (takeAccount i sid hnc s).rdc = s.rdc ∧ (takeAccount i sid hnc s).base = s.base ∧ (takeAccount i sid hnc s).pending = s.pending := by
  refine ⟨?_, ?_, ?_, ?_, ?_, ?_, ?_, ?_⟩ <;>
    (unfold takeAccount; (repeat' split); all_goals simp)

@[simp] theorem takeAccount_vrg (i : Nat) (sid hnc : Digits) (s : State) : (takeAccount i sid hnc s).vrg = s.vrg := (takeAccount_frame i sid hnc s).1
@[simp] theorem takeAccount_qxu (i : Nat) (sid hnc : Digits) (s : State) : (takeAccount i sid hnc s).qxu = s.qxu := (takeAccount_frame i sid hnc s).2.1
@[simp] theorem takeAccount_lmn (i : Nat) (sid hnc : Digits) (s : State) : (takeAccount i sid hnc s).lmn = s.lmn := (takeAccount_frame i sid hnc s).2.2.1
@[simp] theorem takeAccount_rte (i : Nat) (sid hnc : Digits) (s : State) : (takeAccount i sid hnc s).rte = s.rte := (takeAccount_frame i sid hnc s).2.2.2.1
@[simp] theorem takeAccount_zne (i : Nat) (sid hnc : Digits) (s : State) : (takeAccount i sid hnc s).zne = s.zne := (takeAccount_frame i sid hnc s).2.2.2.2.1
@[simp] theorem takeAccount_rdc (i : Nat) (sid hnc : Digits) (s : State) : (takeAccount i sid hnc s).rdc = s.rdc := (takeAccount_frame i sid hnc s).2.2.2.2.2.1
@[simp] theorem takeAccount_base (i : Nat) (sid hnc : Digits) (s : State) : (takeAccount i sid hnc s).base = s.base := (takeAccount_frame i sid hnc s).2.2.2.2.2.2.1
@[simp] theorem takeAccount_pending (i : Nat) (sid hnc : Digits) (s : State) : (takeAccount i sid hnc s).pending = s.pending := (takeAccount_frame i sid hnc s).2.2.2.2.2.2.2

theorem State.updVisitors_frame (p : Option Nat) (g : Nat → Nat) (s : State) :
    (s.updVisitors p g).rqp = s.rqp ∧ (s.updVisitors p g).vrg = s.vrg ∧ (s.updVisitors p g).qxu = s.qxu ∧ (s.updVisitors p g).lmn = s.lmn ∧ (s.updVisitors p g).rte = s.rte ∧ (s.updVisitors p g).zne = s.zne ∧ (s.updVisitors p g).rdc = s.rdc ∧ (s.updVisitors p g).base = s.base ∧ (s.updVisitors p g).pending = s.pending := by
  refine ⟨?_, ?_, ?_, ?_, ?_, ?_, ?_, ?_, ?_⟩ <;>
    (unfold State.updVisitors; (repeat' split); all_goals simp)

@[simp] theorem State.updVisitors_rqp (p : Option Nat) (g : Nat → Nat) (s : State) : (s.updVisitors p g).rqp = s.rqp := (State.updVisitors_frame p g s).1
@[simp] theorem State.updVisitors_vrg (p : Option Nat) (g : Nat → Nat) (s : State) : (s.updVisitors p g).vrg = s.vrg := (State.updVisitors_frame p g s).2.1
@[simp] theorem State.updVisitors_qxu (p : Option Nat) (g : Nat → Nat) (s : State) : (s.updVisitors p g).qxu = s.qxu := (State.updVisitors_frame p g s).2.2.1
@[simp] theorem State.updVisitors_lmn (p : Option Nat) (g : Nat → Nat) (s : State) : (s.updVisitors p g).lmn = s.lmn := (State.updVisitors_frame p g s).2.2.2.1
@[simp] theorem State.updVisitors_rte (p : Option Nat) (g : Nat → Nat) (s : State) : (s.updVisitors p g).rte = s.rte := (State.updVisitors_frame p g s).2.2.2.2.1
@[simp] theorem State.updVisitors_zne (p : Option Nat) (g : Nat → Nat) (s : State) : (s.updVisitors p g).zne = s.zne := (State.updVisitors_frame p g s).2.2.2.2.2.1
@[simp] theorem State.updVisitors_rdc (p : Option Nat) (g : Nat → Nat) (s : State) : (s.updVisitors p g).rdc = s.rdc := (State.updVisitors_frame p g s).2.2.2.2.2.2.1
@[simp] theorem State.updVisitors_base (p : Option Nat) (g : Nat → Nat) (s : State) : (s.updVisitors p g).base = s.base := (State.updVisitors_frame p g s).2.2.2.2.2.2.2.1
@[simp] theorem State.updVisitors_pending (p : Option Nat) (g : Nat → Nat) (s : State) : (s.updVisitors p g).pending = s.pending := (State.updVisitors_frame p g s).2.2.2.2.2.2.2.2

theorem State.updPlanCount_frame (i : Nat) (g : Nat → Nat) (s : State) :
    (s.updPlanCount i g).rqp = s.rqp ∧ (s.updPlanCount i g).vrg = s.vrg ∧ (s.updPlanCount i g).qxu = s.qxu ∧ (s.updPlanCount i g).lmn = s.lmn ∧ (s.updPlanCount i g).rte = s.rte ∧ (s.updPlanCount i g).zne = s.zne ∧ (s.updPlanCount i g).rdc = s.rdc ∧ (s.updPlanCount i g).base = s.base ∧ (s.updPlanCount i g).pending = s.pending := by
  refine ⟨?_, ?_, ?_, ?_, ?_, ?_, ?_, ?_, ?_⟩ <;>
    (unfold State.updPlanCount; (try dsimp only); all_goals simp)

@[simp] theorem State.updPlanCount_rqp (i : Nat) (g : Nat → Nat) (s : State) : (s.updPlanCount i g).rqp = s.rqp := (State.updPlanCount_frame i g s).1
@[simp] theorem State.updPlanCount_vrg (i : Nat) (g : Nat → Nat) (s : State) : (s.updPlanCount i g).vrg = s.vrg := (State.updPlanCount_frame i g s).2.1
@[simp] theorem State.updPlanCount_qxu (i : Nat) (g : Nat → Nat) (s : State) : (s.updPlanCount i g).qxu = s.qxu := (State.updPlanCount_frame i g s).2.2.1
@[simp] theorem State.updPlanCount_lmn (i : Nat) (g : Nat → Nat) (s : State) : (s.updPlanCount i g).lmn = s.lmn := (State.updPlanCount_frame i g s).2.2.2.1
@[simp] theorem State.updPlanCount_rte (i : Nat) (g : Nat → Nat) (s : State) : (s.updPlanCount i g).rte = s.rte := (State.updPlanCount_frame i g s).2.2.2.2.1
@[simp] theorem State.updPlanCount_zne (i : Nat) (g : Nat → Nat) (s : State) : (s.updPlanCount i g).zne = s.zne := (State.updPlanCount_frame i g s).2.2.2.2.2.1
@[simp] theorem State.updPlanCount_rdc (i : Nat) (g : Nat → Nat) (s : State) : (s.updPlanCount i g).rdc = s.rdc := (State.updPlanCount_frame i g s).2.2.2.2.2.2.1
@[simp] theorem State.updPlanCount_base (i : Nat) (g : Nat → Nat) (s : State) : (s.updPlanCount i g).base = s.base := (State.updPlanCount_frame i g s).2.2.2.2.2.2.2.1
@[simp] theorem State.updPlanCount_pending (i : Nat) (g : Nat → Nat) (s : State) : (s.updPlanCount i g).pending = s.pending := (State.updPlanCount_frame i g s).2.2.2.2.2.2.2.2

theorem exchangeNotice_frame (i : Nat) (s : State) :
    (exchangeNotice i s).vrg = s.vrg ∧ (exchangeNotice i s).chu = s.chu ∧ (exchangeNotice i s).qxu = s.qxu ∧ (exchangeNotice i s).lmn = s.lmn ∧ (exchangeNotice i s).rte = s.rte ∧ (exchangeNotice i s).zne = s.zne ∧ (exchangeNotice i s).rdc = s.rdc ∧ (exchangeNotice i s).base = s.base ∧ (exchangeNotice i s).pending = s.pending := by
  refine ⟨?_, ?_, ?_, ?_, ?_, ?_, ?_, ?_, ?_⟩ <;>
    (unfold exchangeNotice; (repeat' split); all_goals simp)

@[simp] theorem exchangeNotice_vrg (i : Nat) (s : State) : (exchangeNotice i s).vrg = s.vrg := (exchangeNotice_frame i s).1
@[simp] theorem exchangeNotice_chu (i : Nat) (s : State) : (exchangeNotice i s).chu = s.chu := (exchangeNotice_frame i s).2.1
@[simp] theorem exchangeNotice_qxu (i : Nat) (s : State) : (exchangeNotice i s).qxu = s.qxu := (exchangeNotice_frame i s).2.2.1
@[simp] theorem exchangeNotice_lmn (i : Nat) (s : State) : (exchangeNotice i s).lmn = s.lmn := (exchangeNotice_frame i s).2.2.2.1
@[simp] theorem exchangeNotice_rte (i : Nat) (s : State) : (exchangeNotice i s).rte = s.rte := (exchangeNotice_frame i s).2.2.2.2.1
@[simp] theorem exchangeNotice_zne (i : Nat) (s : State) : (exchangeNotice i s).zne = s.zne := (exchangeNotice_frame i s).2.2.2.2.2.1
@[simp] theorem exchangeNotice_rdc (i : Nat) (s : State) : (exchangeNotice i s).rdc = s.rdc := (exchangeNotice_frame i s).2.2.2.2.2.2.1
@[simp] theorem exchangeNotice_base (i : Nat) (s : State) : (exchangeNotice i s).base = s.base := (exchangeNotice_frame i s).2.2.2.2.2.2.2.1
@[simp] theorem exchangeNotice_pending (i : Nat) (s : State) : (exchangeNotice i s).pending = s.pending := (exchangeNotice_frame i s).2.2.2.2.2.2.2.2

theorem noticeToSend_frame (i : Nat) (s : State) :
    (noticeToSend i s).vrg = s.vrg ∧ (noticeToSend i s).chu = s.chu ∧ (noticeToSend i s).lmn = s.lmn ∧ (noticeToSend i s).rte = s.rte ∧ (noticeToSend i s).zne = s.zne ∧ (noticeToSend i s).rdc = s.rdc ∧ (noticeToSend i s).base = s.base ∧ (noticeToSend i s).pending = s.pending := by
  refine ⟨?_, ?_, ?_, ?_, ?_, ?_, ?_, ?_⟩ <;>
    (unfold noticeToSend; (try dsimp only); (repeat' split); all_goals simp)

@[simp] theorem noticeToSend_vrg (i : Nat) (s : State) : (noticeToSend i s).vrg = s.vrg := (noticeToSend_frame i s).1
@[simp] theorem noticeToSend_chu (i : Nat) (s : State) : (noticeToSend i s).chu = s.chu := (noticeToSend_frame i s).2.1
@[simp] theorem noticeToSend_lmn (i : Nat) (s : State) : (noticeToSend i s).lmn = s.lmn := (noticeToSend_frame i s).2.2.1
@[simp] theorem noticeToSend_rte (i : Nat) (s : State) : (noticeToSend i s).rte = s.rte := (noticeToSend_frame i s).2.2.2.1
@[simp] theorem noticeToSend_zne (i : Nat) (s : State) : (noticeToSend i s).zne = s.zne := (noticeToSend_frame i s).2.2.2.2.1
@[simp] theorem noticeToSend_rdc (i : Nat) (s : State) : (noticeToSend i s).rdc = s.rdc := (noticeToSend_frame i s).2.2.2.2.2.1
@[simp] theorem noticeToSend_base (i : Nat) (s : State) : (noticeToSend i s).base = s.base := (noticeToSend_frame i s).2.2.2.2.2.2.1
@[simp] theorem noticeToSend_pending (i : Nat) (s : State) : (noticeToSend i s).pending = s.pending := (noticeToSend_frame i s).2.2.2.2.2.2.2

theorem giveOwed_frame (s : State) :
    (giveOwed s).vrg = s.vrg ∧ (giveOwed s).chu = s.chu ∧ (giveOwed s).lmn = s.lmn ∧ (giveOwed s).rte = s.rte ∧ (giveOwed s).zne = s.zne ∧ (giveOwed s).rdc = s.rdc ∧ (giveOwed s).base = s.base ∧ (giveOwed s).pending = s.pending := by
  refine ⟨?_, ?_, ?_, ?_, ?_, ?_, ?_, ?_⟩ <;>
    (unfold giveOwed; (try dsimp only); (repeat' split); all_goals simp)

@[simp] theorem giveOwed_vrg (s : State) : (giveOwed s).vrg = s.vrg := (giveOwed_frame s).1
@[simp] theorem giveOwed_chu (s : State) : (giveOwed s).chu = s.chu := (giveOwed_frame s).2.1
@[simp] theorem giveOwed_lmn (s : State) : (giveOwed s).lmn = s.lmn := (giveOwed_frame s).2.2.1
@[simp] theorem giveOwed_rte (s : State) : (giveOwed s).rte = s.rte := (giveOwed_frame s).2.2.2.1
@[simp] theorem giveOwed_zne (s : State) : (giveOwed s).zne = s.zne := (giveOwed_frame s).2.2.2.2.1
@[simp] theorem giveOwed_rdc (s : State) : (giveOwed s).rdc = s.rdc := (giveOwed_frame s).2.2.2.2.2.1
@[simp] theorem giveOwed_base (s : State) : (giveOwed s).base = s.base := (giveOwed_frame s).2.2.2.2.2.2.1
@[simp] theorem giveOwed_pending (s : State) : (giveOwed s).pending = s.pending := (giveOwed_frame s).2.2.2.2.2.2.2

theorem createExchange_frame (i slot : Nat) (k : XKind) (s : State) :
    (createExchange i slot k s).chu = s.chu ∧ (createExchange i slot k s).lmn = s.lmn ∧ (createExchange i slot k s).rte = s.rte ∧ (createExchange i slot k s).zne = s.zne ∧ (createExchange i slot k s).rdc = s.rdc ∧ (createExchange i slot k s).base = s.base ∧ (createExchange i slot k s).pending = s.pending := by
  refine ⟨?_, ?_, ?_, ?_, ?_, ?_, ?_⟩ <;>
    (unfold createExchange; (try dsimp only); all_goals simp)

@[simp] theorem createExchange_chu (i slot : Nat) (k : XKind) (s : State) : (createExchange i slot k s).chu = s.chu := (createExchange_frame i slot k s).1
@[simp] theorem createExchange_lmn (i slot : Nat) (k : XKind) (s : State) : (createExchange i slot k s).lmn = s.lmn := (createExchange_frame i slot k s).2.1
@[simp] theorem createExchange_rte (i slot : Nat) (k : XKind) (s : State) : (createExchange i slot k s).rte = s.rte := (createExchange_frame i slot k s).2.2.1
@[simp] theorem createExchange_zne (i slot : Nat) (k : XKind) (s : State) : (createExchange i slot k s).zne = s.zne := (createExchange_frame i slot k s).2.2.2.1
@[simp] theorem createExchange_rdc (i slot : Nat) (k : XKind) (s : State) : (createExchange i slot k s).rdc = s.rdc := (createExchange_frame i slot k s).2.2.2.2.1
@[simp] theorem createExchange_base (i slot : Nat) (k : XKind) (s : State) : (createExchange i slot k s).base = s.base := (createExchange_frame i slot k s).2.2.2.2.2.1
@[simp] theorem createExchange_pending (i slot : Nat) (k : XKind) (s : State) : (createExchange i slot k s).pending = s.pending := (createExchange_frame i slot k s).2.2.2.2.2.2

theorem requestExchange_frame (slot : Nat) (k : XKind) (s : State) :
    (requestExchange slot k s).chu = s.chu ∧ (requestExchange slot k s).lmn = s.lmn ∧ (requestExchange slot k s).rte = s.rte ∧ (requestExchange slot k s).zne = s.zne ∧ (requestExchange slot k s).rdc = s.rdc ∧ (requestExchange slot k s).base = s.base ∧ (requestExchange slot k s).pending = s.pending := by
  refine ⟨?_, ?_, ?_, ?_, ?_, ?_, ?_⟩ <;>
    (unfold requestExchange; (try dsimp only); (repeat' split); all_goals simp)

@[simp] theorem requestExchange_chu (slot : Nat) (k : XKind) (s : State) : (requestExchange slot k s).chu = s.chu := (requestExchange_frame slot k s).1
@[simp] theorem requestExchange_lmn (slot : Nat) (k : XKind) (s : State) : (requestExchange slot k s).lmn = s.lmn := (requestExchange_frame slot k s).2.1
@[simp] theorem requestExchange_rte (slot : Nat) (k : XKind) (s : State) : (requestExchange slot k s).rte = s.rte := (requestExchange_frame slot k s).2.2.1
@[simp] theorem requestExchange_zne (slot : Nat) (k : XKind) (s : State) : (requestExchange slot k s).zne = s.zne := (requestExchange_frame slot k s).2.2.2.1
@[simp] theorem requestExchange_rdc (slot : Nat) (k : XKind) (s : State) : (requestExchange slot k s).rdc = s.rdc := (requestExchange_frame slot k s).2.2.2.2.1
@[simp] theorem requestExchange_base (slot : Nat) (k : XKind) (s : State) : (requestExchange slot k s).base = s.base := (requestExchange_frame slot k s).2.2.2.2.2.1
@[simp] theorem requestExchange_pending (slot : Nat) (k : XKind) (s : State) : (requestExchange slot k s).pending = s.pending := (requestExchange_frame slot k s).2.2.2.2.2.2

theorem serveDeferred_frame (i : Nat) (s : State) :
    (serveDeferred i s).chu = s.chu ∧ (serveDeferred i s).lmn = s.lmn ∧ (serveDeferred i s).rte = s.rte ∧ (serveDeferred i s).zne = s.zne ∧ (serveDeferred i s).rdc = s.rdc ∧ (serveDeferred i s).base = s.base ∧ (serveDeferred i s).pending = s.pending := by
  refine ⟨?_, ?_, ?_, ?_, ?_, ?_, ?_⟩ <;>
    (unfold serveDeferred; (try dsimp only); (repeat' split); all_goals simp)

@[simp] theorem serveDeferred_chu (i : Nat) (s : State) : (serveDeferred i s).chu = s.chu := (serveDeferred_frame i s).1
@[simp] theorem serveDeferred_lmn (i : Nat) (s : State) : (serveDeferred i s).lmn = s.lmn := (serveDeferred_frame i s).2.1
@[simp] theorem serveDeferred_rte (i : Nat) (s : State) : (serveDeferred i s).rte = s.rte := (serveDeferred_frame i s).2.2.1
@[simp] theorem serveDeferred_zne (i : Nat) (s : State) : (serveDeferred i s).zne = s.zne := (serveDeferred_frame i s).2.2.2.1
@[simp] theorem serveDeferred_rdc (i : Nat) (s : State) : (serveDeferred i s).rdc = s.rdc := (serveDeferred_frame i s).2.2.2.2.1
@[simp] theorem serveDeferred_base (i : Nat) (s : State) : (serveDeferred i s).base = s.base := (serveDeferred_frame i s).2.2.2.2.2.1
@[simp] theorem serveDeferred_pending (i : Nat) (s : State) : (serveDeferred i s).pending = s.pending := (serveDeferred_frame i s).2.2.2.2.2.2

theorem freeEntry_frame (i : Nat) (s : State) :
    (freeEntry i s).chu = s.chu ∧ (freeEntry i s).lmn = s.lmn ∧ (freeEntry i s).rte = s.rte ∧ (freeEntry i s).zne = s.zne ∧ (freeEntry i s).rdc = s.rdc ∧ (freeEntry i s).base = s.base ∧ (freeEntry i s).pending = s.pending := by
  refine ⟨?_, ?_, ?_, ?_, ?_, ?_, ?_⟩ <;>
    (unfold freeEntry; (try dsimp only); (repeat' split); all_goals simp)

@[simp] theorem freeEntry_chu (i : Nat) (s : State) : (freeEntry i s).chu = s.chu := (freeEntry_frame i s).1
@[simp] theorem freeEntry_lmn (i : Nat) (s : State) : (freeEntry i s).lmn = s.lmn := (freeEntry_frame i s).2.1
@[simp] theorem freeEntry_rte (i : Nat) (s : State) : (freeEntry i s).rte = s.rte := (freeEntry_frame i s).2.2.1
@[simp] theorem freeEntry_zne (i : Nat) (s : State) : (freeEntry i s).zne = s.zne := (freeEntry_frame i s).2.2.2.1
@[simp] theorem freeEntry_rdc (i : Nat) (s : State) : (freeEntry i s).rdc = s.rdc := (freeEntry_frame i s).2.2.2.2.1
@[simp] theorem freeEntry_base (i : Nat) (s : State) : (freeEntry i s).base = s.base := (freeEntry_frame i s).2.2.2.2.2.1
@[simp] theorem freeEntry_pending (i : Nat) (s : State) : (freeEntry i s).pending = s.pending := (freeEntry_frame i s).2.2.2.2.2.2

theorem leaveDeferred_frame (slot : Nat) (s : State) :
    (leaveDeferred slot s).rqp = s.rqp ∧ (leaveDeferred slot s).chu = s.chu ∧ (leaveDeferred slot s).lmn = s.lmn ∧ (leaveDeferred slot s).rte = s.rte ∧ (leaveDeferred slot s).zne = s.zne ∧ (leaveDeferred slot s).rdc = s.rdc ∧ (leaveDeferred slot s).base = s.base ∧ (leaveDeferred slot s).pending = s.pending := by
  refine ⟨?_, ?_, ?_, ?_, ?_, ?_, ?_, ?_⟩ <;>
    (unfold leaveDeferred; (try dsimp only); all_goals simp)

@[simp] theorem leaveDeferred_rqp (slot : Nat) (s : State) : (leaveDeferred slot s).rqp = s.rqp := (leaveDeferred_frame slot s).1
@[simp] theorem leaveDeferred_chu (slot : Nat) (s : State) : (leaveDeferred slot s).chu = s.chu := (leaveDeferred_frame slot s).2.1
@[simp] theorem leaveDeferred_lmn (slot : Nat) (s : State) : (leaveDeferred slot s).lmn = s.lmn := (leaveDeferred_frame slot s).2.2.1
@[simp] theorem leaveDeferred_rte (slot : Nat) (s : State) : (leaveDeferred slot s).rte = s.rte := (leaveDeferred_frame slot s).2.2.2.1
@[simp] theorem leaveDeferred_zne (slot : Nat) (s : State) : (leaveDeferred slot s).zne = s.zne := (leaveDeferred_frame slot s).2.2.2.2.1
@[simp] theorem leaveDeferred_rdc (slot : Nat) (s : State) : (leaveDeferred slot s).rdc = s.rdc := (leaveDeferred_frame slot s).2.2.2.2.2.1
@[simp] theorem leaveDeferred_base (slot : Nat) (s : State) : (leaveDeferred slot s).base = s.base := (leaveDeferred_frame slot s).2.2.2.2.2.2.1
@[simp] theorem leaveDeferred_pending (slot : Nat) (s : State) : (leaveDeferred slot s).pending = s.pending := (leaveDeferred_frame slot s).2.2.2.2.2.2.2

theorem shutGate_frame (slot : Nat) (c : Byte) (s : State) :
    (shutGate slot c s).chu = s.chu ∧ (shutGate slot c s).qxu = s.qxu ∧ (shutGate slot c s).lmn = s.lmn ∧ (shutGate slot c s).rte = s.rte ∧ (shutGate slot c s).zne = s.zne ∧ (shutGate slot c s).rdc = s.rdc ∧ (shutGate slot c s).base = s.base ∧ (shutGate slot c s).pending = s.pending := by
  refine ⟨?_, ?_, ?_, ?_, ?_, ?_, ?_, ?_⟩ <;>
    (unfold shutGate; (try dsimp only); (repeat' split); all_goals simp)

@[simp] theorem shutGate_chu (slot : Nat) (c : Byte) (s : State) : (shutGate slot c s).chu = s.chu := (shutGate_frame slot c s).1
@[simp] theorem shutGate_qxu (slot : Nat) (c : Byte) (s : State) : (shutGate slot c s).qxu = s.qxu := (shutGate_frame slot c s).2.1
@[simp] theorem shutGate_lmn (slot : Nat) (c : Byte) (s : State) : (shutGate slot c s).lmn = s.lmn := (shutGate_frame slot c s).2.2.1
@[simp] theorem shutGate_rte (slot : Nat) (c : Byte) (s : State) : (shutGate slot c s).rte = s.rte := (shutGate_frame slot c s).2.2.2.1
@[simp] theorem shutGate_zne (slot : Nat) (c : Byte) (s : State) : (shutGate slot c s).zne = s.zne := (shutGate_frame slot c s).2.2.2.2.1
@[simp] theorem shutGate_rdc (slot : Nat) (c : Byte) (s : State) : (shutGate slot c s).rdc = s.rdc := (shutGate_frame slot c s).2.2.2.2.2.1
@[simp] theorem shutGate_base (slot : Nat) (c : Byte) (s : State) : (shutGate slot c s).base = s.base := (shutGate_frame slot c s).2.2.2.2.2.2.1
@[simp] theorem shutGate_pending (slot : Nat) (c : Byte) (s : State) : (shutGate slot c s).pending = s.pending := (shutGate_frame slot c s).2.2.2.2.2.2.2

theorem gateEvaluation_frame (slot : Nat) (s : State) :
    (gateEvaluation slot s).chu = s.chu ∧ (gateEvaluation slot s).lmn = s.lmn ∧ (gateEvaluation slot s).rte = s.rte ∧ (gateEvaluation slot s).zne = s.zne ∧ (gateEvaluation slot s).rdc = s.rdc ∧ (gateEvaluation slot s).base = s.base ∧ (gateEvaluation slot s).pending = s.pending := by
  refine ⟨?_, ?_, ?_, ?_, ?_, ?_, ?_⟩ <;>
    (unfold gateEvaluation; (repeat' split); all_goals simp)

@[simp] theorem gateEvaluation_chu (slot : Nat) (s : State) : (gateEvaluation slot s).chu = s.chu := (gateEvaluation_frame slot s).1
@[simp] theorem gateEvaluation_lmn (slot : Nat) (s : State) : (gateEvaluation slot s).lmn = s.lmn := (gateEvaluation_frame slot s).2.1
@[simp] theorem gateEvaluation_rte (slot : Nat) (s : State) : (gateEvaluation slot s).rte = s.rte := (gateEvaluation_frame slot s).2.2.1
@[simp] theorem gateEvaluation_zne (slot : Nat) (s : State) : (gateEvaluation slot s).zne = s.zne := (gateEvaluation_frame slot s).2.2.2.1
@[simp] theorem gateEvaluation_rdc (slot : Nat) (s : State) : (gateEvaluation slot s).rdc = s.rdc := (gateEvaluation_frame slot s).2.2.2.2.1
@[simp] theorem gateEvaluation_base (slot : Nat) (s : State) : (gateEvaluation slot s).base = s.base := (gateEvaluation_frame slot s).2.2.2.2.2.1
@[simp] theorem gateEvaluation_pending (slot : Nat) (s : State) : (gateEvaluation slot s).pending = s.pending := (gateEvaluation_frame slot s).2.2.2.2.2.2

theorem reorderCheck_frame (slot : Nat) (s : State) :
    (reorderCheck slot s).chu = s.chu ∧ (reorderCheck slot s).lmn = s.lmn ∧ (reorderCheck slot s).rte = s.rte ∧ (reorderCheck slot s).zne = s.zne ∧ (reorderCheck slot s).rdc = s.rdc ∧ (reorderCheck slot s).base = s.base ∧ (reorderCheck slot s).pending = s.pending := by
  refine ⟨?_, ?_, ?_, ?_, ?_, ?_, ?_⟩ <;>
    (unfold reorderCheck; (repeat' split); all_goals simp)

@[simp] theorem reorderCheck_chu (slot : Nat) (s : State) : (reorderCheck slot s).chu = s.chu := (reorderCheck_frame slot s).1
@[simp] theorem reorderCheck_lmn (slot : Nat) (s : State) : (reorderCheck slot s).lmn = s.lmn := (reorderCheck_frame slot s).2.1
@[simp] theorem reorderCheck_rte (slot : Nat) (s : State) : (reorderCheck slot s).rte = s.rte := (reorderCheck_frame slot s).2.2.1
@[simp] theorem reorderCheck_zne (slot : Nat) (s : State) : (reorderCheck slot s).zne = s.zne := (reorderCheck_frame slot s).2.2.2.1
@[simp] theorem reorderCheck_rdc (slot : Nat) (s : State) : (reorderCheck slot s).rdc = s.rdc := (reorderCheck_frame slot s).2.2.2.2.1
@[simp] theorem reorderCheck_base (slot : Nat) (s : State) : (reorderCheck slot s).base = s.base := (reorderCheck_frame slot s).2.2.2.2.2.1
@[simp] theorem reorderCheck_pending (slot : Nat) (s : State) : (reorderCheck slot s).pending = s.pending := (reorderCheck_frame slot s).2.2.2.2.2.2

theorem quotaCharge_frame (slot n : Nat) (s : State) :
    (quotaCharge slot n s).chu = s.chu ∧ (quotaCharge slot n s).lmn = s.lmn ∧ (quotaCharge slot n s).rte = s.rte ∧ (quotaCharge slot n s).zne = s.zne ∧ (quotaCharge slot n s).rdc = s.rdc ∧ (quotaCharge slot n s).base = s.base ∧ (quotaCharge slot n s).pending = s.pending := by
  refine ⟨?_, ?_, ?_, ?_, ?_, ?_, ?_⟩ <;>
    (unfold quotaCharge; (try dsimp only); (repeat' split); all_goals simp)

@[simp] theorem quotaCharge_chu (slot n : Nat) (s : State) : (quotaCharge slot n s).chu = s.chu := (quotaCharge_frame slot n s).1
@[simp] theorem quotaCharge_lmn (slot n : Nat) (s : State) : (quotaCharge slot n s).lmn = s.lmn := (quotaCharge_frame slot n s).2.1
@[simp] theorem quotaCharge_rte (slot n : Nat) (s : State) : (quotaCharge slot n s).rte = s.rte := (quotaCharge_frame slot n s).2.2.1
@[simp] theorem quotaCharge_zne (slot n : Nat) (s : State) : (quotaCharge slot n s).zne = s.zne := (quotaCharge_frame slot n s).2.2.2.1
@[simp] theorem quotaCharge_rdc (slot n : Nat) (s : State) : (quotaCharge slot n s).rdc = s.rdc := (quotaCharge_frame slot n s).2.2.2.2.1
@[simp] theorem quotaCharge_base (slot n : Nat) (s : State) : (quotaCharge slot n s).base = s.base := (quotaCharge_frame slot n s).2.2.2.2.2.1
@[simp] theorem quotaCharge_pending (slot n : Nat) (s : State) : (quotaCharge slot n s).pending = s.pending := (quotaCharge_frame slot n s).2.2.2.2.2.2

theorem becameActive_frame (slot : Nat) (s : State) :
    (becameActive slot s).chu = s.chu ∧ (becameActive slot s).lmn = s.lmn ∧ (becameActive slot s).rte = s.rte ∧ (becameActive slot s).zne = s.zne ∧ (becameActive slot s).rdc = s.rdc ∧ (becameActive slot s).base = s.base ∧ (becameActive slot s).pending = s.pending := by
  refine ⟨?_, ?_, ?_, ?_, ?_, ?_, ?_⟩ <;>
    (unfold becameActive; (repeat' split); all_goals simp)

@[simp] theorem becameActive_chu (slot : Nat) (s : State) : (becameActive slot s).chu = s.chu := (becameActive_frame slot s).1
@[simp] theorem becameActive_lmn (slot : Nat) (s : State) : (becameActive slot s).lmn = s.lmn := (becameActive_frame slot s).2.1
@[simp] theorem becameActive_rte (slot : Nat) (s : State) : (becameActive slot s).rte = s.rte := (becameActive_frame slot s).2.2.1
@[simp] theorem becameActive_zne (slot : Nat) (s : State) : (becameActive slot s).zne = s.zne := (becameActive_frame slot s).2.2.2.1
@[simp] theorem becameActive_rdc (slot : Nat) (s : State) : (becameActive slot s).rdc = s.rdc := (becameActive_frame slot s).2.2.2.2.1
@[simp] theorem becameActive_base (slot : Nat) (s : State) : (becameActive slot s).base = s.base := (becameActive_frame slot s).2.2.2.2.2.1
@[simp] theorem becameActive_pending (slot : Nat) (s : State) : (becameActive slot s).pending = s.pending := (becameActive_frame slot s).2.2.2.2.2.2

theorem stopQuota_frame (slot : Nat) (s : State) :
    (stopQuota slot s).rqp = s.rqp ∧ (stopQuota slot s).chu = s.chu ∧ (stopQuota slot s).qxu = s.qxu ∧ (stopQuota slot s).lmn = s.lmn ∧ (stopQuota slot s).rte = s.rte ∧ (stopQuota slot s).zne = s.zne ∧ (stopQuota slot s).rdc = s.rdc ∧ (stopQuota slot s).base = s.base ∧ (stopQuota slot s).pending = s.pending := by
  refine ⟨?_, ?_, ?_, ?_, ?_, ?_, ?_, ?_, ?_⟩ <;>
    (unfold stopQuota; all_goals simp)

@[simp] theorem stopQuota_rqp (slot : Nat) (s : State) : (stopQuota slot s).rqp = s.rqp := (stopQuota_frame slot s).1
@[simp] theorem stopQuota_chu (slot : Nat) (s : State) : (stopQuota slot s).chu = s.chu := (stopQuota_frame slot s).2.1
@[simp] theorem stopQuota_qxu (slot : Nat) (s : State) : (stopQuota slot s).qxu = s.qxu := (stopQuota_frame slot s).2.2.1
@[simp] theorem stopQuota_lmn (slot : Nat) (s : State) : (stopQuota slot s).lmn = s.lmn := (stopQuota_frame slot s).2.2.2.1
@[simp] theorem stopQuota_rte (slot : Nat) (s : State) : (stopQuota slot s).rte = s.rte := (stopQuota_frame slot s).2.2.2.2.1
@[simp] theorem stopQuota_zne (slot : Nat) (s : State) : (stopQuota slot s).zne = s.zne := (stopQuota_frame slot s).2.2.2.2.2.1
@[simp] theorem stopQuota_rdc (slot : Nat) (s : State) : (stopQuota slot s).rdc = s.rdc := (stopQuota_frame slot s).2.2.2.2.2.2.1
@[simp] theorem stopQuota_base (slot : Nat) (s : State) : (stopQuota slot s).base = s.base := (stopQuota_frame slot s).2.2.2.2.2.2.2.1
@[simp] theorem stopQuota_pending (slot : Nat) (s : State) : (stopQuota slot s).pending = s.pending := (stopQuota_frame slot s).2.2.2.2.2.2.2.2

theorem lowerUnreported_frame (i : Nat) (r : Option Nat) (s : State) :
    (lowerUnreported i r s).rqp = s.rqp ∧ (lowerUnreported i r s).vrg = s.vrg ∧ (lowerUnreported i r s).qxu = s.qxu ∧ (lowerUnreported i r s).lmn = s.lmn ∧ (lowerUnreported i r s).rte = s.rte ∧ (lowerUnreported i r s).zne = s.zne ∧ (lowerUnreported i r s).rdc = s.rdc ∧ (lowerUnreported i r s).base = s.base ∧ (lowerUnreported i r s).pending = s.pending := by
  refine ⟨?_, ?_, ?_, ?_, ?_, ?_, ?_, ?_, ?_⟩ <;>
    (unfold lowerUnreported; all_goals simp)

@[simp] theorem lowerUnreported_rqp (i : Nat) (r : Option Nat) (s : State) : (lowerUnreported i r s).rqp = s.rqp := (lowerUnreported_frame i r s).1
@[simp] theorem lowerUnreported_vrg (i : Nat) (r : Option Nat) (s : State) : (lowerUnreported i r s).vrg = s.vrg := (lowerUnreported_frame i r s).2.1
@[simp] theorem lowerUnreported_qxu (i : Nat) (r : Option Nat) (s : State) : (lowerUnreported i r s).qxu = s.qxu := (lowerUnreported_frame i r s).2.2.1
@[simp] theorem lowerUnreported_lmn (i : Nat) (r : Option Nat) (s : State) : (lowerUnreported i r s).lmn = s.lmn := (lowerUnreported_frame i r s).2.2.2.1
@[simp] theorem lowerUnreported_rte (i : Nat) (r : Option Nat) (s : State) : (lowerUnreported i r s).rte = s.rte := (lowerUnreported_frame i r s).2.2.2.2.1
@[simp] theorem lowerUnreported_zne (i : Nat) (r : Option Nat) (s : State) : (lowerUnreported i r s).zne = s.zne := (lowerUnreported_frame i r s).2.2.2.2.2.1
@[simp] theorem lowerUnreported_rdc (i : Nat) (r : Option Nat) (s : State) : (lowerUnreported i r s).rdc = s.rdc := (lowerUnreported_frame i r s).2.2.2.2.2.2.1
@[simp] theorem lowerUnreported_base (i : Nat) (r : Option Nat) (s : State) : (lowerUnreported i r s).base = s.base := (lowerUnreported_frame i r s).2.2.2.2.2.2.2.1
@[simp] theorem lowerUnreported_pending (i : Nat) (r : Option Nat) (s : State) : (lowerUnreported i r s).pending = s.pending := (lowerUnreported_frame i r s).2.2.2.2.2.2.2.2

theorem activity_frame (slot : Nat) (s : State) :
    (activity slot s).rqp = s.rqp ∧ (activity slot s).chu = s.chu ∧ (activity slot s).qxu = s.qxu ∧ (activity slot s).lmn = s.lmn ∧ (activity slot s).rte = s.rte ∧ (activity slot s).zne = s.zne ∧ (activity slot s).rdc = s.rdc ∧ (activity slot s).base = s.base ∧ (activity slot s).pending = s.pending := by
  refine ⟨?_, ?_, ?_, ?_, ?_, ?_, ?_, ?_, ?_⟩ <;>
    (unfold activity; (try dsimp only); all_goals simp)

@[simp] theorem activity_rqp (slot : Nat) (s : State) : (activity slot s).rqp = s.rqp := (activity_frame slot s).1
@[simp] theorem activity_chu (slot : Nat) (s : State) : (activity slot s).chu = s.chu := (activity_frame slot s).2.1
@[simp] theorem activity_qxu (slot : Nat) (s : State) : (activity slot s).qxu = s.qxu := (activity_frame slot s).2.2.1
@[simp] theorem activity_lmn (slot : Nat) (s : State) : (activity slot s).lmn = s.lmn := (activity_frame slot s).2.2.2.1
@[simp] theorem activity_rte (slot : Nat) (s : State) : (activity slot s).rte = s.rte := (activity_frame slot s).2.2.2.2.1
@[simp] theorem activity_zne (slot : Nat) (s : State) : (activity slot s).zne = s.zne := (activity_frame slot s).2.2.2.2.2.1
@[simp] theorem activity_rdc (slot : Nat) (s : State) : (activity slot s).rdc = s.rdc := (activity_frame slot s).2.2.2.2.2.2.1
@[simp] theorem activity_base (slot : Nat) (s : State) : (activity slot s).base = s.base := (activity_frame slot s).2.2.2.2.2.2.2.1
@[simp] theorem activity_pending (slot : Nat) (s : State) : (activity slot s).pending = s.pending := (activity_frame slot s).2.2.2.2.2.2.2.2

theorem suspend_frame (slot : Nat) (s : State) :
    (suspend slot s).rqp = s.rqp ∧ (suspend slot s).chu = s.chu ∧ (suspend slot s).qxu = s.qxu ∧ (suspend slot s).lmn = s.lmn ∧ (suspend slot s).rte = s.rte ∧ (suspend slot s).zne = s.zne ∧ (suspend slot s).rdc = s.rdc ∧ (suspend slot s).base = s.base ∧ (suspend slot s).pending = s.pending := by
  refine ⟨?_, ?_, ?_, ?_, ?_, ?_, ?_, ?_, ?_⟩ <;>
    (unfold suspend; all_goals simp)

@[simp] theorem suspend_rqp (slot : Nat) (s : State) : (suspend slot s).rqp = s.rqp := (suspend_frame slot s).1
@[simp] theorem suspend_chu (slot : Nat) (s : State) : (suspend slot s).chu = s.chu := (suspend_frame slot s).2.1
@[simp] theorem suspend_qxu (slot : Nat) (s : State) : (suspend slot s).qxu = s.qxu := (suspend_frame slot s).2.2.1
@[simp] theorem suspend_lmn (slot : Nat) (s : State) : (suspend slot s).lmn = s.lmn := (suspend_frame slot s).2.2.2.1
@[simp] theorem suspend_rte (slot : Nat) (s : State) : (suspend slot s).rte = s.rte := (suspend_frame slot s).2.2.2.2.1
@[simp] theorem suspend_zne (slot : Nat) (s : State) : (suspend slot s).zne = s.zne := (suspend_frame slot s).2.2.2.2.2.1
@[simp] theorem suspend_rdc (slot : Nat) (s : State) : (suspend slot s).rdc = s.rdc := (suspend_frame slot s).2.2.2.2.2.2.1
@[simp] theorem suspend_base (slot : Nat) (s : State) : (suspend slot s).base = s.base := (suspend_frame slot s).2.2.2.2.2.2.2.1
@[simp] theorem suspend_pending (slot : Nat) (s : State) : (suspend slot s).pending = s.pending := (suspend_frame slot s).2.2.2.2.2.2.2.2

theorem activate_frame (slot : Nat) (s : State) :
    (activate slot s).rqp = s.rqp ∧ (activate slot s).chu = s.chu ∧ (activate slot s).qxu = s.qxu ∧ (activate slot s).lmn = s.lmn ∧ (activate slot s).rte = s.rte ∧ (activate slot s).zne = s.zne ∧ (activate slot s).rdc = s.rdc ∧ (activate slot s).base = s.base ∧ (activate slot s).pending = s.pending := by
  refine ⟨?_, ?_, ?_, ?_, ?_, ?_, ?_, ?_, ?_⟩ <;>
    (unfold activate; all_goals simp)

@[simp] theorem activate_rqp (slot : Nat) (s : State) : (activate slot s).rqp = s.rqp := (activate_frame slot s).1
@[simp] theorem activate_chu (slot : Nat) (s : State) : (activate slot s).chu = s.chu := (activate_frame slot s).2.1
@[simp] theorem activate_qxu (slot : Nat) (s : State) : (activate slot s).qxu = s.qxu := (activate_frame slot s).2.2.1
@[simp] theorem activate_lmn (slot : Nat) (s : State) : (activate slot s).lmn = s.lmn := (activate_frame slot s).2.2.2.1
@[simp] theorem activate_rte (slot : Nat) (s : State) : (activate slot s).rte = s.rte := (activate_frame slot s).2.2.2.2.1
@[simp] theorem activate_zne (slot : Nat) (s : State) : (activate slot s).zne = s.zne := (activate_frame slot s).2.2.2.2.2.1
@[simp] theorem activate_rdc (slot : Nat) (s : State) : (activate slot s).rdc = s.rdc := (activate_frame slot s).2.2.2.2.2.2.1
@[simp] theorem activate_base (slot : Nat) (s : State) : (activate slot s).base = s.base := (activate_frame slot s).2.2.2.2.2.2.2.1
@[simp] theorem activate_pending (slot : Nat) (s : State) : (activate slot s).pending = s.pending := (activate_frame slot s).2.2.2.2.2.2.2.2

theorem becomeFree_frame (slot : Nat) (s : State) :
    (becomeFree slot s).rqp = s.rqp ∧ (becomeFree slot s).qxu = s.qxu ∧ (becomeFree slot s).lmn = s.lmn ∧ (becomeFree slot s).rte = s.rte ∧ (becomeFree slot s).zne = s.zne ∧ (becomeFree slot s).rdc = s.rdc ∧ (becomeFree slot s).base = s.base ∧ (becomeFree slot s).pending = s.pending := by
  refine ⟨?_, ?_, ?_, ?_, ?_, ?_, ?_, ?_⟩ <;>
    (unfold becomeFree; (try dsimp only); (repeat' split); all_goals simp)

@[simp] theorem becomeFree_rqp (slot : Nat) (s : State) : (becomeFree slot s).rqp = s.rqp := (becomeFree_frame slot s).1
@[simp] theorem becomeFree_qxu (slot : Nat) (s : State) : (becomeFree slot s).qxu = s.qxu := (becomeFree_frame slot s).2.1
@[simp] theorem becomeFree_lmn (slot : Nat) (s : State) : (becomeFree slot s).lmn = s.lmn := (becomeFree_frame slot s).2.2.1
@[simp] theorem becomeFree_rte (slot : Nat) (s : State) : (becomeFree slot s).rte = s.rte := (becomeFree_frame slot s).2.2.2.1
@[simp] theorem becomeFree_zne (slot : Nat) (s : State) : (becomeFree slot s).zne = s.zne := (becomeFree_frame slot s).2.2.2.2.1
@[simp] theorem becomeFree_rdc (slot : Nat) (s : State) : (becomeFree slot s).rdc = s.rdc := (becomeFree_frame slot s).2.2.2.2.2.1
@[simp] theorem becomeFree_base (slot : Nat) (s : State) : (becomeFree slot s).base = s.base := (becomeFree_frame slot s).2.2.2.2.2.2.1
@[simp] theorem becomeFree_pending (slot : Nat) (s : State) : (becomeFree slot s).pending = s.pending := (becomeFree_frame slot s).2.2.2.2.2.2.2

theorem retireSteps_frame (slot : Nat) (r : RetireReason) (s : State) :
    (retireSteps slot r s).lmn = s.lmn ∧ (retireSteps slot r s).rte = s.rte ∧ (retireSteps slot r s).zne = s.zne ∧ (retireSteps slot r s).rdc = s.rdc ∧ (retireSteps slot r s).base = s.base ∧ (retireSteps slot r s).pending = s.pending := by
  refine ⟨?_, ?_, ?_, ?_, ?_, ?_⟩ <;>
    (unfold retireSteps; (try dsimp only); (repeat' split); all_goals simp)

@[simp] theorem retireSteps_lmn (slot : Nat) (r : RetireReason) (s : State) : (retireSteps slot r s).lmn = s.lmn := (retireSteps_frame slot r s).1
@[simp] theorem retireSteps_rte (slot : Nat) (r : RetireReason) (s : State) : (retireSteps slot r s).rte = s.rte := (retireSteps_frame slot r s).2.1
@[simp] theorem retireSteps_zne (slot : Nat) (r : RetireReason) (s : State) : (retireSteps slot r s).zne = s.zne := (retireSteps_frame slot r s).2.2.1
@[simp] theorem retireSteps_rdc (slot : Nat) (r : RetireReason) (s : State) : (retireSteps slot r s).rdc = s.rdc := (retireSteps_frame slot r s).2.2.2.1
@[simp] theorem retireSteps_base (slot : Nat) (r : RetireReason) (s : State) : (retireSteps slot r s).base = s.base := (retireSteps_frame slot r s).2.2.2.2.1
@[simp] theorem retireSteps_pending (slot : Nat) (r : RetireReason) (s : State) : (retireSteps slot r s).pending = s.pending := (retireSteps_frame slot r s).2.2.2.2.2

theorem departOrFree_frame (slot : Nat) (s : State) :
    (departOrFree slot s).lmn = s.lmn ∧ (departOrFree slot s).rte = s.rte ∧ (departOrFree slot s).zne = s.zne ∧ (departOrFree slot s).rdc = s.rdc ∧ (departOrFree slot s).base = s.base ∧ (departOrFree slot s).pending = s.pending := by
  refine ⟨?_, ?_, ?_, ?_, ?_, ?_⟩ <;>
    (unfold departOrFree; (try dsimp only); (repeat' split); all_goals simp)

@[simp] theorem departOrFree_lmn (slot : Nat) (s : State) : (departOrFree slot s).lmn = s.lmn := (departOrFree_frame slot s).1
@[simp] theorem departOrFree_rte (slot : Nat) (s : State) : (departOrFree slot s).rte = s.rte := (departOrFree_frame slot s).2.1
@[simp] theorem departOrFree_zne (slot : Nat) (s : State) : (departOrFree slot s).zne = s.zne := (departOrFree_frame slot s).2.2.1
@[simp] theorem departOrFree_rdc (slot : Nat) (s : State) : (departOrFree slot s).rdc = s.rdc := (departOrFree_frame slot s).2.2.2.1
@[simp] theorem departOrFree_base (slot : Nat) (s : State) : (departOrFree slot s).base = s.base := (departOrFree_frame slot s).2.2.2.2.1
@[simp] theorem departOrFree_pending (slot : Nat) (s : State) : (departOrFree slot s).pending = s.pending := (departOrFree_frame slot s).2.2.2.2.2

theorem retire_frame (slot : Nat) (r : RetireReason) (s : State) :
    (retire slot r s).lmn = s.lmn ∧ (retire slot r s).rte = s.rte ∧ (retire slot r s).zne = s.zne ∧ (retire slot r s).rdc = s.rdc ∧ (retire slot r s).base = s.base ∧ (retire slot r s).pending = s.pending := by
  refine ⟨?_, ?_, ?_, ?_, ?_, ?_⟩ <;>
    (unfold retire; (try dsimp only); (repeat' split); all_goals simp)

@[simp] theorem retire_lmn (slot : Nat) (r : RetireReason) (s : State) : (retire slot r s).lmn = s.lmn := (retire_frame slot r s).1
@[simp] theorem retire_rte (slot : Nat) (r : RetireReason) (s : State) : (retire slot r s).rte = s.rte := (retire_frame slot r s).2.1
@[simp] theorem retire_zne (slot : Nat) (r : RetireReason) (s : State) : (retire slot r s).zne = s.zne := (retire_frame slot r s).2.2.1
@[simp] theorem retire_rdc (slot : Nat) (r : RetireReason) (s : State) : (retire slot r s).rdc = s.rdc := (retire_frame slot r s).2.2.2.1
@[simp] theorem retire_base (slot : Nat) (r : RetireReason) (s : State) : (retire slot r s).base = s.base := (retire_frame slot r s).2.2.2.2.1
@[simp] theorem retire_pending (slot : Nat) (r : RetireReason) (s : State) : (retire slot r s).pending = s.pending := (retire_frame slot r s).2.2.2.2.2

theorem evict_frame (slot : Nat) (s : State) :
    (evict slot s).lmn = s.lmn ∧ (evict slot s).rte = s.rte ∧ (evict slot s).zne = s.zne ∧ (evict slot s).rdc = s.rdc ∧ (evict slot s).base = s.base ∧ (evict slot s).pending = s.pending := by
  refine ⟨?_, ?_, ?_, ?_, ?_, ?_⟩ <;>
    (unfold evict; (try dsimp only); (repeat' split); all_goals simp)

@[simp] theorem evict_lmn (slot : Nat) (s : State) : (evict slot s).lmn = s.lmn := (evict_frame slot s).1
@[simp] theorem evict_rte (slot : Nat) (s : State) : (evict slot s).rte = s.rte := (evict_frame slot s).2.1
@[simp] theorem evict_zne (slot : Nat) (s : State) : (evict slot s).zne = s.zne := (evict_frame slot s).2.2.1
@[simp] theorem evict_rdc (slot : Nat) (s : State) : (evict slot s).rdc = s.rdc := (evict_frame slot s).2.2.2.1
@[simp] theorem evict_base (slot : Nat) (s : State) : (evict slot s).base = s.base := (evict_frame slot s).2.2.2.2.1
@[simp] theorem evict_pending (slot : Nat) (s : State) : (evict slot s).pending = s.pending := (evict_frame slot s).2.2.2.2.2

theorem finalReportingEnd_frame (slot : Nat) (s : State) :
    (finalReportingEnd slot s).rqp = s.rqp ∧ (finalReportingEnd slot s).qxu = s.qxu ∧ (finalReportingEnd slot s).lmn = s.lmn ∧ (finalReportingEnd slot s).rte = s.rte ∧ (finalReportingEnd slot s).zne = s.zne ∧ (finalReportingEnd slot s).rdc = s.rdc ∧ (finalReportingEnd slot s).base = s.base ∧ (finalReportingEnd slot s).pending = s.pending := by
  refine ⟨?_, ?_, ?_, ?_, ?_, ?_, ?_, ?_⟩ <;>
    (unfold finalReportingEnd; all_goals simp)

@[simp] theorem finalReportingEnd_rqp (slot : Nat) (s : State) : (finalReportingEnd slot s).rqp = s.rqp := (finalReportingEnd_frame slot s).1
@[simp] theorem finalReportingEnd_qxu (slot : Nat) (s : State) : (finalReportingEnd slot s).qxu = s.qxu := (finalReportingEnd_frame slot s).2.1
@[simp] theorem finalReportingEnd_lmn (slot : Nat) (s : State) : (finalReportingEnd slot s).lmn = s.lmn := (finalReportingEnd_frame slot s).2.2.1
@[simp] theorem finalReportingEnd_rte (slot : Nat) (s : State) : (finalReportingEnd slot s).rte = s.rte := (finalReportingEnd_frame slot s).2.2.2.1
@[simp] theorem finalReportingEnd_zne (slot : Nat) (s : State) : (finalReportingEnd slot s).zne = s.zne := (finalReportingEnd_frame slot s).2.2.2.2.1
@[simp] theorem finalReportingEnd_rdc (slot : Nat) (s : State) : (finalReportingEnd slot s).rdc = s.rdc := (finalReportingEnd_frame slot s).2.2.2.2.2.1
@[simp] theorem finalReportingEnd_base (slot : Nat) (s : State) : (finalReportingEnd slot s).base = s.base := (finalReportingEnd_frame slot s).2.2.2.2.2.2.1
@[simp] theorem finalReportingEnd_pending (slot : Nat) (s : State) : (finalReportingEnd slot s).pending = s.pending := (finalReportingEnd_frame slot s).2.2.2.2.2.2.2

theorem startOfMuting_frame (s : State) :
    ((startOfMuting s).1).lmn = s.lmn ∧ ((startOfMuting s).1).rte = s.rte ∧ ((startOfMuting s).1).zne = s.zne ∧ ((startOfMuting s).1).rdc = s.rdc ∧ ((startOfMuting s).1).base = s.base ∧ ((startOfMuting s).1).pending = s.pending := by
  unfold startOfMuting
  refine ⟨foldl_keeps (fun (a : State × Nat × Nat) => a.1.lmn) _ (fun a x => ?_) _ _, foldl_keeps (fun (a : State × Nat × Nat) => a.1.rte) _ (fun a x => ?_) _ _, foldl_keeps (fun (a : State × Nat × Nat) => a.1.zne) _ (fun a x => ?_) _ _, foldl_keeps (fun (a : State × Nat × Nat) => a.1.rdc) _ (fun a x => ?_) _ _, foldl_keeps (fun (a : State × Nat × Nat) => a.1.base) _ (fun a x => ?_) _ _, foldl_keeps (fun (a : State × Nat × Nat) => a.1.pending) _ (fun a x => ?_) _ _⟩ <;>
    ((repeat' split); all_goals simp)

@[simp] theorem startOfMuting_lmn (s : State) : ((startOfMuting s).1).lmn = s.lmn := (startOfMuting_frame s).1
@[simp] theorem startOfMuting_rte (s : State) : ((startOfMuting s).1).rte = s.rte := (startOfMuting_frame s).2.1
@[simp] theorem startOfMuting_zne (s : State) : ((startOfMuting s).1).zne = s.zne := (startOfMuting_frame s).2.2.1
@[simp] theorem startOfMuting_rdc (s : State) : ((startOfMuting s).1).rdc = s.rdc := (startOfMuting_frame s).2.2.2.1
@[simp] theorem startOfMuting_base (s : State) : ((startOfMuting s).1).base = s.base := (startOfMuting_frame s).2.2.2.2.1
@[simp] theorem startOfMuting_pending (s : State) : ((startOfMuting s).1).pending = s.pending := (startOfMuting_frame s).2.2.2.2.2

theorem suspendUnit_frame (u : Nat) (s : State) :
    ((suspendUnit u s).1).rqp = s.rqp ∧ ((suspendUnit u s).1).chu = s.chu ∧ ((suspendUnit u s).1).qxu = s.qxu ∧ ((suspendUnit u s).1).lmn = s.lmn ∧ ((suspendUnit u s).1).rte = s.rte ∧ ((suspendUnit u s).1).zne = s.zne ∧ ((suspendUnit u s).1).rdc = s.rdc ∧ ((suspendUnit u s).1).base = s.base ∧ ((suspendUnit u s).1).pending = s.pending := by
  unfold suspendUnit
  refine ⟨foldl_keeps (fun (a : State × Nat) => a.1.rqp) _ (fun a x => ?_) _ _, foldl_keeps (fun (a : State × Nat) => a.1.chu) _ (fun a x => ?_) _ _, foldl_keeps (fun (a : State × Nat) => a.1.qxu) _ (fun a x => ?_) _ _, foldl_keeps (fun (a : State × Nat) => a.1.lmn) _ (fun a x => ?_) _ _, foldl_keeps (fun (a : State × Nat) => a.1.rte) _ (fun a x => ?_) _ _, foldl_keeps (fun (a : State × Nat) => a.1.zne) _ (fun a x => ?_) _ _, foldl_keeps (fun (a : State × Nat) => a.1.rdc) _ (fun a x => ?_) _ _, foldl_keeps (fun (a : State × Nat) => a.1.base) _ (fun a x => ?_) _ _, foldl_keeps (fun (a : State × Nat) => a.1.pending) _ (fun a x => ?_) _ _⟩ <;>
    ((repeat' split); all_goals simp)

@[simp] theorem suspendUnit_rqp (u : Nat) (s : State) : ((suspendUnit u s).1).rqp = s.rqp := (suspendUnit_frame u s).1
@[simp] theorem suspendUnit_chu (u : Nat) (s : State) : ((suspendUnit u s).1).chu = s.chu := (suspendUnit_frame u s).2.1
@[simp] theorem suspendUnit_qxu (u : Nat) (s : State) : ((suspendUnit u s).1).qxu = s.qxu := (suspendUnit_frame u s).2.2.1
@[simp] theorem suspendUnit_lmn (u : Nat) (s : State) : ((suspendUnit u s).1).lmn = s.lmn := (suspendUnit_frame u s).2.2.2.1
@[simp] theorem suspendUnit_rte (u : Nat) (s : State) : ((suspendUnit u s).1).rte = s.rte := (suspendUnit_frame u s).2.2.2.2.1
@[simp] theorem suspendUnit_zne (u : Nat) (s : State) : ((suspendUnit u s).1).zne = s.zne := (suspendUnit_frame u s).2.2.2.2.2.1
@[simp] theorem suspendUnit_rdc (u : Nat) (s : State) : ((suspendUnit u s).1).rdc = s.rdc := (suspendUnit_frame u s).2.2.2.2.2.2.1
@[simp] theorem suspendUnit_base (u : Nat) (s : State) : ((suspendUnit u s).1).base = s.base := (suspendUnit_frame u s).2.2.2.2.2.2.2.1
@[simp] theorem suspendUnit_pending (u : Nat) (s : State) : ((suspendUnit u s).1).pending = s.pending := (suspendUnit_frame u s).2.2.2.2.2.2.2.2

theorem authorizationAdmit_frame (slot : Nat) (b : Byte) (s : State) :
    (authorizationAdmit slot b s).lmn = s.lmn ∧ (authorizationAdmit slot b s).rte = s.rte ∧ (authorizationAdmit slot b s).zne = s.zne ∧ (authorizationAdmit slot b s).rdc = s.rdc ∧ (authorizationAdmit slot b s).base = s.base ∧ (authorizationAdmit slot b s).pending = s.pending := by
  refine ⟨?_, ?_, ?_, ?_, ?_, ?_⟩ <;>
    (unfold authorizationAdmit; (try dsimp only); (repeat' split); all_goals simp)

@[simp] theorem authorizationAdmit_lmn (slot : Nat) (b : Byte) (s : State) : (authorizationAdmit slot b s).lmn = s.lmn := (authorizationAdmit_frame slot b s).1
@[simp] theorem authorizationAdmit_rte (slot : Nat) (b : Byte) (s : State) : (authorizationAdmit slot b s).rte = s.rte := (authorizationAdmit_frame slot b s).2.1
@[simp] theorem authorizationAdmit_zne (slot : Nat) (b : Byte) (s : State) : (authorizationAdmit slot b s).zne = s.zne := (authorizationAdmit_frame slot b s).2.2.1
@[simp] theorem authorizationAdmit_rdc (slot : Nat) (b : Byte) (s : State) : (authorizationAdmit slot b s).rdc = s.rdc := (authorizationAdmit_frame slot b s).2.2.2.1
@[simp] theorem authorizationAdmit_base (slot : Nat) (b : Byte) (s : State) : (authorizationAdmit slot b s).base = s.base := (authorizationAdmit_frame slot b s).2.2.2.2.1
@[simp] theorem authorizationAdmit_pending (slot : Nat) (b : Byte) (s : State) : (authorizationAdmit slot b s).pending = s.pending := (authorizationAdmit_frame slot b s).2.2.2.2.2

theorem finalAfterQuota_frame (slot : Nat) (s : State) :
    (finalAfterQuota slot s).lmn = s.lmn ∧ (finalAfterQuota slot s).rte = s.rte ∧ (finalAfterQuota slot s).zne = s.zne ∧ (finalAfterQuota slot s).rdc = s.rdc ∧ (finalAfterQuota slot s).base = s.base ∧ (finalAfterQuota slot s).pending = s.pending := by
  refine ⟨?_, ?_, ?_, ?_, ?_, ?_⟩ <;>
    (unfold finalAfterQuota; (repeat' split); all_goals simp)

@[simp] theorem finalAfterQuota_lmn (slot : Nat) (s : State) : (finalAfterQuota slot s).lmn = s.lmn := (finalAfterQuota_frame slot s).1
@[simp] theorem finalAfterQuota_rte (slot : Nat) (s : State) : (finalAfterQuota slot s).rte = s.rte := (finalAfterQuota_frame slot s).2.1
@[simp] theorem finalAfterQuota_zne (slot : Nat) (s : State) : (finalAfterQuota slot s).zne = s.zne := (finalAfterQuota_frame slot s).2.2.1
@[simp] theorem finalAfterQuota_rdc (slot : Nat) (s : State) : (finalAfterQuota slot s).rdc = s.rdc := (finalAfterQuota_frame slot s).2.2.2.1
@[simp] theorem finalAfterQuota_base (slot : Nat) (s : State) : (finalAfterQuota slot s).base = s.base := (finalAfterQuota_frame slot s).2.2.2.2.1
@[simp] theorem finalAfterQuota_pending (slot : Nat) (s : State) : (finalAfterQuota slot s).pending = s.pending := (finalAfterQuota_frame slot s).2.2.2.2.2

theorem applyGrant_frame (x : Exchange) (u v : Nat) (f : Bool) (s : State) :
    (applyGrant x u v f s).lmn = s.lmn ∧ (applyGrant x u v f s).rte = s.rte ∧ (applyGrant x u v f s).zne = s.zne ∧ (applyGrant x u v f s).rdc = s.rdc ∧ (applyGrant x u v f s).base = s.base ∧ (applyGrant x u v f s).pending = s.pending := by
  refine ⟨?_, ?_, ?_, ?_, ?_, ?_⟩ <;>
    (unfold applyGrant; (try dsimp only); (repeat' split); all_goals simp)

@[simp] theorem applyGrant_lmn (x : Exchange) (u v : Nat) (f : Bool) (s : State) : (applyGrant x u v f s).lmn = s.lmn := (applyGrant_frame x u v f s).1
@[simp] theorem applyGrant_rte (x : Exchange) (u v : Nat) (f : Bool) (s : State) : (applyGrant x u v f s).rte = s.rte := (applyGrant_frame x u v f s).2.1
@[simp] theorem applyGrant_zne (x : Exchange) (u v : Nat) (f : Bool) (s : State) : (applyGrant x u v f s).zne = s.zne := (applyGrant_frame x u v f s).2.2.1
@[simp] theorem applyGrant_rdc (x : Exchange) (u v : Nat) (f : Bool) (s : State) : (applyGrant x u v f s).rdc = s.rdc := (applyGrant_frame x u v f s).2.2.2.1
@[simp] theorem applyGrant_base (x : Exchange) (u v : Nat) (f : Bool) (s : State) : (applyGrant x u v f s).base = s.base := (applyGrant_frame x u v f s).2.2.2.2.1
@[simp] theorem applyGrant_pending (x : Exchange) (u v : Nat) (f : Bool) (s : State) : (applyGrant x u v f s).pending = s.pending := (applyGrant_frame x u v f s).2.2.2.2.2

theorem refuseQuota_frame (slot : Nat) (c : Byte) (s : State) :
    (refuseQuota slot c s).chu = s.chu ∧ (refuseQuota slot c s).qxu = s.qxu ∧ (refuseQuota slot c s).lmn = s.lmn ∧ (refuseQuota slot c s).rte = s.rte ∧ (refuseQuota slot c s).zne = s.zne ∧ (refuseQuota slot c s).rdc = s.rdc ∧ (refuseQuota slot c s).base = s.base ∧ (refuseQuota slot c s).pending = s.pending := by
  refine ⟨?_, ?_, ?_, ?_, ?_, ?_, ?_, ?_⟩ <;>
    (unfold refuseQuota; (try dsimp only); all_goals simp)

@[simp] theorem refuseQuota_chu (slot : Nat) (c : Byte) (s : State) : (refuseQuota slot c s).chu = s.chu := (refuseQuota_frame slot c s).1
@[simp] theorem refuseQuota_qxu (slot : Nat) (c : Byte) (s : State) : (refuseQuota slot c s).qxu = s.qxu := (refuseQuota_frame slot c s).2.1
@[simp] theorem refuseQuota_lmn (slot : Nat) (c : Byte) (s : State) : (refuseQuota slot c s).lmn = s.lmn := (refuseQuota_frame slot c s).2.2.1
@[simp] theorem refuseQuota_rte (slot : Nat) (c : Byte) (s : State) : (refuseQuota slot c s).rte = s.rte := (refuseQuota_frame slot c s).2.2.2.1
@[simp] theorem refuseQuota_zne (slot : Nat) (c : Byte) (s : State) : (refuseQuota slot c s).zne = s.zne := (refuseQuota_frame slot c s).2.2.2.2.1
@[simp] theorem refuseQuota_rdc (slot : Nat) (c : Byte) (s : State) : (refuseQuota slot c s).rdc = s.rdc := (refuseQuota_frame slot c s).2.2.2.2.2.1
@[simp] theorem refuseQuota_base (slot : Nat) (c : Byte) (s : State) : (refuseQuota slot c s).base = s.base := (refuseQuota_frame slot c s).2.2.2.2.2.2.1
@[simp] theorem refuseQuota_pending (slot : Nat) (c : Byte) (s : State) : (refuseQuota slot c s).pending = s.pending := (refuseQuota_frame slot c s).2.2.2.2.2.2.2

theorem applyDeny_frame (x : Exchange) (s : State) :
    (applyDeny x s).lmn = s.lmn ∧ (applyDeny x s).rte = s.rte ∧ (applyDeny x s).zne = s.zne ∧ (applyDeny x s).rdc = s.rdc ∧ (applyDeny x s).base = s.base ∧ (applyDeny x s).pending = s.pending := by
  refine ⟨?_, ?_, ?_, ?_, ?_, ?_⟩ <;>
    (unfold applyDeny; (try dsimp only); (repeat' split); all_goals simp)

@[simp] theorem applyDeny_lmn (x : Exchange) (s : State) : (applyDeny x s).lmn = s.lmn := (applyDeny_frame x s).1
@[simp] theorem applyDeny_rte (x : Exchange) (s : State) : (applyDeny x s).rte = s.rte := (applyDeny_frame x s).2.1
@[simp] theorem applyDeny_zne (x : Exchange) (s : State) : (applyDeny x s).zne = s.zne := (applyDeny_frame x s).2.2.1
@[simp] theorem applyDeny_rdc (x : Exchange) (s : State) : (applyDeny x s).rdc = s.rdc := (applyDeny_frame x s).2.2.2.1
@[simp] theorem applyDeny_base (x : Exchange) (s : State) : (applyDeny x s).base = s.base := (applyDeny_frame x s).2.2.2.2.1
@[simp] theorem applyDeny_pending (x : Exchange) (s : State) : (applyDeny x s).pending = s.pending := (applyDeny_frame x s).2.2.2.2.2

theorem applyAck_frame (x : Exchange) (s : State) :
    (applyAck x s).lmn = s.lmn ∧ (applyAck x s).rte = s.rte ∧ (applyAck x s).zne = s.zne ∧ (applyAck x s).rdc = s.rdc ∧ (applyAck x s).base = s.base ∧ (applyAck x s).pending = s.pending := by
  refine ⟨?_, ?_, ?_, ?_, ?_, ?_⟩ <;>
    (unfold applyAck; all_goals simp)

@[simp] theorem applyAck_lmn (x : Exchange) (s : State) : (applyAck x s).lmn = s.lmn := (applyAck_frame x s).1
@[simp] theorem applyAck_rte (x : Exchange) (s : State) : (applyAck x s).rte = s.rte := (applyAck_frame x s).2.1
@[simp] theorem applyAck_zne (x : Exchange) (s : State) : (applyAck x s).zne = s.zne := (applyAck_frame x s).2.2.1
@[simp] theorem applyAck_rdc (x : Exchange) (s : State) : (applyAck x s).rdc = s.rdc := (applyAck_frame x s).2.2.2.1
@[simp] theorem applyAck_base (x : Exchange) (s : State) : (applyAck x s).base = s.base := (applyAck_frame x s).2.2.2.2.1
@[simp] theorem applyAck_pending (x : Exchange) (s : State) : (applyAck x s).pending = s.pending := (applyAck_frame x s).2.2.2.2.2

theorem applySecondFailure_frame (x : Exchange) (s : State) :
    (applySecondFailure x s).lmn = s.lmn ∧ (applySecondFailure x s).rte = s.rte ∧ (applySecondFailure x s).zne = s.zne ∧ (applySecondFailure x s).rdc = s.rdc ∧ (applySecondFailure x s).base = s.base ∧ (applySecondFailure x s).pending = s.pending := by
  refine ⟨?_, ?_, ?_, ?_, ?_, ?_⟩ <;>
    (unfold applySecondFailure; (repeat' split); all_goals simp)

@[simp] theorem applySecondFailure_lmn (x : Exchange) (s : State) : (applySecondFailure x s).lmn = s.lmn := (applySecondFailure_frame x s).1
@[simp] theorem applySecondFailure_rte (x : Exchange) (s : State) : (applySecondFailure x s).rte = s.rte := (applySecondFailure_frame x s).2.1
@[simp] theorem applySecondFailure_zne (x : Exchange) (s : State) : (applySecondFailure x s).zne = s.zne := (applySecondFailure_frame x s).2.2.1
@[simp] theorem applySecondFailure_rdc (x : Exchange) (s : State) : (applySecondFailure x s).rdc = s.rdc := (applySecondFailure_frame x s).2.2.2.1
@[simp] theorem applySecondFailure_base (x : Exchange) (s : State) : (applySecondFailure x s).base = s.base := (applySecondFailure_frame x s).2.2.2.2.1
@[simp] theorem applySecondFailure_pending (x : Exchange) (s : State) : (applySecondFailure x s).pending = s.pending := (applySecondFailure_frame x s).2.2.2.2.2

theorem requeue_frame (i : Nat) (x : Exchange) (s : State) :
    (requeue i x s).lmn = s.lmn ∧ (requeue i x s).rte = s.rte ∧ (requeue i x s).zne = s.zne ∧ (requeue i x s).rdc = s.rdc ∧ (requeue i x s).base = s.base ∧ (requeue i x s).pending = s.pending := by
  refine ⟨?_, ?_, ?_, ?_, ?_, ?_⟩ <;>
    (unfold requeue; (try dsimp only); all_goals simp)

@[simp] theorem requeue_lmn (i : Nat) (x : Exchange) (s : State) : (requeue i x s).lmn = s.lmn := (requeue_frame i x s).1
@[simp] theorem requeue_rte (i : Nat) (x : Exchange) (s : State) : (requeue i x s).rte = s.rte := (requeue_frame i x s).2.1
@[simp] theorem requeue_zne (i : Nat) (x : Exchange) (s : State) : (requeue i x s).zne = s.zne := (requeue_frame i x s).2.2.1
@[simp] theorem requeue_rdc (i : Nat) (x : Exchange) (s : State) : (requeue i x s).rdc = s.rdc := (requeue_frame i x s).2.2.2.1
@[simp] theorem requeue_base (i : Nat) (x : Exchange) (s : State) : (requeue i x s).base = s.base := (requeue_frame i x s).2.2.2.2.1
@[simp] theorem requeue_pending (i : Nat) (x : Exchange) (s : State) : (requeue i x s).pending = s.pending := (requeue_frame i x s).2.2.2.2.2

theorem failExchange_frame (i : Nat) (s : State) :
    (failExchange i s).lmn = s.lmn ∧ (failExchange i s).rte = s.rte ∧ (failExchange i s).zne = s.zne ∧ (failExchange i s).rdc = s.rdc ∧ (failExchange i s).base = s.base ∧ (failExchange i s).pending = s.pending := by
  refine ⟨?_, ?_, ?_, ?_, ?_, ?_⟩ <;>
    (unfold failExchange; (repeat' split); all_goals simp)

@[simp] theorem failExchange_lmn (i : Nat) (s : State) : (failExchange i s).lmn = s.lmn := (failExchange_frame i s).1
@[simp] theorem failExchange_rte (i : Nat) (s : State) : (failExchange i s).rte = s.rte := (failExchange_frame i s).2.1
@[simp] theorem failExchange_zne (i : Nat) (s : State) : (failExchange i s).zne = s.zne := (failExchange_frame i s).2.2.1
@[simp] theorem failExchange_rdc (i : Nat) (s : State) : (failExchange i s).rdc = s.rdc := (failExchange_frame i s).2.2.2.1
@[simp] theorem failExchange_base (i : Nat) (s : State) : (failExchange i s).base = s.base := (failExchange_frame i s).2.2.2.2.1
@[simp] theorem failExchange_pending (i : Nat) (s : State) : (failExchange i s).pending = s.pending := (failExchange_frame i s).2.2.2.2.2

theorem linksLeave_frame (p : Link → Bool) (s : State) :
    (linksLeave p s).lmn = s.lmn ∧ (linksLeave p s).rte = s.rte ∧ (linksLeave p s).zne = s.zne ∧ (linksLeave p s).rdc = s.rdc ∧ (linksLeave p s).base = s.base ∧ (linksLeave p s).pending = s.pending := by
  unfold linksLeave
  refine ⟨?_, ?_, ?_, ?_, ?_, ?_⟩ <;>
    (refine foldl_keeps _ _ (fun s x => ?_) _ _; (repeat' split); all_goals simp)

@[simp] theorem linksLeave_lmn (p : Link → Bool) (s : State) : (linksLeave p s).lmn = s.lmn := (linksLeave_frame p s).1
@[simp] theorem linksLeave_rte (p : Link → Bool) (s : State) : (linksLeave p s).rte = s.rte := (linksLeave_frame p s).2.1
@[simp] theorem linksLeave_zne (p : Link → Bool) (s : State) : (linksLeave p s).zne = s.zne := (linksLeave_frame p s).2.2.1
@[simp] theorem linksLeave_rdc (p : Link → Bool) (s : State) : (linksLeave p s).rdc = s.rdc := (linksLeave_frame p s).2.2.2.1
@[simp] theorem linksLeave_base (p : Link → Bool) (s : State) : (linksLeave p s).base = s.base := (linksLeave_frame p s).2.2.2.2.1
@[simp] theorem linksLeave_pending (p : Link → Bool) (s : State) : (linksLeave p s).pending = s.pending := (linksLeave_frame p s).2.2.2.2.2

theorem handoverNotice_frame (r : Nat) (c : TrafficClass) (d : Byte) (a b : Option Link) (s : State) :
    (handoverNotice r c d a b s).vrg = s.vrg ∧ (handoverNotice r c d a b s).chu = s.chu ∧ (handoverNotice r c d a b s).qxu = s.qxu ∧ (handoverNotice r c d a b s).lmn = s.lmn ∧ (handoverNotice r c d a b s).rte = s.rte ∧ (handoverNotice r c d a b s).zne = s.zne ∧ (handoverNotice r c d a b s).rdc = s.rdc ∧ (handoverNotice r c d a b s).base = s.base ∧ (handoverNotice r c d a b s).pending = s.pending := by
  refine ⟨?_, ?_, ?_, ?_, ?_, ?_, ?_, ?_, ?_⟩ <;>
    (unfold handoverNotice; all_goals simp)

@[simp] theorem handoverNotice_vrg (r : Nat) (c : TrafficClass) (d : Byte) (a b : Option Link) (s : State) : (handoverNotice r c d a b s).vrg = s.vrg := (handoverNotice_frame r c d a b s).1
@[simp] theorem handoverNotice_chu (r : Nat) (c : TrafficClass) (d : Byte) (a b : Option Link) (s : State) : (handoverNotice r c d a b s).chu = s.chu := (handoverNotice_frame r c d a b s).2.1
@[simp] theorem handoverNotice_qxu (r : Nat) (c : TrafficClass) (d : Byte) (a b : Option Link) (s : State) : (handoverNotice r c d a b s).qxu = s.qxu := (handoverNotice_frame r c d a b s).2.2.1
@[simp] theorem handoverNotice_lmn (r : Nat) (c : TrafficClass) (d : Byte) (a b : Option Link) (s : State) : (handoverNotice r c d a b s).lmn = s.lmn := (handoverNotice_frame r c d a b s).2.2.2.1
@[simp] theorem handoverNotice_rte (r : Nat) (c : TrafficClass) (d : Byte) (a b : Option Link) (s : State) : (handoverNotice r c d a b s).rte = s.rte := (handoverNotice_frame r c d a b s).2.2.2.2.1
@[simp] theorem handoverNotice_zne (r : Nat) (c : TrafficClass) (d : Byte) (a b : Option Link) (s : State) : (handoverNotice r c d a b s).zne = s.zne := (handoverNotice_frame r c d a b s).2.2.2.2.2.1
@[simp] theorem handoverNotice_rdc (r : Nat) (c : TrafficClass) (d : Byte) (a b : Option Link) (s : State) : (handoverNotice r c d a b s).rdc = s.rdc := (handoverNotice_frame r c d a b s).2.2.2.2.2.2.1
@[simp] theorem handoverNotice_base (r : Nat) (c : TrafficClass) (d : Byte) (a b : Option Link) (s : State) : (handoverNotice r c d a b s).base = s.base := (handoverNotice_frame r c d a b s).2.2.2.2.2.2.2.1
@[simp] theorem handoverNotice_pending (r : Nat) (c : TrafficClass) (d : Byte) (a b : Option Link) (s : State) : (handoverNotice r c d a b s).pending = s.pending := (handoverNotice_frame r c d a b s).2.2.2.2.2.2.2.2

theorem movePath_frame (r : Nat) (c : TrafficClass) (st : PathState) (m : Option MoveReason) (d : Byte) (a b : Option Link) (s : State) :
    (movePath r c st m d a b s).vrg = s.vrg ∧ (movePath r c st m d a b s).chu = s.chu ∧ (movePath r c st m d a b s).qxu = s.qxu ∧ (movePath r c st m d a b s).lmn = s.lmn ∧ (movePath r c st m d a b s).zne = s.zne ∧ (movePath r c st m d a b s).rdc = s.rdc ∧ (movePath r c st m d a b s).base = s.base ∧ (movePath r c st m d a b s).pending = s.pending := by
  refine ⟨?_, ?_, ?_, ?_, ?_, ?_, ?_, ?_⟩ <;>
    (unfold movePath; (try dsimp only); all_goals simp)

@[simp] theorem movePath_vrg (r : Nat) (c : TrafficClass) (st : PathState) (m : Option MoveReason) (d : Byte) (a b : Option Link) (s : State) : (movePath r c st m d a b s).vrg = s.vrg := (movePath_frame r c st m d a b s).1
@[simp] theorem movePath_chu (r : Nat) (c : TrafficClass) (st : PathState) (m : Option MoveReason) (d : Byte) (a b : Option Link) (s : State) : (movePath r c st m d a b s).chu = s.chu := (movePath_frame r c st m d a b s).2.1
@[simp] theorem movePath_qxu (r : Nat) (c : TrafficClass) (st : PathState) (m : Option MoveReason) (d : Byte) (a b : Option Link) (s : State) : (movePath r c st m d a b s).qxu = s.qxu := (movePath_frame r c st m d a b s).2.2.1
@[simp] theorem movePath_lmn (r : Nat) (c : TrafficClass) (st : PathState) (m : Option MoveReason) (d : Byte) (a b : Option Link) (s : State) : (movePath r c st m d a b s).lmn = s.lmn := (movePath_frame r c st m d a b s).2.2.2.1
@[simp] theorem movePath_zne (r : Nat) (c : TrafficClass) (st : PathState) (m : Option MoveReason) (d : Byte) (a b : Option Link) (s : State) : (movePath r c st m d a b s).zne = s.zne := (movePath_frame r c st m d a b s).2.2.2.2.1
@[simp] theorem movePath_rdc (r : Nat) (c : TrafficClass) (st : PathState) (m : Option MoveReason) (d : Byte) (a b : Option Link) (s : State) : (movePath r c st m d a b s).rdc = s.rdc := (movePath_frame r c st m d a b s).2.2.2.2.2.1
@[simp] theorem movePath_base (r : Nat) (c : TrafficClass) (st : PathState) (m : Option MoveReason) (d : Byte) (a b : Option Link) (s : State) : (movePath r c st m d a b s).base = s.base := (movePath_frame r c st m d a b s).2.2.2.2.2.2.1
@[simp] theorem movePath_pending (r : Nat) (c : TrafficClass) (st : PathState) (m : Option MoveReason) (d : Byte) (a b : Option Link) (s : State) : (movePath r c st m d a b s).pending = s.pending := (movePath_frame r c st m d a b s).2.2.2.2.2.2.2

theorem startPreparing_frame (r : Nat) (c : TrafficClass) (a b : Link) (m : MoveReason) (s : State) :
    (startPreparing r c a b m s).vrg = s.vrg ∧ (startPreparing r c a b m s).chu = s.chu ∧ (startPreparing r c a b m s).qxu = s.qxu ∧ (startPreparing r c a b m s).lmn = s.lmn ∧ (startPreparing r c a b m s).zne = s.zne ∧ (startPreparing r c a b m s).rdc = s.rdc ∧ (startPreparing r c a b m s).base = s.base ∧ (startPreparing r c a b m s).pending = s.pending := by
  refine ⟨?_, ?_, ?_, ?_, ?_, ?_, ?_, ?_⟩ <;>
    (unfold startPreparing; all_goals simp)

@[simp] theorem startPreparing_vrg (r : Nat) (c : TrafficClass) (a b : Link) (m : MoveReason) (s : State) : (startPreparing r c a b m s).vrg = s.vrg := (startPreparing_frame r c a b m s).1
@[simp] theorem startPreparing_chu (r : Nat) (c : TrafficClass) (a b : Link) (m : MoveReason) (s : State) : (startPreparing r c a b m s).chu = s.chu := (startPreparing_frame r c a b m s).2.1
@[simp] theorem startPreparing_qxu (r : Nat) (c : TrafficClass) (a b : Link) (m : MoveReason) (s : State) : (startPreparing r c a b m s).qxu = s.qxu := (startPreparing_frame r c a b m s).2.2.1
@[simp] theorem startPreparing_lmn (r : Nat) (c : TrafficClass) (a b : Link) (m : MoveReason) (s : State) : (startPreparing r c a b m s).lmn = s.lmn := (startPreparing_frame r c a b m s).2.2.2.1
@[simp] theorem startPreparing_zne (r : Nat) (c : TrafficClass) (a b : Link) (m : MoveReason) (s : State) : (startPreparing r c a b m s).zne = s.zne := (startPreparing_frame r c a b m s).2.2.2.2.1
@[simp] theorem startPreparing_rdc (r : Nat) (c : TrafficClass) (a b : Link) (m : MoveReason) (s : State) : (startPreparing r c a b m s).rdc = s.rdc := (startPreparing_frame r c a b m s).2.2.2.2.2.1
@[simp] theorem startPreparing_base (r : Nat) (c : TrafficClass) (a b : Link) (m : MoveReason) (s : State) : (startPreparing r c a b m s).base = s.base := (startPreparing_frame r c a b m s).2.2.2.2.2.2.1
@[simp] theorem startPreparing_pending (r : Nat) (c : TrafficClass) (a b : Link) (m : MoveReason) (s : State) : (startPreparing r c a b m s).pending = s.pending := (startPreparing_frame r c a b m s).2.2.2.2.2.2.2

theorem hardSwitch_frame (r : Nat) (c : TrafficClass) (t : Option Link) (m : Option MoveReason) (s : State) :
    (hardSwitch r c t m s).vrg = s.vrg ∧ (hardSwitch r c t m s).chu = s.chu ∧ (hardSwitch r c t m s).qxu = s.qxu ∧ (hardSwitch r c t m s).lmn = s.lmn ∧ (hardSwitch r c t m s).zne = s.zne ∧ (hardSwitch r c t m s).rdc = s.rdc ∧ (hardSwitch r c t m s).base = s.base ∧ (hardSwitch r c t m s).pending = s.pending := by
  refine ⟨?_, ?_, ?_, ?_, ?_, ?_, ?_, ?_⟩ <;>
    (unfold hardSwitch; (try dsimp only); (repeat' split); all_goals simp)

@[simp] theorem hardSwitch_vrg (r : Nat) (c : TrafficClass) (t : Option Link) (m : Option MoveReason) (s : State) : (hardSwitch r c t m s).vrg = s.vrg := (hardSwitch_frame r c t m s).1
@[simp] theorem hardSwitch_chu (r : Nat) (c : TrafficClass) (t : Option Link) (m : Option MoveReason) (s : State) : (hardSwitch r c t m s).chu = s.chu := (hardSwitch_frame r c t m s).2.1
@[simp] theorem hardSwitch_qxu (r : Nat) (c : TrafficClass) (t : Option Link) (m : Option MoveReason) (s : State) : (hardSwitch r c t m s).qxu = s.qxu := (hardSwitch_frame r c t m s).2.2.1
@[simp] theorem hardSwitch_lmn (r : Nat) (c : TrafficClass) (t : Option Link) (m : Option MoveReason) (s : State) : (hardSwitch r c t m s).lmn = s.lmn := (hardSwitch_frame r c t m s).2.2.2.1
@[simp] theorem hardSwitch_zne (r : Nat) (c : TrafficClass) (t : Option Link) (m : Option MoveReason) (s : State) : (hardSwitch r c t m s).zne = s.zne := (hardSwitch_frame r c t m s).2.2.2.2.1
@[simp] theorem hardSwitch_rdc (r : Nat) (c : TrafficClass) (t : Option Link) (m : Option MoveReason) (s : State) : (hardSwitch r c t m s).rdc = s.rdc := (hardSwitch_frame r c t m s).2.2.2.2.2.1
@[simp] theorem hardSwitch_base (r : Nat) (c : TrafficClass) (t : Option Link) (m : Option MoveReason) (s : State) : (hardSwitch r c t m s).base = s.base := (hardSwitch_frame r c t m s).2.2.2.2.2.2.1
@[simp] theorem hardSwitch_pending (r : Nat) (c : TrafficClass) (t : Option Link) (m : Option MoveReason) (s : State) : (hardSwitch r c t m s).pending = s.pending := (hardSwitch_frame r c t m s).2.2.2.2.2.2.2

theorem enterReleasing_frame (r : Nat) (c : TrafficClass) (a b : Link) (s : State) :
    (enterReleasing r c a b s).vrg = s.vrg ∧ (enterReleasing r c a b s).chu = s.chu ∧ (enterReleasing r c a b s).qxu = s.qxu ∧ (enterReleasing r c a b s).lmn = s.lmn ∧ (enterReleasing r c a b s).zne = s.zne ∧ (enterReleasing r c a b s).rdc = s.rdc ∧ (enterReleasing r c a b s).base = s.base ∧ (enterReleasing r c a b s).pending = s.pending := by
  refine ⟨?_, ?_, ?_, ?_, ?_, ?_, ?_, ?_⟩ <;>
    (unfold enterReleasing; all_goals simp)

@[simp] theorem enterReleasing_vrg (r : Nat) (c : TrafficClass) (a b : Link) (s : State) : (enterReleasing r c a b s).vrg = s.vrg := (enterReleasing_frame r c a b s).1
@[simp] theorem enterReleasing_chu (r : Nat) (c : TrafficClass) (a b : Link) (s : State) : (enterReleasing r c a b s).chu = s.chu := (enterReleasing_frame r c a b s).2.1
@[simp] theorem enterReleasing_qxu (r : Nat) (c : TrafficClass) (a b : Link) (s : State) : (enterReleasing r c a b s).qxu = s.qxu := (enterReleasing_frame r c a b s).2.2.1
@[simp] theorem enterReleasing_lmn (r : Nat) (c : TrafficClass) (a b : Link) (s : State) : (enterReleasing r c a b s).lmn = s.lmn := (enterReleasing_frame r c a b s).2.2.2.1
@[simp] theorem enterReleasing_zne (r : Nat) (c : TrafficClass) (a b : Link) (s : State) : (enterReleasing r c a b s).zne = s.zne := (enterReleasing_frame r c a b s).2.2.2.2.1
@[simp] theorem enterReleasing_rdc (r : Nat) (c : TrafficClass) (a b : Link) (s : State) : (enterReleasing r c a b s).rdc = s.rdc := (enterReleasing_frame r c a b s).2.2.2.2.2.1
@[simp] theorem enterReleasing_base (r : Nat) (c : TrafficClass) (a b : Link) (s : State) : (enterReleasing r c a b s).base = s.base := (enterReleasing_frame r c a b s).2.2.2.2.2.2.1
@[simp] theorem enterReleasing_pending (r : Nat) (c : TrafficClass) (a b : Link) (s : State) : (enterReleasing r c a b s).pending = s.pending := (enterReleasing_frame r c a b s).2.2.2.2.2.2.2

theorem reselectSteady_frame (r : Nat) (c : TrafficClass) (a : Link) (m : MoveReason) (s : State) :
    (reselectSteady r c a m s).vrg = s.vrg ∧ (reselectSteady r c a m s).chu = s.chu ∧ (reselectSteady r c a m s).qxu = s.qxu ∧ (reselectSteady r c a m s).lmn = s.lmn ∧ (reselectSteady r c a m s).zne = s.zne ∧ (reselectSteady r c a m s).rdc = s.rdc ∧ (reselectSteady r c a m s).base = s.base ∧ (reselectSteady r c a m s).pending = s.pending := by
  refine ⟨?_, ?_, ?_, ?_, ?_, ?_, ?_, ?_⟩ <;>
    (unfold reselectSteady; (repeat' split); all_goals simp)

@[simp] theorem reselectSteady_vrg (r : Nat) (c : TrafficClass) (a : Link) (m : MoveReason) (s : State) : (reselectSteady r c a m s).vrg = s.vrg := (reselectSteady_frame r c a m s).1
@[simp] theorem reselectSteady_chu (r : Nat) (c : TrafficClass) (a : Link) (m : MoveReason) (s : State) : (reselectSteady r c a m s).chu = s.chu := (reselectSteady_frame r c a m s).2.1
@[simp] theorem reselectSteady_qxu (r : Nat) (c : TrafficClass) (a : Link) (m : MoveReason) (s : State) : (reselectSteady r c a m s).qxu = s.qxu := (reselectSteady_frame r c a m s).2.2.1
@[simp] theorem reselectSteady_lmn (r : Nat) (c : TrafficClass) (a : Link) (m : MoveReason) (s : State) : (reselectSteady r c a m s).lmn = s.lmn := (reselectSteady_frame r c a m s).2.2.2.1
@[simp] theorem reselectSteady_zne (r : Nat) (c : TrafficClass) (a : Link) (m : MoveReason) (s : State) : (reselectSteady r c a m s).zne = s.zne := (reselectSteady_frame r c a m s).2.2.2.2.1
@[simp] theorem reselectSteady_rdc (r : Nat) (c : TrafficClass) (a : Link) (m : MoveReason) (s : State) : (reselectSteady r c a m s).rdc = s.rdc := (reselectSteady_frame r c a m s).2.2.2.2.2.1
@[simp] theorem reselectSteady_base (r : Nat) (c : TrafficClass) (a : Link) (m : MoveReason) (s : State) : (reselectSteady r c a m s).base = s.base := (reselectSteady_frame r c a m s).2.2.2.2.2.2.1
@[simp] theorem reselectSteady_pending (r : Nat) (c : TrafficClass) (a : Link) (m : MoveReason) (s : State) : (reselectSteady r c a m s).pending = s.pending := (reselectSteady_frame r c a m s).2.2.2.2.2.2.2

theorem enterSteady_frame (r : Nat) (c : TrafficClass) (a : Link) (s : State) :
    (enterSteady r c a s).vrg = s.vrg ∧ (enterSteady r c a s).chu = s.chu ∧ (enterSteady r c a s).qxu = s.qxu ∧ (enterSteady r c a s).lmn = s.lmn ∧ (enterSteady r c a s).zne = s.zne ∧ (enterSteady r c a s).rdc = s.rdc ∧ (enterSteady r c a s).base = s.base ∧ (enterSteady r c a s).pending = s.pending := by
  refine ⟨?_, ?_, ?_, ?_, ?_, ?_, ?_, ?_⟩ <;>
    (unfold enterSteady; (try dsimp only); all_goals simp)

@[simp] theorem enterSteady_vrg (r : Nat) (c : TrafficClass) (a : Link) (s : State) : (enterSteady r c a s).vrg = s.vrg := (enterSteady_frame r c a s).1
@[simp] theorem enterSteady_chu (r : Nat) (c : TrafficClass) (a : Link) (s : State) : (enterSteady r c a s).chu = s.chu := (enterSteady_frame r c a s).2.1
@[simp] theorem enterSteady_qxu (r : Nat) (c : TrafficClass) (a : Link) (s : State) : (enterSteady r c a s).qxu = s.qxu := (enterSteady_frame r c a s).2.2.1
@[simp] theorem enterSteady_lmn (r : Nat) (c : TrafficClass) (a : Link) (s : State) : (enterSteady r c a s).lmn = s.lmn := (enterSteady_frame r c a s).2.2.2.1
@[simp] theorem enterSteady_zne (r : Nat) (c : TrafficClass) (a : Link) (s : State) : (enterSteady r c a s).zne = s.zne := (enterSteady_frame r c a s).2.2.2.2.1
@[simp] theorem enterSteady_rdc (r : Nat) (c : TrafficClass) (a : Link) (s : State) : (enterSteady r c a s).rdc = s.rdc := (enterSteady_frame r c a s).2.2.2.2.2.1
@[simp] theorem enterSteady_base (r : Nat) (c : TrafficClass) (a : Link) (s : State) : (enterSteady r c a s).base = s.base := (enterSteady_frame r c a s).2.2.2.2.2.2.1
@[simp] theorem enterSteady_pending (r : Nat) (c : TrafficClass) (a : Link) (s : State) : (enterSteady r c a s).pending = s.pending := (enterSteady_frame r c a s).2.2.2.2.2.2.2

theorem abandon_frame (r : Nat) (c : TrafficClass) (a b : Link) (s : State) :
    (abandon r c a b s).vrg = s.vrg ∧ (abandon r c a b s).chu = s.chu ∧ (abandon r c a b s).qxu = s.qxu ∧ (abandon r c a b s).lmn = s.lmn ∧ (abandon r c a b s).zne = s.zne ∧ (abandon r c a b s).rdc = s.rdc ∧ (abandon r c a b s).base = s.base ∧ (abandon r c a b s).pending = s.pending := by
  refine ⟨?_, ?_, ?_, ?_, ?_, ?_, ?_, ?_⟩ <;>
    (unfold abandon; all_goals simp)

@[simp] theorem abandon_vrg (r : Nat) (c : TrafficClass) (a b : Link) (s : State) : (abandon r c a b s).vrg = s.vrg := (abandon_frame r c a b s).1
@[simp] theorem abandon_chu (r : Nat) (c : TrafficClass) (a b : Link) (s : State) : (abandon r c a b s).chu = s.chu := (abandon_frame r c a b s).2.1
@[simp] theorem abandon_qxu (r : Nat) (c : TrafficClass) (a b : Link) (s : State) : (abandon r c a b s).qxu = s.qxu := (abandon_frame r c a b s).2.2.1
@[simp] theorem abandon_lmn (r : Nat) (c : TrafficClass) (a b : Link) (s : State) : (abandon r c a b s).lmn = s.lmn := (abandon_frame r c a b s).2.2.2.1
@[simp] theorem abandon_zne (r : Nat) (c : TrafficClass) (a b : Link) (s : State) : (abandon r c a b s).zne = s.zne := (abandon_frame r c a b s).2.2.2.2.1
@[simp] theorem abandon_rdc (r : Nat) (c : TrafficClass) (a b : Link) (s : State) : (abandon r c a b s).rdc = s.rdc := (abandon_frame r c a b s).2.2.2.2.2.1
@[simp] theorem abandon_base (r : Nat) (c : TrafficClass) (a b : Link) (s : State) : (abandon r c a b s).base = s.base := (abandon_frame r c a b s).2.2.2.2.2.2.1
@[simp] theorem abandon_pending (r : Nat) (c : TrafficClass) (a b : Link) (s : State) : (abandon r c a b s).pending = s.pending := (abandon_frame r c a b s).2.2.2.2.2.2.2

theorem reselect_frame (r : Nat) (c : TrafficClass) (m : MoveReason) (s : State) :
    (reselect r c m s).vrg = s.vrg ∧ (reselect r c m s).chu = s.chu ∧ (reselect r c m s).qxu = s.qxu ∧ (reselect r c m s).lmn = s.lmn ∧ (reselect r c m s).zne = s.zne ∧ (reselect r c m s).rdc = s.rdc ∧ (reselect r c m s).base = s.base ∧ (reselect r c m s).pending = s.pending := by
  refine ⟨?_, ?_, ?_, ?_, ?_, ?_, ?_, ?_⟩ <;>
    (unfold reselect; (try dsimp only); (repeat' split); all_goals simp)

@[simp] theorem reselect_vrg (r : Nat) (c : TrafficClass) (m : MoveReason) (s : State) : (reselect r c m s).vrg = s.vrg := (reselect_frame r c m s).1
@[simp] theorem reselect_chu (r : Nat) (c : TrafficClass) (m : MoveReason) (s : State) : (reselect r c m s).chu = s.chu := (reselect_frame r c m s).2.1
@[simp] theorem reselect_qxu (r : Nat) (c : TrafficClass) (m : MoveReason) (s : State) : (reselect r c m s).qxu = s.qxu := (reselect_frame r c m s).2.2.1
@[simp] theorem reselect_lmn (r : Nat) (c : TrafficClass) (m : MoveReason) (s : State) : (reselect r c m s).lmn = s.lmn := (reselect_frame r c m s).2.2.2.1
@[simp] theorem reselect_zne (r : Nat) (c : TrafficClass) (m : MoveReason) (s : State) : (reselect r c m s).zne = s.zne := (reselect_frame r c m s).2.2.2.2.1
@[simp] theorem reselect_rdc (r : Nat) (c : TrafficClass) (m : MoveReason) (s : State) : (reselect r c m s).rdc = s.rdc := (reselect_frame r c m s).2.2.2.2.2.1
@[simp] theorem reselect_base (r : Nat) (c : TrafficClass) (m : MoveReason) (s : State) : (reselect r c m s).base = s.base := (reselect_frame r c m s).2.2.2.2.2.2.1
@[simp] theorem reselect_pending (r : Nat) (c : TrafficClass) (m : MoveReason) (s : State) : (reselect r c m s).pending = s.pending := (reselect_frame r c m s).2.2.2.2.2.2.2

theorem reselectRoute_frame (r : Nat) (m : MoveReason) (s : State) :
    (reselectRoute r m s).vrg = s.vrg ∧ (reselectRoute r m s).chu = s.chu ∧ (reselectRoute r m s).qxu = s.qxu ∧ (reselectRoute r m s).lmn = s.lmn ∧ (reselectRoute r m s).zne = s.zne ∧ (reselectRoute r m s).rdc = s.rdc ∧ (reselectRoute r m s).base = s.base ∧ (reselectRoute r m s).pending = s.pending := by
  unfold reselectRoute
  refine ⟨?_, ?_, ?_, ?_, ?_, ?_, ?_, ?_⟩ <;>
    (refine foldl_keeps _ _ (fun s x => ?_) _ _; all_goals simp)

@[simp] theorem reselectRoute_vrg (r : Nat) (m : MoveReason) (s : State) : (reselectRoute r m s).vrg = s.vrg := (reselectRoute_frame r m s).1
@[simp] theorem reselectRoute_chu (r : Nat) (m : MoveReason) (s : State) : (reselectRoute r m s).chu = s.chu := (reselectRoute_frame r m s).2.1
@[simp] theorem reselectRoute_qxu (r : Nat) (m : MoveReason) (s : State) : (reselectRoute r m s).qxu = s.qxu := (reselectRoute_frame r m s).2.2.1
@[simp] theorem reselectRoute_lmn (r : Nat) (m : MoveReason) (s : State) : (reselectRoute r m s).lmn = s.lmn := (reselectRoute_frame r m s).2.2.2.1
@[simp] theorem reselectRoute_zne (r : Nat) (m : MoveReason) (s : State) : (reselectRoute r m s).zne = s.zne := (reselectRoute_frame r m s).2.2.2.2.1
@[simp] theorem reselectRoute_rdc (r : Nat) (m : MoveReason) (s : State) : (reselectRoute r m s).rdc = s.rdc := (reselectRoute_frame r m s).2.2.2.2.2.1
@[simp] theorem reselectRoute_base (r : Nat) (m : MoveReason) (s : State) : (reselectRoute r m s).base = s.base := (reselectRoute_frame r m s).2.2.2.2.2.2.1
@[simp] theorem reselectRoute_pending (r : Nat) (m : MoveReason) (s : State) : (reselectRoute r m s).pending = s.pending := (reselectRoute_frame r m s).2.2.2.2.2.2.2

theorem reselectAll_frame (m : MoveReason) (s : State) :
    (reselectAll m s).vrg = s.vrg ∧ (reselectAll m s).chu = s.chu ∧ (reselectAll m s).qxu = s.qxu ∧ (reselectAll m s).lmn = s.lmn ∧ (reselectAll m s).zne = s.zne ∧ (reselectAll m s).rdc = s.rdc ∧ (reselectAll m s).base = s.base ∧ (reselectAll m s).pending = s.pending := by
  unfold reselectAll
  refine ⟨?_, ?_, ?_, ?_, ?_, ?_, ?_, ?_⟩ <;>
    (refine foldl_keeps _ _ (fun s x => ?_) _ _; all_goals simp)

@[simp] theorem reselectAll_vrg (m : MoveReason) (s : State) : (reselectAll m s).vrg = s.vrg := (reselectAll_frame m s).1
@[simp] theorem reselectAll_chu (m : MoveReason) (s : State) : (reselectAll m s).chu = s.chu := (reselectAll_frame m s).2.1
@[simp] theorem reselectAll_qxu (m : MoveReason) (s : State) : (reselectAll m s).qxu = s.qxu := (reselectAll_frame m s).2.2.1
@[simp] theorem reselectAll_lmn (m : MoveReason) (s : State) : (reselectAll m s).lmn = s.lmn := (reselectAll_frame m s).2.2.2.1
@[simp] theorem reselectAll_zne (m : MoveReason) (s : State) : (reselectAll m s).zne = s.zne := (reselectAll_frame m s).2.2.2.2.1
@[simp] theorem reselectAll_rdc (m : MoveReason) (s : State) : (reselectAll m s).rdc = s.rdc := (reselectAll_frame m s).2.2.2.2.2.1
@[simp] theorem reselectAll_base (m : MoveReason) (s : State) : (reselectAll m s).base = s.base := (reselectAll_frame m s).2.2.2.2.2.2.1
@[simp] theorem reselectAll_pending (m : MoveReason) (s : State) : (reselectAll m s).pending = s.pending := (reselectAll_frame m s).2.2.2.2.2.2.2

theorem linkNotice_frame (i : Link) (a b : LinkState) (c : LinkCause) (s : State) :
    (linkNotice i a b c s).vrg = s.vrg ∧ (linkNotice i a b c s).chu = s.chu ∧ (linkNotice i a b c s).qxu = s.qxu ∧ (linkNotice i a b c s).lmn = s.lmn ∧ (linkNotice i a b c s).rte = s.rte ∧ (linkNotice i a b c s).zne = s.zne ∧ (linkNotice i a b c s).rdc = s.rdc ∧ (linkNotice i a b c s).base = s.base ∧ (linkNotice i a b c s).pending = s.pending := by
  refine ⟨?_, ?_, ?_, ?_, ?_, ?_, ?_, ?_, ?_⟩ <;>
    (unfold linkNotice; all_goals simp)

@[simp] theorem linkNotice_vrg (i : Link) (a b : LinkState) (c : LinkCause) (s : State) : (linkNotice i a b c s).vrg = s.vrg := (linkNotice_frame i a b c s).1
@[simp] theorem linkNotice_chu (i : Link) (a b : LinkState) (c : LinkCause) (s : State) : (linkNotice i a b c s).chu = s.chu := (linkNotice_frame i a b c s).2.1
@[simp] theorem linkNotice_qxu (i : Link) (a b : LinkState) (c : LinkCause) (s : State) : (linkNotice i a b c s).qxu = s.qxu := (linkNotice_frame i a b c s).2.2.1
@[simp] theorem linkNotice_lmn (i : Link) (a b : LinkState) (c : LinkCause) (s : State) : (linkNotice i a b c s).lmn = s.lmn := (linkNotice_frame i a b c s).2.2.2.1
@[simp] theorem linkNotice_rte (i : Link) (a b : LinkState) (c : LinkCause) (s : State) : (linkNotice i a b c s).rte = s.rte := (linkNotice_frame i a b c s).2.2.2.2.1
@[simp] theorem linkNotice_zne (i : Link) (a b : LinkState) (c : LinkCause) (s : State) : (linkNotice i a b c s).zne = s.zne := (linkNotice_frame i a b c s).2.2.2.2.2.1
@[simp] theorem linkNotice_rdc (i : Link) (a b : LinkState) (c : LinkCause) (s : State) : (linkNotice i a b c s).rdc = s.rdc := (linkNotice_frame i a b c s).2.2.2.2.2.2.1
@[simp] theorem linkNotice_base (i : Link) (a b : LinkState) (c : LinkCause) (s : State) : (linkNotice i a b c s).base = s.base := (linkNotice_frame i a b c s).2.2.2.2.2.2.2.1
@[simp] theorem linkNotice_pending (i : Link) (a b : LinkState) (c : LinkCause) (s : State) : (linkNotice i a b c s).pending = s.pending := (linkNotice_frame i a b c s).2.2.2.2.2.2.2.2

theorem changeLink_frame (i : Link) (l : LinkRec) (c : LinkCause) (s : State) :
    (changeLink i l c s).zne = s.zne ∧ (changeLink i l c s).rdc = s.rdc ∧ (changeLink i l c s).base = s.base ∧ (changeLink i l c s).pending = s.pending := by
  refine ⟨?_, ?_, ?_, ?_⟩ <;>
    (unfold changeLink; (try dsimp only); (repeat' split); all_goals simp)

@[simp] theorem changeLink_zne (i : Link) (l : LinkRec) (c : LinkCause) (s : State) : (changeLink i l c s).zne = s.zne := (changeLink_frame i l c s).1
@[simp] theorem changeLink_rdc (i : Link) (l : LinkRec) (c : LinkCause) (s : State) : (changeLink i l c s).rdc = s.rdc := (changeLink_frame i l c s).2.1
@[simp] theorem changeLink_base (i : Link) (l : LinkRec) (c : LinkCause) (s : State) : (changeLink i l c s).base = s.base := (changeLink_frame i l c s).2.2.1
@[simp] theorem changeLink_pending (i : Link) (l : LinkRec) (c : LinkCause) (s : State) : (changeLink i l c s).pending = s.pending := (changeLink_frame i l c s).2.2.2

theorem endHold_frame (i : Link) (s : State) :
    (endHold i s).zne = s.zne ∧ (endHold i s).rdc = s.rdc ∧ (endHold i s).base = s.base ∧ (endHold i s).pending = s.pending := by
  refine ⟨?_, ?_, ?_, ?_⟩ <;>
    (unfold endHold; all_goals simp)

@[simp] theorem endHold_zne (i : Link) (s : State) : (endHold i s).zne = s.zne := (endHold_frame i s).1
@[simp] theorem endHold_rdc (i : Link) (s : State) : (endHold i s).rdc = s.rdc := (endHold_frame i s).2.1
@[simp] theorem endHold_base (i : Link) (s : State) : (endHold i s).base = s.base := (endHold_frame i s).2.2.1
@[simp] theorem endHold_pending (i : Link) (s : State) : (endHold i s).pending = s.pending := (endHold_frame i s).2.2.2

theorem holdForFailure_frame (i : Link) (c : LinkCause) (s : State) :
    (holdForFailure i c s).zne = s.zne ∧ (holdForFailure i c s).rdc = s.rdc ∧ (holdForFailure i c s).base = s.base ∧ (holdForFailure i c s).pending = s.pending := by
  refine ⟨?_, ?_, ?_, ?_⟩ <;>
    (unfold holdForFailure; (try dsimp only); (repeat' split); all_goals simp)

@[simp] theorem holdForFailure_zne (i : Link) (c : LinkCause) (s : State) : (holdForFailure i c s).zne = s.zne := (holdForFailure_frame i c s).1
@[simp] theorem holdForFailure_rdc (i : Link) (c : LinkCause) (s : State) : (holdForFailure i c s).rdc = s.rdc := (holdForFailure_frame i c s).2.1
@[simp] theorem holdForFailure_base (i : Link) (c : LinkCause) (s : State) : (holdForFailure i c s).base = s.base := (holdForFailure_frame i c s).2.2.1
@[simp] theorem holdForFailure_pending (i : Link) (c : LinkCause) (s : State) : (holdForFailure i c s).pending = s.pending := (holdForFailure_frame i c s).2.2.2

theorem evaluateLink_frame (i : Link) (s : State) :
    (evaluateLink i s).zne = s.zne ∧ (evaluateLink i s).rdc = s.rdc ∧ (evaluateLink i s).base = s.base ∧ (evaluateLink i s).pending = s.pending := by
  refine ⟨?_, ?_, ?_, ?_⟩ <;>
    (unfold evaluateLink; (try dsimp only); (repeat' split); all_goals simp)

@[simp] theorem evaluateLink_zne (i : Link) (s : State) : (evaluateLink i s).zne = s.zne := (evaluateLink_frame i s).1
@[simp] theorem evaluateLink_rdc (i : Link) (s : State) : (evaluateLink i s).rdc = s.rdc := (evaluateLink_frame i s).2.1
@[simp] theorem evaluateLink_base (i : Link) (s : State) : (evaluateLink i s).base = s.base := (evaluateLink_frame i s).2.2.1
@[simp] theorem evaluateLink_pending (i : Link) (s : State) : (evaluateLink i s).pending = s.pending := (evaluateLink_frame i s).2.2.2

theorem judgeProbe_frame (i : Link) (b : Bool) (s : State) :
    (judgeProbe i b s).zne = s.zne ∧ (judgeProbe i b s).rdc = s.rdc ∧ (judgeProbe i b s).base = s.base ∧ (judgeProbe i b s).pending = s.pending := by
  refine ⟨?_, ?_, ?_, ?_⟩ <;>
    (unfold judgeProbe; (try dsimp only); (repeat' split); all_goals simp)

@[simp] theorem judgeProbe_zne (i : Link) (b : Bool) (s : State) : (judgeProbe i b s).zne = s.zne := (judgeProbe_frame i b s).1
@[simp] theorem judgeProbe_rdc (i : Link) (b : Bool) (s : State) : (judgeProbe i b s).rdc = s.rdc := (judgeProbe_frame i b s).2.1
@[simp] theorem judgeProbe_base (i : Link) (b : Bool) (s : State) : (judgeProbe i b s).base = s.base := (judgeProbe_frame i b s).2.2.1
@[simp] theorem judgeProbe_pending (i : Link) (b : Bool) (s : State) : (judgeProbe i b s).pending = s.pending := (judgeProbe_frame i b s).2.2.2

theorem actOnMeasurement_frame (i : Link) (b : Bool) (s : State) :
    (actOnMeasurement i b s).zne = s.zne ∧ (actOnMeasurement i b s).rdc = s.rdc ∧ (actOnMeasurement i b s).base = s.base ∧ (actOnMeasurement i b s).pending = s.pending := by
  refine ⟨?_, ?_, ?_, ?_⟩ <;>
    (unfold actOnMeasurement; (repeat' split); all_goals simp)

@[simp] theorem actOnMeasurement_zne (i : Link) (b : Bool) (s : State) : (actOnMeasurement i b s).zne = s.zne := (actOnMeasurement_frame i b s).1
@[simp] theorem actOnMeasurement_rdc (i : Link) (b : Bool) (s : State) : (actOnMeasurement i b s).rdc = s.rdc := (actOnMeasurement_frame i b s).2.1
@[simp] theorem actOnMeasurement_base (i : Link) (b : Bool) (s : State) : (actOnMeasurement i b s).base = s.base := (actOnMeasurement_frame i b s).2.2.1
@[simp] theorem actOnMeasurement_pending (i : Link) (b : Bool) (s : State) : (actOnMeasurement i b s).pending = s.pending := (actOnMeasurement_frame i b s).2.2.2

theorem placeMark_frame (u : Nat) (m : Mark) (s : State) :
    (placeMark u m s).rqp = s.rqp ∧ (placeMark u m s).vrg = s.vrg ∧ (placeMark u m s).chu = s.chu ∧ (placeMark u m s).qxu = s.qxu ∧ (placeMark u m s).lmn = s.lmn ∧ (placeMark u m s).rte = s.rte ∧ (placeMark u m s).zne = s.zne ∧ (placeMark u m s).base = s.base ∧ (placeMark u m s).pending = s.pending := by
  refine ⟨?_, ?_, ?_, ?_, ?_, ?_, ?_, ?_, ?_⟩ <;>
    (unfold placeMark; (try dsimp only); (repeat' split); all_goals simp)

@[simp] theorem placeMark_rqp (u : Nat) (m : Mark) (s : State) : (placeMark u m s).rqp = s.rqp := (placeMark_frame u m s).1
@[simp] theorem placeMark_vrg (u : Nat) (m : Mark) (s : State) : (placeMark u m s).vrg = s.vrg := (placeMark_frame u m s).2.1
@[simp] theorem placeMark_chu (u : Nat) (m : Mark) (s : State) : (placeMark u m s).chu = s.chu := (placeMark_frame u m s).2.2.1
@[simp] theorem placeMark_qxu (u : Nat) (m : Mark) (s : State) : (placeMark u m s).qxu = s.qxu := (placeMark_frame u m s).2.2.2.1
@[simp] theorem placeMark_lmn (u : Nat) (m : Mark) (s : State) : (placeMark u m s).lmn = s.lmn := (placeMark_frame u m s).2.2.2.2.1
@[simp] theorem placeMark_rte (u : Nat) (m : Mark) (s : State) : (placeMark u m s).rte = s.rte := (placeMark_frame u m s).2.2.2.2.2.1
@[simp] theorem placeMark_zne (u : Nat) (m : Mark) (s : State) : (placeMark u m s).zne = s.zne := (placeMark_frame u m s).2.2.2.2.2.2.1
@[simp] theorem placeMark_base (u : Nat) (m : Mark) (s : State) : (placeMark u m s).base = s.base := (placeMark_frame u m s).2.2.2.2.2.2.2.1
@[simp] theorem placeMark_pending (u : Nat) (m : Mark) (s : State) : (placeMark u m s).pending = s.pending := (placeMark_frame u m s).2.2.2.2.2.2.2.2

theorem setMark_frame (u : Nat) (m : Option Mark) (s : State) :
    (setMark u m s).rqp = s.rqp ∧ (setMark u m s).vrg = s.vrg ∧ (setMark u m s).chu = s.chu ∧ (setMark u m s).qxu = s.qxu ∧ (setMark u m s).lmn = s.lmn ∧ (setMark u m s).rte = s.rte ∧ (setMark u m s).zne = s.zne ∧ (setMark u m s).base = s.base ∧ (setMark u m s).pending = s.pending := by
  refine ⟨?_, ?_, ?_, ?_, ?_, ?_, ?_, ?_, ?_⟩ <;>
    (unfold setMark; (try dsimp only); all_goals simp)

@[simp] theorem setMark_rqp (u : Nat) (m : Option Mark) (s : State) : (setMark u m s).rqp = s.rqp := (setMark_frame u m s).1
@[simp] theorem setMark_vrg (u : Nat) (m : Option Mark) (s : State) : (setMark u m s).vrg = s.vrg := (setMark_frame u m s).2.1
@[simp] theorem setMark_chu (u : Nat) (m : Option Mark) (s : State) : (setMark u m s).chu = s.chu := (setMark_frame u m s).2.2.1
@[simp] theorem setMark_qxu (u : Nat) (m : Option Mark) (s : State) : (setMark u m s).qxu = s.qxu := (setMark_frame u m s).2.2.2.1
@[simp] theorem setMark_lmn (u : Nat) (m : Option Mark) (s : State) : (setMark u m s).lmn = s.lmn := (setMark_frame u m s).2.2.2.2.1
@[simp] theorem setMark_rte (u : Nat) (m : Option Mark) (s : State) : (setMark u m s).rte = s.rte := (setMark_frame u m s).2.2.2.2.2.1
@[simp] theorem setMark_zne (u : Nat) (m : Option Mark) (s : State) : (setMark u m s).zne = s.zne := (setMark_frame u m s).2.2.2.2.2.2.1
@[simp] theorem setMark_base (u : Nat) (m : Option Mark) (s : State) : (setMark u m s).base = s.base := (setMark_frame u m s).2.2.2.2.2.2.2.1
@[simp] theorem setMark_pending (u : Nat) (m : Option Mark) (s : State) : (setMark u m s).pending = s.pending := (setMark_frame u m s).2.2.2.2.2.2.2.2

theorem radioNotice_frame (d v1 v2 v3 v4 v5 : Byte) (s : State) :
    (radioNotice d v1 v2 v3 v4 v5 s).vrg = s.vrg ∧ (radioNotice d v1 v2 v3 v4 v5 s).chu = s.chu ∧ (radioNotice d v1 v2 v3 v4 v5 s).qxu = s.qxu ∧ (radioNotice d v1 v2 v3 v4 v5 s).lmn = s.lmn ∧ (radioNotice d v1 v2 v3 v4 v5 s).rte = s.rte ∧ (radioNotice d v1 v2 v3 v4 v5 s).zne = s.zne ∧ (radioNotice d v1 v2 v3 v4 v5 s).rdc = s.rdc ∧ (radioNotice d v1 v2 v3 v4 v5 s).base = s.base ∧ (radioNotice d v1 v2 v3 v4 v5 s).pending = s.pending := by
  refine ⟨?_, ?_, ?_, ?_, ?_, ?_, ?_, ?_, ?_⟩ <;>
    (unfold radioNotice; all_goals simp)

@[simp] theorem radioNotice_vrg (d v1 v2 v3 v4 v5 : Byte) (s : State) : (radioNotice d v1 v2 v3 v4 v5 s).vrg = s.vrg := (radioNotice_frame d v1 v2 v3 v4 v5 s).1
@[simp] theorem radioNotice_chu (d v1 v2 v3 v4 v5 : Byte) (s : State) : (radioNotice d v1 v2 v3 v4 v5 s).chu = s.chu := (radioNotice_frame d v1 v2 v3 v4 v5 s).2.1
@[simp] theorem radioNotice_qxu (d v1 v2 v3 v4 v5 : Byte) (s : State) : (radioNotice d v1 v2 v3 v4 v5 s).qxu = s.qxu := (radioNotice_frame d v1 v2 v3 v4 v5 s).2.2.1
@[simp] theorem radioNotice_lmn (d v1 v2 v3 v4 v5 : Byte) (s : State) : (radioNotice d v1 v2 v3 v4 v5 s).lmn = s.lmn := (radioNotice_frame d v1 v2 v3 v4 v5 s).2.2.2.1
@[simp] theorem radioNotice_rte (d v1 v2 v3 v4 v5 : Byte) (s : State) : (radioNotice d v1 v2 v3 v4 v5 s).rte = s.rte := (radioNotice_frame d v1 v2 v3 v4 v5 s).2.2.2.2.1
@[simp] theorem radioNotice_zne (d v1 v2 v3 v4 v5 : Byte) (s : State) : (radioNotice d v1 v2 v3 v4 v5 s).zne = s.zne := (radioNotice_frame d v1 v2 v3 v4 v5 s).2.2.2.2.2.1
@[simp] theorem radioNotice_rdc (d v1 v2 v3 v4 v5 : Byte) (s : State) : (radioNotice d v1 v2 v3 v4 v5 s).rdc = s.rdc := (radioNotice_frame d v1 v2 v3 v4 v5 s).2.2.2.2.2.2.1
@[simp] theorem radioNotice_base (d v1 v2 v3 v4 v5 : Byte) (s : State) : (radioNotice d v1 v2 v3 v4 v5 s).base = s.base := (radioNotice_frame d v1 v2 v3 v4 v5 s).2.2.2.2.2.2.2.1
@[simp] theorem radioNotice_pending (d v1 v2 v3 v4 v5 : Byte) (s : State) : (radioNotice d v1 v2 v3 v4 v5 s).pending = s.pending := (radioNotice_frame d v1 v2 v3 v4 v5 s).2.2.2.2.2.2.2.2

theorem assertRfoff_frame (s : State) :
    (assertRfoff s).rqp = s.rqp ∧ (assertRfoff s).vrg = s.vrg ∧ (assertRfoff s).chu = s.chu ∧ (assertRfoff s).qxu = s.qxu ∧ (assertRfoff s).lmn = s.lmn ∧ (assertRfoff s).rte = s.rte ∧ (assertRfoff s).zne = s.zne ∧ (assertRfoff s).base = s.base ∧ (assertRfoff s).pending = s.pending := by
  refine ⟨?_, ?_, ?_, ?_, ?_, ?_, ?_, ?_, ?_⟩ <;>
    (unfold assertRfoff; (try dsimp only); all_goals simp)

@[simp] theorem assertRfoff_rqp (s : State) : (assertRfoff s).rqp = s.rqp := (assertRfoff_frame s).1
@[simp] theorem assertRfoff_vrg (s : State) : (assertRfoff s).vrg = s.vrg := (assertRfoff_frame s).2.1
@[simp] theorem assertRfoff_chu (s : State) : (assertRfoff s).chu = s.chu := (assertRfoff_frame s).2.2.1
@[simp] theorem assertRfoff_qxu (s : State) : (assertRfoff s).qxu = s.qxu := (assertRfoff_frame s).2.2.2.1
@[simp] theorem assertRfoff_lmn (s : State) : (assertRfoff s).lmn = s.lmn := (assertRfoff_frame s).2.2.2.2.1
@[simp] theorem assertRfoff_rte (s : State) : (assertRfoff s).rte = s.rte := (assertRfoff_frame s).2.2.2.2.2.1
@[simp] theorem assertRfoff_zne (s : State) : (assertRfoff s).zne = s.zne := (assertRfoff_frame s).2.2.2.2.2.2.1
@[simp] theorem assertRfoff_base (s : State) : (assertRfoff s).base = s.base := (assertRfoff_frame s).2.2.2.2.2.2.2.1
@[simp] theorem assertRfoff_pending (s : State) : (assertRfoff s).pending = s.pending := (assertRfoff_frame s).2.2.2.2.2.2.2.2

theorem changeUnit_frame (u : Nat) (n : UnitState) (c : UnitCause) (s : State) :
    (changeUnit u n c s).chu = s.chu ∧ (changeUnit u n c s).qxu = s.qxu ∧ (changeUnit u n c s).lmn = s.lmn ∧ (changeUnit u n c s).rte = s.rte ∧ (changeUnit u n c s).zne = s.zne ∧ (changeUnit u n c s).base = s.base ∧ (changeUnit u n c s).pending = s.pending := by
  refine ⟨?_, ?_, ?_, ?_, ?_, ?_, ?_⟩ <;>
    (unfold changeUnit; (try dsimp only); (repeat' split); all_goals simp)

@[simp] theorem changeUnit_chu (u : Nat) (n : UnitState) (c : UnitCause) (s : State) : (changeUnit u n c s).chu = s.chu := (changeUnit_frame u n c s).1
@[simp] theorem changeUnit_qxu (u : Nat) (n : UnitState) (c : UnitCause) (s : State) : (changeUnit u n c s).qxu = s.qxu := (changeUnit_frame u n c s).2.1
@[simp] theorem changeUnit_lmn (u : Nat) (n : UnitState) (c : UnitCause) (s : State) : (changeUnit u n c s).lmn = s.lmn := (changeUnit_frame u n c s).2.2.1
@[simp] theorem changeUnit_rte (u : Nat) (n : UnitState) (c : UnitCause) (s : State) : (changeUnit u n c s).rte = s.rte := (changeUnit_frame u n c s).2.2.2.1
@[simp] theorem changeUnit_zne (u : Nat) (n : UnitState) (c : UnitCause) (s : State) : (changeUnit u n c s).zne = s.zne := (changeUnit_frame u n c s).2.2.2.2.1
@[simp] theorem changeUnit_base (u : Nat) (n : UnitState) (c : UnitCause) (s : State) : (changeUnit u n c s).base = s.base := (changeUnit_frame u n c s).2.2.2.2.2.1
@[simp] theorem changeUnit_pending (u : Nat) (n : UnitState) (c : UnitCause) (s : State) : (changeUnit u n c s).pending = s.pending := (changeUnit_frame u n c s).2.2.2.2.2.2

theorem endCheck_frame (s : State) :
    (endCheck s).vrg = s.vrg ∧ (endCheck s).chu = s.chu ∧ (endCheck s).qxu = s.qxu ∧ (endCheck s).lmn = s.lmn ∧ (endCheck s).rte = s.rte ∧ (endCheck s).zne = s.zne ∧ (endCheck s).base = s.base ∧ (endCheck s).pending = s.pending := by
  refine ⟨?_, ?_, ?_, ?_, ?_, ?_, ?_, ?_⟩ <;>
    (unfold endCheck; (try dsimp only); (repeat' split); all_goals simp)

@[simp] theorem endCheck_vrg (s : State) : (endCheck s).vrg = s.vrg := (endCheck_frame s).1
@[simp] theorem endCheck_chu (s : State) : (endCheck s).chu = s.chu := (endCheck_frame s).2.1
@[simp] theorem endCheck_qxu (s : State) : (endCheck s).qxu = s.qxu := (endCheck_frame s).2.2.1
@[simp] theorem endCheck_lmn (s : State) : (endCheck s).lmn = s.lmn := (endCheck_frame s).2.2.2.1
@[simp] theorem endCheck_rte (s : State) : (endCheck s).rte = s.rte := (endCheck_frame s).2.2.2.2.1
@[simp] theorem endCheck_zne (s : State) : (endCheck s).zne = s.zne := (endCheck_frame s).2.2.2.2.2.1
@[simp] theorem endCheck_base (s : State) : (endCheck s).base = s.base := (endCheck_frame s).2.2.2.2.2.2.1
@[simp] theorem endCheck_pending (s : State) : (endCheck s).pending = s.pending := (endCheck_frame s).2.2.2.2.2.2.2

theorem commandAnsweredRule_frame (u : Nat) (m : Mark) (s : State) :
    (commandAnsweredRule u m s).chu = s.chu ∧ (commandAnsweredRule u m s).qxu = s.qxu ∧ (commandAnsweredRule u m s).lmn = s.lmn ∧ (commandAnsweredRule u m s).rte = s.rte ∧ (commandAnsweredRule u m s).zne = s.zne ∧ (commandAnsweredRule u m s).base = s.base ∧ (commandAnsweredRule u m s).pending = s.pending := by
  refine ⟨?_, ?_, ?_, ?_, ?_, ?_, ?_⟩ <;>
    (unfold commandAnsweredRule; (try dsimp only); (repeat' split); all_goals simp)

@[simp] theorem commandAnsweredRule_chu (u : Nat) (m : Mark) (s : State) : (commandAnsweredRule u m s).chu = s.chu := (commandAnsweredRule_frame u m s).1
@[simp] theorem commandAnsweredRule_qxu (u : Nat) (m : Mark) (s : State) : (commandAnsweredRule u m s).qxu = s.qxu := (commandAnsweredRule_frame u m s).2.1
@[simp] theorem commandAnsweredRule_lmn (u : Nat) (m : Mark) (s : State) : (commandAnsweredRule u m s).lmn = s.lmn := (commandAnsweredRule_frame u m s).2.2.1
@[simp] theorem commandAnsweredRule_rte (u : Nat) (m : Mark) (s : State) : (commandAnsweredRule u m s).rte = s.rte := (commandAnsweredRule_frame u m s).2.2.2.1
@[simp] theorem commandAnsweredRule_zne (u : Nat) (m : Mark) (s : State) : (commandAnsweredRule u m s).zne = s.zne := (commandAnsweredRule_frame u m s).2.2.2.2.1
@[simp] theorem commandAnsweredRule_base (u : Nat) (m : Mark) (s : State) : (commandAnsweredRule u m s).base = s.base := (commandAnsweredRule_frame u m s).2.2.2.2.2.1
@[simp] theorem commandAnsweredRule_pending (u : Nat) (m : Mark) (s : State) : (commandAnsweredRule u m s).pending = s.pending := (commandAnsweredRule_frame u m s).2.2.2.2.2.2

theorem commandNoackRule_frame (u : Nat) (m : Mark) (s : State) :
    (commandNoackRule u m s).chu = s.chu ∧ (commandNoackRule u m s).qxu = s.qxu ∧ (commandNoackRule u m s).lmn = s.lmn ∧ (commandNoackRule u m s).rte = s.rte ∧ (commandNoackRule u m s).zne = s.zne ∧ (commandNoackRule u m s).base = s.base ∧ (commandNoackRule u m s).pending = s.pending := by
  refine ⟨?_, ?_, ?_, ?_, ?_, ?_, ?_⟩ <;>
    (unfold commandNoackRule; (try dsimp only); (repeat' split); all_goals simp)

@[simp] theorem commandNoackRule_chu (u : Nat) (m : Mark) (s : State) : (commandNoackRule u m s).chu = s.chu := (commandNoackRule_frame u m s).1
@[simp] theorem commandNoackRule_qxu (u : Nat) (m : Mark) (s : State) : (commandNoackRule u m s).qxu = s.qxu := (commandNoackRule_frame u m s).2.1
@[simp] theorem commandNoackRule_lmn (u : Nat) (m : Mark) (s : State) : (commandNoackRule u m s).lmn = s.lmn := (commandNoackRule_frame u m s).2.2.1
@[simp] theorem commandNoackRule_rte (u : Nat) (m : Mark) (s : State) : (commandNoackRule u m s).rte = s.rte := (commandNoackRule_frame u m s).2.2.2.1
@[simp] theorem commandNoackRule_zne (u : Nat) (m : Mark) (s : State) : (commandNoackRule u m s).zne = s.zne := (commandNoackRule_frame u m s).2.2.2.2.1
@[simp] theorem commandNoackRule_base (u : Nat) (m : Mark) (s : State) : (commandNoackRule u m s).base = s.base := (commandNoackRule_frame u m s).2.2.2.2.2.1
@[simp] theorem commandNoackRule_pending (u : Nat) (m : Mark) (s : State) : (commandNoackRule u m s).pending = s.pending := (commandNoackRule_frame u m s).2.2.2.2.2.2

theorem pollAnsweredRule_frame (u : Nat) (a b : Bool) (s : State) :
    (pollAnsweredRule u a b s).chu = s.chu ∧ (pollAnsweredRule u a b s).qxu = s.qxu ∧ (pollAnsweredRule u a b s).lmn = s.lmn ∧ (pollAnsweredRule u a b s).rte = s.rte ∧ (pollAnsweredRule u a b s).zne = s.zne ∧ (pollAnsweredRule u a b s).base = s.base ∧ (pollAnsweredRule u a b s).pending = s.pending := by
  refine ⟨?_, ?_, ?_, ?_, ?_, ?_, ?_⟩ <;>
    (unfold pollAnsweredRule; (try dsimp only); (repeat' split); all_goals simp)

@[simp] theorem pollAnsweredRule_chu (u : Nat) (a b : Bool) (s : State) : (pollAnsweredRule u a b s).chu = s.chu := (pollAnsweredRule_frame u a b s).1
@[simp] theorem pollAnsweredRule_qxu (u : Nat) (a b : Bool) (s : State) : (pollAnsweredRule u a b s).qxu = s.qxu := (pollAnsweredRule_frame u a b s).2.1
@[simp] theorem pollAnsweredRule_lmn (u : Nat) (a b : Bool) (s : State) : (pollAnsweredRule u a b s).lmn = s.lmn := (pollAnsweredRule_frame u a b s).2.2.1
@[simp] theorem pollAnsweredRule_rte (u : Nat) (a b : Bool) (s : State) : (pollAnsweredRule u a b s).rte = s.rte := (pollAnsweredRule_frame u a b s).2.2.2.1
@[simp] theorem pollAnsweredRule_zne (u : Nat) (a b : Bool) (s : State) : (pollAnsweredRule u a b s).zne = s.zne := (pollAnsweredRule_frame u a b s).2.2.2.2.1
@[simp] theorem pollAnsweredRule_base (u : Nat) (a b : Bool) (s : State) : (pollAnsweredRule u a b s).base = s.base := (pollAnsweredRule_frame u a b s).2.2.2.2.2.1
@[simp] theorem pollAnsweredRule_pending (u : Nat) (a b : Bool) (s : State) : (pollAnsweredRule u a b s).pending = s.pending := (pollAnsweredRule_frame u a b s).2.2.2.2.2.2

theorem pollNoackRule_frame (u : Nat) (s : State) :
    (pollNoackRule u s).chu = s.chu ∧ (pollNoackRule u s).qxu = s.qxu ∧ (pollNoackRule u s).lmn = s.lmn ∧ (pollNoackRule u s).rte = s.rte ∧ (pollNoackRule u s).zne = s.zne ∧ (pollNoackRule u s).base = s.base ∧ (pollNoackRule u s).pending = s.pending := by
  refine ⟨?_, ?_, ?_, ?_, ?_, ?_, ?_⟩ <;>
    (unfold pollNoackRule; (try dsimp only); (repeat' split); all_goals simp)

@[simp] theorem pollNoackRule_chu (u : Nat) (s : State) : (pollNoackRule u s).chu = s.chu := (pollNoackRule_frame u s).1
@[simp] theorem pollNoackRule_qxu (u : Nat) (s : State) : (pollNoackRule u s).qxu = s.qxu := (pollNoackRule_frame u s).2.1
@[simp] theorem pollNoackRule_lmn (u : Nat) (s : State) : (pollNoackRule u s).lmn = s.lmn := (pollNoackRule_frame u s).2.2.1
@[simp] theorem pollNoackRule_rte (u : Nat) (s : State) : (pollNoackRule u s).rte = s.rte := (pollNoackRule_frame u s).2.2.2.1
@[simp] theorem pollNoackRule_zne (u : Nat) (s : State) : (pollNoackRule u s).zne = s.zne := (pollNoackRule_frame u s).2.2.2.2.1
@[simp] theorem pollNoackRule_base (u : Nat) (s : State) : (pollNoackRule u s).base = s.base := (pollNoackRule_frame u s).2.2.2.2.2.1
@[simp] theorem pollNoackRule_pending (u : Nat) (s : State) : (pollNoackRule u s).pending = s.pending := (pollNoackRule_frame u s).2.2.2.2.2.2

theorem noackRule_frame (u : Nat) (m : Mark) (f : BusFailure) (s : State) :
    (noackRule u m f s).chu = s.chu ∧ (noackRule u m f s).qxu = s.qxu ∧ (noackRule u m f s).lmn = s.lmn ∧ (noackRule u m f s).rte = s.rte ∧ (noackRule u m f s).zne = s.zne ∧ (noackRule u m f s).base = s.base ∧ (noackRule u m f s).pending = s.pending := by
  refine ⟨?_, ?_, ?_, ?_, ?_, ?_, ?_⟩ <;>
    (unfold noackRule; (try dsimp only); (repeat' split); all_goals simp)

@[simp] theorem noackRule_chu (u : Nat) (m : Mark) (f : BusFailure) (s : State) : (noackRule u m f s).chu = s.chu := (noackRule_frame u m f s).1
@[simp] theorem noackRule_qxu (u : Nat) (m : Mark) (f : BusFailure) (s : State) : (noackRule u m f s).qxu = s.qxu := (noackRule_frame u m f s).2.1
@[simp] theorem noackRule_lmn (u : Nat) (m : Mark) (f : BusFailure) (s : State) : (noackRule u m f s).lmn = s.lmn := (noackRule_frame u m f s).2.2.1
@[simp] theorem noackRule_rte (u : Nat) (m : Mark) (f : BusFailure) (s : State) : (noackRule u m f s).rte = s.rte := (noackRule_frame u m f s).2.2.2.1
@[simp] theorem noackRule_zne (u : Nat) (m : Mark) (f : BusFailure) (s : State) : (noackRule u m f s).zne = s.zne := (noackRule_frame u m f s).2.2.2.2.1
@[simp] theorem noackRule_base (u : Nat) (m : Mark) (f : BusFailure) (s : State) : (noackRule u m f s).base = s.base := (noackRule_frame u m f s).2.2.2.2.2.1
@[simp] theorem noackRule_pending (u : Nat) (m : Mark) (f : BusFailure) (s : State) : (noackRule u m f s).pending = s.pending := (noackRule_frame u m f s).2.2.2.2.2.2

theorem busCheck_frame (s : State) :
    ((busCheck s).2).vrg = s.vrg ∧ ((busCheck s).2).chu = s.chu ∧ ((busCheck s).2).qxu = s.qxu ∧ ((busCheck s).2).lmn = s.lmn ∧ ((busCheck s).2).rte = s.rte ∧ ((busCheck s).2).zne = s.zne ∧ ((busCheck s).2).base = s.base ∧ ((busCheck s).2).pending = s.pending := by
  refine ⟨?_, ?_, ?_, ?_, ?_, ?_, ?_, ?_⟩ <;>
    (unfold busCheck; (try dsimp only); (repeat' split); all_goals simp)

@[simp] theorem busCheck_vrg (s : State) : ((busCheck s).2).vrg = s.vrg := (busCheck_frame s).1
@[simp] theorem busCheck_chu (s : State) : ((busCheck s).2).chu = s.chu := (busCheck_frame s).2.1
@[simp] theorem busCheck_qxu (s : State) : ((busCheck s).2).qxu = s.qxu := (busCheck_frame s).2.2.1
@[simp] theorem busCheck_lmn (s : State) : ((busCheck s).2).lmn = s.lmn := (busCheck_frame s).2.2.2.1
@[simp] theorem busCheck_rte (s : State) : ((busCheck s).2).rte = s.rte := (busCheck_frame s).2.2.2.2.1
@[simp] theorem busCheck_zne (s : State) : ((busCheck s).2).zne = s.zne := (busCheck_frame s).2.2.2.2.2.1
@[simp] theorem busCheck_base (s : State) : ((busCheck s).2).base = s.base := (busCheck_frame s).2.2.2.2.2.2.1
@[simp] theorem busCheck_pending (s : State) : ((busCheck s).2).pending = s.pending := (busCheck_frame s).2.2.2.2.2.2.2

theorem arbitrate_frame (n : Nat) (s : State) :
    (arbitrate n s).chu = s.chu ∧ (arbitrate n s).qxu = s.qxu ∧ (arbitrate n s).lmn = s.lmn ∧ (arbitrate n s).rte = s.rte ∧ (arbitrate n s).zne = s.zne ∧ (arbitrate n s).base = s.base ∧ (arbitrate n s).pending = s.pending := by
  induction n generalizing s with
  | zero => simp [arbitrate]
  | succ n ih =>
    unfold arbitrate
    repeat' split
    all_goals (try dsimp only)
    all_goals (repeat' split)
    all_goals simp [ih]

@[simp] theorem arbitrate_chu (n : Nat) (s : State) : (arbitrate n s).chu = s.chu := (arbitrate_frame n s).1
@[simp] theorem arbitrate_qxu (n : Nat) (s : State) : (arbitrate n s).qxu = s.qxu := (arbitrate_frame n s).2.1
@[simp] theorem arbitrate_lmn (n : Nat) (s : State) : (arbitrate n s).lmn = s.lmn := (arbitrate_frame n s).2.2.1
@[simp] theorem arbitrate_rte (n : Nat) (s : State) : (arbitrate n s).rte = s.rte := (arbitrate_frame n s).2.2.2.1
@[simp] theorem arbitrate_zne (n : Nat) (s : State) : (arbitrate n s).zne = s.zne := (arbitrate_frame n s).2.2.2.2.1
@[simp] theorem arbitrate_base (n : Nat) (s : State) : (arbitrate n s).base = s.base := (arbitrate_frame n s).2.2.2.2.2.1
@[simp] theorem arbitrate_pending (n : Nat) (s : State) : (arbitrate n s).pending = s.pending := (arbitrate_frame n s).2.2.2.2.2.2

theorem endProbe_frame (s : State) :
    (endProbe s).vrg = s.vrg ∧ (endProbe s).chu = s.chu ∧ (endProbe s).qxu = s.qxu ∧ (endProbe s).lmn = s.lmn ∧ (endProbe s).rte = s.rte ∧ (endProbe s).base = s.base ∧ (endProbe s).pending = s.pending := by
  refine ⟨?_, ?_, ?_, ?_, ?_, ?_, ?_⟩ <;>
    (unfold endProbe; (try dsimp only); (repeat' split); all_goals simp)

@[simp] theorem endProbe_vrg (s : State) : (endProbe s).vrg = s.vrg := (endProbe_frame s).1
@[simp] theorem endProbe_chu (s : State) : (endProbe s).chu = s.chu := (endProbe_frame s).2.1
@[simp] theorem endProbe_qxu (s : State) : (endProbe s).qxu = s.qxu := (endProbe_frame s).2.2.1
@[simp] theorem endProbe_lmn (s : State) : (endProbe s).lmn = s.lmn := (endProbe_frame s).2.2.2.1
@[simp] theorem endProbe_rte (s : State) : (endProbe s).rte = s.rte := (endProbe_frame s).2.2.2.2.1
@[simp] theorem endProbe_base (s : State) : (endProbe s).base = s.base := (endProbe_frame s).2.2.2.2.2.1
@[simp] theorem endProbe_pending (s : State) : (endProbe s).pending = s.pending := (endProbe_frame s).2.2.2.2.2.2

theorem settleBus_frame (s : State) :
    (settleBus s).chu = s.chu ∧ (settleBus s).qxu = s.qxu ∧ (settleBus s).lmn = s.lmn ∧ (settleBus s).rte = s.rte ∧ (settleBus s).base = s.base ∧ (settleBus s).pending = s.pending := by
  refine ⟨?_, ?_, ?_, ?_, ?_, ?_⟩ <;>
    (unfold settleBus; all_goals simp)

@[simp] theorem settleBus_chu (s : State) : (settleBus s).chu = s.chu := (settleBus_frame s).1
@[simp] theorem settleBus_qxu (s : State) : (settleBus s).qxu = s.qxu := (settleBus_frame s).2.1
@[simp] theorem settleBus_lmn (s : State) : (settleBus s).lmn = s.lmn := (settleBus_frame s).2.2.1
@[simp] theorem settleBus_rte (s : State) : (settleBus s).rte = s.rte := (settleBus_frame s).2.2.2.1
@[simp] theorem settleBus_base (s : State) : (settleBus s).base = s.base := (settleBus_frame s).2.2.2.2.1
@[simp] theorem settleBus_pending (s : State) : (settleBus s).pending = s.pending := (settleBus_frame s).2.2.2.2.2

theorem muteMarks_frame (u : Nat) (s : State) :
    (muteMarks u s).rqp = s.rqp ∧ (muteMarks u s).vrg = s.vrg ∧ (muteMarks u s).chu = s.chu ∧ (muteMarks u s).qxu = s.qxu ∧ (muteMarks u s).lmn = s.lmn ∧ (muteMarks u s).rte = s.rte ∧ (muteMarks u s).zne = s.zne ∧ (muteMarks u s).base = s.base ∧ (muteMarks u s).pending = s.pending := by
  refine ⟨?_, ?_, ?_, ?_, ?_, ?_, ?_, ?_, ?_⟩ <;>
    (unfold muteMarks; (try dsimp only); (repeat' split); all_goals simp)

@[simp] theorem muteMarks_rqp (u : Nat) (s : State) : (muteMarks u s).rqp = s.rqp := (muteMarks_frame u s).1
@[simp] theorem muteMarks_vrg (u : Nat) (s : State) : (muteMarks u s).vrg = s.vrg := (muteMarks_frame u s).2.1
@[simp] theorem muteMarks_chu (u : Nat) (s : State) : (muteMarks u s).chu = s.chu := (muteMarks_frame u s).2.2.1
@[simp] theorem muteMarks_qxu (u : Nat) (s : State) : (muteMarks u s).qxu = s.qxu := (muteMarks_frame u s).2.2.2.1
@[simp] theorem muteMarks_lmn (u : Nat) (s : State) : (muteMarks u s).lmn = s.lmn := (muteMarks_frame u s).2.2.2.2.1
@[simp] theorem muteMarks_rte (u : Nat) (s : State) : (muteMarks u s).rte = s.rte := (muteMarks_frame u s).2.2.2.2.2.1
@[simp] theorem muteMarks_zne (u : Nat) (s : State) : (muteMarks u s).zne = s.zne := (muteMarks_frame u s).2.2.2.2.2.2.1
@[simp] theorem muteMarks_base (u : Nat) (s : State) : (muteMarks u s).base = s.base := (muteMarks_frame u s).2.2.2.2.2.2.2.1
@[simp] theorem muteMarks_pending (u : Nat) (s : State) : (muteMarks u s).pending = s.pending := (muteMarks_frame u s).2.2.2.2.2.2.2.2

theorem beginMuting_frame (c : PolicyCause) (s : State) :
    (beginMuting c s).lmn = s.lmn ∧ (beginMuting c s).rte = s.rte ∧ (beginMuting c s).zne = s.zne ∧ (beginMuting c s).base = s.base ∧ (beginMuting c s).pending = s.pending := by
  unfold beginMuting
  have h_lmn : ∀ (l : List Nat) (s : State), (l.foldl (fun s u => muteMarks u s) s).lmn = s.lmn :=
    foldl_keeps State.lmn _ (fun s u => by simp)
  have h_rte : ∀ (l : List Nat) (s : State), (l.foldl (fun s u => muteMarks u s) s).rte = s.rte :=
    foldl_keeps State.rte _ (fun s u => by simp)
  have h_zne : ∀ (l : List Nat) (s : State), (l.foldl (fun s u => muteMarks u s) s).zne = s.zne :=
    foldl_keeps State.zne _ (fun s u => by simp)
  have h_base : ∀ (l : List Nat) (s : State), (l.foldl (fun s u => muteMarks u s) s).base = s.base :=
    foldl_keeps State.base _ (fun s u => by simp)
  have h_pending : ∀ (l : List Nat) (s : State), (l.foldl (fun s u => muteMarks u s) s).pending = s.pending :=
    foldl_keeps State.pending _ (fun s u => by simp)
  refine ⟨?_, ?_, ?_, ?_, ?_⟩ <;>
    (dsimp only; (repeat' split); all_goals simp [h_lmn, h_rte, h_zne, h_base, h_pending])

@[simp] theorem beginMuting_lmn (c : PolicyCause) (s : State) : (beginMuting c s).lmn = s.lmn := (beginMuting_frame c s).1
@[simp] theorem beginMuting_rte (c : PolicyCause) (s : State) : (beginMuting c s).rte = s.rte := (beginMuting_frame c s).2.1
@[simp] theorem beginMuting_zne (c : PolicyCause) (s : State) : (beginMuting c s).zne = s.zne := (beginMuting_frame c s).2.2.1
@[simp] theorem beginMuting_base (c : PolicyCause) (s : State) : (beginMuting c s).base = s.base := (beginMuting_frame c s).2.2.2.1
@[simp] theorem beginMuting_pending (c : PolicyCause) (s : State) : (beginMuting c s).pending = s.pending := (beginMuting_frame c s).2.2.2.2

theorem unmuteMarks_frame (u : Nat) (s : State) :
    (unmuteMarks u s).rqp = s.rqp ∧ (unmuteMarks u s).vrg = s.vrg ∧ (unmuteMarks u s).chu = s.chu ∧ (unmuteMarks u s).qxu = s.qxu ∧ (unmuteMarks u s).lmn = s.lmn ∧ (unmuteMarks u s).rte = s.rte ∧ (unmuteMarks u s).zne = s.zne ∧ (unmuteMarks u s).base = s.base ∧ (unmuteMarks u s).pending = s.pending := by
  refine ⟨?_, ?_, ?_, ?_, ?_, ?_, ?_, ?_, ?_⟩ <;>
    (unfold unmuteMarks; (try dsimp only); (repeat' split); all_goals simp)

@[simp] theorem unmuteMarks_rqp (u : Nat) (s : State) : (unmuteMarks u s).rqp = s.rqp := (unmuteMarks_frame u s).1
@[simp] theorem unmuteMarks_vrg (u : Nat) (s : State) : (unmuteMarks u s).vrg = s.vrg := (unmuteMarks_frame u s).2.1
@[simp] theorem unmuteMarks_chu (u : Nat) (s : State) : (unmuteMarks u s).chu = s.chu := (unmuteMarks_frame u s).2.2.1
@[simp] theorem unmuteMarks_qxu (u : Nat) (s : State) : (unmuteMarks u s).qxu = s.qxu := (unmuteMarks_frame u s).2.2.2.1
@[simp] theorem unmuteMarks_lmn (u : Nat) (s : State) : (unmuteMarks u s).lmn = s.lmn := (unmuteMarks_frame u s).2.2.2.2.1
@[simp] theorem unmuteMarks_rte (u : Nat) (s : State) : (unmuteMarks u s).rte = s.rte := (unmuteMarks_frame u s).2.2.2.2.2.1
@[simp] theorem unmuteMarks_zne (u : Nat) (s : State) : (unmuteMarks u s).zne = s.zne := (unmuteMarks_frame u s).2.2.2.2.2.2.1
@[simp] theorem unmuteMarks_base (u : Nat) (s : State) : (unmuteMarks u s).base = s.base := (unmuteMarks_frame u s).2.2.2.2.2.2.2.1
@[simp] theorem unmuteMarks_pending (u : Nat) (s : State) : (unmuteMarks u s).pending = s.pending := (unmuteMarks_frame u s).2.2.2.2.2.2.2.2

theorem beginUnmuting_frame (c : PolicyCause) (s : State) :
    (beginUnmuting c s).vrg = s.vrg ∧ (beginUnmuting c s).chu = s.chu ∧ (beginUnmuting c s).qxu = s.qxu ∧ (beginUnmuting c s).lmn = s.lmn ∧ (beginUnmuting c s).rte = s.rte ∧ (beginUnmuting c s).zne = s.zne ∧ (beginUnmuting c s).base = s.base ∧ (beginUnmuting c s).pending = s.pending := by
  unfold beginUnmuting
  have h_vrg : ∀ (l : List Nat) (s : State), (l.foldl (fun s u => unmuteMarks u s) s).vrg = s.vrg :=
    foldl_keeps State.vrg _ (fun s u => by simp)
  have h_chu : ∀ (l : List Nat) (s : State), (l.foldl (fun s u => unmuteMarks u s) s).chu = s.chu :=
    foldl_keeps State.chu _ (fun s u => by simp)
  have h_qxu : ∀ (l : List Nat) (s : State), (l.foldl (fun s u => unmuteMarks u s) s).qxu = s.qxu :=
    foldl_keeps State.qxu _ (fun s u => by simp)
  have h_lmn : ∀ (l : List Nat) (s : State), (l.foldl (fun s u => unmuteMarks u s) s).lmn = s.lmn :=
    foldl_keeps State.lmn _ (fun s u => by simp)
  have h_rte : ∀ (l : List Nat) (s : State), (l.foldl (fun s u => unmuteMarks u s) s).rte = s.rte :=
    foldl_keeps State.rte _ (fun s u => by simp)
  have h_zne : ∀ (l : List Nat) (s : State), (l.foldl (fun s u => unmuteMarks u s) s).zne = s.zne :=
    foldl_keeps State.zne _ (fun s u => by simp)
  have h_base : ∀ (l : List Nat) (s : State), (l.foldl (fun s u => unmuteMarks u s) s).base = s.base :=
    foldl_keeps State.base _ (fun s u => by simp)
  have h_pending : ∀ (l : List Nat) (s : State), (l.foldl (fun s u => unmuteMarks u s) s).pending = s.pending :=
    foldl_keeps State.pending _ (fun s u => by simp)
  refine ⟨?_, ?_, ?_, ?_, ?_, ?_, ?_, ?_⟩ <;>
    (dsimp only; all_goals simp [h_vrg, h_chu, h_qxu, h_lmn, h_rte, h_zne, h_base, h_pending])

@[simp] theorem beginUnmuting_vrg (c : PolicyCause) (s : State) : (beginUnmuting c s).vrg = s.vrg := (beginUnmuting_frame c s).1
@[simp] theorem beginUnmuting_chu (c : PolicyCause) (s : State) : (beginUnmuting c s).chu = s.chu := (beginUnmuting_frame c s).2.1
@[simp] theorem beginUnmuting_qxu (c : PolicyCause) (s : State) : (beginUnmuting c s).qxu = s.qxu := (beginUnmuting_frame c s).2.2.1
@[simp] theorem beginUnmuting_lmn (c : PolicyCause) (s : State) : (beginUnmuting c s).lmn = s.lmn := (beginUnmuting_frame c s).2.2.2.1
@[simp] theorem beginUnmuting_rte (c : PolicyCause) (s : State) : (beginUnmuting c s).rte = s.rte := (beginUnmuting_frame c s).2.2.2.2.1
@[simp] theorem beginUnmuting_zne (c : PolicyCause) (s : State) : (beginUnmuting c s).zne = s.zne := (beginUnmuting_frame c s).2.2.2.2.2.1
@[simp] theorem beginUnmuting_base (c : PolicyCause) (s : State) : (beginUnmuting c s).base = s.base := (beginUnmuting_frame c s).2.2.2.2.2.2.1
@[simp] theorem beginUnmuting_pending (c : PolicyCause) (s : State) : (beginUnmuting c s).pending = s.pending := (beginUnmuting_frame c s).2.2.2.2.2.2.2

theorem policyTurned_frame (p : Policy) (c : PolicyCause) (s : State) :
    (policyTurned p c s).lmn = s.lmn ∧ (policyTurned p c s).rte = s.rte ∧ (policyTurned p c s).base = s.base ∧ (policyTurned p c s).pending = s.pending := by
  refine ⟨?_, ?_, ?_, ?_⟩ <;>
    (unfold policyTurned; (try dsimp only); (repeat' split); all_goals simp)

@[simp] theorem policyTurned_lmn (p : Policy) (c : PolicyCause) (s : State) : (policyTurned p c s).lmn = s.lmn := (policyTurned_frame p c s).1
@[simp] theorem policyTurned_rte (p : Policy) (c : PolicyCause) (s : State) : (policyTurned p c s).rte = s.rte := (policyTurned_frame p c s).2.1
@[simp] theorem policyTurned_base (p : Policy) (c : PolicyCause) (s : State) : (policyTurned p c s).base = s.base := (policyTurned_frame p c s).2.2.1
@[simp] theorem policyTurned_pending (p : Policy) (c : PolicyCause) (s : State) : (policyTurned p c s).pending = s.pending := (policyTurned_frame p c s).2.2.2

theorem disposeMessage_frame (b : List Byte) (n : Bool) (s : State) :
    (disposeMessage b n s).rqp = s.rqp ∧ (disposeMessage b n s).vrg = s.vrg ∧ (disposeMessage b n s).chu = s.chu ∧ (disposeMessage b n s).qxu = s.qxu ∧ (disposeMessage b n s).lmn = s.lmn ∧ (disposeMessage b n s).rte = s.rte ∧ (disposeMessage b n s).rdc = s.rdc ∧ (disposeMessage b n s).base = s.base ∧ (disposeMessage b n s).pending = s.pending := by
  refine ⟨?_, ?_, ?_, ?_, ?_, ?_, ?_, ?_, ?_⟩ <;>
    (unfold disposeMessage; (try dsimp only); (repeat' split); all_goals simp)

@[simp] theorem disposeMessage_rqp (b : List Byte) (n : Bool) (s : State) : (disposeMessage b n s).rqp = s.rqp := (disposeMessage_frame b n s).1
@[simp] theorem disposeMessage_vrg (b : List Byte) (n : Bool) (s : State) : (disposeMessage b n s).vrg = s.vrg := (disposeMessage_frame b n s).2.1
@[simp] theorem disposeMessage_chu (b : List Byte) (n : Bool) (s : State) : (disposeMessage b n s).chu = s.chu := (disposeMessage_frame b n s).2.2.1
@[simp] theorem disposeMessage_qxu (b : List Byte) (n : Bool) (s : State) : (disposeMessage b n s).qxu = s.qxu := (disposeMessage_frame b n s).2.2.2.1
@[simp] theorem disposeMessage_lmn (b : List Byte) (n : Bool) (s : State) : (disposeMessage b n s).lmn = s.lmn := (disposeMessage_frame b n s).2.2.2.2.1
@[simp] theorem disposeMessage_rte (b : List Byte) (n : Bool) (s : State) : (disposeMessage b n s).rte = s.rte := (disposeMessage_frame b n s).2.2.2.2.2.1
@[simp] theorem disposeMessage_rdc (b : List Byte) (n : Bool) (s : State) : (disposeMessage b n s).rdc = s.rdc := (disposeMessage_frame b n s).2.2.2.2.2.2.1
@[simp] theorem disposeMessage_base (b : List Byte) (n : Bool) (s : State) : (disposeMessage b n s).base = s.base := (disposeMessage_frame b n s).2.2.2.2.2.2.2.1
@[simp] theorem disposeMessage_pending (b : List Byte) (n : Bool) (s : State) : (disposeMessage b n s).pending = s.pending := (disposeMessage_frame b n s).2.2.2.2.2.2.2.2

theorem takeByte_frame (b : Byte) (n : Bool) (s : State) :
    (takeByte b n s).rqp = s.rqp ∧ (takeByte b n s).vrg = s.vrg ∧ (takeByte b n s).chu = s.chu ∧ (takeByte b n s).qxu = s.qxu ∧ (takeByte b n s).lmn = s.lmn ∧ (takeByte b n s).rte = s.rte ∧ (takeByte b n s).rdc = s.rdc ∧ (takeByte b n s).base = s.base ∧ (takeByte b n s).pending = s.pending := by
  refine ⟨?_, ?_, ?_, ?_, ?_, ?_, ?_, ?_, ?_⟩ <;>
    (unfold takeByte; (try dsimp only); (repeat' split); all_goals simp)

@[simp] theorem takeByte_rqp (b : Byte) (n : Bool) (s : State) : (takeByte b n s).rqp = s.rqp := (takeByte_frame b n s).1
@[simp] theorem takeByte_vrg (b : Byte) (n : Bool) (s : State) : (takeByte b n s).vrg = s.vrg := (takeByte_frame b n s).2.1
@[simp] theorem takeByte_chu (b : Byte) (n : Bool) (s : State) : (takeByte b n s).chu = s.chu := (takeByte_frame b n s).2.2.1
@[simp] theorem takeByte_qxu (b : Byte) (n : Bool) (s : State) : (takeByte b n s).qxu = s.qxu := (takeByte_frame b n s).2.2.2.1
@[simp] theorem takeByte_lmn (b : Byte) (n : Bool) (s : State) : (takeByte b n s).lmn = s.lmn := (takeByte_frame b n s).2.2.2.2.1
@[simp] theorem takeByte_rte (b : Byte) (n : Bool) (s : State) : (takeByte b n s).rte = s.rte := (takeByte_frame b n s).2.2.2.2.2.1
@[simp] theorem takeByte_rdc (b : Byte) (n : Bool) (s : State) : (takeByte b n s).rdc = s.rdc := (takeByte_frame b n s).2.2.2.2.2.2.1
@[simp] theorem takeByte_base (b : Byte) (n : Bool) (s : State) : (takeByte b n s).base = s.base := (takeByte_frame b n s).2.2.2.2.2.2.2.1
@[simp] theorem takeByte_pending (b : Byte) (n : Bool) (s : State) : (takeByte b n s).pending = s.pending := (takeByte_frame b n s).2.2.2.2.2.2.2.2

theorem endReception_frame (w : NavDiscard) (s : State) :
    (endReception w s).rqp = s.rqp ∧ (endReception w s).vrg = s.vrg ∧ (endReception w s).chu = s.chu ∧ (endReception w s).qxu = s.qxu ∧ (endReception w s).lmn = s.lmn ∧ (endReception w s).rte = s.rte ∧ (endReception w s).rdc = s.rdc ∧ (endReception w s).base = s.base ∧ (endReception w s).pending = s.pending := by
  refine ⟨?_, ?_, ?_, ?_, ?_, ?_, ?_, ?_, ?_⟩ <;>
    (unfold endReception; (repeat' split); all_goals simp)

@[simp] theorem endReception_rqp (w : NavDiscard) (s : State) : (endReception w s).rqp = s.rqp := (endReception_frame w s).1
@[simp] theorem endReception_vrg (w : NavDiscard) (s : State) : (endReception w s).vrg = s.vrg := (endReception_frame w s).2.1
@[simp] theorem endReception_chu (w : NavDiscard) (s : State) : (endReception w s).chu = s.chu := (endReception_frame w s).2.2.1
@[simp] theorem endReception_qxu (w : NavDiscard) (s : State) : (endReception w s).qxu = s.qxu := (endReception_frame w s).2.2.2.1
@[simp] theorem endReception_lmn (w : NavDiscard) (s : State) : (endReception w s).lmn = s.lmn := (endReception_frame w s).2.2.2.2.1
@[simp] theorem endReception_rte (w : NavDiscard) (s : State) : (endReception w s).rte = s.rte := (endReception_frame w s).2.2.2.2.2.1
@[simp] theorem endReception_rdc (w : NavDiscard) (s : State) : (endReception w s).rdc = s.rdc := (endReception_frame w s).2.2.2.2.2.2.1
@[simp] theorem endReception_base (w : NavDiscard) (s : State) : (endReception w s).base = s.base := (endReception_frame w s).2.2.2.2.2.2.2.1
@[simp] theorem endReception_pending (w : NavDiscard) (s : State) : (endReception w s).pending = s.pending := (endReception_frame w s).2.2.2.2.2.2.2.2

theorem zoneNotice_frame (j : Subject) (d v1 v2 v3 v4 v5 : Byte) (s : State) :
    (zoneNotice j d v1 v2 v3 v4 v5 s).vrg = s.vrg ∧ (zoneNotice j d v1 v2 v3 v4 v5 s).chu = s.chu ∧ (zoneNotice j d v1 v2 v3 v4 v5 s).qxu = s.qxu ∧ (zoneNotice j d v1 v2 v3 v4 v5 s).lmn = s.lmn ∧ (zoneNotice j d v1 v2 v3 v4 v5 s).rte = s.rte ∧ (zoneNotice j d v1 v2 v3 v4 v5 s).zne = s.zne ∧ (zoneNotice j d v1 v2 v3 v4 v5 s).rdc = s.rdc ∧ (zoneNotice j d v1 v2 v3 v4 v5 s).base = s.base ∧ (zoneNotice j d v1 v2 v3 v4 v5 s).pending = s.pending := by
  refine ⟨?_, ?_, ?_, ?_, ?_, ?_, ?_, ?_, ?_⟩ <;>
    (unfold zoneNotice; all_goals simp)

@[simp] theorem zoneNotice_vrg (j : Subject) (d v1 v2 v3 v4 v5 : Byte) (s : State) : (zoneNotice j d v1 v2 v3 v4 v5 s).vrg = s.vrg := (zoneNotice_frame j d v1 v2 v3 v4 v5 s).1
@[simp] theorem zoneNotice_chu (j : Subject) (d v1 v2 v3 v4 v5 : Byte) (s : State) : (zoneNotice j d v1 v2 v3 v4 v5 s).chu = s.chu := (zoneNotice_frame j d v1 v2 v3 v4 v5 s).2.1
@[simp] theorem zoneNotice_qxu (j : Subject) (d v1 v2 v3 v4 v5 : Byte) (s : State) : (zoneNotice j d v1 v2 v3 v4 v5 s).qxu = s.qxu := (zoneNotice_frame j d v1 v2 v3 v4 v5 s).2.2.1
@[simp] theorem zoneNotice_lmn (j : Subject) (d v1 v2 v3 v4 v5 : Byte) (s : State) : (zoneNotice j d v1 v2 v3 v4 v5 s).lmn = s.lmn := (zoneNotice_frame j d v1 v2 v3 v4 v5 s).2.2.2.1
@[simp] theorem zoneNotice_rte (j : Subject) (d v1 v2 v3 v4 v5 : Byte) (s : State) : (zoneNotice j d v1 v2 v3 v4 v5 s).rte = s.rte := (zoneNotice_frame j d v1 v2 v3 v4 v5 s).2.2.2.2.1
@[simp] theorem zoneNotice_zne (j : Subject) (d v1 v2 v3 v4 v5 : Byte) (s : State) : (zoneNotice j d v1 v2 v3 v4 v5 s).zne = s.zne := (zoneNotice_frame j d v1 v2 v3 v4 v5 s).2.2.2.2.2.1
@[simp] theorem zoneNotice_rdc (j : Subject) (d v1 v2 v3 v4 v5 : Byte) (s : State) : (zoneNotice j d v1 v2 v3 v4 v5 s).rdc = s.rdc := (zoneNotice_frame j d v1 v2 v3 v4 v5 s).2.2.2.2.2.2.1
@[simp] theorem zoneNotice_base (j : Subject) (d v1 v2 v3 v4 v5 : Byte) (s : State) : (zoneNotice j d v1 v2 v3 v4 v5 s).base = s.base := (zoneNotice_frame j d v1 v2 v3 v4 v5 s).2.2.2.2.2.2.2.1
@[simp] theorem zoneNotice_pending (j : Subject) (d v1 v2 v3 v4 v5 : Byte) (s : State) : (zoneNotice j d v1 v2 v3 v4 v5 s).pending = s.pending := (zoneNotice_frame j d v1 v2 v3 v4 v5 s).2.2.2.2.2.2.2.2

theorem breakStatus_frame (s : State) :
    (breakStatus s).vrg = s.vrg ∧ (breakStatus s).chu = s.chu ∧ (breakStatus s).qxu = s.qxu ∧ (breakStatus s).lmn = s.lmn ∧ (breakStatus s).rte = s.rte ∧ (breakStatus s).rdc = s.rdc ∧ (breakStatus s).base = s.base ∧ (breakStatus s).pending = s.pending := by
  refine ⟨?_, ?_, ?_, ?_, ?_, ?_, ?_, ?_⟩ <;>
    (unfold breakStatus; (try dsimp only); (repeat' split); all_goals simp)

@[simp] theorem breakStatus_vrg (s : State) : (breakStatus s).vrg = s.vrg := (breakStatus_frame s).1
@[simp] theorem breakStatus_chu (s : State) : (breakStatus s).chu = s.chu := (breakStatus_frame s).2.1
@[simp] theorem breakStatus_qxu (s : State) : (breakStatus s).qxu = s.qxu := (breakStatus_frame s).2.2.1
@[simp] theorem breakStatus_lmn (s : State) : (breakStatus s).lmn = s.lmn := (breakStatus_frame s).2.2.2.1
@[simp] theorem breakStatus_rte (s : State) : (breakStatus s).rte = s.rte := (breakStatus_frame s).2.2.2.2.1
@[simp] theorem breakStatus_rdc (s : State) : (breakStatus s).rdc = s.rdc := (breakStatus_frame s).2.2.2.2.2.1
@[simp] theorem breakStatus_base (s : State) : (breakStatus s).base = s.base := (breakStatus_frame s).2.2.2.2.2.2.1
@[simp] theorem breakStatus_pending (s : State) : (breakStatus s).pending = s.pending := (breakStatus_frame s).2.2.2.2.2.2.2

theorem lineByte_frame (x : LineByte) (s : State) :
    (lineByte x s).vrg = s.vrg ∧ (lineByte x s).chu = s.chu ∧ (lineByte x s).qxu = s.qxu ∧ (lineByte x s).lmn = s.lmn ∧ (lineByte x s).rte = s.rte ∧ (lineByte x s).rdc = s.rdc ∧ (lineByte x s).base = s.base ∧ (lineByte x s).pending = s.pending := by
  refine ⟨?_, ?_, ?_, ?_, ?_, ?_, ?_, ?_⟩ <;>
    (unfold lineByte; (try dsimp only); (repeat' split); all_goals simp)

@[simp] theorem lineByte_vrg (x : LineByte) (s : State) : (lineByte x s).vrg = s.vrg := (lineByte_frame x s).1
@[simp] theorem lineByte_chu (x : LineByte) (s : State) : (lineByte x s).chu = s.chu := (lineByte_frame x s).2.1
@[simp] theorem lineByte_qxu (x : LineByte) (s : State) : (lineByte x s).qxu = s.qxu := (lineByte_frame x s).2.2.1
@[simp] theorem lineByte_lmn (x : LineByte) (s : State) : (lineByte x s).lmn = s.lmn := (lineByte_frame x s).2.2.2.1
@[simp] theorem lineByte_rte (x : LineByte) (s : State) : (lineByte x s).rte = s.rte := (lineByte_frame x s).2.2.2.2.1
@[simp] theorem lineByte_rdc (x : LineByte) (s : State) : (lineByte x s).rdc = s.rdc := (lineByte_frame x s).2.2.2.2.2.1
@[simp] theorem lineByte_base (x : LineByte) (s : State) : (lineByte x s).base = s.base := (lineByte_frame x s).2.2.2.2.2.2.1
@[simp] theorem lineByte_pending (x : LineByte) (s : State) : (lineByte x s).pending = s.pending := (lineByte_frame x s).2.2.2.2.2.2.2

theorem handOnPermit_frame (o : LinkSet) (s : State) :
    (handOnPermit o s).lmn = s.lmn ∧ (handOnPermit o s).zne = s.zne ∧ (handOnPermit o s).rdc = s.rdc ∧ (handOnPermit o s).base = s.base ∧ (handOnPermit o s).pending = s.pending := by
  refine ⟨?_, ?_, ?_, ?_, ?_⟩ <;>
    (unfold handOnPermit; (try dsimp only); (repeat' split); all_goals simp)

@[simp] theorem handOnPermit_lmn (o : LinkSet) (s : State) : (handOnPermit o s).lmn = s.lmn := (handOnPermit_frame o s).1
@[simp] theorem handOnPermit_zne (o : LinkSet) (s : State) : (handOnPermit o s).zne = s.zne := (handOnPermit_frame o s).2.1
@[simp] theorem handOnPermit_rdc (o : LinkSet) (s : State) : (handOnPermit o s).rdc = s.rdc := (handOnPermit_frame o s).2.2.1
@[simp] theorem handOnPermit_base (o : LinkSet) (s : State) : (handOnPermit o s).base = s.base := (handOnPermit_frame o s).2.2.2.1
@[simp] theorem handOnPermit_pending (o : LinkSet) (s : State) : (handOnPermit o s).pending = s.pending := (handOnPermit_frame o s).2.2.2.2

theorem handOnPolicy_frame (o : Policy) (s : State) :
    (handOnPolicy o s).lmn = s.lmn ∧ (handOnPolicy o s).rte = s.rte ∧ (handOnPolicy o s).base = s.base ∧ (handOnPolicy o s).pending = s.pending := by
  refine ⟨?_, ?_, ?_, ?_⟩ <;>
    (unfold handOnPolicy; (repeat' split); all_goals simp)

@[simp] theorem handOnPolicy_lmn (o : Policy) (s : State) : (handOnPolicy o s).lmn = s.lmn := (handOnPolicy_frame o s).1
@[simp] theorem handOnPolicy_rte (o : Policy) (s : State) : (handOnPolicy o s).rte = s.rte := (handOnPolicy_frame o s).2.1
@[simp] theorem handOnPolicy_base (o : Policy) (s : State) : (handOnPolicy o s).base = s.base := (handOnPolicy_frame o s).2.2.1
@[simp] theorem handOnPolicy_pending (o : Policy) (s : State) : (handOnPolicy o s).pending = s.pending := (handOnPolicy_frame o s).2.2.2

theorem handOn_frame (o : InForce) (s : State) :
    (handOn o s).lmn = s.lmn ∧ (handOn o s).base = s.base ∧ (handOn o s).pending = s.pending := by
  refine ⟨?_, ?_, ?_⟩ <;>
    (unfold handOn; all_goals simp)

@[simp] theorem handOn_lmn (o : InForce) (s : State) : (handOn o s).lmn = s.lmn := (handOn_frame o s).1
@[simp] theorem handOn_base (o : InForce) (s : State) : (handOn o s).base = s.base := (handOn_frame o s).2.1
@[simp] theorem handOn_pending (o : InForce) (s : State) : (handOn o s).pending = s.pending := (handOn_frame o s).2.2

theorem changedNotice_frame (z : Nat) (p : PositionState) (c : ChangeClass) (s : State) :
    (changedNotice z p c s).vrg = s.vrg ∧ (changedNotice z p c s).chu = s.chu ∧ (changedNotice z p c s).qxu = s.qxu ∧ (changedNotice z p c s).lmn = s.lmn ∧ (changedNotice z p c s).rte = s.rte ∧ (changedNotice z p c s).zne = s.zne ∧ (changedNotice z p c s).rdc = s.rdc ∧ (changedNotice z p c s).base = s.base ∧ (changedNotice z p c s).pending = s.pending := by
  refine ⟨?_, ?_, ?_, ?_, ?_, ?_, ?_, ?_, ?_⟩ <;>
    (unfold changedNotice; all_goals simp)

@[simp] theorem changedNotice_vrg (z : Nat) (p : PositionState) (c : ChangeClass) (s : State) : (changedNotice z p c s).vrg = s.vrg := (changedNotice_frame z p c s).1
@[simp] theorem changedNotice_chu (z : Nat) (p : PositionState) (c : ChangeClass) (s : State) : (changedNotice z p c s).chu = s.chu := (changedNotice_frame z p c s).2.1
@[simp] theorem changedNotice_qxu (z : Nat) (p : PositionState) (c : ChangeClass) (s : State) : (changedNotice z p c s).qxu = s.qxu := (changedNotice_frame z p c s).2.2.1
@[simp] theorem changedNotice_lmn (z : Nat) (p : PositionState) (c : ChangeClass) (s : State) : (changedNotice z p c s).lmn = s.lmn := (changedNotice_frame z p c s).2.2.2.1
@[simp] theorem changedNotice_rte (z : Nat) (p : PositionState) (c : ChangeClass) (s : State) : (changedNotice z p c s).rte = s.rte := (changedNotice_frame z p c s).2.2.2.2.1
@[simp] theorem changedNotice_zne (z : Nat) (p : PositionState) (c : ChangeClass) (s : State) : (changedNotice z p c s).zne = s.zne := (changedNotice_frame z p c s).2.2.2.2.2.1
@[simp] theorem changedNotice_rdc (z : Nat) (p : PositionState) (c : ChangeClass) (s : State) : (changedNotice z p c s).rdc = s.rdc := (changedNotice_frame z p c s).2.2.2.2.2.2.1
@[simp] theorem changedNotice_base (z : Nat) (p : PositionState) (c : ChangeClass) (s : State) : (changedNotice z p c s).base = s.base := (changedNotice_frame z p c s).2.2.2.2.2.2.2.1
@[simp] theorem changedNotice_pending (z : Nat) (p : PositionState) (c : ChangeClass) (s : State) : (changedNotice z p c s).pending = s.pending := (changedNotice_frame z p c s).2.2.2.2.2.2.2.2

theorem takeEffect_frame (k : Nat) (c : ChangeClass) (s : State) :
    (takeEffect k c s).lmn = s.lmn ∧ (takeEffect k c s).base = s.base ∧ (takeEffect k c s).pending = s.pending := by
  refine ⟨?_, ?_, ?_⟩ <;>
    (unfold takeEffect; (try dsimp only); all_goals simp)

@[simp] theorem takeEffect_lmn (k : Nat) (c : ChangeClass) (s : State) : (takeEffect k c s).lmn = s.lmn := (takeEffect_frame k c s).1
@[simp] theorem takeEffect_base (k : Nat) (c : ChangeClass) (s : State) : (takeEffect k c s).base = s.base := (takeEffect_frame k c s).2.1
@[simp] theorem takeEffect_pending (k : Nat) (c : ChangeClass) (s : State) : (takeEffect k c s).pending = s.pending := (takeEffect_frame k c s).2.2

theorem countFix_frame (k : Nat) (c : ChangeClass) (s : State) :
    (countFix k c s).lmn = s.lmn ∧ (countFix k c s).base = s.base ∧ (countFix k c s).pending = s.pending := by
  refine ⟨?_, ?_, ?_⟩ <;>
    (unfold countFix; (try dsimp only); (repeat' split); all_goals simp)

@[simp] theorem countFix_lmn (k : Nat) (c : ChangeClass) (s : State) : (countFix k c s).lmn = s.lmn := (countFix_frame k c s).1
@[simp] theorem countFix_base (k : Nat) (c : ChangeClass) (s : State) : (countFix k c s).base = s.base := (countFix_frame k c s).2.1
@[simp] theorem countFix_pending (k : Nat) (c : ChangeClass) (s : State) : (countFix k c s).pending = s.pending := (countFix_frame k c s).2.2

theorem wantChange_frame (k : Nat) (f : Fix) (s : State) :
    (wantChange k f s).lmn = s.lmn ∧ (wantChange k f s).base = s.base ∧ (wantChange k f s).pending = s.pending := by
  refine ⟨?_, ?_, ?_⟩ <;>
    (unfold wantChange; (repeat' split); all_goals simp)

@[simp] theorem wantChange_lmn (k : Nat) (f : Fix) (s : State) : (wantChange k f s).lmn = s.lmn := (wantChange_frame k f s).1
@[simp] theorem wantChange_base (k : Nat) (f : Fix) (s : State) : (wantChange k f s).base = s.base := (wantChange_frame k f s).2.1
@[simp] theorem wantChange_pending (k : Nat) (f : Fix) (s : State) : (wantChange k f s).pending = s.pending := (wantChange_frame k f s).2.2

theorem evaluateFix_frame (f : Fix) (s : State) :
    (evaluateFix f s).lmn = s.lmn ∧ (evaluateFix f s).base = s.base ∧ (evaluateFix f s).pending = s.pending := by
  refine ⟨?_, ?_, ?_⟩ <;>
    (unfold evaluateFix; (try dsimp only); (repeat' split); all_goals simp)

@[simp] theorem evaluateFix_lmn (f : Fix) (s : State) : (evaluateFix f s).lmn = s.lmn := (evaluateFix_frame f s).1
@[simp] theorem evaluateFix_base (f : Fix) (s : State) : (evaluateFix f s).base = s.base := (evaluateFix_frame f s).2.1
@[simp] theorem evaluateFix_pending (f : Fix) (s : State) : (evaluateFix f s).pending = s.pending := (evaluateFix_frame f s).2.2

end Sys2Proof.Machine
end

