-- ==== Sys2Proof/Laws/Credit.lean ====
section
/-! SUPPORT. What asking for a QUOTA exchange leaves, the check of the data wire, and the gate of R70: one lemma each, to be
cited in place of the definitions. -/

namespace Sys2Proof.Machine

/-- A link of the control preference list is eligible exactly where the list holds one. -/
theorem anyControlEligible_iff (s : State) : s.anyControlEligible = true ↔ ∃ l ∈ s.settings.control, s.eligible l = true := by
  simp [State.anyControlEligible]

theorem updVisitor_of_visitor {s : State} {i : Nat} {v : Visitor} (g : Visitor → Visitor) (h : s.visitor i = some v) :
    s.updVisitor i g = s.setSlot i { s.slot i with visitor := some (g v) } := by
  have h : (s.slot i).visitor = some v := h
  simp [State.updVisitor, h]

/-- The place of a QUOTA exchange on the deferred list: behind the AUTHORIZE and QUOTA exchanges, before the FINAL ones. -/
theorem joinWaiting_quota (i : Nat) (l : List Waiting) : ∃ a b, l = a ++ b ∧ joinWaiting ⟨i, .quota⟩ l = a ++ ⟨i, .quota⟩ :: b ∧
    (∀ x ∈ a, x.kind ≠ .final) ∧ ∀ x ∈ b.head?, x.kind = .final := by
  induction l with
  | nil => exact ⟨[], [], rfl, rfl, by simp, by simp⟩
  | cons x xs ih =>
    obtain ⟨a, b, h1, h2, h3, h4⟩ := ih
    by_cases hx : x.kind = .final
    · exact ⟨[], x :: xs, rfl, by simp [joinWaiting, kindRank, hx], by simp, by simp [hx]⟩
    · refine ⟨x :: a, b, by simp [h1], ?_, ?_, h4⟩
      · have : ¬ kindRank .quota < kindRank x.kind := by cases hk : x.kind <;> simp_all [kindRank]
        simp [joinWaiting, this, h2]
      · intro y hy
        rcases List.mem_cons.mp hy with rfl | hy
        · exact hx
        · exact h3 y hy

/-- A visitor that takes a free entry: its exchange, its reference and the creation order; the notice rules act then. -/
theorem createExchange_eq {s : State} {i j : Nat} {v : Visitor} (k : XKind) (h : s.visitor i = some v) :
    createExchange j i k s = noticeToSend j
      ((s.setSlot i { s.slot i with
          visitor := some { v with xref := some ⟨j, (s.entry j).use + 1⟩, deferred := false } }).withQxu
        { s.qxu with
          entries := tset xentryReset s.qxu.entries j ⟨(s.entry j).use + 1, some (s.newExchange i k)⟩
          order := s.qxu.order ++ [j] }) := by
  have h : (s.slot i).visitor = some v := h
  simp only [createExchange, State.updVisitor]
  simp [h]
  rfl

/-- An exchange that is TO_SEND gives its notice where a link of the control preference list is eligible, and owes it
otherwise. -/
theorem noticeToSend_eq {s : State} {j : Nat} {x : Exchange} (h : (s.entry j).ex = some x) :
    noticeToSend j s =
      if s.anyControlEligible then
        giveNotice .exchange (.exchange j) 1 (xkindByte x.kind) (if x.second then 2 else 1) (s.entry j).use 0 0 s
      else s.withQxu { s.qxu with owed := true } := by
  simp [noticeToSend, exchangeNotice, h]

/-- What asking for a QUOTA exchange does, all of it: the visitor's reference or mark, and the exchange unit's part. -/
theorem requestExchange_quota {s : State} {i : Nat} {v : Visitor} (h : s.visitor i = some v) :
    ∃ w, (requestExchange i .quota s).slot i = { s.slot i with visitor := some w } ∧
      w = { v with xref := w.xref, deferred := w.deferred } ∧
      (∀ j, j ≠ i → (requestExchange i .quota s).slot j = s.slot j) ∧
      QuotaAsked s (requestExchange i .quota s) i v w [] := by
  simp only [requestExchange]
  split
  case h_1 j hj =>
    obtain ⟨h1, -, h2, h3⟩ := firstIndex_spec _ _ _ _ _ _ hj
    have hfree : ∀ m < 64, (s.entry m).ex = none → (∀ k < m, (s.entry k).ex.isSome) → m = j := by
      intro m hm he hk
      rcases Nat.lt_trichotomy m j with hl | rfl | hl
      · have := h3 m (Nat.zero_le _) hl
        have he : (tget xentryReset s.qxu.entries m).ex = none := he
        simp [he] at this
      · rfl
      · have := hk j hl
        have h1 : (s.entry j).ex.isNone = true := h1
        cases hx : (s.entry j).ex <;> simp_all
    rw [createExchange_eq .quota h, noticeToSend_eq (x := s.newExchange i .quota) (by simp [State.entry])]
    refine ⟨{ v with xref := some ⟨j, (s.entry j).use + 1⟩, deferred := false }, ?_, rfl, ?_, ?_, ?_⟩
    · split <;> simp [giveNotice] <;> split <;> simp
    · intro m hm
      split <;> simp [giveNotice] <;> (try split) <;> simp [State.setSlot_slot, Ne.symm hm]
    · intro m hm he hk
      obtain rfl := hfree m hm he hk
      have hv : (s.slot i).visitor = some v := h
      have hl := anyControlEligible_iff s
      refine ⟨rfl, rfl, ?_, ?_, ?_, ?_, fun hy => ?_, fun hn => ?_⟩
      · split <;> simp [giveNotice] <;> (try split) <;> simp [State.entry, State.newExchange, hv]
      · intro k hk
        split <;> simp [giveNotice] <;> (try split) <;> simp [State.entry, tget_tset, Ne.symm hk]
      · split <;> simp [giveNotice] <;> split <;> simp
      · split <;> simp [giveNotice] <;> split <;> simp
      · split
        · refine ⟨by simp, fun hroom => ?_⟩
          have : s.rqp.notices.length < Config.noticeCapacity := by simp at hroom; simp [Config.noticeCapacity]; omega
          simp [giveNotice, this, State.entry, State.newExchange, xkindByte]
        · rename_i hc
          exact absurd (hl.mpr hy) hc
      · split
        · rename_i hc
          exact absurd (hl.mp hc) hn
        · exact ⟨rfl, fun _ => by simp⟩
    · intro hfull
      have h2 : j < 64 := by simpa [Config.exchanges] using h2
      have := hfull j h2
      have h1 : (s.entry j).ex.isNone = true := h1
      cases hx : (s.entry j).ex <;> simp_all
  case h_2 hn =>
    have hfull := firstIndex_none _ _ _ _ _ hn
    obtain ⟨a, b, h1, h2, h3, h4⟩ := joinWaiting_quota i s.qxu.deferred
    rw [updVisitor_of_visitor _ (v := v) (by exact h)]
    refine ⟨{ v with deferred := true }, by simp, rfl, fun j hj => by simp [State.setSlot_slot, Ne.symm hj], ?_, ?_⟩
    · intro m hm he _
      have := hfull m (Nat.zero_le _) (by simpa [Config.exchanges] using hm)
      have he : (tget xentryReset s.qxu.entries m).ex = none := he
      simp [he] at this
    · intro _
      refine ⟨rfl, rfl, by simp, fun _ => by simp, a, b, h1, by simp [h2], h3, h4⟩
/-- With no retry wait running and credit left the gate is OPEN (R70 case 2). -/
theorem gateAfter_opened {v : Visitor} {q : Quota} (h1 : q.retry = none) (h2 : 0 < q.remaining) : gateAfter v q = .opened := by
  simp [gateAfter, h1, h2]

/-- What a check of the data wire leaves in the radio controller, whatever it finds (R169, R205). -/
theorem busCheck_rdc (s : State) : (busCheck s).2.rdc = { s.rdc with
    speed := s.settings.busSpeed, wire := laterFindings s.rdc.wire, busFault := !decide (wireFinding s.rdc.wire ≤ 9)
    recovery := s.rdc.recovery ++ [(s.settings.busSpeed, recoveryPulses (wireFinding s.rdc.wire))] } := by
  simp only [busCheck]
  split
  · simp [radioNotice]
  · split <;> simp [radioNotice]

/-- The check finds the wire high exactly where up to nine pulses raise it (R169). -/
@[simp] theorem busCheck_fst (s : State) : (busCheck s).1 = decide (wireFinding s.rdc.wire ≤ 9) := rfl

@[simp] theorem wireFinding_nil : wireFinding [] = 0 := rfl
@[simp] theorem wireFinding_cons (n : Nat) (l : List Nat) : wireFinding (n :: l) = n := rfl
@[simp] theorem laterFindings_nil : laterFindings [] = [] := rfl
@[simp] theorem laterFindings_last (n : Nat) : laterFindings [n] = [n] := rfl
@[simp] theorem laterFindings_cons (n m : Nat) (l : List Nat) : laterFindings (n :: m :: l) = m :: l := rfl

end Sys2Proof.Machine
end

