-- ==== Sys2Proof/Laws/PerInstr.lean ====
section
/-! SUPPORT. The family PayloadLength: the encoder writes for each request exactly the payload length R212 gives its kind, and
for a command that is no request nothing. One lemma for each constructor of Instr. -/

namespace Sys2Proof.Laws.PayloadLength

/-- The payload of a command has the length of its kind (R212, R213). -/
def Statement (i : Instr) : Prop := ∀ f k p, payloadOf i = some (f, k, p) → p.length = k.len

/-- A request's payload is the one its fields spell, so its length is all there is to check. -/
theorem of_payload {i : Instr} {f : Frame} {k : RequestKind} {p : List Byte} (h : payloadOf i = some (f, k, p))
    (hl : p.length = k.len) : Statement i := by
  intro f' k' p' h'
  rw [h] at h'
  cases h'
  exact hl

/-- A command that is no request has no payload. -/
theorem of_event {i : Instr} (h : payloadOf i = none) : Statement i := by
  intro f k p h'
  rw [h] at h'
  cases h'

theorem admitVisitor (f : Frame) (sid : BitVec 64) (cls : Byte) (unit : Byte) : Statement (.admitVisitor f sid cls unit) :=
  of_payload rfl (by simp [kAdmit])

theorem refresh (f : Frame) (handle : BitVec 16) (unit : Byte) : Statement (.refresh f handle unit) :=
  of_payload rfl (by simp [kRefresh])

theorem detach (f : Frame) (handle : BitVec 16) : Statement (.detach f handle) := of_payload rfl (by simp [kDetach])

theorem vread (f : Frame) (sel : Byte) (name : BitVec 64) : Statement (.vread f sel name) :=
  of_payload rfl (by simp [kVread])

theorem purge (f : Frame) (scope : Byte) (hnc : BitVec 24) : Statement (.purge f scope hnc) :=
  of_payload rfl (by simp [kPurge])

theorem pset (f : Frame) (p : PsetFields) : Statement (.pset f p) := of_payload rfl (by simp [kPset])

theorem pdel (f : Frame) (hnc : BitVec 24) : Statement (.pdel f hnc) := of_payload rfl (by simp [kPdel])

theorem pread (f : Frame) (sel : Byte) (name : BitVec 24) : Statement (.pread f sel name) :=
  of_payload rfl (by simp [kPread])

theorem twrite (f : Frame) (plan : Byte) (flags : Byte) (factor : BitVec 16) (records : List RateField) :
    Statement (.twrite f plan flags factor records) :=
  of_payload rfl (by simp [kTwrite]; omega)

theorem topen (f : Frame) (plan : Byte) : Statement (.topen f plan) := of_payload rfl (by simp [kTopen])

theorem tcommit (f : Frame) (plan : Byte) (check : BitVec 16) : Statement (.tcommit f plan check) :=
  of_payload rfl (by simp [kTcommit])

theorem tread (f : Frame) (plan : Byte) : Statement (.tread f plan) := of_payload rfl (by simp [kTread])

theorem usage (f : Frame) (handle : BitVec 16) (cls : Byte) (dir : Byte) (amount : BitVec 24) (link : Byte) :
    Statement (.usage f handle cls dir amount link) :=
  of_payload rfl (by simp [kUsage])

theorem aread (f : Frame) (sel : Byte) (name : BitVec 64) : Statement (.aread f sel name) :=
  of_payload rfl (by simp [kAread])

theorem settle (f : Frame) (account : BitVec 16) : Statement (.settle f account) := of_payload rfl (by simp [kSettle])

theorem collect (f : Frame) (account : BitVec 16) : Statement (.collect f account) :=
  of_payload rfl (by simp [kCollect])

theorem uaread (f : Frame) : Statement (.uaread f) := of_payload rfl (by simp [kUaread])

theorem xfetch (f : Frame) : Statement (.xfetch f) := of_payload rfl (by simp [kXfetch])

theorem xanswer (f : Frame) (ref : BitVec 16) (result : Byte) (units : BitVec 32) (validity : BitVec 16) (final : Byte) :
    Statement (.xanswer f ref result units validity final) :=
  of_payload rfl (by simp [kXanswer])

theorem xfail (f : Frame) (ref : BitVec 16) : Statement (.xfail f ref) := of_payload rfl (by simp [kXfail])

theorem lconf (f : Frame) (c : LconfFields) : Statement (.lconf f c) := of_payload rfl (by simp [kLconf])

theorem lenable (f : Frame) (link : Byte) : Statement (.lenable f link) := of_payload rfl (by simp [kLenable])

theorem ldisable (f : Frame) (link : Byte) : Statement (.ldisable f link) := of_payload rfl (by simp [kLdisable])

theorem lmeasure (f : Frame) (link : Byte) (delay : BitVec 32) (loss : BitVec 16) (level : BitVec 16) :
    Statement (.lmeasure f link delay loss level) :=
  of_payload rfl (by simp [kLmeasure])

theorem lloss (f : Frame) (link : Byte) : Statement (.lloss f link) := of_payload rfl (by simp [kLloss])

theorem lhold (f : Frame) (link : Byte) : Statement (.lhold f link) := of_payload rfl (by simp [kLhold])

theorem lrelease (f : Frame) (link : Byte) : Statement (.lrelease f link) := of_payload rfl (by simp [kLrelease])

theorem ldrill (f : Frame) (link : Byte) (monitor : Byte) (duration : BitVec 16) :
    Statement (.ldrill f link monitor duration) :=
  of_payload rfl (by simp [kLdrill])

theorem lread (f : Frame) (link : Byte) (clear : Byte) : Statement (.lread f link clear) :=
  of_payload rfl (by simp [kLread])

theorem rconf (f : Frame) (r : RconfFields) : Statement (.rconf f r) := of_payload rfl (by simp [kRconf])

theorem rpin (f : Frame) (route : Byte) (cls : Byte) (link : Byte) : Statement (.rpin f route cls link) :=
  of_payload rfl (by simp [kRpin])

theorem runpin (f : Frame) (route : Byte) (cls : Byte) : Statement (.runpin f route cls) :=
  of_payload rfl (by simp [kRunpin])

theorem hready (f : Frame) (route : Byte) (cls : Byte) (link : Byte) : Statement (.hready f route cls link) :=
  of_payload rfl (by simp [kHready])

theorem hdone (f : Frame) (route : Byte) (cls : Byte) (link : Byte) : Statement (.hdone f route cls link) :=
  of_payload rfl (by simp [kHdone])

theorem rread (f : Frame) (route : Byte) : Statement (.rread f route) := of_payload rfl (by simp [kRread])

theorem lookup (f : Frame) (handle : BitVec 16) (cls : Byte) : Statement (.lookup f handle cls) :=
  of_payload rfl (by simp [kLookup])

theorem navconf (f : Frame) (divisor : Byte) (enable : Byte) : Statement (.navconf f divisor enable) :=
  of_payload rfl (by simp [kNavconf])

theorem fixpost (f : Frame) (east : BitVec 24) (north : BitVec 24) (quality : Byte) :
    Statement (.fixpost f east north quality) :=
  of_payload rfl (by simp [kFixpost])

theorem nread (f : Frame) : Statement (.nread f) := of_payload rfl (by simp [kNread])

theorem zset (f : Frame) (z : ZsetFields) : Statement (.zset f z) := of_payload rfl (by simp [kZset])

theorem zread (f : Frame) (zone : Byte) : Statement (.zread f zone) := of_payload rfl (by simp [kZread])

theorem rmute (f : Frame) : Statement (.rmute f) := of_payload rfl (by simp [kRmute])

theorem rrelease (f : Frame) : Statement (.rrelease f) := of_payload rfl (by simp [kRrelease])

theorem ucmdExclude (f : Frame) (unit : Byte) : Statement (.ucmdExclude f unit) := of_payload rfl (by simp [kUcmd])

theorem ucmdInclude (f : Frame) (unit : Byte) : Statement (.ucmdInclude f unit) := of_payload rfl (by simp [kUcmd])

theorem ucmdProbe (f : Frame) (unit : Byte) : Statement (.ucmdProbe f unit) := of_payload rfl (by simp [kUcmd])

theorem uread (f : Frame) (unit : Byte) : Statement (.uread f unit) := of_payload rfl (by simp [kUread])

theorem start (f : Frame) : Statement (.start f) := of_payload rfl (by simp [kStart])

theorem stop (f : Frame) : Statement (.stop f) := of_payload rfl (by simp [kStop])

theorem dset (f : Frame) (d : DsetFields) : Statement (.dset f d) := of_payload rfl (by simp [kDset])

theorem clock (f : Frame) (time : BitVec 32) : Statement (.clock f time) := of_payload rfl (by simp [kClock])

theorem ident (f : Frame) (clear : Byte) : Statement (.ident f clear) := of_payload rfl (by simp [kIdent])

theorem nfetch (f : Frame) : Statement (.nfetch f) := of_payload rfl (by simp [kNfetch])

theorem resync (f : Frame) : Statement (.resync f) := of_payload rfl (by simp [kResync])

theorem unknownRequest (tag : Fin 16) (clocked : Nat) (kind : Byte) (payload : List Byte) :
    Statement (.unknownRequest tag clocked kind payload) :=
  of_event rfl

theorem frameDiscard (shifted : List Byte) : Statement (.frameDiscard shifted) := of_event rfl

theorem answerRead (clocked : Nat) : Statement (.answerRead clocked) := of_event rfl

theorem deviceReset : Statement .deviceReset := of_event rfl

theorem navMessage (bytes : List LineByte) : Statement (.navMessage bytes) := of_event rfl

theorem navFramingError (b : LineByte) : Statement (.navFramingError b) := of_event rfl

theorem navBreak (b : LineByte) : Statement (.navBreak b) := of_event rfl

theorem fixEvaluation : Statement .fixEvaluation := of_event rfl

theorem purgeWalkStep : Statement .purgeWalkStep := of_event rfl

theorem retireTimerExpiry (slot : Nat) : Statement (.retireTimerExpiry slot) := of_event rfl

theorem grantExpiry (slot : Nat) : Statement (.grantExpiry slot) := of_event rfl

theorem retryWaitExpiry (slot : Nat) : Statement (.retryWaitExpiry slot) := of_event rfl

theorem answerTimerExpiry (entry : Nat) : Statement (.answerTimerExpiry entry) := of_event rfl

theorem staleTimerExpiry (link : Link) : Statement (.staleTimerExpiry link) := of_event rfl

theorem holdTimerExpiry (link : Link) : Statement (.holdTimerExpiry link) := of_event rfl

theorem drillTimerExpiry (link : Link) : Statement (.drillTimerExpiry link) := of_event rfl

theorem prepareTimerExpiry (route : Nat) (cls : TrafficClass) : Statement (.prepareTimerExpiry route cls) :=
  of_event rfl

theorem bicastTimerExpiry (route : Nat) (cls : TrafficClass) : Statement (.bicastTimerExpiry route cls) := of_event rfl

theorem releaseTimerExpiry (route : Nat) (cls : TrafficClass) : Statement (.releaseTimerExpiry route cls) :=
  of_event rfl

theorem positionStaleTimerExpiry : Statement .positionStaleTimerExpiry := of_event rfl

theorem muteDeadlineExpiry : Statement .muteDeadlineExpiry := of_event rfl

theorem pollTimerExpiry : Statement .pollTimerExpiry := of_event rfl

theorem commandAnswered (wire : List Nat) : Statement (.commandAnswered wire) := of_event rfl

theorem commandNoack (failure : BusFailure) (wire : List Nat) : Statement (.commandNoack failure wire) := of_event rfl

theorem pollAnswered (first : Byte) (second : Byte) (wire : List Nat) : Statement (.pollAnswered first second wire) :=
  of_event rfl

theorem pollNoack (failure : BusFailure) (wire : List Nat) : Statement (.pollNoack failure wire) := of_event rfl

theorem navByte (b : LineByte) : Statement (.navByte b) := of_event rfl

theorem shipTimeTick : Statement .shipTimeTick := of_event rfl

end Sys2Proof.Laws.PayloadLength
end

