-- ==== Sys2Proof/Laws/Port.lean ====
section
/-! SUPPORT. What each shared operation that gives notices leaves of the request port: the mode, the settings, ship time, the
answers, the tags and the bytes last shifted out. An operation that may end a presence probe is named for the settings, ship
time, the tags and the bytes shifted out alone. -/

namespace Sys2Proof.Machine

@[simp] theorem State.settings_eq (s : State) : s.settings = s.rqp.settings := rfl

@[simp] theorem pushAnswer_rqp_mode (k : Byte) (t : Fin 16) (p : List Byte) (s : State) :
    (pushAnswer k t p s).rqp.mode = s.rqp.mode := rfl
@[simp] theorem answerInFlight_rqp_mode (k : Byte) (r : InFlight) (p : List Byte) (s : State) :
    (answerInFlight k r p s).rqp.mode = s.rqp.mode := by
  unfold answerInFlight; split <;> rfl
@[simp] theorem pushAnswer_rqp_settings (k : Byte) (t : Fin 16) (p : List Byte) (s : State) :
    (pushAnswer k t p s).rqp.settings = s.rqp.settings := rfl
@[simp] theorem answerInFlight_rqp_settings (k : Byte) (r : InFlight) (p : List Byte) (s : State) :
    (answerInFlight k r p s).rqp.settings = s.rqp.settings := by
  unfold answerInFlight; split <;> rfl
@[simp] theorem pushAnswer_rqp_shipTime (k : Byte) (t : Fin 16) (p : List Byte) (s : State) :
    (pushAnswer k t p s).rqp.shipTime = s.rqp.shipTime := rfl
@[simp] theorem answerInFlight_rqp_shipTime (k : Byte) (r : InFlight) (p : List Byte) (s : State) :
    (answerInFlight k r p s).rqp.shipTime = s.rqp.shipTime := by
  unfold answerInFlight; split <;> rfl
@[simp] theorem pushAnswer_rqp_busy (k : Byte) (t : Fin 16) (p : List Byte) (s : State) :
    (pushAnswer k t p s).rqp.busy = s.rqp.busy := rfl
@[simp] theorem answerInFlight_rqp_busy (k : Byte) (r : InFlight) (p : List Byte) (s : State) :
    (answerInFlight k r p s).rqp.busy = s.rqp.busy := by
  unfold answerInFlight; split <;> rfl
@[simp] theorem pushAnswer_rqp_shiftedOut (k : Byte) (t : Fin 16) (p : List Byte) (s : State) :
    (pushAnswer k t p s).rqp.shiftedOut = s.rqp.shiftedOut := rfl
@[simp] theorem answerInFlight_rqp_shiftedOut (k : Byte) (r : InFlight) (p : List Byte) (s : State) :
    (answerInFlight k r p s).rqp.shiftedOut = s.rqp.shiftedOut := by
  unfold answerInFlight; split <;> rfl
@[simp] theorem pushAnswer_rqp_notices (k : Byte) (t : Fin 16) (p : List Byte) (s : State) :
    (pushAnswer k t p s).rqp.notices = s.rqp.notices := rfl
@[simp] theorem answerInFlight_rqp_notices (k : Byte) (r : InFlight) (p : List Byte) (s : State) :
    (answerInFlight k r p s).rqp.notices = s.rqp.notices := by
  unfold answerInFlight; split <;> rfl
@[simp] theorem pushAnswer_rqp_overflow (k : Byte) (t : Fin 16) (p : List Byte) (s : State) :
    (pushAnswer k t p s).rqp.overflow = s.rqp.overflow := rfl
@[simp] theorem answerInFlight_rqp_overflow (k : Byte) (r : InFlight) (p : List Byte) (s : State) :
    (answerInFlight k r p s).rqp.overflow = s.rqp.overflow := by
  unfold answerInFlight; split <;> rfl

theorem giveNotice_port (k : NoticeKind) (j : Subject) (d v1 v2 v3 v4 v5 : Byte) (s : State) :
    (giveNotice k j d v1 v2 v3 v4 v5 s).rqp.mode = s.rqp.mode ∧ (giveNotice k j d v1 v2 v3 v4 v5 s).rqp.settings = s.rqp.settings ∧ (giveNotice k j d v1 v2 v3 v4 v5 s).rqp.shipTime = s.rqp.shipTime ∧ (giveNotice k j d v1 v2 v3 v4 v5 s).rqp.answers = s.rqp.answers ∧ (giveNotice k j d v1 v2 v3 v4 v5 s).rqp.busy = s.rqp.busy ∧ (giveNotice k j d v1 v2 v3 v4 v5 s).rqp.shiftedOut = s.rqp.shiftedOut := by
  refine ⟨?_, ?_, ?_, ?_, ?_, ?_⟩ <;>
    (unfold giveNotice; (try dsimp only); (repeat' split); all_goals simp)

@[simp] theorem giveNotice_rqp_mode (k : NoticeKind) (j : Subject) (d v1 v2 v3 v4 v5 : Byte) (s : State) :
    (giveNotice k j d v1 v2 v3 v4 v5 s).rqp.mode = s.rqp.mode := (giveNotice_port k j d v1 v2 v3 v4 v5 s).1
@[simp] theorem giveNotice_rqp_settings (k : NoticeKind) (j : Subject) (d v1 v2 v3 v4 v5 : Byte) (s : State) :
    (giveNotice k j d v1 v2 v3 v4 v5 s).rqp.settings = s.rqp.settings := (giveNotice_port k j d v1 v2 v3 v4 v5 s).2.1
@[simp] theorem giveNotice_rqp_shipTime (k : NoticeKind) (j : Subject) (d v1 v2 v3 v4 v5 : Byte) (s : State) :
    (giveNotice k j d v1 v2 v3 v4 v5 s).rqp.shipTime = s.rqp.shipTime := (giveNotice_port k j d v1 v2 v3 v4 v5 s).2.2.1
@[simp] theorem giveNotice_rqp_answers (k : NoticeKind) (j : Subject) (d v1 v2 v3 v4 v5 : Byte) (s : State) :
    (giveNotice k j d v1 v2 v3 v4 v5 s).rqp.answers = s.rqp.answers := (giveNotice_port k j d v1 v2 v3 v4 v5 s).2.2.2.1
@[simp] theorem giveNotice_rqp_busy (k : NoticeKind) (j : Subject) (d v1 v2 v3 v4 v5 : Byte) (s : State) :
    (giveNotice k j d v1 v2 v3 v4 v5 s).rqp.busy = s.rqp.busy := (giveNotice_port k j d v1 v2 v3 v4 v5 s).2.2.2.2.1
@[simp] theorem giveNotice_rqp_shiftedOut (k : NoticeKind) (j : Subject) (d v1 v2 v3 v4 v5 : Byte) (s : State) :
    (giveNotice k j d v1 v2 v3 v4 v5 s).rqp.shiftedOut = s.rqp.shiftedOut := (giveNotice_port k j d v1 v2 v3 v4 v5 s).2.2.2.2.2

theorem accountTaken_port (s : State) :
    (accountTaken s).rqp.mode = s.rqp.mode ∧ (accountTaken s).rqp.settings = s.rqp.settings ∧ (accountTaken s).rqp.shipTime = s.rqp.shipTime ∧ (accountTaken s).rqp.answers = s.rqp.answers ∧ (accountTaken s).rqp.busy = s.rqp.busy ∧ (accountTaken s).rqp.shiftedOut = s.rqp.shiftedOut := by
  refine ⟨?_, ?_, ?_, ?_, ?_, ?_⟩ <;>
    (unfold accountTaken; (try dsimp only); (repeat' split); all_goals simp)

@[simp] theorem accountTaken_rqp_mode (s : State) :
    (accountTaken s).rqp.mode = s.rqp.mode := (accountTaken_port s).1
@[simp] theorem accountTaken_rqp_settings (s : State) :
    (accountTaken s).rqp.settings = s.rqp.settings := (accountTaken_port s).2.1
@[simp] theorem accountTaken_rqp_shipTime (s : State) :
    (accountTaken s).rqp.shipTime = s.rqp.shipTime := (accountTaken_port s).2.2.1
@[simp] theorem accountTaken_rqp_answers (s : State) :
    (accountTaken s).rqp.answers = s.rqp.answers := (accountTaken_port s).2.2.2.1
@[simp] theorem accountTaken_rqp_busy (s : State) :
    (accountTaken s).rqp.busy = s.rqp.busy := (accountTaken_port s).2.2.2.2.1
@[simp] theorem accountTaken_rqp_shiftedOut (s : State) :
    (accountTaken s).rqp.shiftedOut = s.rqp.shiftedOut := (accountTaken_port s).2.2.2.2.2

theorem commitAccount_port (i : Nat) (a : Account) (hit : Bool) (s : State) :
    (commitAccount i a hit s).rqp.mode = s.rqp.mode ∧ (commitAccount i a hit s).rqp.settings = s.rqp.settings ∧ (commitAccount i a hit s).rqp.shipTime = s.rqp.shipTime ∧ (commitAccount i a hit s).rqp.answers = s.rqp.answers ∧ (commitAccount i a hit s).rqp.busy = s.rqp.busy ∧ (commitAccount i a hit s).rqp.shiftedOut = s.rqp.shiftedOut := by
  refine ⟨?_, ?_, ?_, ?_, ?_, ?_⟩ <;>
    (unfold commitAccount; (try dsimp only); (repeat' split); all_goals simp)

@[simp] theorem commitAccount_rqp_mode (i : Nat) (a : Account) (hit : Bool) (s : State) :
    (commitAccount i a hit s).rqp.mode = s.rqp.mode := (commitAccount_port i a hit s).1
@[simp] theorem commitAccount_rqp_settings (i : Nat) (a : Account) (hit : Bool) (s : State) :
    (commitAccount i a hit s).rqp.settings = s.rqp.settings := (commitAccount_port i a hit s).2.1
@[simp] theorem commitAccount_rqp_shipTime (i : Nat) (a : Account) (hit : Bool) (s : State) :
    (commitAccount i a hit s).rqp.shipTime = s.rqp.shipTime := (commitAccount_port i a hit s).2.2.1
@[simp] theorem commitAccount_rqp_answers (i : Nat) (a : Account) (hit : Bool) (s : State) :
    (commitAccount i a hit s).rqp.answers = s.rqp.answers := (commitAccount_port i a hit s).2.2.2.1
@[simp] theorem commitAccount_rqp_busy (i : Nat) (a : Account) (hit : Bool) (s : State) :
    (commitAccount i a hit s).rqp.busy = s.rqp.busy := (commitAccount_port i a hit s).2.2.2.2.1
@[simp] theorem commitAccount_rqp_shiftedOut (i : Nat) (a : Account) (hit : Bool) (s : State) :
    (commitAccount i a hit s).rqp.shiftedOut = s.rqp.shiftedOut := (commitAccount_port i a hit s).2.2.2.2.2

theorem ratePost_port (i : Nat) (p : Option Partner) (c : TrafficClass) (up : Bool) (n : Nat) (l : Link) (s : State) :
    ((ratePost i p c up n l s).1).rqp.mode = s.rqp.mode ∧ ((ratePost i p c up n l s).1).rqp.settings = s.rqp.settings ∧ ((ratePost i p c up n l s).1).rqp.shipTime = s.rqp.shipTime ∧ ((ratePost i p c up n l s).1).rqp.answers = s.rqp.answers ∧ ((ratePost i p c up n l s).1).rqp.busy = s.rqp.busy ∧ ((ratePost i p c up n l s).1).rqp.shiftedOut = s.rqp.shiftedOut := by
  refine ⟨?_, ?_, ?_, ?_, ?_, ?_⟩ <;>
    (unfold ratePost; (try dsimp only); (repeat' split); all_goals simp)

@[simp] theorem ratePost_rqp_mode (i : Nat) (p : Option Partner) (c : TrafficClass) (up : Bool) (n : Nat) (l : Link) (s : State) :
    ((ratePost i p c up n l s).1).rqp.mode = s.rqp.mode := (ratePost_port i p c up n l s).1
@[simp] theorem ratePost_rqp_settings (i : Nat) (p : Option Partner) (c : TrafficClass) (up : Bool) (n : Nat) (l : Link) (s : State) :
    ((ratePost i p c up n l s).1).rqp.settings = s.rqp.settings := (ratePost_port i p c up n l s).2.1
@[simp] theorem ratePost_rqp_shipTime (i : Nat) (p : Option Partner) (c : TrafficClass) (up : Bool) (n : Nat) (l : Link) (s : State) :
    ((ratePost i p c up n l s).1).rqp.shipTime = s.rqp.shipTime := (ratePost_port i p c up n l s).2.2.1
@[simp] theorem ratePost_rqp_answers (i : Nat) (p : Option Partner) (c : TrafficClass) (up : Bool) (n : Nat) (l : Link) (s : State) :
    ((ratePost i p c up n l s).1).rqp.answers = s.rqp.answers := (ratePost_port i p c up n l s).2.2.2.1
@[simp] theorem ratePost_rqp_busy (i : Nat) (p : Option Partner) (c : TrafficClass) (up : Bool) (n : Nat) (l : Link) (s : State) :
    ((ratePost i p c up n l s).1).rqp.busy = s.rqp.busy := (ratePost_port i p c up n l s).2.2.2.2.1
@[simp] theorem ratePost_rqp_shiftedOut (i : Nat) (p : Option Partner) (c : TrafficClass) (up : Bool) (n : Nat) (l : Link) (s : State) :
    ((ratePost i p c up n l s).1).rqp.shiftedOut = s.rqp.shiftedOut := (ratePost_port i p c up n l s).2.2.2.2.2

theorem closeOut_port (i : Nat) (p : Option Partner) (s : State) :
    ((closeOut i p s).1).rqp.mode = s.rqp.mode ∧ ((closeOut i p s).1).rqp.settings = s.rqp.settings ∧ ((closeOut i p s).1).rqp.shipTime = s.rqp.shipTime ∧ ((closeOut i p s).1).rqp.answers = s.rqp.answers ∧ ((closeOut i p s).1).rqp.busy = s.rqp.busy ∧ ((closeOut i p s).1).rqp.shiftedOut = s.rqp.shiftedOut := by
  refine ⟨?_, ?_, ?_, ?_, ?_, ?_⟩ <;>
    (unfold closeOut; (try dsimp only); (repeat' split); all_goals simp)

@[simp] theorem closeOut_rqp_mode (i : Nat) (p : Option Partner) (s : State) :
    ((closeOut i p s).1).rqp.mode = s.rqp.mode := (closeOut_port i p s).1
@[simp] theorem closeOut_rqp_settings (i : Nat) (p : Option Partner) (s : State) :
    ((closeOut i p s).1).rqp.settings = s.rqp.settings := (closeOut_port i p s).2.1
@[simp] theorem closeOut_rqp_shipTime (i : Nat) (p : Option Partner) (s : State) :
    ((closeOut i p s).1).rqp.shipTime = s.rqp.shipTime := (closeOut_port i p s).2.2.1
@[simp] theorem closeOut_rqp_answers (i : Nat) (p : Option Partner) (s : State) :
    ((closeOut i p s).1).rqp.answers = s.rqp.answers := (closeOut_port i p s).2.2.2.1
@[simp] theorem closeOut_rqp_busy (i : Nat) (p : Option Partner) (s : State) :
    ((closeOut i p s).1).rqp.busy = s.rqp.busy := (closeOut_port i p s).2.2.2.2.1
@[simp] theorem closeOut_rqp_shiftedOut (i : Nat) (p : Option Partner) (s : State) :
    ((closeOut i p s).1).rqp.shiftedOut = s.rqp.shiftedOut := (closeOut_port i p s).2.2.2.2.2

theorem takeAccount_port (i : Nat) (sid hnc : Digits) (s : State) :
    (takeAccount i sid hnc s).rqp.mode = s.rqp.mode ∧ (takeAccount i sid hnc s).rqp.settings = s.rqp.settings ∧ (takeAccount i sid hnc s).rqp.shipTime = s.rqp.shipTime ∧ (takeAccount i sid hnc s).rqp.answers = s.rqp.answers ∧ (takeAccount i sid hnc s).rqp.busy = s.rqp.busy ∧ (takeAccount i sid hnc s).rqp.shiftedOut = s.rqp.shiftedOut := by
  refine ⟨?_, ?_, ?_, ?_, ?_, ?_⟩ <;>
    (unfold takeAccount; (repeat' split); all_goals simp)

@[simp] theorem takeAccount_rqp_mode (i : Nat) (sid hnc : Digits) (s : State) :
    (takeAccount i sid hnc s).rqp.mode = s.rqp.mode := (takeAccount_port i sid hnc s).1
@[simp] theorem takeAccount_rqp_settings (i : Nat) (sid hnc : Digits) (s : State) :
    (takeAccount i sid hnc s).rqp.settings = s.rqp.settings := (takeAccount_port i sid hnc s).2.1
@[simp] theorem takeAccount_rqp_shipTime (i : Nat) (sid hnc : Digits) (s : State) :
    (takeAccount i sid hnc s).rqp.shipTime = s.rqp.shipTime := (takeAccount_port i sid hnc s).2.2.1
@[simp] theorem takeAccount_rqp_answers (i : Nat) (sid hnc : Digits) (s : State) :
    (takeAccount i sid hnc s).rqp.answers = s.rqp.answers := (takeAccount_port i sid hnc s).2.2.2.1
@[simp] theorem takeAccount_rqp_busy (i : Nat) (sid hnc : Digits) (s : State) :
    (takeAccount i sid hnc s).rqp.busy = s.rqp.busy := (takeAccount_port i sid hnc s).2.2.2.2.1
@[simp] theorem takeAccount_rqp_shiftedOut (i : Nat) (sid hnc : Digits) (s : State) :
    (takeAccount i sid hnc s).rqp.shiftedOut = s.rqp.shiftedOut := (takeAccount_port i sid hnc s).2.2.2.2.2

theorem exchangeNotice_port (i : Nat) (s : State) :
    (exchangeNotice i s).rqp.mode = s.rqp.mode ∧ (exchangeNotice i s).rqp.settings = s.rqp.settings ∧ (exchangeNotice i s).rqp.shipTime = s.rqp.shipTime ∧ (exchangeNotice i s).rqp.answers = s.rqp.answers ∧ (exchangeNotice i s).rqp.busy = s.rqp.busy ∧ (exchangeNotice i s).rqp.shiftedOut = s.rqp.shiftedOut := by
  refine ⟨?_, ?_, ?_, ?_, ?_, ?_⟩ <;>
    (unfold exchangeNotice; (repeat' split); all_goals simp)

@[simp] theorem exchangeNotice_rqp_mode (i : Nat) (s : State) :
    (exchangeNotice i s).rqp.mode = s.rqp.mode := (exchangeNotice_port i s).1
@[simp] theorem exchangeNotice_rqp_settings (i : Nat) (s : State) :
    (exchangeNotice i s).rqp.settings = s.rqp.settings := (exchangeNotice_port i s).2.1
@[simp] theorem exchangeNotice_rqp_shipTime (i : Nat) (s : State) :
    (exchangeNotice i s).rqp.shipTime = s.rqp.shipTime := (exchangeNotice_port i s).2.2.1
@[simp] theorem exchangeNotice_rqp_answers (i : Nat) (s : State) :
    (exchangeNotice i s).rqp.answers = s.rqp.answers := (exchangeNotice_port i s).2.2.2.1
@[simp] theorem exchangeNotice_rqp_busy (i : Nat) (s : State) :
    (exchangeNotice i s).rqp.busy = s.rqp.busy := (exchangeNotice_port i s).2.2.2.2.1
@[simp] theorem exchangeNotice_rqp_shiftedOut (i : Nat) (s : State) :
    (exchangeNotice i s).rqp.shiftedOut = s.rqp.shiftedOut := (exchangeNotice_port i s).2.2.2.2.2

theorem noticeToSend_port (i : Nat) (s : State) :
    (noticeToSend i s).rqp.mode = s.rqp.mode ∧ (noticeToSend i s).rqp.settings = s.rqp.settings ∧ (noticeToSend i s).rqp.shipTime = s.rqp.shipTime ∧ (noticeToSend i s).rqp.answers = s.rqp.answers ∧ (noticeToSend i s).rqp.busy = s.rqp.busy ∧ (noticeToSend i s).rqp.shiftedOut = s.rqp.shiftedOut := by
  refine ⟨?_, ?_, ?_, ?_, ?_, ?_⟩ <;>
    (unfold noticeToSend; (try dsimp only); (repeat' split); all_goals simp)

@[simp] theorem noticeToSend_rqp_mode (i : Nat) (s : State) :
    (noticeToSend i s).rqp.mode = s.rqp.mode := (noticeToSend_port i s).1
@[simp] theorem noticeToSend_rqp_settings (i : Nat) (s : State) :
    (noticeToSend i s).rqp.settings = s.rqp.settings := (noticeToSend_port i s).2.1
@[simp] theorem noticeToSend_rqp_shipTime (i : Nat) (s : State) :
    (noticeToSend i s).rqp.shipTime = s.rqp.shipTime := (noticeToSend_port i s).2.2.1
@[simp] theorem noticeToSend_rqp_answers (i : Nat) (s : State) :
    (noticeToSend i s).rqp.answers = s.rqp.answers := (noticeToSend_port i s).2.2.2.1
@[simp] theorem noticeToSend_rqp_busy (i : Nat) (s : State) :
    (noticeToSend i s).rqp.busy = s.rqp.busy := (noticeToSend_port i s).2.2.2.2.1
@[simp] theorem noticeToSend_rqp_shiftedOut (i : Nat) (s : State) :
    (noticeToSend i s).rqp.shiftedOut = s.rqp.shiftedOut := (noticeToSend_port i s).2.2.2.2.2

theorem giveOwed_port (s : State) :
    (giveOwed s).rqp.mode = s.rqp.mode ∧ (giveOwed s).rqp.settings = s.rqp.settings ∧ (giveOwed s).rqp.shipTime = s.rqp.shipTime ∧ (giveOwed s).rqp.answers = s.rqp.answers ∧ (giveOwed s).rqp.busy = s.rqp.busy ∧ (giveOwed s).rqp.shiftedOut = s.rqp.shiftedOut := by
  refine ⟨?_, ?_, ?_, ?_, ?_, ?_⟩ <;>
    (unfold giveOwed; (try dsimp only); (repeat' split); all_goals simp)

@[simp] theorem giveOwed_rqp_mode (s : State) :
    (giveOwed s).rqp.mode = s.rqp.mode := (giveOwed_port s).1
@[simp] theorem giveOwed_rqp_settings (s : State) :
    (giveOwed s).rqp.settings = s.rqp.settings := (giveOwed_port s).2.1
@[simp] theorem giveOwed_rqp_shipTime (s : State) :
    (giveOwed s).rqp.shipTime = s.rqp.shipTime := (giveOwed_port s).2.2.1
@[simp] theorem giveOwed_rqp_answers (s : State) :
    (giveOwed s).rqp.answers = s.rqp.answers := (giveOwed_port s).2.2.2.1
@[simp] theorem giveOwed_rqp_busy (s : State) :
    (giveOwed s).rqp.busy = s.rqp.busy := (giveOwed_port s).2.2.2.2.1
@[simp] theorem giveOwed_rqp_shiftedOut (s : State) :
    (giveOwed s).rqp.shiftedOut = s.rqp.shiftedOut := (giveOwed_port s).2.2.2.2.2

theorem createExchange_port (i slot : Nat) (k : XKind) (s : State) :
    (createExchange i slot k s).rqp.mode = s.rqp.mode ∧ (createExchange i slot k s).rqp.settings = s.rqp.settings ∧ (createExchange i slot k s).rqp.shipTime = s.rqp.shipTime ∧ (createExchange i slot k s).rqp.answers = s.rqp.answers ∧ (createExchange i slot k s).rqp.busy = s.rqp.busy ∧ (createExchange i slot k s).rqp.shiftedOut = s.rqp.shiftedOut := by
  refine ⟨?_, ?_, ?_, ?_, ?_, ?_⟩ <;>
    (unfold createExchange; (try dsimp only); all_goals simp)

@[simp] theorem createExchange_rqp_mode (i slot : Nat) (k : XKind) (s : State) :
    (createExchange i slot k s).rqp.mode = s.rqp.mode := (createExchange_port i slot k s).1
@[simp] theorem createExchange_rqp_settings (i slot : Nat) (k : XKind) (s : State) :
    (createExchange i slot k s).rqp.settings = s.rqp.settings := (createExchange_port i slot k s).2.1
@[simp] theorem createExchange_rqp_shipTime (i slot : Nat) (k : XKind) (s : State) :
    (createExchange i slot k s).rqp.shipTime = s.rqp.shipTime := (createExchange_port i slot k s).2.2.1
@[simp] theorem createExchange_rqp_answers (i slot : Nat) (k : XKind) (s : State) :
    (createExchange i slot k s).rqp.answers = s.rqp.answers := (createExchange_port i slot k s).2.2.2.1
@[simp] theorem createExchange_rqp_busy (i slot : Nat) (k : XKind) (s : State) :
    (createExchange i slot k s).rqp.busy = s.rqp.busy := (createExchange_port i slot k s).2.2.2.2.1
@[simp] theorem createExchange_rqp_shiftedOut (i slot : Nat) (k : XKind) (s : State) :
    (createExchange i slot k s).rqp.shiftedOut = s.rqp.shiftedOut := (createExchange_port i slot k s).2.2.2.2.2

theorem requestExchange_port (slot : Nat) (k : XKind) (s : State) :
    (requestExchange slot k s).rqp.mode = s.rqp.mode ∧ (requestExchange slot k s).rqp.settings = s.rqp.settings ∧ (requestExchange slot k s).rqp.shipTime = s.rqp.shipTime ∧ (requestExchange slot k s).rqp.answers = s.rqp.answers ∧ (requestExchange slot k s).rqp.busy = s.rqp.busy ∧ (requestExchange slot k s).rqp.shiftedOut = s.rqp.shiftedOut := by
  refine ⟨?_, ?_, ?_, ?_, ?_, ?_⟩ <;>
    (unfold requestExchange; (try dsimp only); (repeat' split); all_goals simp)

@[simp] theorem requestExchange_rqp_mode (slot : Nat) (k : XKind) (s : State) :
    (requestExchange slot k s).rqp.mode = s.rqp.mode := (requestExchange_port slot k s).1
@[simp] theorem requestExchange_rqp_settings (slot : Nat) (k : XKind) (s : State) :
    (requestExchange slot k s).rqp.settings = s.rqp.settings := (requestExchange_port slot k s).2.1
@[simp] theorem requestExchange_rqp_shipTime (slot : Nat) (k : XKind) (s : State) :
    (requestExchange slot k s).rqp.shipTime = s.rqp.shipTime := (requestExchange_port slot k s).2.2.1
@[simp] theorem requestExchange_rqp_answers (slot : Nat) (k : XKind) (s : State) :
    (requestExchange slot k s).rqp.answers = s.rqp.answers := (requestExchange_port slot k s).2.2.2.1
@[simp] theorem requestExchange_rqp_busy (slot : Nat) (k : XKind) (s : State) :
    (requestExchange slot k s).rqp.busy = s.rqp.busy := (requestExchange_port slot k s).2.2.2.2.1
@[simp] theorem requestExchange_rqp_shiftedOut (slot : Nat) (k : XKind) (s : State) :
    (requestExchange slot k s).rqp.shiftedOut = s.rqp.shiftedOut := (requestExchange_port slot k s).2.2.2.2.2

theorem serveDeferred_port (i : Nat) (s : State) :
    (serveDeferred i s).rqp.mode = s.rqp.mode ∧ (serveDeferred i s).rqp.settings = s.rqp.settings ∧ (serveDeferred i s).rqp.shipTime = s.rqp.shipTime ∧ (serveDeferred i s).rqp.answers = s.rqp.answers ∧ (serveDeferred i s).rqp.busy = s.rqp.busy ∧ (serveDeferred i s).rqp.shiftedOut = s.rqp.shiftedOut := by
  refine ⟨?_, ?_, ?_, ?_, ?_, ?_⟩ <;>
    (unfold serveDeferred; (try dsimp only); (repeat' split); all_goals simp)

@[simp] theorem serveDeferred_rqp_mode (i : Nat) (s : State) :
    (serveDeferred i s).rqp.mode = s.rqp.mode := (serveDeferred_port i s).1
@[simp] theorem serveDeferred_rqp_settings (i : Nat) (s : State) :
    (serveDeferred i s).rqp.settings = s.rqp.settings := (serveDeferred_port i s).2.1
@[simp] theorem serveDeferred_rqp_shipTime (i : Nat) (s : State) :
    (serveDeferred i s).rqp.shipTime = s.rqp.shipTime := (serveDeferred_port i s).2.2.1
@[simp] theorem serveDeferred_rqp_answers (i : Nat) (s : State) :
    (serveDeferred i s).rqp.answers = s.rqp.answers := (serveDeferred_port i s).2.2.2.1
@[simp] theorem serveDeferred_rqp_busy (i : Nat) (s : State) :
    (serveDeferred i s).rqp.busy = s.rqp.busy := (serveDeferred_port i s).2.2.2.2.1
@[simp] theorem serveDeferred_rqp_shiftedOut (i : Nat) (s : State) :
    (serveDeferred i s).rqp.shiftedOut = s.rqp.shiftedOut := (serveDeferred_port i s).2.2.2.2.2

theorem freeEntry_port (i : Nat) (s : State) :
    (freeEntry i s).rqp.mode = s.rqp.mode ∧ (freeEntry i s).rqp.settings = s.rqp.settings ∧ (freeEntry i s).rqp.shipTime = s.rqp.shipTime ∧ (freeEntry i s).rqp.answers = s.rqp.answers ∧ (freeEntry i s).rqp.busy = s.rqp.busy ∧ (freeEntry i s).rqp.shiftedOut = s.rqp.shiftedOut := by
  refine ⟨?_, ?_, ?_, ?_, ?_, ?_⟩ <;>
    (unfold freeEntry; (try dsimp only); (repeat' split); all_goals simp)

@[simp] theorem freeEntry_rqp_mode (i : Nat) (s : State) :
    (freeEntry i s).rqp.mode = s.rqp.mode := (freeEntry_port i s).1
@[simp] theorem freeEntry_rqp_settings (i : Nat) (s : State) :
    (freeEntry i s).rqp.settings = s.rqp.settings := (freeEntry_port i s).2.1
@[simp] theorem freeEntry_rqp_shipTime (i : Nat) (s : State) :
    (freeEntry i s).rqp.shipTime = s.rqp.shipTime := (freeEntry_port i s).2.2.1
@[simp] theorem freeEntry_rqp_answers (i : Nat) (s : State) :
    (freeEntry i s).rqp.answers = s.rqp.answers := (freeEntry_port i s).2.2.2.1
@[simp] theorem freeEntry_rqp_busy (i : Nat) (s : State) :
    (freeEntry i s).rqp.busy = s.rqp.busy := (freeEntry_port i s).2.2.2.2.1
@[simp] theorem freeEntry_rqp_shiftedOut (i : Nat) (s : State) :
    (freeEntry i s).rqp.shiftedOut = s.rqp.shiftedOut := (freeEntry_port i s).2.2.2.2.2

theorem shutGate_port (slot : Nat) (c : Byte) (s : State) :
    (shutGate slot c s).rqp.mode = s.rqp.mode ∧ (shutGate slot c s).rqp.settings = s.rqp.settings ∧ (shutGate slot c s).rqp.shipTime = s.rqp.shipTime ∧ (shutGate slot c s).rqp.answers = s.rqp.answers ∧ (shutGate slot c s).rqp.busy = s.rqp.busy ∧ (shutGate slot c s).rqp.shiftedOut = s.rqp.shiftedOut := by
  refine ⟨?_, ?_, ?_, ?_, ?_, ?_⟩ <;>
    (unfold shutGate; (try dsimp only); (repeat' split); all_goals simp)

@[simp] theorem shutGate_rqp_mode (slot : Nat) (c : Byte) (s : State) :
    (shutGate slot c s).rqp.mode = s.rqp.mode := (shutGate_port slot c s).1
@[simp] theorem shutGate_rqp_settings (slot : Nat) (c : Byte) (s : State) :
    (shutGate slot c s).rqp.settings = s.rqp.settings := (shutGate_port slot c s).2.1
@[simp] theorem shutGate_rqp_shipTime (slot : Nat) (c : Byte) (s : State) :
    (shutGate slot c s).rqp.shipTime = s.rqp.shipTime := (shutGate_port slot c s).2.2.1
@[simp] theorem shutGate_rqp_answers (slot : Nat) (c : Byte) (s : State) :
    (shutGate slot c s).rqp.answers = s.rqp.answers := (shutGate_port slot c s).2.2.2.1
@[simp] theorem shutGate_rqp_busy (slot : Nat) (c : Byte) (s : State) :
    (shutGate slot c s).rqp.busy = s.rqp.busy := (shutGate_port slot c s).2.2.2.2.1
@[simp] theorem shutGate_rqp_shiftedOut (slot : Nat) (c : Byte) (s : State) :
    (shutGate slot c s).rqp.shiftedOut = s.rqp.shiftedOut := (shutGate_port slot c s).2.2.2.2.2

theorem gateEvaluation_port (slot : Nat) (s : State) :
    (gateEvaluation slot s).rqp.mode = s.rqp.mode ∧ (gateEvaluation slot s).rqp.settings = s.rqp.settings ∧ (gateEvaluation slot s).rqp.shipTime = s.rqp.shipTime ∧ (gateEvaluation slot s).rqp.answers = s.rqp.answers ∧ (gateEvaluation slot s).rqp.busy = s.rqp.busy ∧ (gateEvaluation slot s).rqp.shiftedOut = s.rqp.shiftedOut := by
  refine ⟨?_, ?_, ?_, ?_, ?_, ?_⟩ <;>
    (unfold gateEvaluation; (repeat' split); all_goals simp)

@[simp] theorem gateEvaluation_rqp_mode (slot : Nat) (s : State) :
    (gateEvaluation slot s).rqp.mode = s.rqp.mode := (gateEvaluation_port slot s).1
@[simp] theorem gateEvaluation_rqp_settings (slot : Nat) (s : State) :
    (gateEvaluation slot s).rqp.settings = s.rqp.settings := (gateEvaluation_port slot s).2.1
@[simp] theorem gateEvaluation_rqp_shipTime (slot : Nat) (s : State) :
    (gateEvaluation slot s).rqp.shipTime = s.rqp.shipTime := (gateEvaluation_port slot s).2.2.1
@[simp] theorem gateEvaluation_rqp_answers (slot : Nat) (s : State) :
    (gateEvaluation slot s).rqp.answers = s.rqp.answers := (gateEvaluation_port slot s).2.2.2.1
@[simp] theorem gateEvaluation_rqp_busy (slot : Nat) (s : State) :
    (gateEvaluation slot s).rqp.busy = s.rqp.busy := (gateEvaluation_port slot s).2.2.2.2.1
@[simp] theorem gateEvaluation_rqp_shiftedOut (slot : Nat) (s : State) :
    (gateEvaluation slot s).rqp.shiftedOut = s.rqp.shiftedOut := (gateEvaluation_port slot s).2.2.2.2.2

theorem reorderCheck_port (slot : Nat) (s : State) :
    (reorderCheck slot s).rqp.mode = s.rqp.mode ∧ (reorderCheck slot s).rqp.settings = s.rqp.settings ∧ (reorderCheck slot s).rqp.shipTime = s.rqp.shipTime ∧ (reorderCheck slot s).rqp.answers = s.rqp.answers ∧ (reorderCheck slot s).rqp.busy = s.rqp.busy ∧ (reorderCheck slot s).rqp.shiftedOut = s.rqp.shiftedOut := by
  refine ⟨?_, ?_, ?_, ?_, ?_, ?_⟩ <;>
    (unfold reorderCheck; (repeat' split); all_goals simp)

@[simp] theorem reorderCheck_rqp_mode (slot : Nat) (s : State) :
    (reorderCheck slot s).rqp.mode = s.rqp.mode := (reorderCheck_port slot s).1
@[simp] theorem reorderCheck_rqp_settings (slot : Nat) (s : State) :
    (reorderCheck slot s).rqp.settings = s.rqp.settings := (reorderCheck_port slot s).2.1
@[simp] theorem reorderCheck_rqp_shipTime (slot : Nat) (s : State) :
    (reorderCheck slot s).rqp.shipTime = s.rqp.shipTime := (reorderCheck_port slot s).2.2.1
@[simp] theorem reorderCheck_rqp_answers (slot : Nat) (s : State) :
    (reorderCheck slot s).rqp.answers = s.rqp.answers := (reorderCheck_port slot s).2.2.2.1
@[simp] theorem reorderCheck_rqp_busy (slot : Nat) (s : State) :
    (reorderCheck slot s).rqp.busy = s.rqp.busy := (reorderCheck_port slot s).2.2.2.2.1
@[simp] theorem reorderCheck_rqp_shiftedOut (slot : Nat) (s : State) :
    (reorderCheck slot s).rqp.shiftedOut = s.rqp.shiftedOut := (reorderCheck_port slot s).2.2.2.2.2

theorem quotaCharge_port (slot n : Nat) (s : State) :
    (quotaCharge slot n s).rqp.mode = s.rqp.mode ∧ (quotaCharge slot n s).rqp.settings = s.rqp.settings ∧ (quotaCharge slot n s).rqp.shipTime = s.rqp.shipTime ∧ (quotaCharge slot n s).rqp.answers = s.rqp.answers ∧ (quotaCharge slot n s).rqp.busy = s.rqp.busy ∧ (quotaCharge slot n s).rqp.shiftedOut = s.rqp.shiftedOut := by
  refine ⟨?_, ?_, ?_, ?_, ?_, ?_⟩ <;>
    (unfold quotaCharge; (try dsimp only); (repeat' split); all_goals simp)

@[simp] theorem quotaCharge_rqp_mode (slot n : Nat) (s : State) :
    (quotaCharge slot n s).rqp.mode = s.rqp.mode := (quotaCharge_port slot n s).1
@[simp] theorem quotaCharge_rqp_settings (slot n : Nat) (s : State) :
    (quotaCharge slot n s).rqp.settings = s.rqp.settings := (quotaCharge_port slot n s).2.1
@[simp] theorem quotaCharge_rqp_shipTime (slot n : Nat) (s : State) :
    (quotaCharge slot n s).rqp.shipTime = s.rqp.shipTime := (quotaCharge_port slot n s).2.2.1
@[simp] theorem quotaCharge_rqp_answers (slot n : Nat) (s : State) :
    (quotaCharge slot n s).rqp.answers = s.rqp.answers := (quotaCharge_port slot n s).2.2.2.1
@[simp] theorem quotaCharge_rqp_busy (slot n : Nat) (s : State) :
    (quotaCharge slot n s).rqp.busy = s.rqp.busy := (quotaCharge_port slot n s).2.2.2.2.1
@[simp] theorem quotaCharge_rqp_shiftedOut (slot n : Nat) (s : State) :
    (quotaCharge slot n s).rqp.shiftedOut = s.rqp.shiftedOut := (quotaCharge_port slot n s).2.2.2.2.2

theorem becameActive_port (slot : Nat) (s : State) :
    (becameActive slot s).rqp.mode = s.rqp.mode ∧ (becameActive slot s).rqp.settings = s.rqp.settings ∧ (becameActive slot s).rqp.shipTime = s.rqp.shipTime ∧ (becameActive slot s).rqp.answers = s.rqp.answers ∧ (becameActive slot s).rqp.busy = s.rqp.busy ∧ (becameActive slot s).rqp.shiftedOut = s.rqp.shiftedOut := by
  refine ⟨?_, ?_, ?_, ?_, ?_, ?_⟩ <;>
    (unfold becameActive; (repeat' split); all_goals simp)

@[simp] theorem becameActive_rqp_mode (slot : Nat) (s : State) :
    (becameActive slot s).rqp.mode = s.rqp.mode := (becameActive_port slot s).1
@[simp] theorem becameActive_rqp_settings (slot : Nat) (s : State) :
    (becameActive slot s).rqp.settings = s.rqp.settings := (becameActive_port slot s).2.1
@[simp] theorem becameActive_rqp_shipTime (slot : Nat) (s : State) :
    (becameActive slot s).rqp.shipTime = s.rqp.shipTime := (becameActive_port slot s).2.2.1
@[simp] theorem becameActive_rqp_answers (slot : Nat) (s : State) :
    (becameActive slot s).rqp.answers = s.rqp.answers := (becameActive_port slot s).2.2.2.1
@[simp] theorem becameActive_rqp_busy (slot : Nat) (s : State) :
    (becameActive slot s).rqp.busy = s.rqp.busy := (becameActive_port slot s).2.2.2.2.1
@[simp] theorem becameActive_rqp_shiftedOut (slot : Nat) (s : State) :
    (becameActive slot s).rqp.shiftedOut = s.rqp.shiftedOut := (becameActive_port slot s).2.2.2.2.2

theorem retireSteps_port (slot : Nat) (r : RetireReason) (s : State) :
    (retireSteps slot r s).rqp.mode = s.rqp.mode ∧ (retireSteps slot r s).rqp.settings = s.rqp.settings ∧ (retireSteps slot r s).rqp.shipTime = s.rqp.shipTime ∧ (retireSteps slot r s).rqp.answers = s.rqp.answers ∧ (retireSteps slot r s).rqp.busy = s.rqp.busy ∧ (retireSteps slot r s).rqp.shiftedOut = s.rqp.shiftedOut := by
  refine ⟨?_, ?_, ?_, ?_, ?_, ?_⟩ <;>
    (unfold retireSteps; (try dsimp only); (repeat' split); all_goals simp)

@[simp] theorem retireSteps_rqp_mode (slot : Nat) (r : RetireReason) (s : State) :
    (retireSteps slot r s).rqp.mode = s.rqp.mode := (retireSteps_port slot r s).1
@[simp] theorem retireSteps_rqp_settings (slot : Nat) (r : RetireReason) (s : State) :
    (retireSteps slot r s).rqp.settings = s.rqp.settings := (retireSteps_port slot r s).2.1
@[simp] theorem retireSteps_rqp_shipTime (slot : Nat) (r : RetireReason) (s : State) :
    (retireSteps slot r s).rqp.shipTime = s.rqp.shipTime := (retireSteps_port slot r s).2.2.1
@[simp] theorem retireSteps_rqp_answers (slot : Nat) (r : RetireReason) (s : State) :
    (retireSteps slot r s).rqp.answers = s.rqp.answers := (retireSteps_port slot r s).2.2.2.1
@[simp] theorem retireSteps_rqp_busy (slot : Nat) (r : RetireReason) (s : State) :
    (retireSteps slot r s).rqp.busy = s.rqp.busy := (retireSteps_port slot r s).2.2.2.2.1
@[simp] theorem retireSteps_rqp_shiftedOut (slot : Nat) (r : RetireReason) (s : State) :
    (retireSteps slot r s).rqp.shiftedOut = s.rqp.shiftedOut := (retireSteps_port slot r s).2.2.2.2.2

theorem departOrFree_port (slot : Nat) (s : State) :
    (departOrFree slot s).rqp.mode = s.rqp.mode ∧ (departOrFree slot s).rqp.settings = s.rqp.settings ∧ (departOrFree slot s).rqp.shipTime = s.rqp.shipTime ∧ (departOrFree slot s).rqp.answers = s.rqp.answers ∧ (departOrFree slot s).rqp.busy = s.rqp.busy ∧ (departOrFree slot s).rqp.shiftedOut = s.rqp.shiftedOut := by
  refine ⟨?_, ?_, ?_, ?_, ?_, ?_⟩ <;>
    (unfold departOrFree; (try dsimp only); (repeat' split); all_goals simp)

@[simp] theorem departOrFree_rqp_mode (slot : Nat) (s : State) :
    (departOrFree slot s).rqp.mode = s.rqp.mode := (departOrFree_port slot s).1
@[simp] theorem departOrFree_rqp_settings (slot : Nat) (s : State) :
    (departOrFree slot s).rqp.settings = s.rqp.settings := (departOrFree_port slot s).2.1
@[simp] theorem departOrFree_rqp_shipTime (slot : Nat) (s : State) :
    (departOrFree slot s).rqp.shipTime = s.rqp.shipTime := (departOrFree_port slot s).2.2.1
@[simp] theorem departOrFree_rqp_answers (slot : Nat) (s : State) :
    (departOrFree slot s).rqp.answers = s.rqp.answers := (departOrFree_port slot s).2.2.2.1
@[simp] theorem departOrFree_rqp_busy (slot : Nat) (s : State) :
    (departOrFree slot s).rqp.busy = s.rqp.busy := (departOrFree_port slot s).2.2.2.2.1
@[simp] theorem departOrFree_rqp_shiftedOut (slot : Nat) (s : State) :
    (departOrFree slot s).rqp.shiftedOut = s.rqp.shiftedOut := (departOrFree_port slot s).2.2.2.2.2

theorem retire_port (slot : Nat) (r : RetireReason) (s : State) :
    (retire slot r s).rqp.mode = s.rqp.mode ∧ (retire slot r s).rqp.settings = s.rqp.settings ∧ (retire slot r s).rqp.shipTime = s.rqp.shipTime ∧ (retire slot r s).rqp.answers = s.rqp.answers ∧ (retire slot r s).rqp.busy = s.rqp.busy ∧ (retire slot r s).rqp.shiftedOut = s.rqp.shiftedOut := by
  refine ⟨?_, ?_, ?_, ?_, ?_, ?_⟩ <;>
    (unfold retire; (try dsimp only); (repeat' split); all_goals simp)

@[simp] theorem retire_rqp_mode (slot : Nat) (r : RetireReason) (s : State) :
    (retire slot r s).rqp.mode = s.rqp.mode := (retire_port slot r s).1
@[simp] theorem retire_rqp_settings (slot : Nat) (r : RetireReason) (s : State) :
    (retire slot r s).rqp.settings = s.rqp.settings := (retire_port slot r s).2.1
@[simp] theorem retire_rqp_shipTime (slot : Nat) (r : RetireReason) (s : State) :
    (retire slot r s).rqp.shipTime = s.rqp.shipTime := (retire_port slot r s).2.2.1
@[simp] theorem retire_rqp_answers (slot : Nat) (r : RetireReason) (s : State) :
    (retire slot r s).rqp.answers = s.rqp.answers := (retire_port slot r s).2.2.2.1
@[simp] theorem retire_rqp_busy (slot : Nat) (r : RetireReason) (s : State) :
    (retire slot r s).rqp.busy = s.rqp.busy := (retire_port slot r s).2.2.2.2.1
@[simp] theorem retire_rqp_shiftedOut (slot : Nat) (r : RetireReason) (s : State) :
    (retire slot r s).rqp.shiftedOut = s.rqp.shiftedOut := (retire_port slot r s).2.2.2.2.2

theorem evict_port (slot : Nat) (s : State) :
    (evict slot s).rqp.mode = s.rqp.mode ∧ (evict slot s).rqp.settings = s.rqp.settings ∧ (evict slot s).rqp.shipTime = s.rqp.shipTime ∧ (evict slot s).rqp.answers = s.rqp.answers ∧ (evict slot s).rqp.busy = s.rqp.busy ∧ (evict slot s).rqp.shiftedOut = s.rqp.shiftedOut := by
  refine ⟨?_, ?_, ?_, ?_, ?_, ?_⟩ <;>
    (unfold evict; (try dsimp only); (repeat' split); all_goals simp)

@[simp] theorem evict_rqp_mode (slot : Nat) (s : State) :
    (evict slot s).rqp.mode = s.rqp.mode := (evict_port slot s).1
@[simp] theorem evict_rqp_settings (slot : Nat) (s : State) :
    (evict slot s).rqp.settings = s.rqp.settings := (evict_port slot s).2.1
@[simp] theorem evict_rqp_shipTime (slot : Nat) (s : State) :
    (evict slot s).rqp.shipTime = s.rqp.shipTime := (evict_port slot s).2.2.1
@[simp] theorem evict_rqp_answers (slot : Nat) (s : State) :
    (evict slot s).rqp.answers = s.rqp.answers := (evict_port slot s).2.2.2.1
@[simp] theorem evict_rqp_busy (slot : Nat) (s : State) :
    (evict slot s).rqp.busy = s.rqp.busy := (evict_port slot s).2.2.2.2.1
@[simp] theorem evict_rqp_shiftedOut (slot : Nat) (s : State) :
    (evict slot s).rqp.shiftedOut = s.rqp.shiftedOut := (evict_port slot s).2.2.2.2.2

theorem startOfMuting_port (s : State) :
    ((startOfMuting s).1).rqp.mode = s.rqp.mode ∧ ((startOfMuting s).1).rqp.settings = s.rqp.settings ∧ ((startOfMuting s).1).rqp.shipTime = s.rqp.shipTime ∧ ((startOfMuting s).1).rqp.answers = s.rqp.answers ∧ ((startOfMuting s).1).rqp.busy = s.rqp.busy ∧ ((startOfMuting s).1).rqp.shiftedOut = s.rqp.shiftedOut := by
  unfold startOfMuting
  refine ⟨foldl_keeps (fun (a : State × Nat × Nat) => a.1.rqp.mode) _ (fun a x => ?_) _ _, foldl_keeps (fun (a : State × Nat × Nat) => a.1.rqp.settings) _ (fun a x => ?_) _ _, foldl_keeps (fun (a : State × Nat × Nat) => a.1.rqp.shipTime) _ (fun a x => ?_) _ _, foldl_keeps (fun (a : State × Nat × Nat) => a.1.rqp.answers) _ (fun a x => ?_) _ _, foldl_keeps (fun (a : State × Nat × Nat) => a.1.rqp.busy) _ (fun a x => ?_) _ _, foldl_keeps (fun (a : State × Nat × Nat) => a.1.rqp.shiftedOut) _ (fun a x => ?_) _ _⟩ <;>
    ((repeat' split); all_goals simp)

@[simp] theorem startOfMuting_rqp_mode (s : State) :
    ((startOfMuting s).1).rqp.mode = s.rqp.mode := (startOfMuting_port s).1
@[simp] theorem startOfMuting_rqp_settings (s : State) :
    ((startOfMuting s).1).rqp.settings = s.rqp.settings := (startOfMuting_port s).2.1
@[simp] theorem startOfMuting_rqp_shipTime (s : State) :
    ((startOfMuting s).1).rqp.shipTime = s.rqp.shipTime := (startOfMuting_port s).2.2.1
@[simp] theorem startOfMuting_rqp_answers (s : State) :
    ((startOfMuting s).1).rqp.answers = s.rqp.answers := (startOfMuting_port s).2.2.2.1
@[simp] theorem startOfMuting_rqp_busy (s : State) :
    ((startOfMuting s).1).rqp.busy = s.rqp.busy := (startOfMuting_port s).2.2.2.2.1
@[simp] theorem startOfMuting_rqp_shiftedOut (s : State) :
    ((startOfMuting s).1).rqp.shiftedOut = s.rqp.shiftedOut := (startOfMuting_port s).2.2.2.2.2

theorem authorizationAdmit_port (slot : Nat) (b : Byte) (s : State) :
    (authorizationAdmit slot b s).rqp.mode = s.rqp.mode ∧ (authorizationAdmit slot b s).rqp.settings = s.rqp.settings ∧ (authorizationAdmit slot b s).rqp.shipTime = s.rqp.shipTime ∧ (authorizationAdmit slot b s).rqp.answers = s.rqp.answers ∧ (authorizationAdmit slot b s).rqp.busy = s.rqp.busy ∧ (authorizationAdmit slot b s).rqp.shiftedOut = s.rqp.shiftedOut := by
  refine ⟨?_, ?_, ?_, ?_, ?_, ?_⟩ <;>
    (unfold authorizationAdmit; (try dsimp only); (repeat' split); all_goals simp)

@[simp] theorem authorizationAdmit_rqp_mode (slot : Nat) (b : Byte) (s : State) :
    (authorizationAdmit slot b s).rqp.mode = s.rqp.mode := (authorizationAdmit_port slot b s).1
@[simp] theorem authorizationAdmit_rqp_settings (slot : Nat) (b : Byte) (s : State) :
    (authorizationAdmit slot b s).rqp.settings = s.rqp.settings := (authorizationAdmit_port slot b s).2.1
@[simp] theorem authorizationAdmit_rqp_shipTime (slot : Nat) (b : Byte) (s : State) :
    (authorizationAdmit slot b s).rqp.shipTime = s.rqp.shipTime := (authorizationAdmit_port slot b s).2.2.1
@[simp] theorem authorizationAdmit_rqp_answers (slot : Nat) (b : Byte) (s : State) :
    (authorizationAdmit slot b s).rqp.answers = s.rqp.answers := (authorizationAdmit_port slot b s).2.2.2.1
@[simp] theorem authorizationAdmit_rqp_busy (slot : Nat) (b : Byte) (s : State) :
    (authorizationAdmit slot b s).rqp.busy = s.rqp.busy := (authorizationAdmit_port slot b s).2.2.2.2.1
@[simp] theorem authorizationAdmit_rqp_shiftedOut (slot : Nat) (b : Byte) (s : State) :
    (authorizationAdmit slot b s).rqp.shiftedOut = s.rqp.shiftedOut := (authorizationAdmit_port slot b s).2.2.2.2.2

theorem finalAfterQuota_port (slot : Nat) (s : State) :
    (finalAfterQuota slot s).rqp.mode = s.rqp.mode ∧ (finalAfterQuota slot s).rqp.settings = s.rqp.settings ∧ (finalAfterQuota slot s).rqp.shipTime = s.rqp.shipTime ∧ (finalAfterQuota slot s).rqp.answers = s.rqp.answers ∧ (finalAfterQuota slot s).rqp.busy = s.rqp.busy ∧ (finalAfterQuota slot s).rqp.shiftedOut = s.rqp.shiftedOut := by
  refine ⟨?_, ?_, ?_, ?_, ?_, ?_⟩ <;>
    (unfold finalAfterQuota; (repeat' split); all_goals simp)

@[simp] theorem finalAfterQuota_rqp_mode (slot : Nat) (s : State) :
    (finalAfterQuota slot s).rqp.mode = s.rqp.mode := (finalAfterQuota_port slot s).1
@[simp] theorem finalAfterQuota_rqp_settings (slot : Nat) (s : State) :
    (finalAfterQuota slot s).rqp.settings = s.rqp.settings := (finalAfterQuota_port slot s).2.1
@[simp] theorem finalAfterQuota_rqp_shipTime (slot : Nat) (s : State) :
    (finalAfterQuota slot s).rqp.shipTime = s.rqp.shipTime := (finalAfterQuota_port slot s).2.2.1
@[simp] theorem finalAfterQuota_rqp_answers (slot : Nat) (s : State) :
    (finalAfterQuota slot s).rqp.answers = s.rqp.answers := (finalAfterQuota_port slot s).2.2.2.1
@[simp] theorem finalAfterQuota_rqp_busy (slot : Nat) (s : State) :
    (finalAfterQuota slot s).rqp.busy = s.rqp.busy := (finalAfterQuota_port slot s).2.2.2.2.1
@[simp] theorem finalAfterQuota_rqp_shiftedOut (slot : Nat) (s : State) :
    (finalAfterQuota slot s).rqp.shiftedOut = s.rqp.shiftedOut := (finalAfterQuota_port slot s).2.2.2.2.2

theorem applyGrant_port (x : Exchange) (u v : Nat) (f : Bool) (s : State) :
    (applyGrant x u v f s).rqp.mode = s.rqp.mode ∧ (applyGrant x u v f s).rqp.settings = s.rqp.settings ∧ (applyGrant x u v f s).rqp.shipTime = s.rqp.shipTime ∧ (applyGrant x u v f s).rqp.answers = s.rqp.answers ∧ (applyGrant x u v f s).rqp.busy = s.rqp.busy ∧ (applyGrant x u v f s).rqp.shiftedOut = s.rqp.shiftedOut := by
  refine ⟨?_, ?_, ?_, ?_, ?_, ?_⟩ <;>
    (unfold applyGrant; (try dsimp only); (repeat' split); all_goals simp)

@[simp] theorem applyGrant_rqp_mode (x : Exchange) (u v : Nat) (f : Bool) (s : State) :
    (applyGrant x u v f s).rqp.mode = s.rqp.mode := (applyGrant_port x u v f s).1
@[simp] theorem applyGrant_rqp_settings (x : Exchange) (u v : Nat) (f : Bool) (s : State) :
    (applyGrant x u v f s).rqp.settings = s.rqp.settings := (applyGrant_port x u v f s).2.1
@[simp] theorem applyGrant_rqp_shipTime (x : Exchange) (u v : Nat) (f : Bool) (s : State) :
    (applyGrant x u v f s).rqp.shipTime = s.rqp.shipTime := (applyGrant_port x u v f s).2.2.1
@[simp] theorem applyGrant_rqp_answers (x : Exchange) (u v : Nat) (f : Bool) (s : State) :
    (applyGrant x u v f s).rqp.answers = s.rqp.answers := (applyGrant_port x u v f s).2.2.2.1
@[simp] theorem applyGrant_rqp_busy (x : Exchange) (u v : Nat) (f : Bool) (s : State) :
    (applyGrant x u v f s).rqp.busy = s.rqp.busy := (applyGrant_port x u v f s).2.2.2.2.1
@[simp] theorem applyGrant_rqp_shiftedOut (x : Exchange) (u v : Nat) (f : Bool) (s : State) :
    (applyGrant x u v f s).rqp.shiftedOut = s.rqp.shiftedOut := (applyGrant_port x u v f s).2.2.2.2.2

theorem refuseQuota_port (slot : Nat) (c : Byte) (s : State) :
    (refuseQuota slot c s).rqp.mode = s.rqp.mode ∧ (refuseQuota slot c s).rqp.settings = s.rqp.settings ∧ (refuseQuota slot c s).rqp.shipTime = s.rqp.shipTime ∧ (refuseQuota slot c s).rqp.answers = s.rqp.answers ∧ (refuseQuota slot c s).rqp.busy = s.rqp.busy ∧ (refuseQuota slot c s).rqp.shiftedOut = s.rqp.shiftedOut := by
  refine ⟨?_, ?_, ?_, ?_, ?_, ?_⟩ <;>
    (unfold refuseQuota; (try dsimp only); all_goals simp)

@[simp] theorem refuseQuota_rqp_mode (slot : Nat) (c : Byte) (s : State) :
    (refuseQuota slot c s).rqp.mode = s.rqp.mode := (refuseQuota_port slot c s).1
@[simp] theorem refuseQuota_rqp_settings (slot : Nat) (c : Byte) (s : State) :
    (refuseQuota slot c s).rqp.settings = s.rqp.settings := (refuseQuota_port slot c s).2.1
@[simp] theorem refuseQuota_rqp_shipTime (slot : Nat) (c : Byte) (s : State) :
    (refuseQuota slot c s).rqp.shipTime = s.rqp.shipTime := (refuseQuota_port slot c s).2.2.1
@[simp] theorem refuseQuota_rqp_answers (slot : Nat) (c : Byte) (s : State) :
    (refuseQuota slot c s).rqp.answers = s.rqp.answers := (refuseQuota_port slot c s).2.2.2.1
@[simp] theorem refuseQuota_rqp_busy (slot : Nat) (c : Byte) (s : State) :
    (refuseQuota slot c s).rqp.busy = s.rqp.busy := (refuseQuota_port slot c s).2.2.2.2.1
@[simp] theorem refuseQuota_rqp_shiftedOut (slot : Nat) (c : Byte) (s : State) :
    (refuseQuota slot c s).rqp.shiftedOut = s.rqp.shiftedOut := (refuseQuota_port slot c s).2.2.2.2.2

theorem applyDeny_port (x : Exchange) (s : State) :
    (applyDeny x s).rqp.mode = s.rqp.mode ∧ (applyDeny x s).rqp.settings = s.rqp.settings ∧ (applyDeny x s).rqp.shipTime = s.rqp.shipTime ∧ (applyDeny x s).rqp.answers = s.rqp.answers ∧ (applyDeny x s).rqp.busy = s.rqp.busy ∧ (applyDeny x s).rqp.shiftedOut = s.rqp.shiftedOut := by
  refine ⟨?_, ?_, ?_, ?_, ?_, ?_⟩ <;>
    (unfold applyDeny; (try dsimp only); (repeat' split); all_goals simp)

@[simp] theorem applyDeny_rqp_mode (x : Exchange) (s : State) :
    (applyDeny x s).rqp.mode = s.rqp.mode := (applyDeny_port x s).1
@[simp] theorem applyDeny_rqp_settings (x : Exchange) (s : State) :
    (applyDeny x s).rqp.settings = s.rqp.settings := (applyDeny_port x s).2.1
@[simp] theorem applyDeny_rqp_shipTime (x : Exchange) (s : State) :
    (applyDeny x s).rqp.shipTime = s.rqp.shipTime := (applyDeny_port x s).2.2.1
@[simp] theorem applyDeny_rqp_answers (x : Exchange) (s : State) :
    (applyDeny x s).rqp.answers = s.rqp.answers := (applyDeny_port x s).2.2.2.1
@[simp] theorem applyDeny_rqp_busy (x : Exchange) (s : State) :
    (applyDeny x s).rqp.busy = s.rqp.busy := (applyDeny_port x s).2.2.2.2.1
@[simp] theorem applyDeny_rqp_shiftedOut (x : Exchange) (s : State) :
    (applyDeny x s).rqp.shiftedOut = s.rqp.shiftedOut := (applyDeny_port x s).2.2.2.2.2

theorem applyAck_port (x : Exchange) (s : State) :
    (applyAck x s).rqp.mode = s.rqp.mode ∧ (applyAck x s).rqp.settings = s.rqp.settings ∧ (applyAck x s).rqp.shipTime = s.rqp.shipTime ∧ (applyAck x s).rqp.answers = s.rqp.answers ∧ (applyAck x s).rqp.busy = s.rqp.busy ∧ (applyAck x s).rqp.shiftedOut = s.rqp.shiftedOut := by
  refine ⟨?_, ?_, ?_, ?_, ?_, ?_⟩ <;>
    (unfold applyAck; all_goals simp)

@[simp] theorem applyAck_rqp_mode (x : Exchange) (s : State) :
    (applyAck x s).rqp.mode = s.rqp.mode := (applyAck_port x s).1
@[simp] theorem applyAck_rqp_settings (x : Exchange) (s : State) :
    (applyAck x s).rqp.settings = s.rqp.settings := (applyAck_port x s).2.1
@[simp] theorem applyAck_rqp_shipTime (x : Exchange) (s : State) :
    (applyAck x s).rqp.shipTime = s.rqp.shipTime := (applyAck_port x s).2.2.1
@[simp] theorem applyAck_rqp_answers (x : Exchange) (s : State) :
    (applyAck x s).rqp.answers = s.rqp.answers := (applyAck_port x s).2.2.2.1
@[simp] theorem applyAck_rqp_busy (x : Exchange) (s : State) :
    (applyAck x s).rqp.busy = s.rqp.busy := (applyAck_port x s).2.2.2.2.1
@[simp] theorem applyAck_rqp_shiftedOut (x : Exchange) (s : State) :
    (applyAck x s).rqp.shiftedOut = s.rqp.shiftedOut := (applyAck_port x s).2.2.2.2.2

theorem applySecondFailure_port (x : Exchange) (s : State) :
    (applySecondFailure x s).rqp.mode = s.rqp.mode ∧ (applySecondFailure x s).rqp.settings = s.rqp.settings ∧ (applySecondFailure x s).rqp.shipTime = s.rqp.shipTime ∧ (applySecondFailure x s).rqp.answers = s.rqp.answers ∧ (applySecondFailure x s).rqp.busy = s.rqp.busy ∧ (applySecondFailure x s).rqp.shiftedOut = s.rqp.shiftedOut := by
  refine ⟨?_, ?_, ?_, ?_, ?_, ?_⟩ <;>
    (unfold applySecondFailure; (repeat' split); all_goals simp)

@[simp] theorem applySecondFailure_rqp_mode (x : Exchange) (s : State) :
    (applySecondFailure x s).rqp.mode = s.rqp.mode := (applySecondFailure_port x s).1
@[simp] theorem applySecondFailure_rqp_settings (x : Exchange) (s : State) :
    (applySecondFailure x s).rqp.settings = s.rqp.settings := (applySecondFailure_port x s).2.1
@[simp] theorem applySecondFailure_rqp_shipTime (x : Exchange) (s : State) :
    (applySecondFailure x s).rqp.shipTime = s.rqp.shipTime := (applySecondFailure_port x s).2.2.1
@[simp] theorem applySecondFailure_rqp_answers (x : Exchange) (s : State) :
    (applySecondFailure x s).rqp.answers = s.rqp.answers := (applySecondFailure_port x s).2.2.2.1
@[simp] theorem applySecondFailure_rqp_busy (x : Exchange) (s : State) :
    (applySecondFailure x s).rqp.busy = s.rqp.busy := (applySecondFailure_port x s).2.2.2.2.1
@[simp] theorem applySecondFailure_rqp_shiftedOut (x : Exchange) (s : State) :
    (applySecondFailure x s).rqp.shiftedOut = s.rqp.shiftedOut := (applySecondFailure_port x s).2.2.2.2.2

theorem requeue_port (i : Nat) (x : Exchange) (s : State) :
    (requeue i x s).rqp.mode = s.rqp.mode ∧ (requeue i x s).rqp.settings = s.rqp.settings ∧ (requeue i x s).rqp.shipTime = s.rqp.shipTime ∧ (requeue i x s).rqp.answers = s.rqp.answers ∧ (requeue i x s).rqp.busy = s.rqp.busy ∧ (requeue i x s).rqp.shiftedOut = s.rqp.shiftedOut := by
  refine ⟨?_, ?_, ?_, ?_, ?_, ?_⟩ <;>
    (unfold requeue; (try dsimp only); all_goals simp)

@[simp] theorem requeue_rqp_mode (i : Nat) (x : Exchange) (s : State) :
    (requeue i x s).rqp.mode = s.rqp.mode := (requeue_port i x s).1
@[simp] theorem requeue_rqp_settings (i : Nat) (x : Exchange) (s : State) :
    (requeue i x s).rqp.settings = s.rqp.settings := (requeue_port i x s).2.1
@[simp] theorem requeue_rqp_shipTime (i : Nat) (x : Exchange) (s : State) :
    (requeue i x s).rqp.shipTime = s.rqp.shipTime := (requeue_port i x s).2.2.1
@[simp] theorem requeue_rqp_answers (i : Nat) (x : Exchange) (s : State) :
    (requeue i x s).rqp.answers = s.rqp.answers := (requeue_port i x s).2.2.2.1
@[simp] theorem requeue_rqp_busy (i : Nat) (x : Exchange) (s : State) :
    (requeue i x s).rqp.busy = s.rqp.busy := (requeue_port i x s).2.2.2.2.1
@[simp] theorem requeue_rqp_shiftedOut (i : Nat) (x : Exchange) (s : State) :
    (requeue i x s).rqp.shiftedOut = s.rqp.shiftedOut := (requeue_port i x s).2.2.2.2.2

theorem failExchange_port (i : Nat) (s : State) :
    (failExchange i s).rqp.mode = s.rqp.mode ∧ (failExchange i s).rqp.settings = s.rqp.settings ∧ (failExchange i s).rqp.shipTime = s.rqp.shipTime ∧ (failExchange i s).rqp.answers = s.rqp.answers ∧ (failExchange i s).rqp.busy = s.rqp.busy ∧ (failExchange i s).rqp.shiftedOut = s.rqp.shiftedOut := by
  refine ⟨?_, ?_, ?_, ?_, ?_, ?_⟩ <;>
    (unfold failExchange; (repeat' split); all_goals simp)

@[simp] theorem failExchange_rqp_mode (i : Nat) (s : State) :
    (failExchange i s).rqp.mode = s.rqp.mode := (failExchange_port i s).1
@[simp] theorem failExchange_rqp_settings (i : Nat) (s : State) :
    (failExchange i s).rqp.settings = s.rqp.settings := (failExchange_port i s).2.1
@[simp] theorem failExchange_rqp_shipTime (i : Nat) (s : State) :
    (failExchange i s).rqp.shipTime = s.rqp.shipTime := (failExchange_port i s).2.2.1
@[simp] theorem failExchange_rqp_answers (i : Nat) (s : State) :
    (failExchange i s).rqp.answers = s.rqp.answers := (failExchange_port i s).2.2.2.1
@[simp] theorem failExchange_rqp_busy (i : Nat) (s : State) :
    (failExchange i s).rqp.busy = s.rqp.busy := (failExchange_port i s).2.2.2.2.1
@[simp] theorem failExchange_rqp_shiftedOut (i : Nat) (s : State) :
    (failExchange i s).rqp.shiftedOut = s.rqp.shiftedOut := (failExchange_port i s).2.2.2.2.2

theorem linksLeave_port (p : Link → Bool) (s : State) :
    (linksLeave p s).rqp.mode = s.rqp.mode ∧ (linksLeave p s).rqp.settings = s.rqp.settings ∧ (linksLeave p s).rqp.shipTime = s.rqp.shipTime ∧ (linksLeave p s).rqp.answers = s.rqp.answers ∧ (linksLeave p s).rqp.busy = s.rqp.busy ∧ (linksLeave p s).rqp.shiftedOut = s.rqp.shiftedOut := by
  unfold linksLeave
  refine ⟨foldl_keeps (fun (a : State) => a.rqp.mode) _ (fun s x => ?_) _ _, foldl_keeps (fun (a : State) => a.rqp.settings) _ (fun s x => ?_) _ _, foldl_keeps (fun (a : State) => a.rqp.shipTime) _ (fun s x => ?_) _ _, foldl_keeps (fun (a : State) => a.rqp.answers) _ (fun s x => ?_) _ _, foldl_keeps (fun (a : State) => a.rqp.busy) _ (fun s x => ?_) _ _, foldl_keeps (fun (a : State) => a.rqp.shiftedOut) _ (fun s x => ?_) _ _⟩ <;>
    ((repeat' split); all_goals simp)

@[simp] theorem linksLeave_rqp_mode (p : Link → Bool) (s : State) :
    (linksLeave p s).rqp.mode = s.rqp.mode := (linksLeave_port p s).1
@[simp] theorem linksLeave_rqp_settings (p : Link → Bool) (s : State) :
    (linksLeave p s).rqp.settings = s.rqp.settings := (linksLeave_port p s).2.1
@[simp] theorem linksLeave_rqp_shipTime (p : Link → Bool) (s : State) :
    (linksLeave p s).rqp.shipTime = s.rqp.shipTime := (linksLeave_port p s).2.2.1
@[simp] theorem linksLeave_rqp_answers (p : Link → Bool) (s : State) :
    (linksLeave p s).rqp.answers = s.rqp.answers := (linksLeave_port p s).2.2.2.1
@[simp] theorem linksLeave_rqp_busy (p : Link → Bool) (s : State) :
    (linksLeave p s).rqp.busy = s.rqp.busy := (linksLeave_port p s).2.2.2.2.1
@[simp] theorem linksLeave_rqp_shiftedOut (p : Link → Bool) (s : State) :
    (linksLeave p s).rqp.shiftedOut = s.rqp.shiftedOut := (linksLeave_port p s).2.2.2.2.2

theorem handoverNotice_port (r : Nat) (c : TrafficClass) (d : Byte) (a b : Option Link) (s : State) :
    (handoverNotice r c d a b s).rqp.mode = s.rqp.mode ∧ (handoverNotice r c d a b s).rqp.settings = s.rqp.settings ∧ (handoverNotice r c d a b s).rqp.shipTime = s.rqp.shipTime ∧ (handoverNotice r c d a b s).rqp.answers = s.rqp.answers ∧ (handoverNotice r c d a b s).rqp.busy = s.rqp.busy ∧ (handoverNotice r c d a b s).rqp.shiftedOut = s.rqp.shiftedOut := by
  refine ⟨?_, ?_, ?_, ?_, ?_, ?_⟩ <;>
    (unfold handoverNotice; all_goals simp)

@[simp] theorem handoverNotice_rqp_mode (r : Nat) (c : TrafficClass) (d : Byte) (a b : Option Link) (s : State) :
    (handoverNotice r c d a b s).rqp.mode = s.rqp.mode := (handoverNotice_port r c d a b s).1
@[simp] theorem handoverNotice_rqp_settings (r : Nat) (c : TrafficClass) (d : Byte) (a b : Option Link) (s : State) :
    (handoverNotice r c d a b s).rqp.settings = s.rqp.settings := (handoverNotice_port r c d a b s).2.1
@[simp] theorem handoverNotice_rqp_shipTime (r : Nat) (c : TrafficClass) (d : Byte) (a b : Option Link) (s : State) :
    (handoverNotice r c d a b s).rqp.shipTime = s.rqp.shipTime := (handoverNotice_port r c d a b s).2.2.1
@[simp] theorem handoverNotice_rqp_answers (r : Nat) (c : TrafficClass) (d : Byte) (a b : Option Link) (s : State) :
    (handoverNotice r c d a b s).rqp.answers = s.rqp.answers := (handoverNotice_port r c d a b s).2.2.2.1
@[simp] theorem handoverNotice_rqp_busy (r : Nat) (c : TrafficClass) (d : Byte) (a b : Option Link) (s : State) :
    (handoverNotice r c d a b s).rqp.busy = s.rqp.busy := (handoverNotice_port r c d a b s).2.2.2.2.1
@[simp] theorem handoverNotice_rqp_shiftedOut (r : Nat) (c : TrafficClass) (d : Byte) (a b : Option Link) (s : State) :
    (handoverNotice r c d a b s).rqp.shiftedOut = s.rqp.shiftedOut := (handoverNotice_port r c d a b s).2.2.2.2.2

theorem movePath_port (r : Nat) (c : TrafficClass) (st : PathState) (m : Option MoveReason) (d : Byte) (a b : Option Link) (s : State) :
    (movePath r c st m d a b s).rqp.mode = s.rqp.mode ∧ (movePath r c st m d a b s).rqp.settings = s.rqp.settings ∧ (movePath r c st m d a b s).rqp.shipTime = s.rqp.shipTime ∧ (movePath r c st m d a b s).rqp.answers = s.rqp.answers ∧ (movePath r c st m d a b s).rqp.busy = s.rqp.busy ∧ (movePath r c st m d a b s).rqp.shiftedOut = s.rqp.shiftedOut := by
  refine ⟨?_, ?_, ?_, ?_, ?_, ?_⟩ <;>
    (unfold movePath; (try dsimp only); all_goals simp)

@[simp] theorem movePath_rqp_mode (r : Nat) (c : TrafficClass) (st : PathState) (m : Option MoveReason) (d : Byte) (a b : Option Link) (s : State) :
    (movePath r c st m d a b s).rqp.mode = s.rqp.mode := (movePath_port r c st m d a b s).1
@[simp] theorem movePath_rqp_settings (r : Nat) (c : TrafficClass) (st : PathState) (m : Option MoveReason) (d : Byte) (a b : Option Link) (s : State) :
    (movePath r c st m d a b s).rqp.settings = s.rqp.settings := (movePath_port r c st m d a b s).2.1
@[simp] theorem movePath_rqp_shipTime (r : Nat) (c : TrafficClass) (st : PathState) (m : Option MoveReason) (d : Byte) (a b : Option Link) (s : State) :
    (movePath r c st m d a b s).rqp.shipTime = s.rqp.shipTime := (movePath_port r c st m d a b s).2.2.1
@[simp] theorem movePath_rqp_answers (r : Nat) (c : TrafficClass) (st : PathState) (m : Option MoveReason) (d : Byte) (a b : Option Link) (s : State) :
    (movePath r c st m d a b s).rqp.answers = s.rqp.answers := (movePath_port r c st m d a b s).2.2.2.1
@[simp] theorem movePath_rqp_busy (r : Nat) (c : TrafficClass) (st : PathState) (m : Option MoveReason) (d : Byte) (a b : Option Link) (s : State) :
    (movePath r c st m d a b s).rqp.busy = s.rqp.busy := (movePath_port r c st m d a b s).2.2.2.2.1
@[simp] theorem movePath_rqp_shiftedOut (r : Nat) (c : TrafficClass) (st : PathState) (m : Option MoveReason) (d : Byte) (a b : Option Link) (s : State) :
    (movePath r c st m d a b s).rqp.shiftedOut = s.rqp.shiftedOut := (movePath_port r c st m d a b s).2.2.2.2.2

theorem startPreparing_port (r : Nat) (c : TrafficClass) (a b : Link) (m : MoveReason) (s : State) :
    (startPreparing r c a b m s).rqp.mode = s.rqp.mode ∧ (startPreparing r c a b m s).rqp.settings = s.rqp.settings ∧ (startPreparing r c a b m s).rqp.shipTime = s.rqp.shipTime ∧ (startPreparing r c a b m s).rqp.answers = s.rqp.answers ∧ (startPreparing r c a b m s).rqp.busy = s.rqp.busy ∧ (startPreparing r c a b m s).rqp.shiftedOut = s.rqp.shiftedOut := by
  refine ⟨?_, ?_, ?_, ?_, ?_, ?_⟩ <;>
    (unfold startPreparing; all_goals simp)

@[simp] theorem startPreparing_rqp_mode (r : Nat) (c : TrafficClass) (a b : Link) (m : MoveReason) (s : State) :
    (startPreparing r c a b m s).rqp.mode = s.rqp.mode := (startPreparing_port r c a b m s).1
@[simp] theorem startPreparing_rqp_settings (r : Nat) (c : TrafficClass) (a b : Link) (m : MoveReason) (s : State) :
    (startPreparing r c a b m s).rqp.settings = s.rqp.settings := (startPreparing_port r c a b m s).2.1
@[simp] theorem startPreparing_rqp_shipTime (r : Nat) (c : TrafficClass) (a b : Link) (m : MoveReason) (s : State) :
    (startPreparing r c a b m s).rqp.shipTime = s.rqp.shipTime := (startPreparing_port r c a b m s).2.2.1
@[simp] theorem startPreparing_rqp_answers (r : Nat) (c : TrafficClass) (a b : Link) (m : MoveReason) (s : State) :
    (startPreparing r c a b m s).rqp.answers = s.rqp.answers := (startPreparing_port r c a b m s).2.2.2.1
@[simp] theorem startPreparing_rqp_busy (r : Nat) (c : TrafficClass) (a b : Link) (m : MoveReason) (s : State) :
    (startPreparing r c a b m s).rqp.busy = s.rqp.busy := (startPreparing_port r c a b m s).2.2.2.2.1
@[simp] theorem startPreparing_rqp_shiftedOut (r : Nat) (c : TrafficClass) (a b : Link) (m : MoveReason) (s : State) :
    (startPreparing r c a b m s).rqp.shiftedOut = s.rqp.shiftedOut := (startPreparing_port r c a b m s).2.2.2.2.2

theorem hardSwitch_port (r : Nat) (c : TrafficClass) (t : Option Link) (m : Option MoveReason) (s : State) :
    (hardSwitch r c t m s).rqp.mode = s.rqp.mode ∧ (hardSwitch r c t m s).rqp.settings = s.rqp.settings ∧ (hardSwitch r c t m s).rqp.shipTime = s.rqp.shipTime ∧ (hardSwitch r c t m s).rqp.answers = s.rqp.answers ∧ (hardSwitch r c t m s).rqp.busy = s.rqp.busy ∧ (hardSwitch r c t m s).rqp.shiftedOut = s.rqp.shiftedOut := by
  refine ⟨?_, ?_, ?_, ?_, ?_, ?_⟩ <;>
    (unfold hardSwitch; (try dsimp only); (repeat' split); all_goals simp)

@[simp] theorem hardSwitch_rqp_mode (r : Nat) (c : TrafficClass) (t : Option Link) (m : Option MoveReason) (s : State) :
    (hardSwitch r c t m s).rqp.mode = s.rqp.mode := (hardSwitch_port r c t m s).1
@[simp] theorem hardSwitch_rqp_settings (r : Nat) (c : TrafficClass) (t : Option Link) (m : Option MoveReason) (s : State) :
    (hardSwitch r c t m s).rqp.settings = s.rqp.settings := (hardSwitch_port r c t m s).2.1
@[simp] theorem hardSwitch_rqp_shipTime (r : Nat) (c : TrafficClass) (t : Option Link) (m : Option MoveReason) (s : State) :
    (hardSwitch r c t m s).rqp.shipTime = s.rqp.shipTime := (hardSwitch_port r c t m s).2.2.1
@[simp] theorem hardSwitch_rqp_answers (r : Nat) (c : TrafficClass) (t : Option Link) (m : Option MoveReason) (s : State) :
    (hardSwitch r c t m s).rqp.answers = s.rqp.answers := (hardSwitch_port r c t m s).2.2.2.1
@[simp] theorem hardSwitch_rqp_busy (r : Nat) (c : TrafficClass) (t : Option Link) (m : Option MoveReason) (s : State) :
    (hardSwitch r c t m s).rqp.busy = s.rqp.busy := (hardSwitch_port r c t m s).2.2.2.2.1
@[simp] theorem hardSwitch_rqp_shiftedOut (r : Nat) (c : TrafficClass) (t : Option Link) (m : Option MoveReason) (s : State) :
    (hardSwitch r c t m s).rqp.shiftedOut = s.rqp.shiftedOut := (hardSwitch_port r c t m s).2.2.2.2.2

theorem enterReleasing_port (r : Nat) (c : TrafficClass) (a b : Link) (s : State) :
    (enterReleasing r c a b s).rqp.mode = s.rqp.mode ∧ (enterReleasing r c a b s).rqp.settings = s.rqp.settings ∧ (enterReleasing r c a b s).rqp.shipTime = s.rqp.shipTime ∧ (enterReleasing r c a b s).rqp.answers = s.rqp.answers ∧ (enterReleasing r c a b s).rqp.busy = s.rqp.busy ∧ (enterReleasing r c a b s).rqp.shiftedOut = s.rqp.shiftedOut := by
  refine ⟨?_, ?_, ?_, ?_, ?_, ?_⟩ <;>
    (unfold enterReleasing; all_goals simp)

@[simp] theorem enterReleasing_rqp_mode (r : Nat) (c : TrafficClass) (a b : Link) (s : State) :
    (enterReleasing r c a b s).rqp.mode = s.rqp.mode := (enterReleasing_port r c a b s).1
@[simp] theorem enterReleasing_rqp_settings (r : Nat) (c : TrafficClass) (a b : Link) (s : State) :
    (enterReleasing r c a b s).rqp.settings = s.rqp.settings := (enterReleasing_port r c a b s).2.1
@[simp] theorem enterReleasing_rqp_shipTime (r : Nat) (c : TrafficClass) (a b : Link) (s : State) :
    (enterReleasing r c a b s).rqp.shipTime = s.rqp.shipTime := (enterReleasing_port r c a b s).2.2.1
@[simp] theorem enterReleasing_rqp_answers (r : Nat) (c : TrafficClass) (a b : Link) (s : State) :
    (enterReleasing r c a b s).rqp.answers = s.rqp.answers := (enterReleasing_port r c a b s).2.2.2.1
@[simp] theorem enterReleasing_rqp_busy (r : Nat) (c : TrafficClass) (a b : Link) (s : State) :
    (enterReleasing r c a b s).rqp.busy = s.rqp.busy := (enterReleasing_port r c a b s).2.2.2.2.1
@[simp] theorem enterReleasing_rqp_shiftedOut (r : Nat) (c : TrafficClass) (a b : Link) (s : State) :
    (enterReleasing r c a b s).rqp.shiftedOut = s.rqp.shiftedOut := (enterReleasing_port r c a b s).2.2.2.2.2

theorem reselectSteady_port (r : Nat) (c : TrafficClass) (a : Link) (m : MoveReason) (s : State) :
    (reselectSteady r c a m s).rqp.mode = s.rqp.mode ∧ (reselectSteady r c a m s).rqp.settings = s.rqp.settings ∧ (reselectSteady r c a m s).rqp.shipTime = s.rqp.shipTime ∧ (reselectSteady r c a m s).rqp.answers = s.rqp.answers ∧ (reselectSteady r c a m s).rqp.busy = s.rqp.busy ∧ (reselectSteady r c a m s).rqp.shiftedOut = s.rqp.shiftedOut := by
  refine ⟨?_, ?_, ?_, ?_, ?_, ?_⟩ <;>
    (unfold reselectSteady; (repeat' split); all_goals simp)

@[simp] theorem reselectSteady_rqp_mode (r : Nat) (c : TrafficClass) (a : Link) (m : MoveReason) (s : State) :
    (reselectSteady r c a m s).rqp.mode = s.rqp.mode := (reselectSteady_port r c a m s).1
@[simp] theorem reselectSteady_rqp_settings (r : Nat) (c : TrafficClass) (a : Link) (m : MoveReason) (s : State) :
    (reselectSteady r c a m s).rqp.settings = s.rqp.settings := (reselectSteady_port r c a m s).2.1
@[simp] theorem reselectSteady_rqp_shipTime (r : Nat) (c : TrafficClass) (a : Link) (m : MoveReason) (s : State) :
    (reselectSteady r c a m s).rqp.shipTime = s.rqp.shipTime := (reselectSteady_port r c a m s).2.2.1
@[simp] theorem reselectSteady_rqp_answers (r : Nat) (c : TrafficClass) (a : Link) (m : MoveReason) (s : State) :
    (reselectSteady r c a m s).rqp.answers = s.rqp.answers := (reselectSteady_port r c a m s).2.2.2.1
@[simp] theorem reselectSteady_rqp_busy (r : Nat) (c : TrafficClass) (a : Link) (m : MoveReason) (s : State) :
    (reselectSteady r c a m s).rqp.busy = s.rqp.busy := (reselectSteady_port r c a m s).2.2.2.2.1
@[simp] theorem reselectSteady_rqp_shiftedOut (r : Nat) (c : TrafficClass) (a : Link) (m : MoveReason) (s : State) :
    (reselectSteady r c a m s).rqp.shiftedOut = s.rqp.shiftedOut := (reselectSteady_port r c a m s).2.2.2.2.2

theorem enterSteady_port (r : Nat) (c : TrafficClass) (a : Link) (s : State) :
    (enterSteady r c a s).rqp.mode = s.rqp.mode ∧ (enterSteady r c a s).rqp.settings = s.rqp.settings ∧ (enterSteady r c a s).rqp.shipTime = s.rqp.shipTime ∧ (enterSteady r c a s).rqp.answers = s.rqp.answers ∧ (enterSteady r c a s).rqp.busy = s.rqp.busy ∧ (enterSteady r c a s).rqp.shiftedOut = s.rqp.shiftedOut := by
  refine ⟨?_, ?_, ?_, ?_, ?_, ?_⟩ <;>
    (unfold enterSteady; (try dsimp only); all_goals simp)

@[simp] theorem enterSteady_rqp_mode (r : Nat) (c : TrafficClass) (a : Link) (s : State) :
    (enterSteady r c a s).rqp.mode = s.rqp.mode := (enterSteady_port r c a s).1
@[simp] theorem enterSteady_rqp_settings (r : Nat) (c : TrafficClass) (a : Link) (s : State) :
    (enterSteady r c a s).rqp.settings = s.rqp.settings := (enterSteady_port r c a s).2.1
@[simp] theorem enterSteady_rqp_shipTime (r : Nat) (c : TrafficClass) (a : Link) (s : State) :
    (enterSteady r c a s).rqp.shipTime = s.rqp.shipTime := (enterSteady_port r c a s).2.2.1
@[simp] theorem enterSteady_rqp_answers (r : Nat) (c : TrafficClass) (a : Link) (s : State) :
    (enterSteady r c a s).rqp.answers = s.rqp.answers := (enterSteady_port r c a s).2.2.2.1
@[simp] theorem enterSteady_rqp_busy (r : Nat) (c : TrafficClass) (a : Link) (s : State) :
    (enterSteady r c a s).rqp.busy = s.rqp.busy := (enterSteady_port r c a s).2.2.2.2.1
@[simp] theorem enterSteady_rqp_shiftedOut (r : Nat) (c : TrafficClass) (a : Link) (s : State) :
    (enterSteady r c a s).rqp.shiftedOut = s.rqp.shiftedOut := (enterSteady_port r c a s).2.2.2.2.2

theorem abandon_port (r : Nat) (c : TrafficClass) (a b : Link) (s : State) :
    (abandon r c a b s).rqp.mode = s.rqp.mode ∧ (abandon r c a b s).rqp.settings = s.rqp.settings ∧ (abandon r c a b s).rqp.shipTime = s.rqp.shipTime ∧ (abandon r c a b s).rqp.answers = s.rqp.answers ∧ (abandon r c a b s).rqp.busy = s.rqp.busy ∧ (abandon r c a b s).rqp.shiftedOut = s.rqp.shiftedOut := by
  refine ⟨?_, ?_, ?_, ?_, ?_, ?_⟩ <;>
    (unfold abandon; all_goals simp)

@[simp] theorem abandon_rqp_mode (r : Nat) (c : TrafficClass) (a b : Link) (s : State) :
    (abandon r c a b s).rqp.mode = s.rqp.mode := (abandon_port r c a b s).1
@[simp] theorem abandon_rqp_settings (r : Nat) (c : TrafficClass) (a b : Link) (s : State) :
    (abandon r c a b s).rqp.settings = s.rqp.settings := (abandon_port r c a b s).2.1
@[simp] theorem abandon_rqp_shipTime (r : Nat) (c : TrafficClass) (a b : Link) (s : State) :
    (abandon r c a b s).rqp.shipTime = s.rqp.shipTime := (abandon_port r c a b s).2.2.1
@[simp] theorem abandon_rqp_answers (r : Nat) (c : TrafficClass) (a b : Link) (s : State) :
    (abandon r c a b s).rqp.answers = s.rqp.answers := (abandon_port r c a b s).2.2.2.1
@[simp] theorem abandon_rqp_busy (r : Nat) (c : TrafficClass) (a b : Link) (s : State) :
    (abandon r c a b s).rqp.busy = s.rqp.busy := (abandon_port r c a b s).2.2.2.2.1
@[simp] theorem abandon_rqp_shiftedOut (r : Nat) (c : TrafficClass) (a b : Link) (s : State) :
    (abandon r c a b s).rqp.shiftedOut = s.rqp.shiftedOut := (abandon_port r c a b s).2.2.2.2.2

theorem reselect_port (r : Nat) (c : TrafficClass) (m : MoveReason) (s : State) :
    (reselect r c m s).rqp.mode = s.rqp.mode ∧ (reselect r c m s).rqp.settings = s.rqp.settings ∧ (reselect r c m s).rqp.shipTime = s.rqp.shipTime ∧ (reselect r c m s).rqp.answers = s.rqp.answers ∧ (reselect r c m s).rqp.busy = s.rqp.busy ∧ (reselect r c m s).rqp.shiftedOut = s.rqp.shiftedOut := by
  refine ⟨?_, ?_, ?_, ?_, ?_, ?_⟩ <;>
    (unfold reselect; (try dsimp only); (repeat' split); all_goals simp)

@[simp] theorem reselect_rqp_mode (r : Nat) (c : TrafficClass) (m : MoveReason) (s : State) :
    (reselect r c m s).rqp.mode = s.rqp.mode := (reselect_port r c m s).1
@[simp] theorem reselect_rqp_settings (r : Nat) (c : TrafficClass) (m : MoveReason) (s : State) :
    (reselect r c m s).rqp.settings = s.rqp.settings := (reselect_port r c m s).2.1
@[simp] theorem reselect_rqp_shipTime (r : Nat) (c : TrafficClass) (m : MoveReason) (s : State) :
    (reselect r c m s).rqp.shipTime = s.rqp.shipTime := (reselect_port r c m s).2.2.1
@[simp] theorem reselect_rqp_answers (r : Nat) (c : TrafficClass) (m : MoveReason) (s : State) :
    (reselect r c m s).rqp.answers = s.rqp.answers := (reselect_port r c m s).2.2.2.1
@[simp] theorem reselect_rqp_busy (r : Nat) (c : TrafficClass) (m : MoveReason) (s : State) :
    (reselect r c m s).rqp.busy = s.rqp.busy := (reselect_port r c m s).2.2.2.2.1
@[simp] theorem reselect_rqp_shiftedOut (r : Nat) (c : TrafficClass) (m : MoveReason) (s : State) :
    (reselect r c m s).rqp.shiftedOut = s.rqp.shiftedOut := (reselect_port r c m s).2.2.2.2.2

theorem reselectRoute_port (r : Nat) (m : MoveReason) (s : State) :
    (reselectRoute r m s).rqp.mode = s.rqp.mode ∧ (reselectRoute r m s).rqp.settings = s.rqp.settings ∧ (reselectRoute r m s).rqp.shipTime = s.rqp.shipTime ∧ (reselectRoute r m s).rqp.answers = s.rqp.answers ∧ (reselectRoute r m s).rqp.busy = s.rqp.busy ∧ (reselectRoute r m s).rqp.shiftedOut = s.rqp.shiftedOut := by
  unfold reselectRoute
  refine ⟨foldl_keeps (fun (a : State) => a.rqp.mode) _ (fun s x => ?_) _ _, foldl_keeps (fun (a : State) => a.rqp.settings) _ (fun s x => ?_) _ _, foldl_keeps (fun (a : State) => a.rqp.shipTime) _ (fun s x => ?_) _ _, foldl_keeps (fun (a : State) => a.rqp.answers) _ (fun s x => ?_) _ _, foldl_keeps (fun (a : State) => a.rqp.busy) _ (fun s x => ?_) _ _, foldl_keeps (fun (a : State) => a.rqp.shiftedOut) _ (fun s x => ?_) _ _⟩ <;>
    (all_goals simp)

@[simp] theorem reselectRoute_rqp_mode (r : Nat) (m : MoveReason) (s : State) :
    (reselectRoute r m s).rqp.mode = s.rqp.mode := (reselectRoute_port r m s).1
@[simp] theorem reselectRoute_rqp_settings (r : Nat) (m : MoveReason) (s : State) :
    (reselectRoute r m s).rqp.settings = s.rqp.settings := (reselectRoute_port r m s).2.1
@[simp] theorem reselectRoute_rqp_shipTime (r : Nat) (m : MoveReason) (s : State) :
    (reselectRoute r m s).rqp.shipTime = s.rqp.shipTime := (reselectRoute_port r m s).2.2.1
@[simp] theorem reselectRoute_rqp_answers (r : Nat) (m : MoveReason) (s : State) :
    (reselectRoute r m s).rqp.answers = s.rqp.answers := (reselectRoute_port r m s).2.2.2.1
@[simp] theorem reselectRoute_rqp_busy (r : Nat) (m : MoveReason) (s : State) :
    (reselectRoute r m s).rqp.busy = s.rqp.busy := (reselectRoute_port r m s).2.2.2.2.1
@[simp] theorem reselectRoute_rqp_shiftedOut (r : Nat) (m : MoveReason) (s : State) :
    (reselectRoute r m s).rqp.shiftedOut = s.rqp.shiftedOut := (reselectRoute_port r m s).2.2.2.2.2

theorem reselectAll_port (m : MoveReason) (s : State) :
    (reselectAll m s).rqp.mode = s.rqp.mode ∧ (reselectAll m s).rqp.settings = s.rqp.settings ∧ (reselectAll m s).rqp.shipTime = s.rqp.shipTime ∧ (reselectAll m s).rqp.answers = s.rqp.answers ∧ (reselectAll m s).rqp.busy = s.rqp.busy ∧ (reselectAll m s).rqp.shiftedOut = s.rqp.shiftedOut := by
  unfold reselectAll
  refine ⟨foldl_keeps (fun (a : State) => a.rqp.mode) _ (fun s x => ?_) _ _, foldl_keeps (fun (a : State) => a.rqp.settings) _ (fun s x => ?_) _ _, foldl_keeps (fun (a : State) => a.rqp.shipTime) _ (fun s x => ?_) _ _, foldl_keeps (fun (a : State) => a.rqp.answers) _ (fun s x => ?_) _ _, foldl_keeps (fun (a : State) => a.rqp.busy) _ (fun s x => ?_) _ _, foldl_keeps (fun (a : State) => a.rqp.shiftedOut) _ (fun s x => ?_) _ _⟩ <;>
    (all_goals simp)

@[simp] theorem reselectAll_rqp_mode (m : MoveReason) (s : State) :
    (reselectAll m s).rqp.mode = s.rqp.mode := (reselectAll_port m s).1
@[simp] theorem reselectAll_rqp_settings (m : MoveReason) (s : State) :
    (reselectAll m s).rqp.settings = s.rqp.settings := (reselectAll_port m s).2.1
@[simp] theorem reselectAll_rqp_shipTime (m : MoveReason) (s : State) :
    (reselectAll m s).rqp.shipTime = s.rqp.shipTime := (reselectAll_port m s).2.2.1
@[simp] theorem reselectAll_rqp_answers (m : MoveReason) (s : State) :
    (reselectAll m s).rqp.answers = s.rqp.answers := (reselectAll_port m s).2.2.2.1
@[simp] theorem reselectAll_rqp_busy (m : MoveReason) (s : State) :
    (reselectAll m s).rqp.busy = s.rqp.busy := (reselectAll_port m s).2.2.2.2.1
@[simp] theorem reselectAll_rqp_shiftedOut (m : MoveReason) (s : State) :
    (reselectAll m s).rqp.shiftedOut = s.rqp.shiftedOut := (reselectAll_port m s).2.2.2.2.2

theorem linkNotice_port (i : Link) (a b : LinkState) (c : LinkCause) (s : State) :
    (linkNotice i a b c s).rqp.mode = s.rqp.mode ∧ (linkNotice i a b c s).rqp.settings = s.rqp.settings ∧ (linkNotice i a b c s).rqp.shipTime = s.rqp.shipTime ∧ (linkNotice i a b c s).rqp.answers = s.rqp.answers ∧ (linkNotice i a b c s).rqp.busy = s.rqp.busy ∧ (linkNotice i a b c s).rqp.shiftedOut = s.rqp.shiftedOut := by
  refine ⟨?_, ?_, ?_, ?_, ?_, ?_⟩ <;>
    (unfold linkNotice; all_goals simp)

@[simp] theorem linkNotice_rqp_mode (i : Link) (a b : LinkState) (c : LinkCause) (s : State) :
    (linkNotice i a b c s).rqp.mode = s.rqp.mode := (linkNotice_port i a b c s).1
@[simp] theorem linkNotice_rqp_settings (i : Link) (a b : LinkState) (c : LinkCause) (s : State) :
    (linkNotice i a b c s).rqp.settings = s.rqp.settings := (linkNotice_port i a b c s).2.1
@[simp] theorem linkNotice_rqp_shipTime (i : Link) (a b : LinkState) (c : LinkCause) (s : State) :
    (linkNotice i a b c s).rqp.shipTime = s.rqp.shipTime := (linkNotice_port i a b c s).2.2.1
@[simp] theorem linkNotice_rqp_answers (i : Link) (a b : LinkState) (c : LinkCause) (s : State) :
    (linkNotice i a b c s).rqp.answers = s.rqp.answers := (linkNotice_port i a b c s).2.2.2.1
@[simp] theorem linkNotice_rqp_busy (i : Link) (a b : LinkState) (c : LinkCause) (s : State) :
    (linkNotice i a b c s).rqp.busy = s.rqp.busy := (linkNotice_port i a b c s).2.2.2.2.1
@[simp] theorem linkNotice_rqp_shiftedOut (i : Link) (a b : LinkState) (c : LinkCause) (s : State) :
    (linkNotice i a b c s).rqp.shiftedOut = s.rqp.shiftedOut := (linkNotice_port i a b c s).2.2.2.2.2

theorem changeLink_port (i : Link) (l : LinkRec) (c : LinkCause) (s : State) :
    (changeLink i l c s).rqp.mode = s.rqp.mode ∧ (changeLink i l c s).rqp.settings = s.rqp.settings ∧ (changeLink i l c s).rqp.shipTime = s.rqp.shipTime ∧ (changeLink i l c s).rqp.answers = s.rqp.answers ∧ (changeLink i l c s).rqp.busy = s.rqp.busy ∧ (changeLink i l c s).rqp.shiftedOut = s.rqp.shiftedOut := by
  refine ⟨?_, ?_, ?_, ?_, ?_, ?_⟩ <;>
    (unfold changeLink; (try dsimp only); (repeat' split); all_goals simp)

@[simp] theorem changeLink_rqp_mode (i : Link) (l : LinkRec) (c : LinkCause) (s : State) :
    (changeLink i l c s).rqp.mode = s.rqp.mode := (changeLink_port i l c s).1
@[simp] theorem changeLink_rqp_settings (i : Link) (l : LinkRec) (c : LinkCause) (s : State) :
    (changeLink i l c s).rqp.settings = s.rqp.settings := (changeLink_port i l c s).2.1
@[simp] theorem changeLink_rqp_shipTime (i : Link) (l : LinkRec) (c : LinkCause) (s : State) :
    (changeLink i l c s).rqp.shipTime = s.rqp.shipTime := (changeLink_port i l c s).2.2.1
@[simp] theorem changeLink_rqp_answers (i : Link) (l : LinkRec) (c : LinkCause) (s : State) :
    (changeLink i l c s).rqp.answers = s.rqp.answers := (changeLink_port i l c s).2.2.2.1
@[simp] theorem changeLink_rqp_busy (i : Link) (l : LinkRec) (c : LinkCause) (s : State) :
    (changeLink i l c s).rqp.busy = s.rqp.busy := (changeLink_port i l c s).2.2.2.2.1
@[simp] theorem changeLink_rqp_shiftedOut (i : Link) (l : LinkRec) (c : LinkCause) (s : State) :
    (changeLink i l c s).rqp.shiftedOut = s.rqp.shiftedOut := (changeLink_port i l c s).2.2.2.2.2

theorem endHold_port (i : Link) (s : State) :
    (endHold i s).rqp.mode = s.rqp.mode ∧ (endHold i s).rqp.settings = s.rqp.settings ∧ (endHold i s).rqp.shipTime = s.rqp.shipTime ∧ (endHold i s).rqp.answers = s.rqp.answers ∧ (endHold i s).rqp.busy = s.rqp.busy ∧ (endHold i s).rqp.shiftedOut = s.rqp.shiftedOut := by
  refine ⟨?_, ?_, ?_, ?_, ?_, ?_⟩ <;>
    (unfold endHold; all_goals simp)

@[simp] theorem endHold_rqp_mode (i : Link) (s : State) :
    (endHold i s).rqp.mode = s.rqp.mode := (endHold_port i s).1
@[simp] theorem endHold_rqp_settings (i : Link) (s : State) :
    (endHold i s).rqp.settings = s.rqp.settings := (endHold_port i s).2.1
@[simp] theorem endHold_rqp_shipTime (i : Link) (s : State) :
    (endHold i s).rqp.shipTime = s.rqp.shipTime := (endHold_port i s).2.2.1
@[simp] theorem endHold_rqp_answers (i : Link) (s : State) :
    (endHold i s).rqp.answers = s.rqp.answers := (endHold_port i s).2.2.2.1
@[simp] theorem endHold_rqp_busy (i : Link) (s : State) :
    (endHold i s).rqp.busy = s.rqp.busy := (endHold_port i s).2.2.2.2.1
@[simp] theorem endHold_rqp_shiftedOut (i : Link) (s : State) :
    (endHold i s).rqp.shiftedOut = s.rqp.shiftedOut := (endHold_port i s).2.2.2.2.2

theorem holdForFailure_port (i : Link) (c : LinkCause) (s : State) :
    (holdForFailure i c s).rqp.mode = s.rqp.mode ∧ (holdForFailure i c s).rqp.settings = s.rqp.settings ∧ (holdForFailure i c s).rqp.shipTime = s.rqp.shipTime ∧ (holdForFailure i c s).rqp.answers = s.rqp.answers ∧ (holdForFailure i c s).rqp.busy = s.rqp.busy ∧ (holdForFailure i c s).rqp.shiftedOut = s.rqp.shiftedOut := by
  refine ⟨?_, ?_, ?_, ?_, ?_, ?_⟩ <;>
    (unfold holdForFailure; (try dsimp only); (repeat' split); all_goals simp)

@[simp] theorem holdForFailure_rqp_mode (i : Link) (c : LinkCause) (s : State) :
    (holdForFailure i c s).rqp.mode = s.rqp.mode := (holdForFailure_port i c s).1
@[simp] theorem holdForFailure_rqp_settings (i : Link) (c : LinkCause) (s : State) :
    (holdForFailure i c s).rqp.settings = s.rqp.settings := (holdForFailure_port i c s).2.1
@[simp] theorem holdForFailure_rqp_shipTime (i : Link) (c : LinkCause) (s : State) :
    (holdForFailure i c s).rqp.shipTime = s.rqp.shipTime := (holdForFailure_port i c s).2.2.1
@[simp] theorem holdForFailure_rqp_answers (i : Link) (c : LinkCause) (s : State) :
    (holdForFailure i c s).rqp.answers = s.rqp.answers := (holdForFailure_port i c s).2.2.2.1
@[simp] theorem holdForFailure_rqp_busy (i : Link) (c : LinkCause) (s : State) :
    (holdForFailure i c s).rqp.busy = s.rqp.busy := (holdForFailure_port i c s).2.2.2.2.1
@[simp] theorem holdForFailure_rqp_shiftedOut (i : Link) (c : LinkCause) (s : State) :
    (holdForFailure i c s).rqp.shiftedOut = s.rqp.shiftedOut := (holdForFailure_port i c s).2.2.2.2.2

theorem evaluateLink_port (i : Link) (s : State) :
    (evaluateLink i s).rqp.mode = s.rqp.mode ∧ (evaluateLink i s).rqp.settings = s.rqp.settings ∧ (evaluateLink i s).rqp.shipTime = s.rqp.shipTime ∧ (evaluateLink i s).rqp.answers = s.rqp.answers ∧ (evaluateLink i s).rqp.busy = s.rqp.busy ∧ (evaluateLink i s).rqp.shiftedOut = s.rqp.shiftedOut := by
  refine ⟨?_, ?_, ?_, ?_, ?_, ?_⟩ <;>
    (unfold evaluateLink; (try dsimp only); (repeat' split); all_goals simp)

@[simp] theorem evaluateLink_rqp_mode (i : Link) (s : State) :
    (evaluateLink i s).rqp.mode = s.rqp.mode := (evaluateLink_port i s).1
@[simp] theorem evaluateLink_rqp_settings (i : Link) (s : State) :
    (evaluateLink i s).rqp.settings = s.rqp.settings := (evaluateLink_port i s).2.1
@[simp] theorem evaluateLink_rqp_shipTime (i : Link) (s : State) :
    (evaluateLink i s).rqp.shipTime = s.rqp.shipTime := (evaluateLink_port i s).2.2.1
@[simp] theorem evaluateLink_rqp_answers (i : Link) (s : State) :
    (evaluateLink i s).rqp.answers = s.rqp.answers := (evaluateLink_port i s).2.2.2.1
@[simp] theorem evaluateLink_rqp_busy (i : Link) (s : State) :
    (evaluateLink i s).rqp.busy = s.rqp.busy := (evaluateLink_port i s).2.2.2.2.1
@[simp] theorem evaluateLink_rqp_shiftedOut (i : Link) (s : State) :
    (evaluateLink i s).rqp.shiftedOut = s.rqp.shiftedOut := (evaluateLink_port i s).2.2.2.2.2

theorem judgeProbe_port (i : Link) (b : Bool) (s : State) :
    (judgeProbe i b s).rqp.mode = s.rqp.mode ∧ (judgeProbe i b s).rqp.settings = s.rqp.settings ∧ (judgeProbe i b s).rqp.shipTime = s.rqp.shipTime ∧ (judgeProbe i b s).rqp.answers = s.rqp.answers ∧ (judgeProbe i b s).rqp.busy = s.rqp.busy ∧ (judgeProbe i b s).rqp.shiftedOut = s.rqp.shiftedOut := by
  refine ⟨?_, ?_, ?_, ?_, ?_, ?_⟩ <;>
    (unfold judgeProbe; (try dsimp only); (repeat' split); all_goals simp)

@[simp] theorem judgeProbe_rqp_mode (i : Link) (b : Bool) (s : State) :
    (judgeProbe i b s).rqp.mode = s.rqp.mode := (judgeProbe_port i b s).1
@[simp] theorem judgeProbe_rqp_settings (i : Link) (b : Bool) (s : State) :
    (judgeProbe i b s).rqp.settings = s.rqp.settings := (judgeProbe_port i b s).2.1
@[simp] theorem judgeProbe_rqp_shipTime (i : Link) (b : Bool) (s : State) :
    (judgeProbe i b s).rqp.shipTime = s.rqp.shipTime := (judgeProbe_port i b s).2.2.1
@[simp] theorem judgeProbe_rqp_answers (i : Link) (b : Bool) (s : State) :
    (judgeProbe i b s).rqp.answers = s.rqp.answers := (judgeProbe_port i b s).2.2.2.1
@[simp] theorem judgeProbe_rqp_busy (i : Link) (b : Bool) (s : State) :
    (judgeProbe i b s).rqp.busy = s.rqp.busy := (judgeProbe_port i b s).2.2.2.2.1
@[simp] theorem judgeProbe_rqp_shiftedOut (i : Link) (b : Bool) (s : State) :
    (judgeProbe i b s).rqp.shiftedOut = s.rqp.shiftedOut := (judgeProbe_port i b s).2.2.2.2.2

theorem actOnMeasurement_port (i : Link) (b : Bool) (s : State) :
    (actOnMeasurement i b s).rqp.mode = s.rqp.mode ∧ (actOnMeasurement i b s).rqp.settings = s.rqp.settings ∧ (actOnMeasurement i b s).rqp.shipTime = s.rqp.shipTime ∧ (actOnMeasurement i b s).rqp.answers = s.rqp.answers ∧ (actOnMeasurement i b s).rqp.busy = s.rqp.busy ∧ (actOnMeasurement i b s).rqp.shiftedOut = s.rqp.shiftedOut := by
  refine ⟨?_, ?_, ?_, ?_, ?_, ?_⟩ <;>
    (unfold actOnMeasurement; (repeat' split); all_goals simp)

@[simp] theorem actOnMeasurement_rqp_mode (i : Link) (b : Bool) (s : State) :
    (actOnMeasurement i b s).rqp.mode = s.rqp.mode := (actOnMeasurement_port i b s).1
@[simp] theorem actOnMeasurement_rqp_settings (i : Link) (b : Bool) (s : State) :
    (actOnMeasurement i b s).rqp.settings = s.rqp.settings := (actOnMeasurement_port i b s).2.1
@[simp] theorem actOnMeasurement_rqp_shipTime (i : Link) (b : Bool) (s : State) :
    (actOnMeasurement i b s).rqp.shipTime = s.rqp.shipTime := (actOnMeasurement_port i b s).2.2.1
@[simp] theorem actOnMeasurement_rqp_answers (i : Link) (b : Bool) (s : State) :
    (actOnMeasurement i b s).rqp.answers = s.rqp.answers := (actOnMeasurement_port i b s).2.2.2.1
@[simp] theorem actOnMeasurement_rqp_busy (i : Link) (b : Bool) (s : State) :
    (actOnMeasurement i b s).rqp.busy = s.rqp.busy := (actOnMeasurement_port i b s).2.2.2.2.1
@[simp] theorem actOnMeasurement_rqp_shiftedOut (i : Link) (b : Bool) (s : State) :
    (actOnMeasurement i b s).rqp.shiftedOut = s.rqp.shiftedOut := (actOnMeasurement_port i b s).2.2.2.2.2

theorem radioNotice_port (d v1 v2 v3 v4 v5 : Byte) (s : State) :
    (radioNotice d v1 v2 v3 v4 v5 s).rqp.mode = s.rqp.mode ∧ (radioNotice d v1 v2 v3 v4 v5 s).rqp.settings = s.rqp.settings ∧ (radioNotice d v1 v2 v3 v4 v5 s).rqp.shipTime = s.rqp.shipTime ∧ (radioNotice d v1 v2 v3 v4 v5 s).rqp.answers = s.rqp.answers ∧ (radioNotice d v1 v2 v3 v4 v5 s).rqp.busy = s.rqp.busy ∧ (radioNotice d v1 v2 v3 v4 v5 s).rqp.shiftedOut = s.rqp.shiftedOut := by
  refine ⟨?_, ?_, ?_, ?_, ?_, ?_⟩ <;>
    (unfold radioNotice; all_goals simp)

@[simp] theorem radioNotice_rqp_mode (d v1 v2 v3 v4 v5 : Byte) (s : State) :
    (radioNotice d v1 v2 v3 v4 v5 s).rqp.mode = s.rqp.mode := (radioNotice_port d v1 v2 v3 v4 v5 s).1
@[simp] theorem radioNotice_rqp_settings (d v1 v2 v3 v4 v5 : Byte) (s : State) :
    (radioNotice d v1 v2 v3 v4 v5 s).rqp.settings = s.rqp.settings := (radioNotice_port d v1 v2 v3 v4 v5 s).2.1
@[simp] theorem radioNotice_rqp_shipTime (d v1 v2 v3 v4 v5 : Byte) (s : State) :
    (radioNotice d v1 v2 v3 v4 v5 s).rqp.shipTime = s.rqp.shipTime := (radioNotice_port d v1 v2 v3 v4 v5 s).2.2.1
@[simp] theorem radioNotice_rqp_answers (d v1 v2 v3 v4 v5 : Byte) (s : State) :
    (radioNotice d v1 v2 v3 v4 v5 s).rqp.answers = s.rqp.answers := (radioNotice_port d v1 v2 v3 v4 v5 s).2.2.2.1
@[simp] theorem radioNotice_rqp_busy (d v1 v2 v3 v4 v5 : Byte) (s : State) :
    (radioNotice d v1 v2 v3 v4 v5 s).rqp.busy = s.rqp.busy := (radioNotice_port d v1 v2 v3 v4 v5 s).2.2.2.2.1
@[simp] theorem radioNotice_rqp_shiftedOut (d v1 v2 v3 v4 v5 : Byte) (s : State) :
    (radioNotice d v1 v2 v3 v4 v5 s).rqp.shiftedOut = s.rqp.shiftedOut := (radioNotice_port d v1 v2 v3 v4 v5 s).2.2.2.2.2

theorem changeUnit_port (u : Nat) (n : UnitState) (c : UnitCause) (s : State) :
    (changeUnit u n c s).rqp.mode = s.rqp.mode ∧ (changeUnit u n c s).rqp.settings = s.rqp.settings ∧ (changeUnit u n c s).rqp.shipTime = s.rqp.shipTime ∧ (changeUnit u n c s).rqp.answers = s.rqp.answers ∧ (changeUnit u n c s).rqp.busy = s.rqp.busy ∧ (changeUnit u n c s).rqp.shiftedOut = s.rqp.shiftedOut := by
  refine ⟨?_, ?_, ?_, ?_, ?_, ?_⟩ <;>
    (unfold changeUnit; (try dsimp only); (repeat' split); all_goals simp)

@[simp] theorem changeUnit_rqp_mode (u : Nat) (n : UnitState) (c : UnitCause) (s : State) :
    (changeUnit u n c s).rqp.mode = s.rqp.mode := (changeUnit_port u n c s).1
@[simp] theorem changeUnit_rqp_settings (u : Nat) (n : UnitState) (c : UnitCause) (s : State) :
    (changeUnit u n c s).rqp.settings = s.rqp.settings := (changeUnit_port u n c s).2.1
@[simp] theorem changeUnit_rqp_shipTime (u : Nat) (n : UnitState) (c : UnitCause) (s : State) :
    (changeUnit u n c s).rqp.shipTime = s.rqp.shipTime := (changeUnit_port u n c s).2.2.1
@[simp] theorem changeUnit_rqp_answers (u : Nat) (n : UnitState) (c : UnitCause) (s : State) :
    (changeUnit u n c s).rqp.answers = s.rqp.answers := (changeUnit_port u n c s).2.2.2.1
@[simp] theorem changeUnit_rqp_busy (u : Nat) (n : UnitState) (c : UnitCause) (s : State) :
    (changeUnit u n c s).rqp.busy = s.rqp.busy := (changeUnit_port u n c s).2.2.2.2.1
@[simp] theorem changeUnit_rqp_shiftedOut (u : Nat) (n : UnitState) (c : UnitCause) (s : State) :
    (changeUnit u n c s).rqp.shiftedOut = s.rqp.shiftedOut := (changeUnit_port u n c s).2.2.2.2.2

theorem endCheck_port (s : State) :
    (endCheck s).rqp.mode = s.rqp.mode ∧ (endCheck s).rqp.settings = s.rqp.settings ∧ (endCheck s).rqp.shipTime = s.rqp.shipTime ∧ (endCheck s).rqp.answers = s.rqp.answers ∧ (endCheck s).rqp.busy = s.rqp.busy ∧ (endCheck s).rqp.shiftedOut = s.rqp.shiftedOut := by
  refine ⟨?_, ?_, ?_, ?_, ?_, ?_⟩ <;>
    (unfold endCheck; (try dsimp only); (repeat' split); all_goals simp)

@[simp] theorem endCheck_rqp_mode (s : State) :
    (endCheck s).rqp.mode = s.rqp.mode := (endCheck_port s).1
@[simp] theorem endCheck_rqp_settings (s : State) :
    (endCheck s).rqp.settings = s.rqp.settings := (endCheck_port s).2.1
@[simp] theorem endCheck_rqp_shipTime (s : State) :
    (endCheck s).rqp.shipTime = s.rqp.shipTime := (endCheck_port s).2.2.1
@[simp] theorem endCheck_rqp_answers (s : State) :
    (endCheck s).rqp.answers = s.rqp.answers := (endCheck_port s).2.2.2.1
@[simp] theorem endCheck_rqp_busy (s : State) :
    (endCheck s).rqp.busy = s.rqp.busy := (endCheck_port s).2.2.2.2.1
@[simp] theorem endCheck_rqp_shiftedOut (s : State) :
    (endCheck s).rqp.shiftedOut = s.rqp.shiftedOut := (endCheck_port s).2.2.2.2.2

theorem commandAnsweredRule_port (u : Nat) (m : Mark) (s : State) :
    (commandAnsweredRule u m s).rqp.mode = s.rqp.mode ∧ (commandAnsweredRule u m s).rqp.settings = s.rqp.settings ∧ (commandAnsweredRule u m s).rqp.shipTime = s.rqp.shipTime ∧ (commandAnsweredRule u m s).rqp.answers = s.rqp.answers ∧ (commandAnsweredRule u m s).rqp.busy = s.rqp.busy ∧ (commandAnsweredRule u m s).rqp.shiftedOut = s.rqp.shiftedOut := by
  refine ⟨?_, ?_, ?_, ?_, ?_, ?_⟩ <;>
    (unfold commandAnsweredRule; (try dsimp only); (repeat' split); all_goals simp)

@[simp] theorem commandAnsweredRule_rqp_mode (u : Nat) (m : Mark) (s : State) :
    (commandAnsweredRule u m s).rqp.mode = s.rqp.mode := (commandAnsweredRule_port u m s).1
@[simp] theorem commandAnsweredRule_rqp_settings (u : Nat) (m : Mark) (s : State) :
    (commandAnsweredRule u m s).rqp.settings = s.rqp.settings := (commandAnsweredRule_port u m s).2.1
@[simp] theorem commandAnsweredRule_rqp_shipTime (u : Nat) (m : Mark) (s : State) :
    (commandAnsweredRule u m s).rqp.shipTime = s.rqp.shipTime := (commandAnsweredRule_port u m s).2.2.1
@[simp] theorem commandAnsweredRule_rqp_answers (u : Nat) (m : Mark) (s : State) :
    (commandAnsweredRule u m s).rqp.answers = s.rqp.answers := (commandAnsweredRule_port u m s).2.2.2.1
@[simp] theorem commandAnsweredRule_rqp_busy (u : Nat) (m : Mark) (s : State) :
    (commandAnsweredRule u m s).rqp.busy = s.rqp.busy := (commandAnsweredRule_port u m s).2.2.2.2.1
@[simp] theorem commandAnsweredRule_rqp_shiftedOut (u : Nat) (m : Mark) (s : State) :
    (commandAnsweredRule u m s).rqp.shiftedOut = s.rqp.shiftedOut := (commandAnsweredRule_port u m s).2.2.2.2.2

theorem commandNoackRule_port (u : Nat) (m : Mark) (s : State) :
    (commandNoackRule u m s).rqp.mode = s.rqp.mode ∧ (commandNoackRule u m s).rqp.settings = s.rqp.settings ∧ (commandNoackRule u m s).rqp.shipTime = s.rqp.shipTime ∧ (commandNoackRule u m s).rqp.answers = s.rqp.answers ∧ (commandNoackRule u m s).rqp.busy = s.rqp.busy ∧ (commandNoackRule u m s).rqp.shiftedOut = s.rqp.shiftedOut := by
  refine ⟨?_, ?_, ?_, ?_, ?_, ?_⟩ <;>
    (unfold commandNoackRule; (try dsimp only); (repeat' split); all_goals simp)

@[simp] theorem commandNoackRule_rqp_mode (u : Nat) (m : Mark) (s : State) :
    (commandNoackRule u m s).rqp.mode = s.rqp.mode := (commandNoackRule_port u m s).1
@[simp] theorem commandNoackRule_rqp_settings (u : Nat) (m : Mark) (s : State) :
    (commandNoackRule u m s).rqp.settings = s.rqp.settings := (commandNoackRule_port u m s).2.1
@[simp] theorem commandNoackRule_rqp_shipTime (u : Nat) (m : Mark) (s : State) :
    (commandNoackRule u m s).rqp.shipTime = s.rqp.shipTime := (commandNoackRule_port u m s).2.2.1
@[simp] theorem commandNoackRule_rqp_answers (u : Nat) (m : Mark) (s : State) :
    (commandNoackRule u m s).rqp.answers = s.rqp.answers := (commandNoackRule_port u m s).2.2.2.1
@[simp] theorem commandNoackRule_rqp_busy (u : Nat) (m : Mark) (s : State) :
    (commandNoackRule u m s).rqp.busy = s.rqp.busy := (commandNoackRule_port u m s).2.2.2.2.1
@[simp] theorem commandNoackRule_rqp_shiftedOut (u : Nat) (m : Mark) (s : State) :
    (commandNoackRule u m s).rqp.shiftedOut = s.rqp.shiftedOut := (commandNoackRule_port u m s).2.2.2.2.2

theorem pollAnsweredRule_port (u : Nat) (a b : Bool) (s : State) :
    (pollAnsweredRule u a b s).rqp.mode = s.rqp.mode ∧ (pollAnsweredRule u a b s).rqp.settings = s.rqp.settings ∧ (pollAnsweredRule u a b s).rqp.shipTime = s.rqp.shipTime ∧ (pollAnsweredRule u a b s).rqp.answers = s.rqp.answers ∧ (pollAnsweredRule u a b s).rqp.busy = s.rqp.busy ∧ (pollAnsweredRule u a b s).rqp.shiftedOut = s.rqp.shiftedOut := by
  refine ⟨?_, ?_, ?_, ?_, ?_, ?_⟩ <;>
    (unfold pollAnsweredRule; (try dsimp only); (repeat' split); all_goals simp)

@[simp] theorem pollAnsweredRule_rqp_mode (u : Nat) (a b : Bool) (s : State) :
    (pollAnsweredRule u a b s).rqp.mode = s.rqp.mode := (pollAnsweredRule_port u a b s).1
@[simp] theorem pollAnsweredRule_rqp_settings (u : Nat) (a b : Bool) (s : State) :
    (pollAnsweredRule u a b s).rqp.settings = s.rqp.settings := (pollAnsweredRule_port u a b s).2.1
@[simp] theorem pollAnsweredRule_rqp_shipTime (u : Nat) (a b : Bool) (s : State) :
    (pollAnsweredRule u a b s).rqp.shipTime = s.rqp.shipTime := (pollAnsweredRule_port u a b s).2.2.1
@[simp] theorem pollAnsweredRule_rqp_answers (u : Nat) (a b : Bool) (s : State) :
    (pollAnsweredRule u a b s).rqp.answers = s.rqp.answers := (pollAnsweredRule_port u a b s).2.2.2.1
@[simp] theorem pollAnsweredRule_rqp_busy (u : Nat) (a b : Bool) (s : State) :
    (pollAnsweredRule u a b s).rqp.busy = s.rqp.busy := (pollAnsweredRule_port u a b s).2.2.2.2.1
@[simp] theorem pollAnsweredRule_rqp_shiftedOut (u : Nat) (a b : Bool) (s : State) :
    (pollAnsweredRule u a b s).rqp.shiftedOut = s.rqp.shiftedOut := (pollAnsweredRule_port u a b s).2.2.2.2.2

theorem pollNoackRule_port (u : Nat) (s : State) :
    (pollNoackRule u s).rqp.mode = s.rqp.mode ∧ (pollNoackRule u s).rqp.settings = s.rqp.settings ∧ (pollNoackRule u s).rqp.shipTime = s.rqp.shipTime ∧ (pollNoackRule u s).rqp.answers = s.rqp.answers ∧ (pollNoackRule u s).rqp.busy = s.rqp.busy ∧ (pollNoackRule u s).rqp.shiftedOut = s.rqp.shiftedOut := by
  refine ⟨?_, ?_, ?_, ?_, ?_, ?_⟩ <;>
    (unfold pollNoackRule; (try dsimp only); (repeat' split); all_goals simp)

@[simp] theorem pollNoackRule_rqp_mode (u : Nat) (s : State) :
    (pollNoackRule u s).rqp.mode = s.rqp.mode := (pollNoackRule_port u s).1
@[simp] theorem pollNoackRule_rqp_settings (u : Nat) (s : State) :
    (pollNoackRule u s).rqp.settings = s.rqp.settings := (pollNoackRule_port u s).2.1
@[simp] theorem pollNoackRule_rqp_shipTime (u : Nat) (s : State) :
    (pollNoackRule u s).rqp.shipTime = s.rqp.shipTime := (pollNoackRule_port u s).2.2.1
@[simp] theorem pollNoackRule_rqp_answers (u : Nat) (s : State) :
    (pollNoackRule u s).rqp.answers = s.rqp.answers := (pollNoackRule_port u s).2.2.2.1
@[simp] theorem pollNoackRule_rqp_busy (u : Nat) (s : State) :
    (pollNoackRule u s).rqp.busy = s.rqp.busy := (pollNoackRule_port u s).2.2.2.2.1
@[simp] theorem pollNoackRule_rqp_shiftedOut (u : Nat) (s : State) :
    (pollNoackRule u s).rqp.shiftedOut = s.rqp.shiftedOut := (pollNoackRule_port u s).2.2.2.2.2

theorem noackRule_port (u : Nat) (m : Mark) (f : BusFailure) (s : State) :
    (noackRule u m f s).rqp.mode = s.rqp.mode ∧ (noackRule u m f s).rqp.settings = s.rqp.settings ∧ (noackRule u m f s).rqp.shipTime = s.rqp.shipTime ∧ (noackRule u m f s).rqp.answers = s.rqp.answers ∧ (noackRule u m f s).rqp.busy = s.rqp.busy ∧ (noackRule u m f s).rqp.shiftedOut = s.rqp.shiftedOut := by
  refine ⟨?_, ?_, ?_, ?_, ?_, ?_⟩ <;>
    (unfold noackRule; (try dsimp only); (repeat' split); all_goals simp)

@[simp] theorem noackRule_rqp_mode (u : Nat) (m : Mark) (f : BusFailure) (s : State) :
    (noackRule u m f s).rqp.mode = s.rqp.mode := (noackRule_port u m f s).1
@[simp] theorem noackRule_rqp_settings (u : Nat) (m : Mark) (f : BusFailure) (s : State) :
    (noackRule u m f s).rqp.settings = s.rqp.settings := (noackRule_port u m f s).2.1
@[simp] theorem noackRule_rqp_shipTime (u : Nat) (m : Mark) (f : BusFailure) (s : State) :
    (noackRule u m f s).rqp.shipTime = s.rqp.shipTime := (noackRule_port u m f s).2.2.1
@[simp] theorem noackRule_rqp_answers (u : Nat) (m : Mark) (f : BusFailure) (s : State) :
    (noackRule u m f s).rqp.answers = s.rqp.answers := (noackRule_port u m f s).2.2.2.1
@[simp] theorem noackRule_rqp_busy (u : Nat) (m : Mark) (f : BusFailure) (s : State) :
    (noackRule u m f s).rqp.busy = s.rqp.busy := (noackRule_port u m f s).2.2.2.2.1
@[simp] theorem noackRule_rqp_shiftedOut (u : Nat) (m : Mark) (f : BusFailure) (s : State) :
    (noackRule u m f s).rqp.shiftedOut = s.rqp.shiftedOut := (noackRule_port u m f s).2.2.2.2.2

theorem busCheck_port (s : State) :
    ((busCheck s).2).rqp.mode = s.rqp.mode ∧ ((busCheck s).2).rqp.settings = s.rqp.settings ∧ ((busCheck s).2).rqp.shipTime = s.rqp.shipTime ∧ ((busCheck s).2).rqp.answers = s.rqp.answers ∧ ((busCheck s).2).rqp.busy = s.rqp.busy ∧ ((busCheck s).2).rqp.shiftedOut = s.rqp.shiftedOut := by
  refine ⟨?_, ?_, ?_, ?_, ?_, ?_⟩ <;>
    (unfold busCheck; (try dsimp only); (repeat' split); all_goals simp)

@[simp] theorem busCheck_rqp_mode (s : State) :
    ((busCheck s).2).rqp.mode = s.rqp.mode := (busCheck_port s).1
@[simp] theorem busCheck_rqp_settings (s : State) :
    ((busCheck s).2).rqp.settings = s.rqp.settings := (busCheck_port s).2.1
@[simp] theorem busCheck_rqp_shipTime (s : State) :
    ((busCheck s).2).rqp.shipTime = s.rqp.shipTime := (busCheck_port s).2.2.1
@[simp] theorem busCheck_rqp_answers (s : State) :
    ((busCheck s).2).rqp.answers = s.rqp.answers := (busCheck_port s).2.2.2.1
@[simp] theorem busCheck_rqp_busy (s : State) :
    ((busCheck s).2).rqp.busy = s.rqp.busy := (busCheck_port s).2.2.2.2.1
@[simp] theorem busCheck_rqp_shiftedOut (s : State) :
    ((busCheck s).2).rqp.shiftedOut = s.rqp.shiftedOut := (busCheck_port s).2.2.2.2.2

theorem arbitrate_port (n : Nat) (s : State) :
    (arbitrate n s).rqp.mode = s.rqp.mode ∧ (arbitrate n s).rqp.settings = s.rqp.settings ∧ (arbitrate n s).rqp.shipTime = s.rqp.shipTime ∧ (arbitrate n s).rqp.answers = s.rqp.answers ∧ (arbitrate n s).rqp.busy = s.rqp.busy ∧ (arbitrate n s).rqp.shiftedOut = s.rqp.shiftedOut := by
  induction n generalizing s with
  | zero => simp [arbitrate]
  | succ n ih =>
    unfold arbitrate
    repeat' split
    all_goals (try dsimp only)
    all_goals (repeat' split)
    all_goals simp [ih]

@[simp] theorem arbitrate_rqp_mode (n : Nat) (s : State) :
    (arbitrate n s).rqp.mode = s.rqp.mode := (arbitrate_port n s).1
@[simp] theorem arbitrate_rqp_settings (n : Nat) (s : State) :
    (arbitrate n s).rqp.settings = s.rqp.settings := (arbitrate_port n s).2.1
@[simp] theorem arbitrate_rqp_shipTime (n : Nat) (s : State) :
    (arbitrate n s).rqp.shipTime = s.rqp.shipTime := (arbitrate_port n s).2.2.1
@[simp] theorem arbitrate_rqp_answers (n : Nat) (s : State) :
    (arbitrate n s).rqp.answers = s.rqp.answers := (arbitrate_port n s).2.2.2.1
@[simp] theorem arbitrate_rqp_busy (n : Nat) (s : State) :
    (arbitrate n s).rqp.busy = s.rqp.busy := (arbitrate_port n s).2.2.2.2.1
@[simp] theorem arbitrate_rqp_shiftedOut (n : Nat) (s : State) :
    (arbitrate n s).rqp.shiftedOut = s.rqp.shiftedOut := (arbitrate_port n s).2.2.2.2.2

theorem endProbe_port (s : State) :
    (endProbe s).rqp.settings = s.rqp.settings ∧ (endProbe s).rqp.shipTime = s.rqp.shipTime ∧ (endProbe s).rqp.busy = s.rqp.busy ∧ (endProbe s).rqp.shiftedOut = s.rqp.shiftedOut := by
  refine ⟨?_, ?_, ?_, ?_⟩ <;>
    (unfold endProbe; (try dsimp only); (repeat' split); all_goals simp)

@[simp] theorem endProbe_rqp_settings (s : State) :
    (endProbe s).rqp.settings = s.rqp.settings := (endProbe_port s).1
@[simp] theorem endProbe_rqp_shipTime (s : State) :
    (endProbe s).rqp.shipTime = s.rqp.shipTime := (endProbe_port s).2.1
@[simp] theorem endProbe_rqp_busy (s : State) :
    (endProbe s).rqp.busy = s.rqp.busy := (endProbe_port s).2.2.1
@[simp] theorem endProbe_rqp_shiftedOut (s : State) :
    (endProbe s).rqp.shiftedOut = s.rqp.shiftedOut := (endProbe_port s).2.2.2

theorem settleBus_port (s : State) :
    (settleBus s).rqp.settings = s.rqp.settings ∧ (settleBus s).rqp.shipTime = s.rqp.shipTime ∧ (settleBus s).rqp.busy = s.rqp.busy ∧ (settleBus s).rqp.shiftedOut = s.rqp.shiftedOut := by
  refine ⟨?_, ?_, ?_, ?_⟩ <;>
    (unfold settleBus; all_goals simp)

@[simp] theorem settleBus_rqp_settings (s : State) :
    (settleBus s).rqp.settings = s.rqp.settings := (settleBus_port s).1
@[simp] theorem settleBus_rqp_shipTime (s : State) :
    (settleBus s).rqp.shipTime = s.rqp.shipTime := (settleBus_port s).2.1
@[simp] theorem settleBus_rqp_busy (s : State) :
    (settleBus s).rqp.busy = s.rqp.busy := (settleBus_port s).2.2.1
@[simp] theorem settleBus_rqp_shiftedOut (s : State) :
    (settleBus s).rqp.shiftedOut = s.rqp.shiftedOut := (settleBus_port s).2.2.2

theorem beginMuting_port (c : PolicyCause) (s : State) :
    (beginMuting c s).rqp.mode = s.rqp.mode ∧ (beginMuting c s).rqp.settings = s.rqp.settings ∧ (beginMuting c s).rqp.shipTime = s.rqp.shipTime ∧ (beginMuting c s).rqp.answers = s.rqp.answers ∧ (beginMuting c s).rqp.busy = s.rqp.busy ∧ (beginMuting c s).rqp.shiftedOut = s.rqp.shiftedOut := by
  have h : ∀ (l : List Nat) (s : State), (l.foldl (fun s u => muteMarks u s) s).rqp = s.rqp :=
    foldl_keeps State.rqp _ (fun s u => by simp)
  unfold beginMuting
  refine ⟨?_, ?_, ?_, ?_, ?_, ?_⟩ <;>
    (dsimp only; (repeat' split); all_goals simp [h])

@[simp] theorem beginMuting_rqp_mode (c : PolicyCause) (s : State) :
    (beginMuting c s).rqp.mode = s.rqp.mode := (beginMuting_port c s).1
@[simp] theorem beginMuting_rqp_settings (c : PolicyCause) (s : State) :
    (beginMuting c s).rqp.settings = s.rqp.settings := (beginMuting_port c s).2.1
@[simp] theorem beginMuting_rqp_shipTime (c : PolicyCause) (s : State) :
    (beginMuting c s).rqp.shipTime = s.rqp.shipTime := (beginMuting_port c s).2.2.1
@[simp] theorem beginMuting_rqp_answers (c : PolicyCause) (s : State) :
    (beginMuting c s).rqp.answers = s.rqp.answers := (beginMuting_port c s).2.2.2.1
@[simp] theorem beginMuting_rqp_busy (c : PolicyCause) (s : State) :
    (beginMuting c s).rqp.busy = s.rqp.busy := (beginMuting_port c s).2.2.2.2.1
@[simp] theorem beginMuting_rqp_shiftedOut (c : PolicyCause) (s : State) :
    (beginMuting c s).rqp.shiftedOut = s.rqp.shiftedOut := (beginMuting_port c s).2.2.2.2.2

theorem beginUnmuting_port (c : PolicyCause) (s : State) :
    (beginUnmuting c s).rqp.mode = s.rqp.mode ∧ (beginUnmuting c s).rqp.settings = s.rqp.settings ∧ (beginUnmuting c s).rqp.shipTime = s.rqp.shipTime ∧ (beginUnmuting c s).rqp.answers = s.rqp.answers ∧ (beginUnmuting c s).rqp.busy = s.rqp.busy ∧ (beginUnmuting c s).rqp.shiftedOut = s.rqp.shiftedOut := by
  have h : ∀ (l : List Nat) (s : State), (l.foldl (fun s u => unmuteMarks u s) s).rqp = s.rqp :=
    foldl_keeps State.rqp _ (fun s u => by simp)
  unfold beginUnmuting
  refine ⟨?_, ?_, ?_, ?_, ?_, ?_⟩ <;>
    (dsimp only; all_goals simp [h])

@[simp] theorem beginUnmuting_rqp_mode (c : PolicyCause) (s : State) :
    (beginUnmuting c s).rqp.mode = s.rqp.mode := (beginUnmuting_port c s).1
@[simp] theorem beginUnmuting_rqp_settings (c : PolicyCause) (s : State) :
    (beginUnmuting c s).rqp.settings = s.rqp.settings := (beginUnmuting_port c s).2.1
@[simp] theorem beginUnmuting_rqp_shipTime (c : PolicyCause) (s : State) :
    (beginUnmuting c s).rqp.shipTime = s.rqp.shipTime := (beginUnmuting_port c s).2.2.1
@[simp] theorem beginUnmuting_rqp_answers (c : PolicyCause) (s : State) :
    (beginUnmuting c s).rqp.answers = s.rqp.answers := (beginUnmuting_port c s).2.2.2.1
@[simp] theorem beginUnmuting_rqp_busy (c : PolicyCause) (s : State) :
    (beginUnmuting c s).rqp.busy = s.rqp.busy := (beginUnmuting_port c s).2.2.2.2.1
@[simp] theorem beginUnmuting_rqp_shiftedOut (c : PolicyCause) (s : State) :
    (beginUnmuting c s).rqp.shiftedOut = s.rqp.shiftedOut := (beginUnmuting_port c s).2.2.2.2.2

theorem policyTurned_port (p : Policy) (c : PolicyCause) (s : State) :
    (policyTurned p c s).rqp.settings = s.rqp.settings ∧ (policyTurned p c s).rqp.shipTime = s.rqp.shipTime ∧ (policyTurned p c s).rqp.busy = s.rqp.busy ∧ (policyTurned p c s).rqp.shiftedOut = s.rqp.shiftedOut := by
  refine ⟨?_, ?_, ?_, ?_⟩ <;>
    (unfold policyTurned; (try dsimp only); (repeat' split); all_goals simp)

@[simp] theorem policyTurned_rqp_settings (p : Policy) (c : PolicyCause) (s : State) :
    (policyTurned p c s).rqp.settings = s.rqp.settings := (policyTurned_port p c s).1
@[simp] theorem policyTurned_rqp_shipTime (p : Policy) (c : PolicyCause) (s : State) :
    (policyTurned p c s).rqp.shipTime = s.rqp.shipTime := (policyTurned_port p c s).2.1
@[simp] theorem policyTurned_rqp_busy (p : Policy) (c : PolicyCause) (s : State) :
    (policyTurned p c s).rqp.busy = s.rqp.busy := (policyTurned_port p c s).2.2.1
@[simp] theorem policyTurned_rqp_shiftedOut (p : Policy) (c : PolicyCause) (s : State) :
    (policyTurned p c s).rqp.shiftedOut = s.rqp.shiftedOut := (policyTurned_port p c s).2.2.2

theorem zoneNotice_port (j : Subject) (d v1 v2 v3 v4 v5 : Byte) (s : State) :
    (zoneNotice j d v1 v2 v3 v4 v5 s).rqp.mode = s.rqp.mode ∧ (zoneNotice j d v1 v2 v3 v4 v5 s).rqp.settings = s.rqp.settings ∧ (zoneNotice j d v1 v2 v3 v4 v5 s).rqp.shipTime = s.rqp.shipTime ∧ (zoneNotice j d v1 v2 v3 v4 v5 s).rqp.answers = s.rqp.answers ∧ (zoneNotice j d v1 v2 v3 v4 v5 s).rqp.busy = s.rqp.busy ∧ (zoneNotice j d v1 v2 v3 v4 v5 s).rqp.shiftedOut = s.rqp.shiftedOut := by
  refine ⟨?_, ?_, ?_, ?_, ?_, ?_⟩ <;>
    (unfold zoneNotice; all_goals simp)

@[simp] theorem zoneNotice_rqp_mode (j : Subject) (d v1 v2 v3 v4 v5 : Byte) (s : State) :
    (zoneNotice j d v1 v2 v3 v4 v5 s).rqp.mode = s.rqp.mode := (zoneNotice_port j d v1 v2 v3 v4 v5 s).1
@[simp] theorem zoneNotice_rqp_settings (j : Subject) (d v1 v2 v3 v4 v5 : Byte) (s : State) :
    (zoneNotice j d v1 v2 v3 v4 v5 s).rqp.settings = s.rqp.settings := (zoneNotice_port j d v1 v2 v3 v4 v5 s).2.1
@[simp] theorem zoneNotice_rqp_shipTime (j : Subject) (d v1 v2 v3 v4 v5 : Byte) (s : State) :
    (zoneNotice j d v1 v2 v3 v4 v5 s).rqp.shipTime = s.rqp.shipTime := (zoneNotice_port j d v1 v2 v3 v4 v5 s).2.2.1
@[simp] theorem zoneNotice_rqp_answers (j : Subject) (d v1 v2 v3 v4 v5 : Byte) (s : State) :
    (zoneNotice j d v1 v2 v3 v4 v5 s).rqp.answers = s.rqp.answers := (zoneNotice_port j d v1 v2 v3 v4 v5 s).2.2.2.1
@[simp] theorem zoneNotice_rqp_busy (j : Subject) (d v1 v2 v3 v4 v5 : Byte) (s : State) :
    (zoneNotice j d v1 v2 v3 v4 v5 s).rqp.busy = s.rqp.busy := (zoneNotice_port j d v1 v2 v3 v4 v5 s).2.2.2.2.1
@[simp] theorem zoneNotice_rqp_shiftedOut (j : Subject) (d v1 v2 v3 v4 v5 : Byte) (s : State) :
    (zoneNotice j d v1 v2 v3 v4 v5 s).rqp.shiftedOut = s.rqp.shiftedOut := (zoneNotice_port j d v1 v2 v3 v4 v5 s).2.2.2.2.2

theorem breakStatus_port (s : State) :
    (breakStatus s).rqp.mode = s.rqp.mode ∧ (breakStatus s).rqp.settings = s.rqp.settings ∧ (breakStatus s).rqp.shipTime = s.rqp.shipTime ∧ (breakStatus s).rqp.answers = s.rqp.answers ∧ (breakStatus s).rqp.busy = s.rqp.busy ∧ (breakStatus s).rqp.shiftedOut = s.rqp.shiftedOut := by
  refine ⟨?_, ?_, ?_, ?_, ?_, ?_⟩ <;>
    (unfold breakStatus; (try dsimp only); (repeat' split); all_goals simp)

@[simp] theorem breakStatus_rqp_mode (s : State) :
    (breakStatus s).rqp.mode = s.rqp.mode := (breakStatus_port s).1
@[simp] theorem breakStatus_rqp_settings (s : State) :
    (breakStatus s).rqp.settings = s.rqp.settings := (breakStatus_port s).2.1
@[simp] theorem breakStatus_rqp_shipTime (s : State) :
    (breakStatus s).rqp.shipTime = s.rqp.shipTime := (breakStatus_port s).2.2.1
@[simp] theorem breakStatus_rqp_answers (s : State) :
    (breakStatus s).rqp.answers = s.rqp.answers := (breakStatus_port s).2.2.2.1
@[simp] theorem breakStatus_rqp_busy (s : State) :
    (breakStatus s).rqp.busy = s.rqp.busy := (breakStatus_port s).2.2.2.2.1
@[simp] theorem breakStatus_rqp_shiftedOut (s : State) :
    (breakStatus s).rqp.shiftedOut = s.rqp.shiftedOut := (breakStatus_port s).2.2.2.2.2

theorem lineByte_port (x : LineByte) (s : State) :
    (lineByte x s).rqp.mode = s.rqp.mode ∧ (lineByte x s).rqp.settings = s.rqp.settings ∧ (lineByte x s).rqp.shipTime = s.rqp.shipTime ∧ (lineByte x s).rqp.answers = s.rqp.answers ∧ (lineByte x s).rqp.busy = s.rqp.busy ∧ (lineByte x s).rqp.shiftedOut = s.rqp.shiftedOut := by
  refine ⟨?_, ?_, ?_, ?_, ?_, ?_⟩ <;>
    (unfold lineByte; (try dsimp only); (repeat' split); all_goals simp)

@[simp] theorem lineByte_rqp_mode (x : LineByte) (s : State) :
    (lineByte x s).rqp.mode = s.rqp.mode := (lineByte_port x s).1
@[simp] theorem lineByte_rqp_settings (x : LineByte) (s : State) :
    (lineByte x s).rqp.settings = s.rqp.settings := (lineByte_port x s).2.1
@[simp] theorem lineByte_rqp_shipTime (x : LineByte) (s : State) :
    (lineByte x s).rqp.shipTime = s.rqp.shipTime := (lineByte_port x s).2.2.1
@[simp] theorem lineByte_rqp_answers (x : LineByte) (s : State) :
    (lineByte x s).rqp.answers = s.rqp.answers := (lineByte_port x s).2.2.2.1
@[simp] theorem lineByte_rqp_busy (x : LineByte) (s : State) :
    (lineByte x s).rqp.busy = s.rqp.busy := (lineByte_port x s).2.2.2.2.1
@[simp] theorem lineByte_rqp_shiftedOut (x : LineByte) (s : State) :
    (lineByte x s).rqp.shiftedOut = s.rqp.shiftedOut := (lineByte_port x s).2.2.2.2.2

theorem handOnPermit_port (o : LinkSet) (s : State) :
    (handOnPermit o s).rqp.mode = s.rqp.mode ∧ (handOnPermit o s).rqp.settings = s.rqp.settings ∧ (handOnPermit o s).rqp.shipTime = s.rqp.shipTime ∧ (handOnPermit o s).rqp.answers = s.rqp.answers ∧ (handOnPermit o s).rqp.busy = s.rqp.busy ∧ (handOnPermit o s).rqp.shiftedOut = s.rqp.shiftedOut := by
  refine ⟨?_, ?_, ?_, ?_, ?_, ?_⟩ <;>
    (unfold handOnPermit; (try dsimp only); (repeat' split); all_goals simp)

@[simp] theorem handOnPermit_rqp_mode (o : LinkSet) (s : State) :
    (handOnPermit o s).rqp.mode = s.rqp.mode := (handOnPermit_port o s).1
@[simp] theorem handOnPermit_rqp_settings (o : LinkSet) (s : State) :
    (handOnPermit o s).rqp.settings = s.rqp.settings := (handOnPermit_port o s).2.1
@[simp] theorem handOnPermit_rqp_shipTime (o : LinkSet) (s : State) :
    (handOnPermit o s).rqp.shipTime = s.rqp.shipTime := (handOnPermit_port o s).2.2.1
@[simp] theorem handOnPermit_rqp_answers (o : LinkSet) (s : State) :
    (handOnPermit o s).rqp.answers = s.rqp.answers := (handOnPermit_port o s).2.2.2.1
@[simp] theorem handOnPermit_rqp_busy (o : LinkSet) (s : State) :
    (handOnPermit o s).rqp.busy = s.rqp.busy := (handOnPermit_port o s).2.2.2.2.1
@[simp] theorem handOnPermit_rqp_shiftedOut (o : LinkSet) (s : State) :
    (handOnPermit o s).rqp.shiftedOut = s.rqp.shiftedOut := (handOnPermit_port o s).2.2.2.2.2

theorem handOnPolicy_port (o : Policy) (s : State) :
    (handOnPolicy o s).rqp.settings = s.rqp.settings ∧ (handOnPolicy o s).rqp.shipTime = s.rqp.shipTime ∧ (handOnPolicy o s).rqp.busy = s.rqp.busy ∧ (handOnPolicy o s).rqp.shiftedOut = s.rqp.shiftedOut := by
  refine ⟨?_, ?_, ?_, ?_⟩ <;>
    (unfold handOnPolicy; (repeat' split); all_goals simp)

@[simp] theorem handOnPolicy_rqp_settings (o : Policy) (s : State) :
    (handOnPolicy o s).rqp.settings = s.rqp.settings := (handOnPolicy_port o s).1
@[simp] theorem handOnPolicy_rqp_shipTime (o : Policy) (s : State) :
    (handOnPolicy o s).rqp.shipTime = s.rqp.shipTime := (handOnPolicy_port o s).2.1
@[simp] theorem handOnPolicy_rqp_busy (o : Policy) (s : State) :
    (handOnPolicy o s).rqp.busy = s.rqp.busy := (handOnPolicy_port o s).2.2.1
@[simp] theorem handOnPolicy_rqp_shiftedOut (o : Policy) (s : State) :
    (handOnPolicy o s).rqp.shiftedOut = s.rqp.shiftedOut := (handOnPolicy_port o s).2.2.2

theorem handOn_port (o : InForce) (s : State) :
    (handOn o s).rqp.settings = s.rqp.settings ∧ (handOn o s).rqp.shipTime = s.rqp.shipTime ∧ (handOn o s).rqp.busy = s.rqp.busy ∧ (handOn o s).rqp.shiftedOut = s.rqp.shiftedOut := by
  refine ⟨?_, ?_, ?_, ?_⟩ <;>
    (unfold handOn; all_goals simp)

@[simp] theorem handOn_rqp_settings (o : InForce) (s : State) :
    (handOn o s).rqp.settings = s.rqp.settings := (handOn_port o s).1
@[simp] theorem handOn_rqp_shipTime (o : InForce) (s : State) :
    (handOn o s).rqp.shipTime = s.rqp.shipTime := (handOn_port o s).2.1
@[simp] theorem handOn_rqp_busy (o : InForce) (s : State) :
    (handOn o s).rqp.busy = s.rqp.busy := (handOn_port o s).2.2.1
@[simp] theorem handOn_rqp_shiftedOut (o : InForce) (s : State) :
    (handOn o s).rqp.shiftedOut = s.rqp.shiftedOut := (handOn_port o s).2.2.2

theorem changedNotice_port (z : Nat) (p : PositionState) (c : ChangeClass) (s : State) :
    (changedNotice z p c s).rqp.mode = s.rqp.mode ∧ (changedNotice z p c s).rqp.settings = s.rqp.settings ∧ (changedNotice z p c s).rqp.shipTime = s.rqp.shipTime ∧ (changedNotice z p c s).rqp.answers = s.rqp.answers ∧ (changedNotice z p c s).rqp.busy = s.rqp.busy ∧ (changedNotice z p c s).rqp.shiftedOut = s.rqp.shiftedOut := by
  refine ⟨?_, ?_, ?_, ?_, ?_, ?_⟩ <;>
    (unfold changedNotice; all_goals simp)

@[simp] theorem changedNotice_rqp_mode (z : Nat) (p : PositionState) (c : ChangeClass) (s : State) :
    (changedNotice z p c s).rqp.mode = s.rqp.mode := (changedNotice_port z p c s).1
@[simp] theorem changedNotice_rqp_settings (z : Nat) (p : PositionState) (c : ChangeClass) (s : State) :
    (changedNotice z p c s).rqp.settings = s.rqp.settings := (changedNotice_port z p c s).2.1
@[simp] theorem changedNotice_rqp_shipTime (z : Nat) (p : PositionState) (c : ChangeClass) (s : State) :
    (changedNotice z p c s).rqp.shipTime = s.rqp.shipTime := (changedNotice_port z p c s).2.2.1
@[simp] theorem changedNotice_rqp_answers (z : Nat) (p : PositionState) (c : ChangeClass) (s : State) :
    (changedNotice z p c s).rqp.answers = s.rqp.answers := (changedNotice_port z p c s).2.2.2.1
@[simp] theorem changedNotice_rqp_busy (z : Nat) (p : PositionState) (c : ChangeClass) (s : State) :
    (changedNotice z p c s).rqp.busy = s.rqp.busy := (changedNotice_port z p c s).2.2.2.2.1
@[simp] theorem changedNotice_rqp_shiftedOut (z : Nat) (p : PositionState) (c : ChangeClass) (s : State) :
    (changedNotice z p c s).rqp.shiftedOut = s.rqp.shiftedOut := (changedNotice_port z p c s).2.2.2.2.2

theorem takeEffect_port (k : Nat) (c : ChangeClass) (s : State) :
    (takeEffect k c s).rqp.settings = s.rqp.settings ∧ (takeEffect k c s).rqp.shipTime = s.rqp.shipTime ∧ (takeEffect k c s).rqp.busy = s.rqp.busy ∧ (takeEffect k c s).rqp.shiftedOut = s.rqp.shiftedOut := by
  refine ⟨?_, ?_, ?_, ?_⟩ <;>
    (unfold takeEffect; (try dsimp only); all_goals simp)

@[simp] theorem takeEffect_rqp_settings (k : Nat) (c : ChangeClass) (s : State) :
    (takeEffect k c s).rqp.settings = s.rqp.settings := (takeEffect_port k c s).1
@[simp] theorem takeEffect_rqp_shipTime (k : Nat) (c : ChangeClass) (s : State) :
    (takeEffect k c s).rqp.shipTime = s.rqp.shipTime := (takeEffect_port k c s).2.1
@[simp] theorem takeEffect_rqp_busy (k : Nat) (c : ChangeClass) (s : State) :
    (takeEffect k c s).rqp.busy = s.rqp.busy := (takeEffect_port k c s).2.2.1
@[simp] theorem takeEffect_rqp_shiftedOut (k : Nat) (c : ChangeClass) (s : State) :
    (takeEffect k c s).rqp.shiftedOut = s.rqp.shiftedOut := (takeEffect_port k c s).2.2.2

theorem countFix_port (k : Nat) (c : ChangeClass) (s : State) :
    (countFix k c s).rqp.settings = s.rqp.settings ∧ (countFix k c s).rqp.shipTime = s.rqp.shipTime ∧ (countFix k c s).rqp.busy = s.rqp.busy ∧ (countFix k c s).rqp.shiftedOut = s.rqp.shiftedOut := by
  refine ⟨?_, ?_, ?_, ?_⟩ <;>
    (unfold countFix; (try dsimp only); (repeat' split); all_goals simp)

@[simp] theorem countFix_rqp_settings (k : Nat) (c : ChangeClass) (s : State) :
    (countFix k c s).rqp.settings = s.rqp.settings := (countFix_port k c s).1
@[simp] theorem countFix_rqp_shipTime (k : Nat) (c : ChangeClass) (s : State) :
    (countFix k c s).rqp.shipTime = s.rqp.shipTime := (countFix_port k c s).2.1
@[simp] theorem countFix_rqp_busy (k : Nat) (c : ChangeClass) (s : State) :
    (countFix k c s).rqp.busy = s.rqp.busy := (countFix_port k c s).2.2.1
@[simp] theorem countFix_rqp_shiftedOut (k : Nat) (c : ChangeClass) (s : State) :
    (countFix k c s).rqp.shiftedOut = s.rqp.shiftedOut := (countFix_port k c s).2.2.2

theorem wantChange_port (k : Nat) (f : Fix) (s : State) :
    (wantChange k f s).rqp.settings = s.rqp.settings ∧ (wantChange k f s).rqp.shipTime = s.rqp.shipTime ∧ (wantChange k f s).rqp.busy = s.rqp.busy ∧ (wantChange k f s).rqp.shiftedOut = s.rqp.shiftedOut := by
  refine ⟨?_, ?_, ?_, ?_⟩ <;>
    (unfold wantChange; (repeat' split); all_goals simp)

@[simp] theorem wantChange_rqp_settings (k : Nat) (f : Fix) (s : State) :
    (wantChange k f s).rqp.settings = s.rqp.settings := (wantChange_port k f s).1
@[simp] theorem wantChange_rqp_shipTime (k : Nat) (f : Fix) (s : State) :
    (wantChange k f s).rqp.shipTime = s.rqp.shipTime := (wantChange_port k f s).2.1
@[simp] theorem wantChange_rqp_busy (k : Nat) (f : Fix) (s : State) :
    (wantChange k f s).rqp.busy = s.rqp.busy := (wantChange_port k f s).2.2.1
@[simp] theorem wantChange_rqp_shiftedOut (k : Nat) (f : Fix) (s : State) :
    (wantChange k f s).rqp.shiftedOut = s.rqp.shiftedOut := (wantChange_port k f s).2.2.2

theorem evaluateFix_port (f : Fix) (s : State) :
    (evaluateFix f s).rqp.settings = s.rqp.settings ∧ (evaluateFix f s).rqp.shipTime = s.rqp.shipTime ∧ (evaluateFix f s).rqp.busy = s.rqp.busy ∧ (evaluateFix f s).rqp.shiftedOut = s.rqp.shiftedOut := by
  refine ⟨?_, ?_, ?_, ?_⟩ <;>
    (unfold evaluateFix; (try dsimp only); (repeat' split); all_goals simp)

@[simp] theorem evaluateFix_rqp_settings (f : Fix) (s : State) :
    (evaluateFix f s).rqp.settings = s.rqp.settings := (evaluateFix_port f s).1
@[simp] theorem evaluateFix_rqp_shipTime (f : Fix) (s : State) :
    (evaluateFix f s).rqp.shipTime = s.rqp.shipTime := (evaluateFix_port f s).2.1
@[simp] theorem evaluateFix_rqp_busy (f : Fix) (s : State) :
    (evaluateFix f s).rqp.busy = s.rqp.busy := (evaluateFix_port f s).2.2.1
@[simp] theorem evaluateFix_rqp_shiftedOut (f : Fix) (s : State) :
    (evaluateFix f s).rqp.shiftedOut = s.rqp.shiftedOut := (evaluateFix_port f s).2.2.2

end Sys2Proof.Machine
end

