-- ==== Sys2Proof/Laws/Request.lean ====
section
/-! SUPPORT. The one lemma about a request that is taken, and what the arrival of its frame leaves alone. -/

namespace Sys2Proof.Machine

/-- A request that is taken runs its body on the state of its arrival and gives the answer. -/
theorem request_taken {f : Frame} {k : RequestKind} {s : State} (body : State → Reply) (h : Takes f k s) :
    request f k body s = deliver k f.tag (body (arrive f s)) := by
  obtain ⟨h1, h2, h3, h4⟩ := h
  have hc : cutShort f = false := by simp [cutShort]; omega
  simp [request, hc, h4, h1]

/-- A reply with a payload joins the answer queue. -/
@[simp] theorem deliver_some (k : RequestKind) (t : Fin 16) (s : State) (p : List Byte) :
    deliver k t (s, some p) = pushAnswer k.code t p s := rfl

@[simp] theorem deliver_none (k : RequestKind) (t : Fin 16) (s : State) : deliver k t (s, none) = s := rfl

@[simp] theorem deliver_reply (k : RequestKind) (t : Fin 16) (r : ResultCode) (s : State) :
    deliver k t (reply r s) = pushAnswer k.code t [resultByte r] s := rfl

@[simp] theorem deliver_replyWith (k : RequestKind) (t : Fin 16) (r : ResultCode) (fields : List Byte) (s : State) :
    deliver k t (replyWith r fields s) = pushAnswer k.code t (resultByte r :: fields) s := rfl

/-- The settling of an outgoing answer changes the port alone. -/
theorem settleOut_rqp (n : Nat) (s : State) :
    (settleOut n s).rqp = { s.rqp with
      answers := (settleOut n s).rqp.answers, busy := (settleOut n s).rqp.busy,
      shiftedOut := (settleOut n s).rqp.shiftedOut } := by
  unfold settleOut
  split
  · rfl
  · split <;> rfl

/-- The arrival of a frame changes the port alone: its queue of answers, its tags and the bytes it shifted out. -/
theorem arrive_rqp (f : Frame) (s : State) :
    (arrive f s).rqp = { s.rqp with
      answers := (arrive f s).rqp.answers, busy := (arrive f s).rqp.busy, shiftedOut := (arrive f s).rqp.shiftedOut } := by
  unfold arrive settleOut
  split
  · rfl
  · split <;> rfl

/-! ### Reading the records of the state of arrival -/

section
variable (f : Frame) (s : State)

@[simp] theorem arrive_notices : (arrive f s).rqp.notices = s.rqp.notices := by rw [arrive_rqp]
@[simp] theorem arrive_overflow : (arrive f s).rqp.overflow = s.rqp.overflow := by rw [arrive_rqp]
@[simp] theorem arrive_mode : (arrive f s).rqp.mode = s.rqp.mode := by rw [arrive_rqp]
@[simp] theorem arrive_settings : (arrive f s).rqp.settings = s.rqp.settings := by rw [arrive_rqp]
@[simp] theorem arrive_shipTime : (arrive f s).rqp.shipTime = s.rqp.shipTime := by rw [arrive_rqp]
@[simp] theorem arrive_dSync : (arrive f s).rqp.dSync = s.rqp.dSync := by rw [arrive_rqp]
@[simp] theorem arrive_dFrame : (arrive f s).rqp.dFrame = s.rqp.dFrame := by rw [arrive_rqp]
@[simp] theorem arrive_dCrc : (arrive f s).rqp.dCrc = s.rqp.dCrc := by rw [arrive_rqp]
@[simp] theorem arrive_dClash : (arrive f s).rqp.dClash = s.rqp.dClash := by rw [arrive_rqp]
@[simp] theorem arrive_slot (i : Nat) : (arrive f s).slot i = s.slot i := by simp [State.slot]
@[simp] theorem arrive_visitor (i : Nat) : (arrive f s).visitor i = s.visitor i := by simp [State.visitor]
@[simp] theorem arrive_quota (i : Nat) : (arrive f s).quota i = s.quota i := by simp [State.quota]
@[simp] theorem arrive_partner (i : Nat) : (arrive f s).partner i = s.partner i := by simp [State.partner]
@[simp] theorem arrive_plan (i : Nat) : (arrive f s).plan i = s.plan i := by simp [State.plan]
@[simp] theorem arrive_account (i : Nat) : (arrive f s).account i = s.account i := by simp [State.account]
@[simp] theorem arrive_entry (i : Nat) : (arrive f s).entry i = s.entry i := by simp [State.entry]
@[simp] theorem arrive_link (i : Link) : (arrive f s).link i = s.link i := by simp [State.link]
@[simp] theorem arrive_route (i : Nat) : (arrive f s).route i = s.route i := by simp [State.route]
@[simp] theorem arrive_path (i : Nat) (c : TrafficClass) : (arrive f s).path i c = s.path i c := by simp [State.path]
@[simp] theorem arrive_zone (i : Nat) : (arrive f s).zone i = s.zone i := by simp [State.zone]
@[simp] theorem arrive_unit (i : Nat) : (arrive f s).unit i = s.unit i := by simp [State.unit]
@[simp] theorem arrive_live (h : BitVec 16) : (arrive f s).live h = s.live h := by simp [State.live]
@[simp] theorem arrive_departing (i : Nat) : (arrive f s).departing i = s.departing i := by simp [State.departing]
@[simp] theorem arrive_unitServing (u : Nat) : (arrive f s).unitServing u = s.unitServing u := by simp [State.unitServing]
@[simp] theorem arrive_slotBySid (d : Digits) : (arrive f s).slotBySid d = s.slotBySid d := by simp [State.slotBySid]
@[simp] theorem arrive_partnerByHnc (d : Digits) : (arrive f s).partnerByHnc d = s.partnerByHnc d := by
  simp [State.partnerByHnc]
@[simp] theorem arrive_partnerBySid (d : Digits) : (arrive f s).partnerBySid d = s.partnerBySid d := by
  simp [State.partnerBySid]
@[simp] theorem arrive_accountBySid (d : Digits) : (arrive f s).accountBySid d = s.accountBySid d := by
  simp [State.accountBySid]
@[simp] theorem arrive_chooseAccount (d : Digits) : (arrive f s).chooseAccount d = s.chooseAccount d := by
  simp [State.chooseAccount]
@[simp] theorem arrive_zoneInForce : (arrive f s).zoneInForce = s.zoneInForce := by simp [State.zoneInForce]
@[simp] theorem arrive_tariffInForce : (arrive f s).tariffInForce = s.tariffInForce := by simp [State.tariffInForce]
@[simp] theorem arrive_permitInForce : (arrive f s).permitInForce = s.permitInForce := by simp [State.permitInForce]
@[simp] theorem arrive_policyInForce : (arrive f s).policyInForce = s.policyInForce := by simp [State.policyInForce]
@[simp] theorem arrive_effectivePolicy : (arrive f s).effectivePolicy = s.effectivePolicy := by
  simp [State.effectivePolicy]
@[simp] theorem arrive_eligible (l : Link) : (arrive f s).eligible l = s.eligible l := by simp [State.eligible]

end

end Sys2Proof.Machine
end

