-- ==== Sys2Proof/Tests/Slice0.lean ====
section
/-! SUPPORT. Tests: the well-formedness checks, words written out from the spec's encodings, results the spec works out, and,
for every statement with hypotheses, small states and operands that meet them. -/

namespace Sys2Proof.Tests

open Sys2Proof.Machine

/-! ### Helpers -/

/-- The frame of a request of a kind, tag 3, whole. -/
def fr (k : RequestKind) : Frame := ⟨3, k.len, k.len + 6⟩

/-- The digits 1 to 6 and one digit more. -/
def sidA (n : Fin 10) : Digits := [1, 2, 3, 4, 5, 6, n]

/-- A partner in use with the last digit of its HNC given. -/
def partnerOf (n : Fin 10) (adm : Admission) (ch : Charging) (visitors : Nat) : Partner :=
  ⟨[1, 2, 3, 4, 5, n], adm, .opened, ch, 0, 1, 100, 10, 500, 10, visitors⟩

/-- An entry in a state, PASSENGER of partner 0, on unit 1 and route 1, with a quota part. -/
def visitorOf (st : VisitorState) (q : Option Quota) : Visitor :=
  { state := st, cls := .passenger, partner := some 0, route := 1, unit := 1, quota := q, xref := none, deferred := false,
    retire := some 60, lastActivity := 0, admitted := 0 }

/-- A quota part with credit, a grant running and its gate OPEN. -/
def quotaA : Quota := ⟨50, 100, some 3, false, none, .opened⟩

/-- A state with its data wire high. -/
def wireHigh (s : State) : State := s.withRdc { s.rdc with wire := [] }

/-- The part in SERVICE with the radio SERVING, the data wire high, unit 1 SERVING, the position FIXED in zone 31, which
serves and permits every link, and link 0 UP. -/
def svc : State :=
  let s := wireHigh State.reset
  let s := s.withRqp { s.rqp with mode := .service }
  let s := s.setZone 31 { s.zone 31 with policy := .serve, permit := 15 }
  let s := s.withZne { s.zne with pos := { s.zne.pos with state := .fixed } }
  let s := (s.setUnit 1 { s.unit 1 with state := .serving }).withRdc
    { (s.setUnit 1 { s.unit 1 with state := .serving }).rdc with radio := .serving, rfoff := false }
  s.setLink 0 { s.link 0 with state := .up }

/-- `svc` with a partner of that policy and charging mode at index 0, its plan READY, and account 0 FREE. -/
def withPartner (adm : Admission) (ch : Charging) (visitors : Nat) : State :=
  (svc.setPartner 0 (some (partnerOf 6 adm ch visitors))).setPlan 0
    ⟨.ready, quotaOf, 500, 0, 1⟩
where
  quotaOf : Quad (PerClass Rate) := quadOf ⟨⟨60, 250000⟩, ⟨1000, 1⟩, ⟨1, 5⟩⟩

/-- A state with an entry in slot 5, its account 7 ACTIVE or DEPARTED, and its partner. -/
def withVisitor (v : Visitor) (ch : Charging) (departed : Bool) : State :=
  let s := withPartner .opened ch 1
  let s := s.setSlot 5 ⟨2, some (sidA 1), some 7, none, some v⟩
  let s := s.withVrg { s.vrg with activity := [5] }
  s.setAccount 7 (some { accountOpen (sidA 1) [1, 2, 3, 4, 5, 6] 9 with departed := departed, unreported := 40 })

/-- The handle of slot 5 in `withVisitor`. -/
def h5 : BitVec 16 := 0x0052

/-- `s` with an exchange of a kind for slot 5 in entry 2, in use 4. -/
def withExchange (k : XKind) (sent second : Bool) (s : State) : State :=
  let x : Exchange :=
    { kind := k, slot := 5, gen := 2, account := 7, sent := sent, second := second,
      link1 := if second then some 0 else none, link2 := none, timer := 60, sid := sidA 1, cls := .passenger, request := 10,
      reported := if sent then some 30 else none }
  let s := s.setEntry 2 ⟨4, some x⟩
  let s := s.withQxu { s.qxu with order := [2] }
  s.updVisitor 5 fun v => { v with xref := some ⟨2, 4⟩ }


/-- The next state of an outcome. -/
def after : Host.Outcome State Fault Refusal → State
  | .next t => t
  | .fault _ | .refused _ => State.reset

/-- The newest answer's payload. -/
def answered (o : Host.Outcome State Fault Refusal) : List Byte :=
  ((after o).rqp.answers.getLast?.map (·.payload)).getD []

/-! ### Well-formedness: one ill-formed command for each check -/

theorem wf_refuses_wrong_length : wellFormed (.uaread ⟨0, 1, 7⟩) = false := by decide
theorem wf_refuses_short_transaction : wellFormed (.uaread ⟨0, 0, 5⟩) = false := by decide
theorem wf_refuses_long_payload :
    wellFormed (.twrite ⟨0, 120, 126⟩ 0 0 0 (List.replicate 13 ⟨0, 0, 1, 0⟩)) = false := by decide
theorem wf_refuses_known_kind_as_unknown : wellFormed (.unknownRequest 0 6 0x34 []) = false := by decide
theorem wf_refuses_good_frame_as_discard : wellFormed (.frameDiscard [0xFF, 0xFF]) = false := by decide
theorem wf_refuses_empty_message : wellFormed (.navMessage []) = false := by decide
theorem wf_refuses_framing_error_that_is_a_byte : wellFormed (.navFramingError (cleanLine 0x41)) = false := by decide
theorem wf_refuses_break_that_is_a_byte : wellFormed (.navBreak (cleanLine 0x41)) = false := by decide
theorem wf_refuses_byte_that_is_a_break :
    wellFormed (.navByte { cleanLine 0 with stop := 0, lowAtEnd := true }) = false := by decide
theorem wf_refuses_slot_4096 : wellFormed (.retireTimerExpiry 4096) = false ∧ wellFormed (.grantExpiry 4096) = false ∧
    wellFormed (.retryWaitExpiry 4096) = false := by decide
theorem wf_refuses_exchange_64 : wellFormed (.answerTimerExpiry 64) = false := by decide
theorem wf_refuses_route_32 : wellFormed (.prepareTimerExpiry 32 .voice) = false ∧
    wellFormed (.bicastTimerExpiry 32 .data) = false ∧ wellFormed (.releaseTimerExpiry 32 .message) = false := by decide
theorem wf_refuses_status_of_a_write : wellFormed (.commandNoack .status []) = false := by decide
theorem wf_refuses_argument_of_a_poll : wellFormed (.pollNoack .argument []) = false := by decide
theorem wf_refuses_status_without_complement : wellFormed (.pollAnswered 1 1 []) = false := by decide
theorem wf_takes_limits : wellFormed (.retireTimerExpiry 4095) = true ∧ wellFormed (.answerTimerExpiry 63) = true ∧
    wellFormed (.prepareTimerExpiry 31 .voice) = true ∧ wellFormed (.pollAnswered 1 0xFE []) = true := by decide

/-! ### Words written out from chapter 10 and chapters 7 and 8 -/

/-- The bytes of a request frame with its CRC. -/
def frame (kind tag : Byte) (p : List Byte) : List Byte :=
  [0xA5, kind, tag, BitVec.ofNat 8 p.length] ++ p ++
    beBytes 2 (crc16 ([kind, tag, BitVec.ofNat 8 p.length] ++ p)).toNat

/-- What a transaction with every tag FREE spells. -/
def reads (kind tag : Byte) (p : List Byte) : Instr := commandOf (fun _ => false) (frame kind tag p ++ [0xFF, 0xFF])

/-- The check value of the digits 1 to 9 (R211). -/
theorem test_crc_check_value : crc16 [0x31, 0x32, 0x33, 0x34, 0x35, 0x36, 0x37, 0x38, 0x39] = 0x29B1#16 := by decide +kernel
theorem test_reads_detach : reads 0x12 3 [0x01, 0x15] = .detach ⟨3, 2, 10⟩ 0x0115 := by decide +kernel
theorem test_reads_pdel : reads 0x21 4 [0x23, 0x41, 0x5F] = .pdel ⟨4, 3, 11⟩ 0x23415F := by decide +kernel
theorem test_reads_usage :
    reads 0x30 5 [0x01, 0x15, 1, 0, 0, 0x03, 0xE8, 2] = .usage ⟨5, 8, 16⟩ 0x0115 1 0 1000 2 := by decide +kernel
theorem test_reads_xfail : reads 0x42 6 [0x07, 0x02] = .xfail ⟨6, 2, 10⟩ 0x0702 := by decide +kernel
theorem test_reads_lmeasure :
    reads 0x53 7 [1, 0, 0, 0, 250, 0, 20, 0xFF, 0xF6] = .lmeasure ⟨7, 9, 17⟩ 1 250 20 0xFFF6 := by decide +kernel
theorem test_reads_lookup : reads 0x66 8 [0x01, 0x15, 1] = .lookup ⟨8, 3, 11⟩ 0x0115 1 := by decide +kernel
theorem test_reads_fixpost :
    reads 0x71 9 [0, 1, 0, 0xFF, 0xFF, 0, 1] = .fixpost ⟨9, 7, 15⟩ 0x000100 0xFFFF00 1 := by decide +kernel
theorem test_reads_ucmd : reads 0x82 10 [5, 2] = .ucmdProbe ⟨10, 2, 10⟩ 5 := by decide +kernel
theorem test_reads_ident : reads 0x94 15 [1] = .ident ⟨15, 1, 9⟩ 1 := by decide +kernel
theorem test_bus_bytes : busBytes 5 .identify = [0x0A, 0x10, 0x00] ∧ busBytes 5 (.mute 1) = [0x0A, 0x20, 0x00] ∧
    busBytes 5 (.unmute 1) = [0x0A, 0x21, 0x01] ∧ busBytes 5 .poll = [0x0B, 0x30] := by decide
theorem test_nav_check_byte :
    messageFault [0x7E, 0x05, 0, 1, 0, 0xFF, 0xFF, 0, 1, 0xFB] none 0 = none := by decide
theorem test_handle : handleNat 17 5 = 0x0115 := by decide
theorem test_no_word_of_the_table : decodeTableWord 16 0x1234 = none := by decide

/-! ### Results the spec works out -/

/-- Rating case 1 of section 3.4 up to the answer, and its close-out of 2,501 cu. -/
theorem test_rating_case_1 :
    let a := { accountOpen (sidA 1) [1, 2, 3, 4, 5, 6] 0 with
      remainder := ⟨0, 30000, 0⟩, carry := ⟨0, 400000, 0⟩, unreported := 9000
      buckets := qset (quadOf ⟨0, 0, 0, 0, 0⟩) 2 ⟨120000, 0, 0, 7000000, 0⟩ }
    let r := rateAccount (some ⟨⟨100000, 2500⟩, 1250, 650⟩) true 2 .data false 250000 a
    r.2.1 = 4062 ∧ r.1.remainder.data = 80000 ∧ r.1.carry.data = 900000 ∧ r.1.unreported = 13062 ∧
      (qget r.1.buckets 2).charge = 124062 ∧ (qget r.1.buckets 2).down = 7250000 ∧
      (closeOutAccount (some ⟨⟨1, 0⟩, ⟨100000, 2500⟩, ⟨1, 0⟩⟩) true 2 r.1).2.1 = 2501 ∧
      (closeOutAccount (some ⟨⟨1, 0⟩, ⟨100000, 2500⟩, ⟨1, 0⟩⟩) true 2 r.1).1.unreported = 15563 := by decide

/-- Rating case 2: the second VOICE step is priced in the zone in which it completes. -/
theorem test_rating_case_2 :
    let a := { accountOpen (sidA 1) [1, 2, 3, 4, 5, 6] 0 with
      remainder := ⟨5, 0, 0⟩, buckets := qset (quadOf ⟨0, 0, 0, 0, 0⟩) 1 ⟨3300, 620, 0, 0, 0⟩ }
    let r := rateAccount (some ⟨⟨60, 450⟩, 1000, 1000⟩) false 2 .voice true 70 a
    r.2.1 = 450 ∧ r.1.remainder.voice = 15 ∧ qget r.1.buckets 2 = ⟨450, 70, 0, 0, 0⟩ ∧
      qget r.1.buckets 1 = ⟨3300, 620, 0, 0, 0⟩ := by decide

/-- The longest match of section 2.1: 6 digits win, then 5, else none. -/
theorem test_longest_match :
    let s := ((State.reset.setPartner 3 (some { partnerOf 0 .opened .offline 0 with hnc := [2, 3, 4, 1, 5] })).setPartner 7
      (some { partnerOf 0 .check .offline 0 with hnc := [2, 3, 4, 1, 5, 0] })).setPartner 12
      (some { partnerOf 0 .bar .offline 0 with hnc := [2, 6, 2, 0, 1] })
    s.partnerBySid [2, 3, 4, 1, 5, 0, 7, 1, 2, 3, 4, 5, 6, 7, 8] = some 7 ∧
      s.partnerBySid [2, 3, 4, 1, 5, 9, 9, 0, 0, 0, 1, 1, 1, 2, 2] = some 3 ∧
      s.partnerBySid [2, 6, 2, 0, 1, 1, 2, 3, 4, 5, 6, 7] = some 12 ∧
      s.partnerBySid [2, 6, 2, 0, 2, 1, 2, 3, 4, 5, 6, 7] = none := by decide

/-- The hysteresis band of section 7.4: outside the circle, inside it while the zone is in force. -/
theorem test_hysteresis_band :
    let z : Zone := ⟨true, 12000, -3500, 22224, 500, .serve, 0, 15, 1⟩
    let x : Fix := ⟨.host, 30000, 10000, 1, false⟩
    let s := svc.setZone 4 z
    s.candidateOf x = 31 ∧ (s.withZne { s.zne with pos := { s.zne.pos with zone := 4 } }).candidateOf x = 4 := by decide

/-- The selection table of section 6.3, first and third row, and the pin once its link is permitted. -/
theorem test_selection :
    let p : Path := ⟨[1, 3, 2], some 0, .stranded, none⟩
    let s := (svc.setLink 1 { svc.link 1 with state := .degraded }).setLink 2 { svc.link 2 with state := .held .failure }
    let only := fun m => s.setZone 31 { s.zone 31 with permit := m }
    ((only 14).setLink 1 { svc.link 1 with state := .up }).selection p = some 1 ∧ (only 14).selection p = some 1 ∧
      ((only 14).setLink 3 { svc.link 3 with state := .up }).selection p = some 3 ∧ (only 15).selection p = some 0 := by
  decide

/-- Section 5.11: the second bad loss value makes link 3 DEGRADED; section 6.6: the path on it then prepares. -/
theorem test_loss_fault :
    let l := svc.link 3
    let s := svc.setLink 3 { l with
      cfg := ⟨1250, 500, 30, 3, 900, 50, -100, ⟨3, 2, 3⟩, ⟨false, false, false⟩⟩, state := .up,
      monitors := { l.monitors with loss := ⟨false, 1, false⟩ } }
    let s := s.setPath 0 .data ⟨[3, 0], none, .steady 3, none⟩
    let t := after (exec (.lmeasure (fr kLmeasure) 3 10 90 0) s)
    (t.link 3).state = .degraded ∧ (t.link 3).monitors.loss = ⟨true, 0, true⟩ ∧
      (t.path 0 .data).state = .preparing 3 0 5 ∧
      t.rqp.notices.map (fun n => (n.kind, n.detail)) = [(.link, 1), (.handover, 1)] := by decide +kernel

/-- Section 7.8: a fix inside a MUTE zone takes effect at once, and the radio begins MUTING with the MUTE on the bus. -/
theorem test_mute_zone :
    let s := svc.setZone 2 ⟨true, 120000, 0, 22224, 500, .mute, 1, 12, 1⟩
    let t := after (exec .fixEvaluation (s.withZne { s.zne with fifo := [⟨.host, 97800, 0, 2, false⟩] }))
    t.zne.pos.zone = 2 ∧ t.rdc.radio = .muting ∧ t.rdc.onBus = some (1, .mute 1) := by decide +kernel

/-- Section 8.9: the third NOACK makes unit 2 UNRESPONSIVE and asserts RFOFF; the next MUTE starts. -/
theorem test_mute_gives_up :
    let s := (svc.setUnit 2 { svc.unit 2 with state := .serving }).setUnit 3
      { svc.unit 3 with state := .serving, mark := some (.mute 1) }
    let s := s.withRdc { s.rdc with radio := .muting, opMute := true, onBus := some (2, .mute 3), deadline := some 100 }
    let t := after (exec (.commandNoack .address []) s)
    (t.unit 2).state = .unresponsive ∧ t.rdc.rfoff = true ∧ t.rdc.onBus = some (3, .mute 1) := by decide +kernel

/-- Section 4.11: the failure of the answer under way re-queues the exchange, and the late answer is STALE. -/
theorem test_late_answer :
    let s := withExchange .quota true false (withVisitor (visitorOf .active (some quotaA)) .online false)
    let t := after (exec (.xfail (fr kXfail) 0x0204) s)
    (t.entry 2).use = 5 ∧ (t.entry 2).ex.map (fun x => (x.sent, x.second)) = some (false, true) ∧
      answered (exec (.xanswer ⟨4, 10, 16⟩ 0x0204 2 50000 60 0) t) = [0x15] := by decide +kernel

/-- Section 8.2: the wires of a MUTE of unit 5, of one whose address byte is not acknowledged, and the two status bytes of
a POLL, the first acknowledged and the second not. -/
theorem test_wires :
    let low : BusSymbol := .pulse false
    let high : BusSymbol := .pulse true
    failedTransaction 5 (.mute 1) .address =
        [.start, low, low, low, low, high, low, high, low, high, .stop] ∧
      (wholeTransaction 5 (.mute 1)).length = 29 ∧ (failedTransaction 5 (.mute 1) .command).length = 20 ∧
      (wholeTransaction 5 .poll).drop 19 =
        List.replicate 8 high ++ [low] ++ List.replicate 9 high ++ [.stop] := by decide

/-- R169: a wire low after nine pulses fails the transaction; at the next check it is high after 3, and with nothing found
any more it stays so. -/
theorem test_held_wire :
    let r := busCheck (svc.withRdc { svc.rdc with wire := [10, 3] })
    let t := busCheck r.2
    let nine : List BusSymbol := List.replicate 9 (.pulse true) ++ [.stop]
    let three : List BusSymbol := List.replicate 3 (.pulse true) ++ [.stop]
    r.1 = false ∧ r.2.rdc.busFault = true ∧ t.1 = true ∧ t.2.rdc.busFault = false ∧
      t.2.rdc.recovery = [(.khz100, nine), (.khz100, three)] := by decide +kernel

/-- R169: in FAULT a wire that is high at once takes no pulse and no STOP, and the bus is OK. -/
theorem test_wire_let_go :
    let s := svc.setUnit 1 { svc.unit 1 with mark := some .poll }
    let t := settleBus (s.withRdc { s.rdc with wire := [0], busFault := true })
    t.rdc.onBus = some (1, .poll) ∧ t.rdc.busFault = false ∧ t.rdc.recovery = [(.khz100, [])] ∧
      t.rqp.notices.map (·.detail) = [7] := by decide +kernel

/-- R205: a transaction on the bus completes at 100 kHz although the setting is 400 kHz by then; the next one takes 400. -/
theorem test_bus_speed :
    let s := State.reset.withRdc { State.reset.rdc with wire := [], onBus := some (3, .poll) }
    let s := s.setUnit 4 { s.unit 4 with mark := some .poll }
    let t := after (exec (.dset (fr kDset) ⟨5, 200, 1800, 7200, 7200, 7200, 10, 0, ⟨0, 0, 0, 0, 0⟩, 0, 0, 60, 0, 0, 1⟩) s)
    let u := after (exec (.pollNoack .address []) t)
    t.rdc.speed = .khz100 ∧ u.rdc.sentAt = .khz100 ∧ u.rdc.onBus = some (4, .poll) ∧ u.rdc.speed = .khz400 := by decide +kernel

/-- R69 and R220: a late post of a DEPARTING visitor whose charge the quota part takes is answered with its gate. -/
theorem test_late_post_gate :
    let s := withVisitor (visitorOf .departing (some { quotaA with gate := .shut })) .online true
    answered (exec (.usage (fr kUsage) h5 0 0 60 0) s) = [0, 1, 0, 0, 0, 3, 0xD0, 0x90, 2] := by decide +kernel

/-- R70: an acceptance that leaves the visitor SUSPENDED with no credit asks for a QUOTA exchange. -/
theorem test_suspended_acceptance :
    let v := { visitorOf .authorizing (some { quotaA with remaining := 0, gate := .waiting }) with unit := 2 }
    let t := authorizationAdmit 5 0 (withVisitor v .online false)
    (t.visitor 5).map (fun w => (w.state, w.xref.isSome)) = some (.suspended, true) ∧ t.qxu.order = [0] := by decide +kernel

/-! ### The hypotheses of the statements are met

One theorem for each statement: a state and operands for each of its clauses, at the edges of their ranges. -/

/-- A whole frame with tag 3 is taken by `svc` whatever its kind. -/
theorem witness_taken : Takes (fr kRefresh) kRefresh svc ∧ Takes (fr kDset) kDset State.reset ∧ Takes (fr kStart) kStart State.reset ∧
    Takes (fr kStop) kStop svc ∧ Takes (fr kStart) kStart svc ∧ Takes (fr kDset) kDset svc ∧
    Takes (fr kFixpost) kFixpost State.reset ∧ Takes (fr kTread) kTread svc ∧ Takes (fr kUaread) kUaread svc := by decide

theorem witness_StepRunsFrontCommand :
    (svc.withPending [.deviceReset, .shipTimeTick]).pending = .deviceReset :: [.shipTimeTick] := by decide

theorem witness_AnswerRead :
    let s := pushAnswer 0x34 3 [0x00] (pushAnswer 0x66 4 [0x15] svc)
    svc.rqp.answers = [] ∧ s.rqp.answers = ⟨0x66, 4, [0x15]⟩ :: [⟨0x34, 3, [0x00]⟩] ∧ [0x15].length + 6 ≤ 7 ∧
      6 < [0x15].length + 6 := by decide

theorem witness_PortChecks :
    let s := setTag 3 true svc
    let bs := frame 0x34 3 []
    let u := settleOut 6 s
    payloadOf (.uaread ⟨3, 0, 6⟩) = some (⟨3, 0, 6⟩, kUaread, []) ∧ 120 < 121 ∧ 5 < 0 + 6 ∧ u.tagBusy 3 = true ∧
      kUaread.code ≠ 0x96 ∧ (settleOut 6 svc).tagBusy 3 = false ∧ (1 : Nat) ≠ kUaread.len ∧
      (∃ b ∈ bs, b ≠ 0xFF#8) ∧ byteAt [0x5A, 0] 0 ≠ 0xA5#8 ∧ bs.take 5 ≠ [] ∧ (bs.take 5).length < 6 ∧
      byteAt bs 0 = 0xA5#8 ∧ ¬ (bs.length < 6 ∨ 120 < (byteAt bs 3).toNat ∨ bs.length < (byteAt bs 3).toNat + 6 ∨
        ∃ b ∈ bs.drop ((byteAt bs 3).toNat + 6), b ≠ 0xFF#8) ∧
      crc16 (slice 1 3 bs) = fieldAt 16 2 bs 4 ∧ ¬ (crc16 (slice 1 3 [0xA5, 0x34, 3, 0, 0, 0]) =
        fieldAt 16 2 [0xA5, 0x34, 3, 0, 0, 0] 4) ∧
      15 < (byteAt (frame 0x34 16 []) 2).toNat ∧ (byteAt bs 2).toNat = (3 : Fin 16).val ∧ byteAt bs 1 ≠ 0x96#8 ∧
      (0x15#8 ∉ requestKinds) ∧ (0x82#8 = 0x82#8 ∧ [(0 : Byte), 3].length = 2 ∧ 2 < (byteAt [0, 3] 1).toNat) := by
  decide +kernel

theorem witness_FrameTaken :
    wellFormed (.uaread ⟨3, 0, 6⟩) = true ∧ transactionOf (.uaread ⟨3, 0, 6⟩) = some (frame 0x34 3 []) ∧
      (0x82#8 ∈ requestKinds ∧ (byteAt [0, 2] 1).toNat ≤ 2) ∧ 2 < (byteAt [0, 3] 1).toNat ∧ (0xFF#8 ∉ requestKinds) := by
  decide +kernel

theorem witness_Resync : (⟨3, 0, 6⟩ : Frame).len = 0 ∧ 6 ≤ (⟨3, 0, 6⟩ : Frame).clocked := by decide

/-- A notice queue of a length. -/
def noticed (n : Nat) : State :=
  svc.withRqp { svc.rqp with notices := List.replicate n ⟨.link, .link 0, 1, 0, 1, 0, 1, 0, 7⟩ }

theorem witness_Notices : (noticed 127).rqp.notices.length < 128 ∧ 128 ≤ (noticed 128).rqp.notices.length ∧
    Takes (fr kNfetch) kNfetch (noticed 9) := by
  refine ⟨?_, ?_, ?_⟩ <;> decide +kernel

theorem witness_IdleStep :
    let due := svc.setLink 2 { svc.link 2 with stale := some 0 }
    Canonical svc ∧ svc.pending = [] ∧ Canonical due ∧ due.pending = [] ∧ Due due (.staleTimerExpiry 2) := by
  refine ⟨by decide, by decide, by decide, by decide, ?_⟩
  show ((svc.setLink 2 { svc.link 2 with stale := some 0 }).link 2).stale = some 0
  decide

/-- Nothing is due in `svc`. -/
theorem witness_IdleStep_tick : ¬ ∃ c, Due svc c := by
  rintro ⟨c, h⟩
  cases c
  case staleTimerExpiry i => exact absurd (show (svc.link i).stale = some 0 from h) (by clear h; revert i; decide)
  case holdTimerExpiry i => exact absurd (show (svc.link i).hold = some 0 from h) (by clear h; revert i; decide)
  case drillTimerExpiry i =>
    obtain ⟨d, hd, _⟩ := h
    exact absurd (show (svc.link i).drill.isSome = true by rw [hd]; rfl) (by clear hd; revert i; decide)
  case answerTimerExpiry i => obtain ⟨x, hx, _⟩ := h; cases hx
  case prepareTimerExpiry r c => obtain ⟨a, b, hx⟩ := h; cases c <;> cases hx
  case bicastTimerExpiry r c => obtain ⟨a, b, hx⟩ := h; cases c <;> cases hx
  case releaseTimerExpiry r c => obtain ⟨a, b, hx⟩ := h; cases c <;> cases hx
  case retireTimerExpiry i => obtain ⟨v, hv, _⟩ := h; cases hv
  case grantExpiry i => obtain ⟨v, hv, _⟩ := h; cases hv
  case retryWaitExpiry i => obtain ⟨v, hv, _⟩ := h; cases hv
  all_goals first | exact h | exact absurd h (by decide) | exact h rfl | cases h

theorem witness_ShipTimeAndIdentity : Takes (fr kClock) kClock svc ∧ Takes (fr kIdent) kIdent svc ∧
    (svc.withRqp { svc.rqp with shipTime := 0xFFFFFFFF }).rqp.shipTime.toNat = 4294967295 := by decide

/-- A visitor of an OFFLINE partner and one of an ONLINE partner in each state. -/
def off (st : VisitorState) : State := withVisitor (visitorOf st none) .offline (st = .departing)
def on (st : VisitorState) : State := withVisitor (visitorOf st (some quotaA)) .online (st = .departing)

theorem witness_FindingRecords : Canonical (off .active) ∧ (off .active).slotBySid (sidA 1) = some 5 ∧
    (off .active).slotBySid (sidA 2) = none ∧ (off .active).partnerByHnc [1, 2, 3, 4, 5, 6] = some 0 ∧
    (off .active).partnerByHnc [1, 2, 3, 4, 5] = none ∧ (off .active).partnerByHnc ((sidA 1).take 6) = some 0 ∧
    (off .active).partnerByHnc ((1 :: sidA 1).take 6) = none := by decide

/-- The SID field of seven digits. -/
def sid7 (n : Nat) : BitVec 64 := BitVec.ofNat 64 (0x123456 * 16 ^ 10 + n * 16 ^ 9 + (16 ^ 9 - 1))

theorem witness_AdmitRefused :
    let bar := withPartner .bar .offline 0
    let s := withPartner .opened .offline 0
    let purging := svc.withVrg { svc.vrg with purge := some ⟨.all, 0, 0, ⟨1, false⟩⟩ }
    Takes (fr kAdmit) kAdmit svc ∧ sidOf 0x12345FFFFFFFFFFF = none ∧ sidOf (sid7 1) = some (sidA 1) ∧ 2 < (3 : Byte).toNat ∧
      15 < (16 : Byte).toNat ∧ State.reset.rqp.mode = .config ∧ svc.rqp.mode = .service ∧
      (svc.unit 2).state ≠ .serving ∧ silencing svc.rdc.radio = false ∧ (svc.unit 1).state = .serving ∧
      purging.vrg.purge = some ⟨.all, 0, 0, ⟨1, false⟩⟩ ∧ silencing purging.rdc.radio = false ∧
      svc.partnerBySid (sidA 1) = none ∧ svc.slotBySid (sidA 1) = none ∧ svc.vrg.purge = none ∧
      bar.partnerBySid (sidA 1) = some 0 ∧ bar.partner 0 = some (partnerOf 6 .bar .offline 0) ∧
      bar.slotBySid (sidA 1) = none ∧ bar.vrg.purge = none ∧ s.partnerBySid (sidA 1) = some 0 := by decide

/-- `s` under a purge of a scope. -/
def purging (x : PurgeScope) (s : State) : State := s.withVrg { s.vrg with purge := some ⟨x, 0, 0, ⟨1, false⟩⟩ }

theorem witness_AdmitRefused_partner :
    let s := purging (.partner 0) (withVisitor (visitorOf .active none) .offline false)
    (s.vrg.purge.map (·.scope) = some (.partner 0) ∧ s.slotBySid (sidA 1) = some 5 ∧
      s.visitor 5 = some (visitorOf .active none) ∧ (visitorOf .active none).partner = some 0 ∧
      s.slotBySid (sidA 2) = none ∧ s.partnerBySid (sidA 2) = some 0 ∧ sidOf (sid7 2) = some (sidA 2) ∧
      s.rqp.mode = .service ∧ (1 : Byte).toNat < 2) ∧
    NotPurged svc (some 0) ∧ NotPurged (purging .suspendedOnly svc) (some 0) ∧ NotPurged (purging (.partner 1) svc) (some 0) := by
  refine ⟨by decide, ?_, ?_, ?_⟩ <;> intro p h
  · cases h
  · cases h
    exact ⟨by decide, fun i h => by cases h⟩
  · cases h
    exact ⟨by decide, fun i h => by cases h; decide⟩

/-- A table in which the first `n` indices from `k` on all hold one record. -/
def full {α : Type} (v : α) : Nat → Nat → Table α
  | _, 0 => []
  | k, n + 1 => (k, v) :: full v (k + 1) n

theorem tget_full {α : Type} (d v : α) (n : Nat) : ∀ k i, k ≤ i → i < k + n → tget d (full v k n) i = v := by
  induction n with
  | zero => intro k i h1 h2; omega
  | succ n ih =>
    intro k i h1 h2
    simp only [full, tget]
    split
    · rfl
    · exact ih (k + 1) i (by omega) (by omega)

theorem findKey_full {α : Type} (p : α → Bool) (v : α) (h : p v = false) (n : Nat) :
    ∀ k, findKey p (full v k n) = none := by
  induction n with
  | zero => intro k; rfl
  | succ n ih => intro k; simp only [findKey, full, List.find?_cons, h]; exact ih (k + 1)

/-- With 4,608 ACTIVE accounts, the choice of an account for a new SID fails (R10). -/
def noAccounts : State :=
  let s := withPartner .opened .offline 0
  s.withChu { s.chu with accounts := full (some (accountOpen (sidA 9) [1, 2, 3, 4, 5, 6] 0)) 0 4608 }

theorem witness_AdmitRefused_account : noAccounts.chooseAccount (sidA 1) = none ∧ noAccounts.partnerBySid (sidA 1) = some 0 ∧
    noAccounts.rqp.mode = .service := by
  refine ⟨?_, by decide, by decide⟩
  simp only [State.chooseAccount]
  rw [show noAccounts.chu.accounts = full (some (accountOpen (sidA 9) [1, 2, 3, 4, 5, 6] 0)) 0 4608 from rfl,
    findKey_full _ _ (by decide)]
  cases h : firstIndex none (·.isNone) (full (some (accountOpen (sidA 9) [1, 2, 3, 4, 5, 6] 0)) 0 4608) Config.accounts 0 with
  | none => rfl
  | some j =>
    obtain ⟨h1, _, h2, _⟩ := firstIndex_spec _ _ _ _ _ _ h
    have := tget_full none (some (accountOpen (sidA 9) [1, 2, 3, 4, 5, 6] 0)) 4608 0 j (by omega)
      (by simp [Config.accounts] at h2; omega)
    simp_all

theorem witness_AdmitWithExchange :
    let check := withPartner .check .offline 0
    let online := withPartner .opened .online 0
    serviceOf 0 = some .passenger ∧ serviceOf 1 = some .crew ∧ (0 : Byte).toNat < 2 ∧ (15 : Byte).toNat ≤ 15 ∧
      check.partnerBySid (sidA 1) = some 0 ∧ check.partner 0 = some (partnerOf 6 .check .offline 0) ∧
      online.partner 0 = some (partnerOf 6 .opened .online 0) ∧ check.chooseAccount (sidA 1) = some 0 ∧
      check.visitor 0 = none ∧ (check.entry 0).ex = none ∧ check.slotBySid (sidA 1) = none ∧
      check.rqp.mode = .service ∧ (check.unit 1).state = .serving := by decide

theorem witness_AdmitNew :
    let s := off .active
    let s0 := withPartner .opened .offline 0
    Takes (fr kAdmit) kAdmit s ∧ s0.partnerBySid (sidA 2) = some 0 ∧ s0.chooseAccount (sidA 2) = some 0 ∧
      s0.slotBySid (sidA 2) = none ∧ s0.visitor 0 = none ∧ (∀ j < 0, (s0.visitor j).isSome) ∧ s0.vrg.purge = none ∧
      s0.rqp.notices.length + 2 ≤ 128 := by decide

/-- Every slot holds a SUSPENDED PASSENGER, and slot 5 stands at the head of the activity order. -/
def fullHouse : State :=
  (withPartner .opened .offline 1).withVrg ⟨full ⟨0, some (sidA 9), some 0, none, some (visitorOf .suspended none)⟩ 0 4096, [5, 6], none⟩

theorem witness_EvictionChoice : (∀ j < 4096, (fullHouse.visitor j).isSome) ∧ fullHouse.evictable = some 5 ∧
    (fullHouse.withVrg { fullHouse.vrg with activity := [] }).evictable = none := by
  refine ⟨fun j h => ?_, by decide, by decide⟩
  show (tget slotReset (full _ 0 4096) j).visitor.isSome = true
  rw [tget_full _ _ _ 0 j (by omega) (by omega)]
  rfl

/-- Both admissions that evict, and for CREW and EMERGENCY the register that holds no PASSENGER to evict. -/
theorem witness_EmergencyEvicts_CrewEvicts :
    Takes (fr kAdmit) kAdmit fullHouse ∧ fullHouse.rqp.mode = .service ∧ fullHouse.partnerBySid (sidA 1) = some 0 ∧
      fullHouse.partner 0 = some (partnerOf 6 .opened .offline 1) ∧ fullHouse.chooseAccount (sidA 1) = some 0 ∧
      NotPurged fullHouse (some 0) ∧ NotPurged fullHouse none ∧ fullHouse.slotBySid (sidA 1) = none ∧
      (fullHouse.unit 1).state = .serving := by
  refine ⟨by decide, by decide, by decide, by decide, by decide, ?_, ?_, ?_, by decide⟩
  · intro p h
    cases h
  · intro p h
    cases h
  exact findKey_full _ _ (by decide) 4096 0

theorem witness_AdmitFull :
    let s := fullHouse.withVrg { fullHouse.vrg with activity := [] }
    (∀ j ∈ s.vrg.activity, ∀ v, s.visitor j = some v → v.cls = .passenger → v.state ≠ .suspended ∧ v.state ≠ .active) ∧
      s.partnerBySid (sidA 1) = some 0 ∧ (s.chooseAccount (sidA 1)).isSome ∧
      (partnerOf 6 .opened .offline 1).admission ≠ .bar ∧ serviceOf 2 = some .emergency := by
  refine ⟨fun j h => ?_, by decide, by decide, by decide, by decide⟩
  cases h

theorem witness_Evicted :
    let s := off .suspended
    let x := { accountOpen (sidA 1) [1, 2, 3, 4, 5, 6] 9 with unreported := 40 }
    let q := withExchange .quota false false (on .active)
    (visitorOf .suspended none).cls = .passenger ∧ s.visitor 5 = some (visitorOf .suspended none) ∧
      (s.slot 5).account = some 7 ∧ s.account 7 = some x ∧ s.partner 0 = some (partnerOf 6 .opened .offline 1) ∧
      s.qxu.deferred = [] ∧ (∀ w ∈ ([⟨5, .quota⟩] : List Waiting), w.slot = 5) ∧
      (q.visitor 5).map (·.xref) = some (some ⟨2, 4⟩) ∧ q.qxu.deferred = [] ∧
      ((q.entry 2).ex.map (·.slot)) = some 5 := by decide

theorem witness_PresentVisitor : (∀ st ∈ [VisitorState.authorizing, .active, .suspended, .departing],
      (off st).slotBySid (sidA 1) = some 5 ∧ (off st).visitor 5 = some (visitorOf st none) ∧ (off st).live h5 = true ∧
        Takes (fr kRefresh) kRefresh (off st) ∧ (off st).vrg.purge = none) ∧
    (on .suspended).visitor 5 = some (visitorOf .suspended (some quotaA)) ∧ h5.toNat / 16 = 5 ∧
    (off .active).live 0x0053 = false ∧ 15 < (16 : Byte).toNat ∧ ((off .active).unit 1).state = .serving ∧
    ((off .active).unit 0).state ≠ .serving := by decide

theorem witness_Retirement :
    let x := { accountOpen (sidA 1) [1, 2, 3, 4, 5, 6] 9 with unreported := 40 }
    (off .active).visitor 5 = some (visitorOf .active none) ∧ ((off .active).slot 5).account = some 7 ∧
      (off .active).account 7 = some x ∧ (off .active).partner 0 = some (partnerOf 6 .opened .offline 1) ∧
      (on .active).visitor 5 = some (visitorOf .active (some quotaA)) ∧ (on .active).account 7 = some x ∧
      (on .active).partner 0 = some (partnerOf 6 .opened .online 1) ∧ ((on .active).entry 0).ex = none ∧
      0 < (closeOutAccount (some (qget ((on .active).plan 0).rates (on .active).tariffInForce)) true
        (on .active).tariffInForce x).1.unreported := by decide

/-- An ONLINE visitor with no unreported charge but a carry, which close-out turns into charge to report. -/
theorem witness_RetireOnline_carry :
    let x := { accountOpen (sidA 1) [1, 2, 3, 4, 5, 6] 9 with carry := ⟨0, 1, 0⟩ }
    let s := (on .active).setAccount 7 (some x)
    s.visitor 5 = some (visitorOf .active (some quotaA)) ∧ s.account 7 = some x ∧ (s.entry 0).ex = none ∧
      x.unreported = 0 ∧
      0 < (closeOutAccount (some (qget (s.plan 0).rates s.tariffInForce)) true s.tariffInForce x).1.unreported := by decide

/-- An ONLINE visitor with nothing to report after close-out. -/
theorem witness_RetireAtOnce :
    let x := accountOpen (sidA 1) [1, 2, 3, 4, 5, 6] 9
    let s := (on .active).setAccount 7 (some x)
    s.visitor 5 = some (visitorOf .active (some quotaA)) ∧ s.account 7 = some x ∧
      s.partner 0 = some (partnerOf 6 .opened .online 1) ∧
      (closeOutAccount (some (qget (s.plan 0).rates s.tariffInForce)) true s.tariffInForce x).1.unreported = 0 := by decide

theorem witness_Retirement_exchange :
    let a := withExchange .authorize false false (off .authorizing)
    let q := withExchange .quota true true (on .active)
    let e := withVisitor { visitorOf .active none with cls := .emergency, partner := none } .offline false
    a.visitor 5 = some { visitorOf .authorizing none with xref := some ⟨2, 4⟩ } ∧
      (a.entry 2).ex.map (fun y => (y.kind, y.slot)) = some (.authorize, 5) ∧ a.qxu.deferred = [] ∧
      a.partner 0 = some (partnerOf 6 .opened .offline 1) ∧
      q.visitor 5 = some { visitorOf .active (some quotaA) with xref := some ⟨2, 4⟩ } ∧
      (q.entry 2).ex.map (fun y => (y.kind, y.slot)) = some (.quota, 5) ∧ q.qxu.deferred = [] ∧
      q.partner 0 = some (partnerOf 6 .opened .online 1) ∧
      e.visitor 5 = some { visitorOf .active none with cls := .emergency, partner := none } := by decide

theorem witness_RetirementCauses :
    Takes (fr kDetach) kDetach (off .active) ∧ (off .active).live h5 = true ∧ (off .active).live 0x0060 = false ∧
      (off .departing).live h5 = true ∧ (off .departing).visitor 5 = some (visitorOf .departing none) ∧
      (visitorOf .active none).retire = some 60 ∧ (visitorOf .suspended none).retire = some 60 ∧
      ({ visitorOf .active none with retire := none } : Visitor).retire = none := by decide

theorem witness_Purge :
    let p : PurgeScope → Nat → Purge := fun x n => ⟨x, n, 2, ⟨1, false⟩⟩
    let s := (off .suspended).withVrg { (off .suspended).vrg with purge := some (p .suspendedOnly 5) }
    Takes (fr kPurge) kPurge s ∧ 2 < (3 : Byte).toNat ∧ hncOf 0x12345A = none ∧ hncOf 0x123456 = some [1, 2, 3, 4, 5, 6] ∧
      s.partnerByHnc [1, 2, 3, 4, 5, 6] = some 0 ∧ s.partnerByHnc [1, 2, 3, 4, 5] = none ∧ hncOf 0x12345F = some [1, 2, 3, 4, 5] ∧
      s.visitor 5 = some (visitorOf .suspended none) ∧ s.visitor 4 = none ∧ (p .all 4095).position = 4095 ∧
      (off .suspended).vrg.purge = none := by decide

/-- A PSET of partner 0's HNC. -/
def psetA (ch plan : Byte) : PsetFields := ⟨0x123456, 1, 0, ch, plan, 1, 1000000001, 0, 1000, 5, ⟩

theorem witness_SetPartner :
    let s := withPartner .opened .offline 1
    let new : PsetFields := { psetA 0 0 with hnc := 0x12345F }
    let crowd := s.withChu { s.chu with partners := full (some (partnerOf 6 .opened .offline 1)) 0 64 }
    Takes (fr kPset) kPset s ∧ hncOf (psetA 0 0).hnc = some [1, 2, 3, 4, 5, 6] ∧ chargingOf 0 = some .offline ∧
      chargingOf 1 = some .online ∧ admissionOf 1 = some .opened ∧ checkFailOf 0 = some .opened ∧
      s.partnerByHnc [1, 2, 3, 4, 5, 6] = some 0 ∧ s.partner 0 = some (partnerOf 6 .opened .offline 1) ∧
      (s.plan 0).state = .ready ∧ (s.plan 1).state = .editing ∧ hncOf new.hnc = some [1, 2, 3, 4, 5] ∧
      s.partnerByHnc [1, 2, 3, 4, 5] = none ∧ s.partner 1 = none ∧ (∀ j < 1, (s.partner j).isSome) ∧
      Charging.offline ≠ Charging.online ∧ 0 < (partnerOf 6 .opened .offline 1).visitors ∧ 15 < (16 : Byte).toNat ∧
      hncOf 0x12345A = none ∧ crowd.partnerByHnc [1, 2, 3, 4, 5] = none ∧ ∀ i < 64, (crowd.partner i).isSome := by
  decide +kernel

theorem witness_DeletePartner :
    let s := withPartner .opened .offline 1
    let s0 := withPartner .opened .offline 0
    let purging := s.withVrg { s.vrg with purge := some ⟨.partner 0, 0, 0, ⟨1, false⟩⟩ }
    Takes (fr kPdel) kPdel s ∧ hncOf 0xA23456 = none ∧ hncOf 0x123456 = some [1, 2, 3, 4, 5, 6] ∧
      svc.partnerByHnc [1, 2, 3, 4, 5, 6] = none ∧ s.partnerByHnc [1, 2, 3, 4, 5, 6] = some 0 ∧
      s.partner 0 = some (partnerOf 6 .opened .offline 1) ∧ s0.partner 0 = some (partnerOf 6 .opened .offline 0) ∧
      s.vrg.purge = none ∧ purging.vrg.purge.map (·.scope) = some (.partner 0) := by decide

theorem witness_WriteRates :
    let r : RateField := ⟨3, 2, 0, 1000001⟩
    let s := withPartner .opened .offline 0
    Takes (fr (kTwrite [r].length)) (kTwrite [r].length) s ∧ 15 < (16 : Byte).toNat ∧ (∃ x ∈ [{ r with zone := 4 }], 3 < x.zone.toNat) ∧
      (¬ [r, r].Pairwise fun a b => ¬ (a.zone = b.zone ∧ a.cls = b.cls)) ∧ (s.plan 0).state = .ready ∧
      (s.plan 15).state = .editing ∧ (∀ x ∈ [r], x.zone.toNat = (3 : TariffZone).val ∧ x.cls = classByte .message) ∧
      (∀ x ∈ [r], ¬ (x.zone.toNat = (0 : TariffZone).val ∧ x.cls = classByte .voice)) := by decide

theorem witness_OpenPlan :
    let s := withPartner .opened .offline 0
    Takes (fr kTopen) kTopen s ∧ 15 < (16 : Byte).toNat ∧ (s.plan 15).state = .editing ∧ (s.plan 0).state = .ready ∧
      0 < (s.plan 0).partners ∧ ((s.setPlan 1 { s.plan 0 with partners := 0 }).plan 1).partners = 0 := by decide

theorem witness_CommitPlan :
    let s := withPartner .opened .offline 0
    (Takes (fr kTcommit) kTcommit s ∧ (s.plan 0).state = .ready ∧ (s.plan 15).state = .editing ∧ 15 < (16 : Byte).toNat) ∧
      ∃ equal other : BitVec 16, equal = planCheck (s.plan 15) ∧ other ≠ planCheck (s.plan 15) := by
  refine ⟨by decide, _, planCheck ((withPartner .opened .offline 0).plan 15) + 1, rfl, by simp⟩

theorem witness_ReadRecords :
    let s := off .active
    Takes (fr kVread) kVread s ∧ Takes (fr kPread) kPread s ∧ Takes (fr kAread) kAread s ∧ Takes (fr kTread) kTread s ∧
      (s.slot 5).gen.toNat = 2 ∧ s.visitor 5 = some (visitorOf .active none) ∧ s.visitor 4095 = none ∧
      (s.slot 4095).gen.toNat = 0 ∧ s.slotBySid (sidA 1) = some 5 ∧ s.slotBySid (sidA 2) = none ∧
      s.partner 0 = some (partnerOf 6 .opened .offline 1) ∧ s.partner 63 = none ∧ s.account 4607 = none ∧
      s.accountBySid (sidA 1) = some 7 ∧ s.accountBySid (sidA 2) = none ∧ 1 < (2 : Byte).toNat ∧
      (on .active).visitor 5 = some (visitorOf .active (some quotaA)) := by decide

/-- Inputs of the rating of section 3.4, case 1, with a remainder above the step. -/
def inputsA : RateInputs := ⟨⟨100000, 2500⟩, 1250, 650⟩

theorem witness_Rating : ∃ b charge hit, 0 < inputsA.rate.step ∧
    rateAccount (some inputsA) true 2 .data false 1048575 (accountOpen (sidA 1) [1, 2, 3, 4, 5, 6] 0) = (b, charge, hit) ∧
    16777214 ≤ 16777214 ∧ 1048575 ≤ 1048575 ∧ 16777215 ≤ 16777215 ∧ 1000000 ≤ 1000000 ∧ 4000 ≤ 4000 ∧ 1000 ≤ 1000 ∧
    (svc.link 0).state = .up ∧ (svc.link 1).state = .off :=
  ⟨_, _, _, by decide, rfl, by decide, by decide, by decide, by decide, by decide, by decide, by decide, by decide⟩

theorem witness_UsageLive : ∃ y charge hit,
    let s := off .active
    let x := { accountOpen (sidA 1) [1, 2, 3, 4, 5, 6] 9 with unreported := 40 }
    Takes (fr kUsage) kUsage s ∧ s.live h5 = true ∧ s.visitor 5 = some (visitorOf .active none) ∧
      (s.slot 5).account = some 7 ∧ s.account 7 = some x ∧ s.partner 0 = some (partnerOf 6 .opened .offline 1) ∧
      (1048575 : BitVec 24).toNat ≤ 1048575 ∧ (1 : Byte).toNat < 2 ∧
      rateAccount (some ⟨planRate (s.plan 0) s.tariffInForce .data, (s.link 0).cfg.cost,
        qualityFactor (s.link 0) (s.plan 0).factor⟩) false s.tariffInForce .data ((1 : Byte) == 0) 1048575 x =
        (y, charge, hit) :=
  ⟨_, _, _, by decide, by decide, by decide, by decide, by decide, by decide, by decide, by decide, rfl⟩

theorem witness_UsageOnline :
    let s := withExchange .quota true false (on .active)
    let x := { accountOpen (sidA 1) [1, 2, 3, 4, 5, 6] 9 with unreported := 40 }
    let r := rateAccount (some ⟨planRate (s.plan 0) s.tariffInForce .voice, (s.link 0).cfg.cost,
        qualityFactor (s.link 0) (s.plan 0).factor⟩) true s.tariffInForce .voice true 60 x
    Takes (fr kUsage) kUsage s ∧ s.live h5 = true ∧ (s.slot 5).account = some 7 ∧ s.account 7 = some x ∧
      s.partner 0 = some (partnerOf 6 .opened .online 1) ∧ (s.visitor 5).map (·.xref.isSome) = some true ∧
      s.quota 5 = some quotaA ∧ quotaA.retry = none ∧ 0 < r.2.1 := by decide +kernel

/-- A state whose 64 exchange entries are taken. -/
def fullTable (s : State) : State :=
  s.withQxu { s.qxu with entries := full ⟨1, some ⟨.quota, 9, 0, 9, true, false, none, none, 9, [], .crew, 0, none⟩⟩ 0 64 }

/-- The credit of a visitor: the four events with an exchange to ask for, a free entry behind a taken one and a full table,
and a gate that is SHUT for want of credit; each meets its premises. -/
theorem witness_CreditSettled :
    let s := on .active
    let low : Quota := { quotaA with remaining := 1 }
    let spent : Quota := { quotaA with remaining := 0, final := true }
    let first := s.setEntry 0 ⟨1, some ⟨.quota, 9, 0, 9, true, false, none, none, 9, [], .crew, 0, none⟩⟩
    (visitorOf .active (some low)).xref = none ∧ (visitorOf .active (some low)).deferred = false ∧ low.final = false ∧
      low.retry = none ∧ low.gate = .opened ∧ low.remaining ≤ reorderAt s (visitorOf .active (some low)) low ∧
      reorderAt s (visitorOf .active (some low)) { low with lastGrant := 3 } = 1 ∧
      gateAfter (visitorOf .active (some low)) low = .opened ∧
      gateAfter (visitorOf .active (some spent)) spent = .shut ∧ spent.gate ≠ .shut ∧
      (first.entry 1).ex = none ∧ (∀ m < 1, (first.entry m).ex.isSome) ∧
      (∀ j < 64, ((fullTable s).entry j).ex.isSome) ∧ (∀ l ∈ s.settings.control, s.eligible l = true → False) ∧
      (s.withRqp { s.rqp with settings := { s.settings with control := [0] } }).eligible 0 = true := by decide +kernel

theorem witness_UsageElsewhere :
    let emergency := withVisitor { visitorOf .active none with cls := .emergency } .offline false
    let late := (off .departing).setSlot 5 ⟨2, some (sidA 1), some 7, none, none⟩
    let late := late.setPartner 0 none
    let x := { accountOpen (sidA 1) [1, 2, 3, 4, 5, 6] 9 with departed := true, unreported := 40 }
    Takes (fr kUsage) kUsage svc ∧ 1048575 < (1048576 : BitVec 24).toNat ∧ 3 < (4 : Byte).toNat ∧
      (svc.slot 0).gen.toNat ≠ (0x0001 : BitVec 16).toNat % 16 ∧ svc.visitor 0 = none ∧ (svc.slot 0).account = none ∧
      emergency.live h5 = true ∧ late.visitor 5 = none ∧ (late.slot 5).gen.toNat = h5.toNat % 16 ∧
      late.account 7 = some x ∧ (late.slot 5).sid = some x.sid ∧ late.partnerByHnc x.hnc = none ∧
      (qget x.buckets 0).seconds + 1048575 ≤ 281474976710655 := by decide

theorem witness_UsageLate :
    let free := (on .departing).setSlot 5 ⟨2, some (sidA 1), some 7, none, none⟩
    let x := { accountOpen (sidA 1) [1, 2, 3, 4, 5, 6] 9 with departed := true, unreported := 40 }
    free.visitor 5 = none ∧ (free.slot 5).gen.toNat = h5.toNat % 16 ∧ free.account 7 = some x ∧
      (free.slot 5).sid = some x.sid ∧ free.partnerByHnc x.hnc = some 0 ∧
      free.partner 0 = some (partnerOf 6 .opened .online 1) ∧ (on .departing).live h5 = true ∧
      (on .departing).visitor 5 = some (visitorOf .departing (some quotaA)) ∧ (on .departing).account 7 = some x ∧
      (1048575 : BitVec 24).toNat ≤ 1048575 ∧ 0 < (1 : BitVec 24).toNat := by decide

theorem witness_ReadUnattributed : Takes (fr kUaread) kUaread svc := by decide

theorem witness_SettleAndCollect :
    let s := off .active
    let d := off .departing
    let free := d.setSlot 5 ⟨2, some (sidA 1), some 7, none, none⟩
    let x := { accountOpen (sidA 1) [1, 2, 3, 4, 5, 6] 9 with departed := true, unreported := 40 }
    Takes (fr kSettle) kSettle s ∧ Takes (fr kCollect) kCollect s ∧ 4607 < (4608 : BitVec 16).toNat ∧ s.account 4607 = none ∧
      s.account 7 = some { x with departed := false } ∧ d.account 7 = some x ∧ Canonical d ∧ Canonical free ∧
      d.visitor 5 = some (visitorOf .departing none) ∧ (d.slot 5).account = some 7 ∧ free.account 7 = some x ∧
      x.remainder = ⟨0, 0, 0⟩ ∧ x.carry = ⟨0, 0, 0⟩ ∧ x.unreported ≤ 281474976710655 ∧
      (∀ e ∈ free.vrg.slots, e.2.visitor = none) ∧
      (let u := (noAccounts.withRqp { noAccounts.rqp with settings := { noAccounts.settings with lowWater := 4608 } })
       u.chu.freeAccounts - 1 < u.settings.lowWater ∧ u.chu.armed = true) := by decide +kernel

/-- A DEPARTED account with a remainder that its partner's close-out charges. -/
theorem witness_Collect_remainder :
    let s := (on .departing).setSlot 5 ⟨2, some (sidA 1), some 7, none, none⟩
    let x := { accountOpen (sidA 1) [1, 2, 3, 4, 5, 6] 9 with departed := true, remainder := ⟨7, 0, 0⟩, carry := ⟨0, 3, 0⟩ }
    let t := s.setAccount 7 (some x)
    Canonical t ∧ t.account 7 = some x ∧ (∀ e ∈ t.vrg.slots, e.2.visitor = none) ∧
      (t.partnerByHnc x.hnc).bind t.partner = some (partnerOf 6 .opened .online 1) ∧
      0 < (closeOutAccount (some (qget (t.plan 0).rates t.tariffInForce)) true t.tariffInForce x).2.1 := by decide +kernel

/-- `s` with a control preference list. -/
def controlled (ls : List Link) (s : State) : State :=
  s.withRqp { s.rqp with settings := { s.rqp.settings with control := ls } }

/-- The exchange that `withExchange` puts in entry 2. -/
def exchangeA (k : XKind) (sent second : Bool) : Exchange :=
  ((withExchange k sent second svc).entry 2).ex.getD
    ⟨k, 0, 0, 0, sent, second, none, none, 0, [], .passenger, 0, none⟩

theorem witness_FetchExchange :
    let s := controlled [1, 0] (withExchange .quota false false (on .active))
    let s2 := (controlled [0, 1] (withExchange .final false true (on .departing))).setLink 1
      { svc.link 1 with state := .degraded }
    Takes (fr kXfetch) kXfetch s ∧ svc.qxu.order = [] ∧ s.qxu.order = [2] ∧
      (s.entry 2).ex = some (exchangeA .quota false false) ∧ (exchangeA .quota false false).sent = false ∧
      s.chooseLink (exchangeA .quota false false) = some 0 ∧
      (controlled [1] s).chooseLink (exchangeA .quota false false) = none ∧
      s2.settings.control.filter s2.eligible = [0] ++ 1 :: [] ∧ (exchangeA .final false true).link1 = some 0 ∧
      (exchangeA .final false true).second = true ∧ (exchangeA .final false true).link1 ≠ some 1 ∧
      (controlled [0] s2).settings.control.filter (controlled [0] s2).eligible = [0] ∧
      (on .active).account 7 ≠ none := by decide

/-- The notice-owed flag clear, and set with the oldest exchange TO_SEND and with none TO_SEND. -/
theorem witness_OwedNotice :
    let owed := fun s : State => s.withQxu { s.qxu with owed := true }
    let s := owed (withExchange .quota false true (on .active))
    let gone := owed (withExchange .quota true true (on .active))
    svc.qxu.owed = false ∧ s.qxu.owed = true ∧ s.qxu.order = [] ++ 2 :: [] ∧
      (s.entry 2).ex = some (exchangeA .quota false true) ∧ (exchangeA .quota false true).sent = false ∧
      gone.qxu.owed = true ∧ gone.qxu.order = [2] ∧ (gone.entry 2).ex = some (exchangeA .quota true true) ∧
      (exchangeA .quota true true).sent = true := by decide

theorem witness_AnswerTaken :
    let s := fun k => withExchange k true false (on .active)
    let x := exchangeA .quota true false
    let a := { accountOpen (sidA 1) [1, 2, 3, 4, 5, 6] 9 with unreported := 40 }
    Takes (fr kXanswer) kXanswer (s .quota) ∧ 63 < (0x4000 : BitVec 16).toNat / 256 ∧ 4 < (5 : Byte).toNat ∧
      (∀ k ∈ [XKind.authorize, .quota, .final], ((s k).entry 2).ex = some (exchangeA k true false) ∧
        ((s k).entry 2).use.toNat = (0x0204 : BitVec 16).toNat % 256 ∧ (exchangeA k true false).sent = true) ∧
      ((s .quota).entry 63).ex = none ∧ ((s .quota).entry 2).use.toNat ≠ (0x0205 : BitVec 16).toNat % 256 ∧
      shoreResultOf 4 = some .ack ∧ (1 ≤ (0x7FFFFFFF : BitVec 32).toNat ∧ (0x7FFFFFFF : BitVec 32).toNat ≤ 2147483647 ∧
        (1440 : BitVec 16).toNat ≤ 1440) ∧
      (on .active).visitor x.slot = some (visitorOf .active (some quotaA)) ∧ x.reported = some 30 ∧
      (on .active).account x.account = some a ∧ (on .active).partner 0 = some (partnerOf 6 .opened .online 1) ∧
      quotaA.retry = none ∧ 0 < min (549755813887 : Int) (quotaA.remaining + 1) := by decide

theorem witness_ExchangeOutcomes :
    let x := exchangeA .authorize true false
    let s := withExchange .authorize true true (off .authorizing)
    let f := withExchange .final true true (on .departing)
    let q := withExchange .quota true true (on .active)
    let waiting := (q.setSlot 6 ⟨1, some (sidA 2), some 8, none, some (visitorOf .active (some quotaA))⟩).withQxu
      { q.qxu with deferred := [⟨6, .quota⟩] }
    (s.entry 2).ex = some (exchangeA .authorize true true) ∧ s.qxu.deferred = [] ∧ (s.visitor x.slot).isSome ∧
      waiting.qxu.deferred = [⟨6, .quota⟩] ∧ waiting.visitor 6 = some (visitorOf .active (some quotaA)) ∧
      (6 : Nat) ≠ (exchangeA .quota true true).slot ∧ (waiting.entry 2).ex = some (exchangeA .quota true true) ∧
      (off .authorizing).visitor x.slot = some (visitorOf .authorizing none) ∧
      (off .authorizing).partner 0 = some (partnerOf 6 .opened .offline 1) ∧
      (partnerOf 6 .opened .offline 1).checkFail = .opened ∧ x.kind = .authorize ∧
      ({ partnerOf 6 .opened .offline 1 with checkFail := .closed } : Partner).checkFail = .closed ∧
      (off .authorizing).account x.account ≠ none ∧ (exchangeA .final true true).kind = .final ∧
      (f.visitor 5).map (·.partner) = some (some 0) ∧ f.account 7 ≠ none ∧ q.quota 5 = some quotaA ∧
      (exchangeA .quota true true).kind = .quota ∧ (exchangeA .final true true).reported = some 30 := by decide

theorem witness_AuthorizedOnline :
    let s := on .authorizing
    let away := withVisitor { visitorOf .authorizing (some { quotaA with remaining := 0, lastGrant := 0 }) with unit := 2 } .online
      false
    s.visitor 5 = some (visitorOf .authorizing (some quotaA)) ∧ (s.unit 1).state = .serving ∧ (away.unit 2).state ≠ .serving ∧
      quotaA.retry = none ∧ quotaA.final = false ∧ (s.entry 0).ex = none ∧ (away.visitor 5).isSome := by decide

theorem witness_QuotaEndsDeparting :
    let s := on .departing
    let x := exchangeA .quota true true
    s.visitor x.slot = some (visitorOf .departing (some quotaA)) ∧ s.partner 0 = some (partnerOf 6 .opened .online 1) ∧
      (s.slot x.slot).account = some x.account ∧ (s.account x.account).map (·.unreported) = some 40 ∧ x.kind = .quota ∧
      x.reported = some 30 ∧ (s.entry 0).ex = none := by decide

theorem witness_ExchangeFails :
    let s := fun second => withExchange .quota true second (on .active)
    Takes (fr kXfail) kXfail (s false) ∧ 63 < (0x4000 : BitVec 16).toNat / 256 ∧ ((s false).entry 63).ex = none ∧
      ((s false).entry 2).ex = some (exchangeA .quota true false) ∧ ((s true).entry 2).ex = some (exchangeA .quota true true) ∧
      ((s false).entry 2).use.toNat = (0x0204 : BitVec 16).toNat % 256 ∧ (exchangeA .quota true false).sent = true ∧
      (exchangeA .quota true false).second = false ∧ (exchangeA .quota true true).second = true ∧
      ((s false).visitor 5).isSome ∧ (s false).anyControlEligible = false ∧
      (controlled [0] (s false)).anyControlEligible = true := by decide

theorem witness_QuotaTimers :
    let s := fun q => withVisitor (visitorOf .suspended (some q)) .online false
    (∀ q ∈ [quotaA, { quotaA with retry := some 3, gate := .shut }, { quotaA with final := true, remaining := 0 },
        { quotaA with expiry := none }], (s q).visitor 5 = some (visitorOf .suspended (some q))) ∧
      quotaA.expiry = some 3 ∧ quotaA.retry = none ∧ quotaA.final = false ∧ (visitorOf .suspended (some quotaA)).xref = none ∧
      (visitorOf .suspended (some quotaA)).deferred = false ∧
      ((withExchange .quota false false (on .active)).visitor 5).map (·.xref.isSome) = some true := by decide

theorem witness_ModeRefusals :
    Takes (fr kFixpost) kFixpost State.reset ∧ Takes (fr kStop) kStop State.reset ∧ Takes (fr kStart) kStart svc ∧
      Takes (fr kDset) kDset svc ∧ State.reset.rqp.mode = .config ∧ svc.rqp.mode = .service ∧ 1 ≤ (1 : Byte).toNat ∧
      (2 : Byte).toNat ≤ 2 := by decide

theorem witness_StartProbe :
    let r := wireHigh State.reset
    let busy := r.withRdc { r.rdc with onBus := some (3, .mute 1) }
    let some15 := (r.setUnit 0 { r.unit 0 with state := .excluded }).setUnit 1 { r.unit 1 with state := .excluded }
    let probing := r.withRdc { r.rdc with probe := some ⟨3, false⟩ }
    Takes (fr kStart) kStart r ∧ r.rqp.mode = .config ∧ r.rdc.radio ≠ .muting ∧ r.rdc.probe = none ∧
      (∀ u < 16, (some15.unit u).state = .excluded → (some15.unit u).mark = none) ∧ busy.rdc.onBus = some (3, .mute 1) ∧
      some15.rdc.onBus = none ∧ some15.rdc.wire = [] ∧ some15.rdc.busFault = false ∧ (some15.unit 2).state ≠ .excluded ∧
      (∀ u < 2, (some15.unit u).state = .excluded) ∧ probing.rdc.probe = some ⟨3, false⟩ ∧
      (∀ u < 16, (probing.unit u).mark = none) ∧ probing.rdc.onBus = none ∧
      ((probing.setUnit 15 { r.unit 15 with mark := some .identify }).unit 15).mark = some .identify := by decide

theorem witness_LeaveService : Takes (fr kStop) kStop svc ∧ svc.rqp.mode = .service ∧ Canonical svc ∧ RadioSafe svc ∧
    (∀ i, svc.visitor i = none) ∧ (∀ j, (svc.entry j).ex = none) ∧ svc.zne.pos.state ≠ .noFix ∧
    svc.rqp.notices.length < 128 ∧ silencing svc.rdc.radio = false ∧ ((off .active).visitor 5).isSome := by
  refine ⟨by decide, by decide, by decide, ?_, fun _ => rfl, fun _ => rfl, by decide, by decide, by decide, by decide⟩
  refine ⟨by decide, by decide, by decide, by decide, fun h => absurd h (by decide), fun h => absurd h (by decide), by decide⟩

/-- The payload of a DSET at the limits of its ranges. -/
def dsetA : DsetFields := ⟨60, 1000, 7200, 0, 86400, 59, 120, 1, ⟨4, 3, 2, 1, 0⟩, 31, 31, 600, 4608, 127, 1⟩

theorem witness_StoreSettings :
    Takes (fr kDset) kDset State.reset ∧ State.reset.rqp.mode = .config ∧ prefsOf dsetA.control = some [3, 2, 1, 0] ∧
      prefsOf ⟨2, 1, 1, 0, 0⟩ = none ∧ prefsOf ⟨5, 0, 0, 0, 0⟩ = none ∧ dsetA.alertMask.toNat ≤ 127 ∧
      dsetA.crewRoute.toNat ≤ 31 ∧ dsetA.emergencyRoute.toNat ≤ 31 ∧ dsetA.stalePolicy.toNat ≤ 1 ∧ dsetA.busSpeed.toNat ≤ 1 ∧
      31 < ({ dsetA with crewRoute := 32 } : DsetFields).crewRoute.toNat := by decide

/-- `svc` with link 1 in a state. -/
def link1 (st : LinkState) : State :=
  svc.setLink 1 { svc.link 1 with state := st, stale := some 5, hold := if st = .held .failure then some 3 else none }

theorem witness_ConfigureLink :
    let c : LconfFields := ⟨3, 4001, 0, 3601, 16, 0, 1001, 0x80, 0, 1, 15, 7⟩
    Takes (fr kLconf) kLconf svc ∧ c.link.toNat = (3 : Link).val ∧ 3 < (4 : Byte).toNat ∧
      ((link1 .up).link 1).state = .up ∧ (1 : Byte).toNat = (1 : Link).val := by decide

theorem witness_LinkCommands :
    Takes (fr kLenable) kLenable svc ∧ Takes (fr kLdisable) kLdisable svc ∧ Takes (fr kLloss) kLloss svc ∧
      Takes (fr kLhold) kLhold svc ∧ Takes (fr kLrelease) kLrelease svc ∧ (3 : Byte).toNat = (3 : Link).val ∧
      3 < (4 : Byte).toNat ∧ (svc.link 3).state = .off ∧
      (∀ st ∈ [LinkState.probing, .up, .degraded, .held .failure, .held .operator], ((link1 st).link 1).state = st) ∧
      0 < (svc.link 1).cfg.holdTime ∧
      ((svc.setLink 1 { svc.link 1 with cfg := { (svc.link 1).cfg with holdTime := 0 } }).link 1).cfg.holdTime = 0 ∧
      ({ svc.link 1 with drill := some ⟨.loss, 4⟩ } : LinkRec).drill = some ⟨.loss, 4⟩ := by decide

theorem witness_MeasurementTaken :
    Takes (fr kLmeasure) kLmeasure svc ∧ (3 : Byte).toNat = (3 : Link).val ∧ 3 < (4 : Byte).toNat ∧
      (svc.link 3).state = .off ∧
      (∀ st ∈ [LinkState.probing, .up, .degraded, .held .failure], ((link1 st).link 1).state = st) ∧
      (svc.link 1).good + 1 < (svc.link 1).cfg.probe ∧ (svc.link 1).cfg.probe ≤ 2 + 1 ∧
      decide ((svc.link 1).cfg.lossT < 1000) = false ∧ (svc.link 1).monitors.loss.count + 1 ≠ (svc.link 1).cfg.debounce.loss ∧
      2 + 1 = (svc.link 1).cfg.debounce.loss ∧ ((svc.link 1).drill = none) := by decide

theorem witness_LinkTimersAndDrill :
    let spare := (link1 .up).setZone 31 { svc.zone 31 with permit := 15 }
    let drilled := svc.setLink 1 { svc.link 1 with state := .degraded, drill := some ⟨.loss, 4⟩ }
    let worse := svc.setLink 1 { drilled.link 1 with monitors := { (svc.link 1).monitors with level := ⟨true, 0, true⟩ } }
    (∀ st ∈ [LinkState.probing, .up, .degraded], ((link1 st).link 1).stale.isSome ∧ ((link1 st).link 1).state = st) ∧
      0 < ((link1 .up).link 1).cfg.holdTime ∧ ((link1 (.held .failure)).link 1).hold.isSome ∧ (svc.link 1).stale = none ∧
      (svc.link 1).hold = none ∧ Takes (fr kLdrill) kLdrill spare ∧ 2 < (3 : Byte).toNat ∧
      monitorOf 2 = some .level ∧ (spare.link 1).state = .up ∧ (1 : Fin 4) ≠ 0 ∧ (spare.link 0).state = .up ∧
      (spare.zone spare.zne.pos.zone).permit.getLsbD (0 : Link).val = true ∧ (∀ j : Link, (spare.link j).drill = none) ∧
      (svc.link 3).state ≠ .up ∧ (∀ j : Link, j ≠ 0 → (svc.link j).state ≠ .up) ∧
      (drilled.link 1).drill.isSome ∧ (drilled.link 1).state = .degraded ∧ (svc.link 1).drill = none ∧
      ((dropDrill (worse.link 1)).monitors.level.fault = true ∧ (worse.link 1).cfg.mask.level = false) ∧
      (∀ m ∈ [Monitor.delay, .loss, .level], (mget (dropDrill (drilled.link 1)).monitors m).fault = false) := by decide

theorem witness_ExchangesLoseLinks :
    let s := fun second => withExchange .quota true second (on .active)
    let first := (s false).setEntry 2 ⟨4, some { exchangeA .quota true false with link1 := some 3 }⟩
    let second := (s true).setEntry 2 ⟨4, some { exchangeA .quota true true with link2 := some 3 }⟩
    (∀ u ∈ [first, second], u.qxu.order = [] ++ [2] ∧ u.qxu.order.Nodup ∧
        (u.entry 2).ex.any (fun x => x.sent && (currentLink x).any (· == 3)) = true ∧
        (u.entry 2).ex.any (fun x => x.sent && (currentLink x).any (· == 0)) = false) ∧
      (first.entry 2).ex.map (·.second) = some false ∧ (second.entry 2).ex.map (·.second) = some true := by decide

/-- `svc` with links 0 to 2 UP, link 3 DEGRADED, and route 4's DATA path in a state. -/
def pathIn (st : PathState) : State :=
  let s := (svc.setLink 1 { svc.link 1 with state := .up }).setLink 2 { svc.link 2 with state := .up }
  (s.setLink 3 { svc.link 3 with state := .degraded }).setPath 4 .data ⟨[1, 3, 2], none, st, some .pin⟩

/-- `s` permitting the links of a mask. -/
def permitting (m : LinkSet) (s : State) : State := s.setZone 31 { s.zone 31 with permit := m }

theorem witness_Selection :
    let p := (pathIn (.steady 0)).path 4 .data
    let pinned := { p with pin := some 0 }
    let s := pathIn (.steady 0)
    pinned.pin = some 0 ∧ s.eligible 0 = true ∧ (permitting 14 s).eligible 0 = false ∧ p.prefs = [] ++ 1 :: [3, 2] ∧
      (s.link 1).state = .up ∧ (permitting 9 s).eligible 1 = false ∧ (permitting 9 s).eligible 2 = false ∧
      (permitting 9 s).eligible 3 = true ∧ ((permitting 9 s).link 3).state = .degraded ∧
      p.prefs = [1] ++ 3 :: [2] ∧ currentOf p.state = some 0 ∧ (permitting 1 s).eligible 0 = true ∧
      (permitting 0 s).eligible 0 = false ∧
      -- STEADY: stays, prepares, switches, is stranded
      (pathIn (.steady 1)).selection ((pathIn (.steady 1)).path 4 .data) = some 1 ∧
      s.selection (s.path 4 .data) = some 1 ∧ (permitting 14 s).selection (s.path 4 .data) = some 1 ∧
      (permitting 0 s).selection (s.path 4 .data) = none ∧
      -- STRANDED: recovers, stays
      (pathIn .stranded).selection ((pathIn .stranded).path 4 .data) = some 1 ∧
      (permitting 0 (pathIn .stranded)).selection ((pathIn .stranded).path 4 .data) = none ∧
      -- PREPARING: goes on, abandons, prepares anew, is stranded
      (pathIn (.preparing 0 1 5)).selection ((pathIn (.preparing 0 1 5)).path 4 .data) = some 1 ∧
      (pathIn (.preparing 1 2 5)).selection ((pathIn (.preparing 1 2 5)).path 4 .data) = some 1 ∧
      (pathIn (.preparing 0 2 5)).selection ((pathIn (.preparing 0 2 5)).path 4 .data) = some 1 ∧
      (permitting 0 (pathIn (.preparing 0 2 5))).selection ((pathIn (.preparing 0 2 5)).path 4 .data) = none ∧
      -- BICAST and RELEASING: each link eligible or not
      (permitting 1 (pathIn (.bicast 0 2 9))).eligible 2 = false ∧ (permitting 4 (pathIn (.bicast 0 2 9))).eligible 0 = false ∧
      (pathIn (.releasing 2 0 4)).eligible 2 = true ∧ (permitting 1 (pathIn (.releasing 2 0 4))).eligible 2 = false := by
  decide +kernel

theorem witness_RouteRequests :
    let x : RconfFields := ⟨31, 501, 31, 0, ⟨4, 0, 1, 2, 3⟩, ⟨0, 9, 9, 9, 9⟩, ⟨1, 3, 0, 0, 0⟩⟩
    Takes (fr kRconf) kRconf svc ∧ Takes (fr kRpin) kRpin svc ∧ Takes (fr kRunpin) kRunpin svc ∧ x.route.toNat ≤ 31 ∧
      prefsOf x.voice = some [0, 1, 2, 3] ∧ prefsOf x.data = some [] ∧ prefsOf x.message = some [3] ∧
      31 < (32 : Byte).toNat ∧ prefsOf ⟨1, 4, 0, 0, 0⟩ = none ∧ classOf 2 = some .message ∧ classOf 3 = none ∧
      (3 : Byte).toNat = (3 : Link).val := by decide

theorem witness_HandoverSteps :
    let p := fun st => (pathIn st).path 4 .data
    Takes (fr kHready) kHready (pathIn .stranded) ∧ Takes (fr kHdone) kHdone (pathIn .stranded) ∧ classOf 1 = some .data ∧
      (p (.preparing 0 1 5)).state = .preparing 0 1 5 ∧ (pathIn (.preparing 0 1 5)).eligible 0 = true ∧
      (permitting 14 (pathIn (.preparing 0 1 5))).eligible 0 = false ∧
      ((pathIn (.preparing 0 1 5)).route 4).bicast = 0 ∧
      (((pathIn (.preparing 0 1 5)).setRoute 4 { (pathIn (.preparing 0 1 5)).route 4 with bicast := 200 }).route 4).bicast ≠ 0 ∧
      (p (.releasing 1 0 3)).state = .releasing 1 0 3 ∧ (p (.bicast 0 1 9)).state = .bicast 0 1 9 ∧
      (permitting 12 (pathIn (.preparing 0 1 5))).eligible 1 = false ∧ 31 < (32 : Byte).toNat := by decide +kernel

theorem witness_Lookup :
    let s := fun st => withVisitor (visitorOf st (some quotaA)) .online false
    let gated := fun g => withVisitor (visitorOf .active (some { quotaA with gate := g })) .online false
    let up := (s .active).setPath 1 .data ⟨[], none, .steady 0, none⟩
    Takes (fr kLookup) kLookup svc ∧ 2 < (3 : Byte).toNat ∧ classOf 2 = some .message ∧ (svc.visitor 5 = none) ∧
      (∀ st ∈ [VisitorState.authorizing, .suspended, .departing, .active],
        (s st).visitor 5 = some (visitorOf st (some quotaA)) ∧ ((s st).slot 5).gen.toNat = h5.toNat % 16) ∧
      (gated .waiting).quota 5 = some { quotaA with gate := .waiting } ∧
      (gated .shut).quota 5 = some { quotaA with gate := .shut } ∧
      ({ visitorOf .active none with cls := .emergency } : Visitor).cls = .emergency ∧
      ((s .active).path 1 .data).state = .stranded ∧ (up.path 1 .data).state = .steady 0 ∧ up.eligible 0 = true := by decide

/-- `svc` with a number of fixes held. -/
def fixes (n : Nat) : State := svc.withZne { svc.zne with fifo := List.replicate n ⟨.nav 3, 0, 0, 1, false⟩ }

/-- `svc` with the receiver in a state. -/
def receiving (r : Receiver) : State :=
  svc.withZne { svc.zne with nav := { svc.zne.nav with rx := r, lastSeq := some 4 } }

theorem witness_Navigation :
    Takes (fr kNavconf) kNavconf svc ∧ Takes (fr kFixpost) kFixpost svc ∧ (2 : Byte)[0] = false ∧ (1 : Byte)[0] = true ∧
      svc.zne.nav.rx = .disabled ∧ (receiving .hunting).zne.nav.rx ≠ .disabled ∧ (0 : Byte).toNat = 0 ∧ 2 < (3 : Byte).toNat ∧
      2 ≤ (fixes 2).zne.fifo.length ∧ (fixes 1).zne.fifo.length < 2 := by decide

theorem witness_NavLine :
    let body : List Byte := [0x7E, 0x05, 0, 1, 0, 0xFF, 0xFF, 0, 1]
    (receiving .disabled).zne.nav.rx = .disabled ∧ (receiving .hunting).zne.nav.rx = .hunting ∧
      (receiving (.assembling body false)).zne.nav.rx = .assembling body false ∧
      lineOutcome (cleanLine 0x7E) = .good 0x7E ∧ lineOutcome { cleanLine 0x7E with start := 4 } = .noisy 0x7E ∧
      lineOutcome { cleanLine 0 with start := 7 } = .falseStart ∧ lineOutcome { cleanLine 1 with stop := 0 } = .framing ∧
      lineOutcome { cleanLine 0 with stop := 0, lowAtEnd := true } = .broken ∧
      (body ++ [0xFB]).length = 10 ∧ ((([0xFB] : List Byte).reverse ++ body.drop 1).map fun y => y.toNat).sum % 256 = 0 ∧
      ((body.drop 1).map fun y => y.toNat).sum % 256 ≠ 0 ∧ svc.zne.nav.lastSeq ≠ some (byteAt body 1) ∧
      (receiving .hunting).zne.nav.lastSeq = some (byteAt [0x7E, 4] 1) ∧ svc.zne.nav.lineBreak = false := by decide

/-- `svc` in a zone of a policy, with one fix that lies in zone 3 and a position state. -/
def moving (here there : Policy) (st : PositionState) (x : Fix) : State :=
  let s := svc.setZone 31 { svc.zone 31 with policy := here }
  let s := s.setZone 3 ⟨true, 0, 0, 10, 0, there, 1, 15, 8⟩
  s.withZne { s.zne with fifo := [x], pos := { s.zne.pos with state := st, stale := some 4 } }

/-- The policy in force turns, by a fix in either direction and by a stale position, with the radio still the other way. -/
theorem witness_PolicyTurns :
    let x : Fix := ⟨.nav 3, 6, 8, 1, false⟩
    let mute := moving .serve .mute .fixed x
    let lift := (moving .mute .serve .fixed x).setZone 3 ⟨true, 0, 0, 10, 0, .serve, 1, 15, 1⟩
    let lift := lift.withRdc { lift.rdc with radio := .muted }
    let stale := mute.withRqp { mute.rqp with settings := { mute.rqp.settings with stalePolicy := .mute } }
    mute.policyInForce = .serve ∧ (mute.zone 3).policy = .mute ∧ mute.rdc.opMute = false ∧
      silencing mute.rdc.radio = false ∧ (lift.zone 3).entry = 1 ∧ lift.candidateOf x = 3 ∧ lift.policyInForce = .mute ∧
      lift.rdc.opMute = false ∧ silencing lift.rdc.radio = true ∧ stale.zne.pos.stale.isSome ∧ stale.zne.pos.state = .fixed ∧
      (stale.zone stale.zne.pos.zone).policy = .serve ∧ stale.settings.stalePolicy = .mute := by decide

theorem witness_ZoneEvaluation :
    let x : Fix := ⟨.nav 3, 6, 8, 1, false⟩
    let far : Fix := ⟨.host, 6, 9, 2, false⟩
    let s := moving .serve .mute .fixed x
    let lift := moving .mute .serve .fixed x
    s.candidateOf x = 3 ∧ s.candidateOf far = 31 ∧ s.rqp.mode = .service ∧ s.zne.fifo = x :: [] ∧ svc.zne.fifo = [] ∧
      s.policyInForce = .serve ∧ (s.zone 3).policy = .mute ∧ s.rdc.probe = none ∧ s.zne.pos.state = .fixed ∧
      lift.policyInForce = .mute ∧ (lift.zone 3).policy = .serve ∧ (lift.zone 3).entry = 8 ∧ x.noisy = false ∧ x.quality = 1 ∧
      lift.zne.pos.candidate ≠ some 3 ∧ s.zne.pos.stale.isSome ∧ svc.zne.pos.stale = none ∧
      (moving .serve .serve .stale x).zne.pos.state = .stale ∧ (moving .serve .serve .noFix x).zne.pos.state = .noFix ∧
      State.reset.rqp.mode = .config ∧ s.rqp.notices.length < 128 ∧
      (permitting 7 (moving .serve .serve .fixed x)).permitInForce ≠ ((moving .serve .serve .fixed x).zone 3).permit := by decide

/-- The payload of a ZSET at the limits of its ranges. -/
def zsetA (zone : Byte) : ZsetFields := ⟨zone, 1, 0x800000, 0x7FFFFF, 1048576, 65535, 1, 3, 15, 9⟩

theorem witness_SetZone :
    Takes (fr kZset) kZset svc ∧ 31 < (32 : Byte).toNat ∧ (zsetA 31).zone.toNat ≤ 31 ∧ policyOf (zsetA 31).policy = some .mute ∧
      (zsetA 31).tariff.toNat = (3 : TariffZone).val ∧ (zsetA 31).permit.toNat = (15 : LinkSet).toNat ∧
      svc.rdc.probe = none ∧ svc.zne.pos.zone = 31 ∧ (zsetA 0).zone.toNat ≠ svc.zne.pos.zone ∧
      ((svc.setZone 31 { svc.zone 31 with policy := .mute }).inForce ≠ svc.inForce) ∧
      (svc.setZone 31 { svc.zone 31 with policy := .mute }).policyInForce ≠ svc.policyInForce ∧ svc.rdc.opMute = false ∧
      silencing svc.rdc.radio = false ∧
      (svc.setZone 31 { svc.zone 31 with permit := 7 }).permitInForce ≠ svc.permitInForce := by decide

theorem witness_ReadBlocks :
    Takes (fr kLread) kLread svc ∧ Takes (fr kRread) kRread svc ∧ Takes (fr kNread) kNread svc ∧ Takes (fr kZread) kZread svc ∧
      Takes (fr kUread) kUread svc ∧ 3 < (4 : Byte).toNat ∧ (3 : Byte).toNat = (3 : Link).val ∧ 31 < (32 : Byte).toNat ∧
      (31 : Byte).toNat ≤ 31 ∧ 15 < (16 : Byte).toNat ∧ (15 : Byte).toNat ≤ 15 := by decide

/-- `svc` with the operator mute as given. -/
def muted (b : Bool) (r : RadioState) : State := svc.withRdc { svc.rdc with opMute := b, radio := r }

theorem witness_OperatorMute :
    Canonical (off .active) ∧ (∀ st ∈ [VisitorState.authorizing, .active, .suspended, .departing],
        (off st).visitor 5 = some (visitorOf st none)) ∧
      Takes (fr kRmute) kRmute svc ∧ Takes (fr kRrelease) kRrelease svc ∧ (muted true .muted).rdc.opMute = true ∧
      (muted false .serving).rdc.opMute = false ∧ svc.policyInForce = .serve ∧ State.reset.policyInForce = .mute ∧
      silencing (muted false .serving).rdc.radio = false ∧ silencing (muted true .muting).rdc.radio = true ∧
      (svc.unit 1).state = .serving ∧ (∃ u < 16, (svc.unit u).state = .serving) ∧ svc.rdc.onBus = none := by decide

theorem witness_UnitCommands :
    let ex := svc.setUnit 15 { svc.unit 15 with state := .excluded }
    let busy := svc.withRdc { svc.rdc with onBus := some (1, .poll) }
    (svc.unit 1).state ≠ .faulty ∧ (svc.unit 1).state = .serving ∧ Takes (fr kUcmd) kUcmd svc ∧ 15 < (16 : Byte).toNat ∧
      (ex.unit 15).state = .excluded ∧ (15 : Byte).toNat ≤ 15 ∧ (svc.unit 15).state ≠ .excluded ∧ busy.rdc.onBus.isSome ∧
      (∀ v < 16, (svc.unit v).mark = none) ∧ svc.rdc.probe = none ∧ svc.rdc.onBus = none ∧ svc.rdc.wire = [] ∧
      svc.rdc.busFault = false := by decide

/-- EXCLUDE of a unit that serves an ACTIVE visitor, with the bus free and nothing waiting, and its notice. -/
theorem witness_Exclude :
    let s := off .active
    Takes (fr kUcmd) kUcmd s ∧ Canonical s ∧ (s.unit 1).state = .serving ∧ (∀ v < 16, (s.unit v).mark = none) ∧
      s.rdc.probe = none ∧ s.visitor 5 = some (visitorOf .active none) ∧ (visitorOf .active none).unit = 1 ∧
      (after (exec (.ucmdExclude (fr kUcmd) 1) s)).rqp.notices.map (fun n => [n.detail, n.v1, n.v2, n.v3, n.v4, n.v5]) =
        [[8, 1, 5, 7, 0, 1]] := by decide +kernel

/-- Unit 1 of `svc` with a mark. -/
def marked (m : Mark) : State := svc.setUnit 1 { svc.unit 1 with mark := some m }

theorem witness_MarksAndBus :
    (svc.unit 1).mark = none ∧ ((marked .poll).unit 1).mark = some .poll ∧ ((marked (.mute 2)).unit 1).mark = some (.mute 2) ∧
      ((marked (.unmute 3)).unit 1).mark = some (.unmute 3) ∧
      ((svc.setUnit 1 { svc.unit 1 with state := .excluded }).unit 1).state = .excluded ∧ svc.rdc.radio = .serving ∧
      (muted true .muting).rdc.radio = .muting ∧ (muted false .unmuting).rdc.radio = .unmuting ∧
      ((svc.withRdc { svc.rdc with deadline := some 9, poll := some 1 }).rdc.deadline.isSome) ∧
      ((svc.withRdc { svc.rdc with deadline := some 9, poll := some 1 }).rdc.poll.isSome) ∧ svc.rdc.deadline = none ∧
      svc.rdc.poll = none := by decide

/-- Each class of mark as the next to go, and a wire that is high, freed by nine pulses, and low after them. -/
theorem witness_Arbiter :
    let s := fun a b => (svc.setUnit 1 { svc.unit 1 with mark := some a }).setUnit 2 { svc.unit 2 with mark := some b }
    let noMute := fun (t : State) v => isMute (t.unit v).mark = false
    let noUnmute := fun (t : State) v => isUnmute (t.unit v).mark = false
    (((s .poll (.mute 2)).unit 2).mark = some (.mute 2) ∧ ∀ v < 2, noMute (s .poll (.mute 2)) v) ∧
      (((s .identify (.unmute 1)).unit 2).mark = some (.unmute 1) ∧ (∀ v < 16, noMute (s .identify (.unmute 1)) v) ∧
        ∀ v < 2, noUnmute (s .identify (.unmute 1)) v) ∧
      (((s .identify .poll).unit 1).mark = some .identify ∧
        (∀ v < 16, noMute (s .identify .poll) v ∧ noUnmute (s .identify .poll) v) ∧
        ∀ v < 1, ((s .identify .poll).unit v).mark = none) ∧
      ([0].headD 0 = 0 ∧ [9, 4].headD 0 ≤ 9 ∧ 9 < [10].headD 0) := by decide

theorem witness_Completions :
    let s := fun m => svc.withRdc { svc.rdc with onBus := some (1, m) }
    (s (.mute 3)).rdc.onBus = some (1, .mute 3) ∧ Mark.mute 3 ≠ .poll ∧ (s .poll).rdc.onBus = some (1, .poll) ∧
      (0xFE : Byte) = ~~~ (1 : Byte) ∧ (0xFF : Byte) ≠ ~~~ (1 : Byte) ∧ svc.rdc.onBus = none ∧
      (svc.unit 1).state = .serving ∧ (svc.unit 0).state = .absent ∧ svc.effectivePolicy = .serve ∧
      (muted true .muting).effectivePolicy = .mute ∧ (svc.unit 1).misses < 2 ∧ (2 : Nat) < 3 := by decide

/-- The invariants hold of a state that steps, with an OPEN gate and a path that names two links. -/
theorem witness_invariants :
    let s := ((on .active).setPath 4 .data ⟨[1, 3], none, .preparing 0 1 5, none⟩).withPending [.shipTimeTick]
    Canonical s ∧ PathShape s ∧ GateSound s ∧ RadioSafe s ∧ s.quota 5 = some quotaA ∧ ∃ t, step s = .next t := by
  refine ⟨by decide, fun r c => ?_, fun i v q hv hq ho => ?_, ?_, by decide, _, rfl⟩
  · by_cases h : 4 = r
    · subst h
      cases c
      · trivial
      · show (0 : Link) ≠ 1
        decide
      · trivial
    · have : ∀ t : Route, tget routeReset [(4, t)] r = routeReset := fun t => by simp [tget, h]
      simp only [State.path, State.route]
      erw [this]
      cases c <;> trivial
  · by_cases h : 5 = i
    · subst h
      cases hv
      cases hq
      decide
    · have : ∀ t : Slot, tget slotReset [(5, t)] i = slotReset := fun t => by simp [tget, h]
      simp only [State.visitor, State.slot] at hv
      erw [this] at hv
      cases hv
  · refine ⟨by decide, by decide, by decide, by decide, fun h => absurd h (by decide), fun h => absurd h (by decide), by decide⟩

theorem witness_DecodeEncode : ∃ bs, payloadOf (.detach ⟨3, 2, 10⟩ 0x0115) = some (⟨3, 2, 10⟩, kDetach, [0x01, 0x15]) ∧
    wellFormed (.detach ⟨3, 2, 10⟩ 0x0115) = true ∧ transactionOf (.detach ⟨3, 2, 10⟩ 0x0115) = some bs :=
  ⟨_, by decide, by decide, rfl⟩

/-- The kind byte of RESYNC, which is decoded with its tag BUSY too. -/
theorem witness_DecodeEncode_resync : (payloadOf (.resync ⟨3, 0, 6⟩)).map (·.2.1.code) = some 0x96#8 ∧
    wellFormed (.resync ⟨3, 0, 6⟩) = true ∧ (transactionOf (.resync ⟨3, 0, 6⟩)).isSome := by decide

end Sys2Proof.Tests
end

section
/-! PROOFS. TWRITE, TOPEN and TCOMMIT (R39–R42): the operands of a listed rate record, the list of records, the twelve
records of a plan after a write, and the three commands. -/

namespace Sys2Proof.Machine

/-! ### The answer of a command that clamps -/

/-- The code is OK just where nothing was clamped, CLAMPED otherwise. -/
theorem resultByte_okOrClamped {clamped : Bool} {p : Prop} [Decidable p] (h : clamped = false ↔ p) :
    resultByte (okOrClamped clamped) = if p then 0x00 else 0x01 := by
  cases clamped
  · rw [if_pos (h.mp rfl)]
    rfl
  · rw [if_neg (by simp [← h])]
    rfl

/-! ### The tariff zone and the traffic class of a byte -/

theorem tariffOf_eq_some {b : Byte} {z : TariffZone} : tariffOf b = some z ↔ b.toNat = z.val := by
  unfold tariffOf
  split
  · simp [Fin.ext_iff]
  · simp only [reduceCtorEq, false_iff]
    omega

theorem tariffOf_eq_none {b : Byte} : tariffOf b = none ↔ 3 < b.toNat := by
  unfold tariffOf
  split
  · simp only [reduceCtorEq, false_iff]
    omega
  · simp only [true_iff]
    omega

@[simp] theorem classOf_classByte (c : TrafficClass) : classOf (classByte c) = some c := by
  cases c <;> rfl

/-- A class byte either codes its one class or lies above the table of R217. -/
theorem classOf_cases (b : Byte) : (∃ c, b = classByte c) ∨ (2 < b.toNat ∧ classOf b = none) := by
  have coded (n : Nat) (hn : b.toNat = n) : b = BitVec.ofNat 8 n := by simp [← hn]
  unfold classOf
  split
  next h => exact .inl ⟨.voice, coded 0 h⟩
  next h => exact .inl ⟨.data, coded 1 h⟩
  next h => exact .inl ⟨.message, coded 2 h⟩
  next h0 h1 h2 =>
    have : b.toNat ≠ 0 ∧ b.toNat ≠ 1 ∧ b.toNat ≠ 2 := ⟨h0, h1, h2⟩
    exact .inr ⟨by omega, rfl⟩

theorem classOf_eq_some {b : Byte} {c : TrafficClass} : classOf b = some c ↔ b = classByte c := by
  refine ⟨fun h => ?_, fun h => by simp [h]⟩
  rcases classOf_cases b with ⟨c', rfl⟩ | ⟨-, hnone⟩
  · rw [classOf_classByte, Option.some.injEq] at h
    rw [h]
  · simp [hnone] at h

theorem classOf_eq_none {b : Byte} : classOf b = none ↔ 2 < b.toNat := by
  rcases classOf_cases b with ⟨c, rfl⟩ | ⟨habove, hnone⟩
  · rw [classOf_classByte]
    cases c <;> simp [classByte]
  · simp [habove, hnone]

theorem classByte_inj {c c' : TrafficClass} : classByte c = classByte c' ↔ c = c' := by
  rw [← classOf_eq_some, classOf_classByte, Option.some.injEq]

/-! ### One listed rate record -/

/-- A listed rate record as `rateOf` names it: its zone, its class, its values, and the mark that one was clamped. -/
abbrev NamedRate := TariffZone × TrafficClass × Rate × Bool

theorem rateOf_eq_none {r : RateField} : rateOf r = none ↔ 3 < r.zone.toNat ∨ 2 < r.cls.toNat := by
  rw [← tariffOf_eq_none, ← classOf_eq_none]
  unfold rateOf
  cases tariffOf r.zone <;> cases classOf r.cls <;> simp

/-- What a listed record stands for: its zone, its class, its values at the nearest limit of their ranges, and the mark
that one of them lay outside. -/
theorem rateOf_eq_some {r : RateField} {x : NamedRate} (h : rateOf r = some x) :
    r.zone.toNat = x.1.val ∧ r.cls = classByte x.2.1 ∧
      x.2.2.1 = ⟨max 1 r.step.toNat, min 1000000 r.price.toNat⟩ ∧
      (x.2.2.2 = false ↔ 1 ≤ r.step.toNat ∧ r.price.toNat ≤ 1000000) := by
  have hstep : r.step.toNat < 16777216 := r.step.isLt
  unfold rateOf at h
  split at h
  next z c hz hc =>
    cases h
    refine ⟨tariffOf_eq_some.mp hz, classOf_eq_some.mp hc, ?_, ?_⟩
    · simp only [clampNat, Rate.mk.injEq]
      omega
    · simp only [Bool.or_eq_false_iff, decide_eq_false_iff_not]
      unfold clampNat
      omega
  next => cases h

theorem rateOf_names_iff {r : RateField} {x : NamedRate} (h : rateOf r = some x) (z : TariffZone) (c : TrafficClass) :
    (r.zone.toNat = z.val ∧ r.cls = classByte c) ↔ (x.1 = z ∧ x.2.1 = c) := by
  obtain ⟨hz, hc, -, -⟩ := rateOf_eq_some h
  rw [hz, hc, classByte_inj, Fin.val_inj]

/-- Two listed records name the same tariff zone and class just where their bytes agree. -/
theorem rateOf_sameTarget_iff {a b : RateField} {x y : NamedRate} (ha : rateOf a = some x) (hb : rateOf b = some y) :
    (a.zone = b.zone ∧ a.cls = b.cls) ↔ (x.1 = y.1 ∧ x.2.1 = y.2.1) := by
  obtain ⟨hbz, hbc, -, -⟩ := rateOf_eq_some hb
  rw [← BitVec.toNat_inj, hbz, hbc, rateOf_names_iff ha]

/-! ### The list of rate records -/

theorem ratesOf_cons (r : RateField) (rs : List RateField) :
    ratesOf (r :: rs) = (rateOf r).bind fun x => (ratesOf rs).map (x :: ·) := by
  rw [ratesOf]
  cases rateOf r <;> cases ratesOf rs <;> rfl

theorem ratesOf_eq_none {rs : List RateField} :
    ratesOf rs = none ↔ ∃ r ∈ rs, 3 < r.zone.toNat ∨ 2 < r.cls.toNat := by
  induction rs with
  | nil => simp [ratesOf]
  | cons r rs ih =>
    rw [List.exists_mem_cons_iff, ← rateOf_eq_none, ← ih, ratesOf_cons]
    cases rateOf r <;> simp

/-- A list that is named throughout is named record by record. -/
theorem ratesOf_cons_eq_some {r : RateField} {rs : List RateField} {xs : List NamedRate}
    (h : ratesOf (r :: rs) = some xs) :
    ∃ x xs', rateOf r = some x ∧ ratesOf rs = some xs' ∧ xs = x :: xs' := by
  rw [ratesOf_cons] at h
  obtain ⟨x, hx, hxs⟩ := Option.bind_eq_some_iff.mp h
  obtain ⟨xs', hxs', rfl⟩ := Option.map_eq_some_iff.mp hxs
  exact ⟨x, xs', hx, hxs', rfl⟩

/-- A property of the listed records' bytes carries over to the named records, and back. -/
theorem ratesOf_forall_iff {rs : List RateField} {xs : List NamedRate} {p : RateField → Prop} {q : NamedRate → Prop}
    (hpq : ∀ r x, rateOf r = some x → (p r ↔ q x)) (h : ratesOf rs = some xs) : (∀ r ∈ rs, p r) ↔ ∀ x ∈ xs, q x := by
  induction rs generalizing xs with
  | nil => cases h; simp
  | cons r rs ih =>
    obtain ⟨x, xs', hx, hxs', rfl⟩ := ratesOf_cons_eq_some h
    rw [List.forall_mem_cons, List.forall_mem_cons, hpq r x hx, ih hxs']

theorem ratesDistinct_iff (xs : List NamedRate) :
    ratesDistinct xs = true ↔ xs.Pairwise fun x y => ¬ (x.1 = y.1 ∧ x.2.1 = y.2.1) := by
  induction xs with
  | nil => simp [ratesDistinct]
  | cons x xs ih =>
    rw [ratesDistinct, Bool.and_eq_true, List.pairwise_cons, ih, List.all_eq_true]
    simp only [Bool.not_eq_true', Bool.and_eq_false_iff, beq_eq_false_iff_ne, not_and_or]

section
variable {rs : List RateField} {xs : List NamedRate}

/-- No named record is marked clamped just where every listed value lies in its range. -/
theorem ratesOf_unclamped_iff (h : ratesOf rs = some xs) :
    xs.any (·.2.2.2) = false ↔ ∀ r ∈ rs, 1 ≤ r.step.toNat ∧ r.price.toNat ≤ 1000000 := by
  have hmark : ∀ r x, rateOf r = some x →
      ((1 ≤ r.step.toNat ∧ r.price.toNat ≤ 1000000) ↔ ¬ x.2.2.2 = true) := by
    intro r x hx
    obtain ⟨-, -, -, hmark⟩ := rateOf_eq_some hx
    rw [Bool.not_eq_true, hmark]
  rw [ratesOf_forall_iff hmark h, List.any_eq_false]

theorem ratesOf_distinct_iff (h : ratesOf rs = some xs) :
    ratesDistinct xs = true ↔ rs.Pairwise fun a b => ¬ (a.zone = b.zone ∧ a.cls = b.cls) := by
  rw [ratesDistinct_iff]
  induction rs generalizing xs with
  | nil => cases h; simp
  | cons r rs ih =>
    obtain ⟨x, xs', hx, hxs', rfl⟩ := ratesOf_cons_eq_some h
    have hhead := ratesOf_forall_iff (fun b y hy => not_congr (rateOf_sameTarget_iff hx hy)) hxs'
    rw [List.pairwise_cons, List.pairwise_cons, ih hxs', hhead]

end

/-! ### The twelve records of a plan after a write -/

theorem cget_qget_setRate (q : Quad (PerClass Rate)) (z z' : TariffZone) (c c' : TrafficClass) (v : Rate) :
    cget (qget (setRate q z c v) z') c' = if z = z' ∧ c = c' then v else cget (qget q z') c' := by
  unfold setRate
  by_cases hz : z = z'
  · subst hz
    simp [cget_cset]
  · simp [qget_qset_other, hz]

/-- The twelve records once every record of a list is replaced in turn. -/
def replaceRates (xs : List NamedRate) (q : Quad (PerClass Rate)) : Quad (PerClass Rate) :=
  xs.foldl (fun q x => setRate q x.1 x.2.1 x.2.2.1) q

theorem replaceRates_cons (x : NamedRate) (xs : List NamedRate) (q : Quad (PerClass Rate)) :
    replaceRates (x :: xs) q = replaceRates xs (setRate q x.1 x.2.1 x.2.2.1) := rfl

theorem replaceRates_unnamed {xs : List NamedRate} {z : TariffZone} {c : TrafficClass}
    (h : ∀ x ∈ xs, ¬ (x.1 = z ∧ x.2.1 = c)) (q : Quad (PerClass Rate)) :
    cget (qget (replaceRates xs q) z) c = cget (qget q z) c := by
  induction xs generalizing q with
  | nil => rfl
  | cons x xs ih =>
    obtain ⟨hx, hxs⟩ := List.forall_mem_cons.mp h
    rw [replaceRates_cons, ih hxs, cget_qget_setRate, if_neg hx]

/-- Where no two listed records name the same one, each replaces the one it names. -/
theorem replaceRates_named {xs : List NamedRate} (hd : ratesDistinct xs = true)
    {x : NamedRate} (hx : x ∈ xs) (q : Quad (PerClass Rate)) :
    cget (qget (replaceRates xs q) x.1) x.2.1 = x.2.2.1 := by
  rw [ratesDistinct_iff] at hd
  induction xs generalizing q with
  | nil => cases hx
  | cons y ys ih =>
    obtain ⟨hy, hys⟩ := List.pairwise_cons.mp hd
    rw [replaceRates_cons]
    rcases List.mem_cons.mp hx with rfl | hx
    · have hlater : ∀ w ∈ ys, ¬ (w.1 = x.1 ∧ w.2.1 = x.2.1) := fun w hw h => hy w hw ⟨h.1.symm, h.2.symm⟩
      rw [replaceRates_unnamed hlater, cget_qget_setRate, if_pos ⟨rfl, rfl⟩]
    · exact ih hys hx _

/-! ### TWRITE -/

/-- The operands of a TWRITE that R39 answers BAD_ARG: a plan, tariff zone or class out of range, or one rate record
listed twice. -/
def badRates (plan : Byte) (rs : List RateField) : Prop :=
  15 < plan.toNat ∨ (∃ r ∈ rs, 3 < r.zone.toNat ∨ 2 < r.cls.toNat) ∨
    ¬ rs.Pairwise (fun a b => ¬ (a.zone = b.zone ∧ a.cls = b.cls))

/-- The plan a TWRITE leaves: the named records written, and the factor given, if any, at the nearest limit (R39). -/
def writtenPlan (x : Plan) (given : Bool) (factor : BitVec 16) (xs : List NamedRate) : Plan :=
  { x with
    rates := replaceRates xs x.rates
    factor := if given then clampNat 0 1000 factor.toNat else x.factor }

section
variable {plan flags : Byte} {factor : BitVec 16} {rs : List RateField}

theorem doTwrite_bad (h : badRates plan rs) (s : State) : doTwrite plan flags factor rs s = reply .badArg s := by
  unfold doTwrite
  split
  next xs hxs =>
    have hzones : ¬ ∃ r ∈ rs, 3 < r.zone.toNat ∨ 2 < r.cls.toNat := by simp [← ratesOf_eq_none, hxs]
    have hrefused : 15 < plan.toNat ∨ !ratesDistinct xs := by
      rcases h with hplan | hbytes | htwice
      · exact .inl hplan
      · exact absurd hbytes hzones
      · rw [← ratesOf_distinct_iff hxs] at htwice
        exact .inr (by simpa using htwice)
    rw [if_pos hrefused]
  next => rfl

/-- Good operands name every listed record, and no record twice. -/
theorem ratesOf_of_not_bad (h : ¬ badRates plan rs) : ∃ xs, ratesOf rs = some xs ∧ ratesDistinct xs = true := by
  simp only [badRates, not_or, not_not] at h
  obtain ⟨-, hbytes, hdistinct⟩ := h
  rw [← ratesOf_eq_none, ← ne_eq, Option.ne_none_iff_exists'] at hbytes
  obtain ⟨xs, hxs⟩ := hbytes
  exact ⟨xs, hxs, (ratesOf_distinct_iff hxs).mpr hdistinct⟩

theorem doTwrite_ready (h : ¬ badRates plan rs) {s : State} (hstate : (s.plan plan.toNat).state = .ready) :
    doTwrite plan flags factor rs s = reply .state s := by
  obtain ⟨xs, hxs, hdistinct⟩ := ratesOf_of_not_bad h
  have hplan : ¬ 15 < plan.toNat := fun hplan => h (.inl hplan)
  simp [doTwrite, hxs, hdistinct, hplan, hstate]

/-- A TWRITE of good operands on a plan that is being edited: the plan is the written one, and the answer is CLAMPED just
where a listed value, or the factor given, lay outside its range (R39). -/
theorem doTwrite_editing {xs : List NamedRate} (hplan : ¬ 15 < plan.toNat)
    (hxs : ratesOf rs = some xs) (hdistinct : ratesDistinct xs = true) {s : State}
    (hstate : (s.plan plan.toNat).state = .editing) :
    let y := writtenPlan (s.plan plan.toNat) flags[0] factor xs
    doTwrite plan flags factor rs s =
      reply (okOrClamped (xs.any (·.2.2.2) || (flags[0] && decide (y.factor ≠ factor.toNat))))
        (s.setPlan plan.toNat y) := by
  have hgood : ¬ (15 < plan.toNat ∨ !ratesDistinct xs) := by simp [hplan, hdistinct]
  have hediting : ¬ (s.plan plan.toNat).state = .ready := by simp [hstate]
  simp only [doTwrite, hxs, if_neg hgood, if_neg hediting]
  rfl

theorem writtenPlan_factor (x : Plan) (given : Bool) (factor : BitVec 16) (xs : List NamedRate) :
    (writtenPlan x given factor xs).factor = if given then min 1000 factor.toNat else x.factor := by
  simp [writtenPlan, clampNat]

/-- A record a TWRITE lists takes the listed values, each at the nearest limit of its range (R39). -/
theorem planRate_writtenPlan_listed {xs : List NamedRate} (hxs : ratesOf rs = some xs)
    (hdistinct : ratesDistinct xs = true) (x : Plan) (given : Bool) (z : TariffZone) (c : TrafficClass) :
    ∀ r ∈ rs, (r.zone.toNat = z.val ∧ r.cls = classByte c) →
      planRate (writtenPlan x given factor xs) z c = ⟨max 1 r.step.toNat, min 1000000 r.price.toNat⟩ := by
  have hwritten : ∀ y ∈ xs, (y.1 = z ∧ y.2.1 = c) → planRate (writtenPlan x given factor xs) z c = y.2.2.1 := by
    rintro y hy ⟨rfl, rfl⟩
    exact replaceRates_named hdistinct hy x.rates
  refine (ratesOf_forall_iff (fun r y hy => ?_) hxs).mpr hwritten
  obtain ⟨-, -, hvalues, -⟩ := rateOf_eq_some hy
  rw [rateOf_names_iff hy, hvalues]

/-- A record a TWRITE does not list keeps its values (R39). -/
theorem planRate_writtenPlan_unlisted {xs : List NamedRate} (hxs : ratesOf rs = some xs)
    (x : Plan) (given : Bool) {z : TariffZone} {c : TrafficClass}
    (h : ∀ r ∈ rs, ¬ (r.zone.toNat = z.val ∧ r.cls = classByte c)) :
    planRate (writtenPlan x given factor xs) z c = planRate x z c :=
  replaceRates_unnamed ((ratesOf_forall_iff (fun _ _ hy => not_congr (rateOf_names_iff hy z c)) hxs).mp h) x.rates

/-- Nothing was clamped just where every listed value, and the factor where one is given, lies in its range. -/
theorem unclamped_iff {xs : List NamedRate} (hxs : ratesOf rs = some xs) (x : Plan) (given : Bool) :
    (xs.any (·.2.2.2) || (given && decide ((writtenPlan x given factor xs).factor ≠ factor.toNat))) = false ↔
      (∀ r ∈ rs, 1 ≤ r.step.toNat ∧ r.price.toNat ≤ 1000000) ∧ (given = true → factor.toNat ≤ 1000) := by
  rw [Bool.or_eq_false_iff, ratesOf_unclamped_iff hxs, writtenPlan_factor]
  refine and_congr_right fun _ => ?_
  cases given <;> simp

end

theorem exec_twrite_taken {f : Frame} {plan flags : Byte} {factor : BitVec 16} {rs : List RateField} {s : State}
    (h : Takes f (kTwrite rs.length) s) :
    exec (.twrite f plan flags factor rs) s =
      .next (deliver (kTwrite rs.length) f.tag (doTwrite plan flags factor rs (arrive f s))) :=
  congrArg Host.Outcome.next (request_taken _ h)

/-- Settles O18: the operands decide between BAD_ARG and the named records, and the written plan is read record by
record. -/
theorem writeRates : Obligations.WriteRates := by
  unfold Obligations.WriteRates
  intro f plan flags factor rs s htakes x bad inRange
  rw [exec_twrite_taken htakes]
  refine ⟨fun hbad => ?_, fun hgood hready => ?_, fun hgood hediting => ?_⟩
  · rw [doTwrite_bad hbad]
    rfl
  · rw [doTwrite_ready hgood (by rwa [arrive_plan])]
    rfl
  · obtain ⟨xs, hxs, hdistinct⟩ := ratesOf_of_not_bad hgood
    have hplan : ¬ 15 < plan.toNat := fun hplan => hgood (.inl hplan)
    have hunclamped : _ ↔ inRange := unclamped_iff hxs x flags[0]
    refine ⟨writtenPlan x flags[0] factor xs, _, ?_, rfl, hediting, rfl, rfl, writtenPlan_factor .., fun z c =>
      ⟨fun r hr hz hc => planRate_writtenPlan_listed hxs hdistinct x _ z c r hr ⟨hz, hc⟩,
        planRate_writtenPlan_unlisted hxs x _⟩⟩
    rw [doTwrite_editing hplan hxs hdistinct (by rwa [arrive_plan]), arrive_plan, deliver_reply,
      resultByte_okOrClamped hunclamped]
    rfl

/-! ### TOPEN -/

theorem exec_topen_taken {f : Frame} {plan : Byte} {s : State} (h : Takes f kTopen s) :
    exec (.topen f plan) s = .next (deliver kTopen f.tag (doTopen plan (arrive f s))) :=
  congrArg Host.Outcome.next (request_taken _ h)

/-- Settles O19, along the refusals of R40 in their order. -/
theorem openPlan : Obligations.OpenPlan := by
  unfold Obligations.OpenPlan
  intro f plan s htakes
  simp only [exec_topen_taken htakes, doTopen, arrive_plan]
  refine ⟨fun hplan => ?_, fun hplan hstate => ?_, fun hplan hstate hused => ?_, fun hplan hstate hunused => ?_⟩
  · rw [if_pos hplan]
    rfl
  · rw [if_neg (by omega), if_pos hstate]
    rfl
  · rw [if_neg (by omega), if_neg (by simp [hstate]), if_pos hused]
    rfl
  · rw [if_neg (by omega), if_neg (by simp [hstate]), if_neg (by omega)]
    rfl

/-! ### TCOMMIT -/

theorem exec_tcommit_taken {f : Frame} {plan : Byte} {check : BitVec 16} {s : State} (h : Takes f kTcommit s) :
    exec (.tcommit f plan check) s = .next (deliver kTcommit f.tag (doTcommit plan check (arrive f s))) :=
  congrArg Host.Outcome.next (request_taken _ h)

/-- Settles O20, along the checks of R42 in their order. -/
theorem commitPlan : Obligations.CommitPlan := by
  unfold Obligations.CommitPlan
  intro f plan check s htakes
  simp only [exec_tcommit_taken htakes, doTcommit, arrive_plan]
  refine ⟨fun hplan => ?_, fun hplan hstate => ?_, fun hplan hstate hequal => ?_, fun hplan hstate hother => ?_⟩
  · rw [if_pos hplan]
    rfl
  · rw [if_neg (by omega), if_pos hstate]
    rfl
  · rw [if_neg (by omega), if_neg (by simp [hstate]), if_pos hequal.symm]
    rfl
  · rw [if_neg (by omega), if_neg (by simp [hstate]), if_neg (Ne.symm hother)]
    rfl

end Sys2Proof.Machine
end

section
/-! PROOFS. UAREAD (R65). -/

namespace Sys2Proof.Machine

/-! ### UAREAD -/

theorem exec_uaread_taken {f : Frame} {s : State} (h : Takes f kUaread s) :
    exec (.uaread f) s = .next (deliver kUaread f.tag (doUaread (arrive f s))) :=
  congrArg Host.Outcome.next (request_taken _ h)

/-- Two records of volumes in one payload, written out as their eight counters. -/
theorem volumesBytes_append_volumesBytes (u e : Volumes) :
    volumesBytes u ++ volumesBytes e =
      beBytes 6 u.seconds ++ beBytes 6 u.up ++ beBytes 6 u.down ++ beBytes 6 u.messages ++
        beBytes 6 e.seconds ++ beBytes 6 e.up ++ beBytes 6 e.down ++ beBytes 6 e.messages := by
  simp only [volumesBytes, num, List.append_assoc]

/-- Settles O28: the arrival of the frame leaves the counters as they stand, so UAREAD reads and clears those of `s`. -/
theorem readUnattributed : Obligations.ReadUnattributed := by
  unfold Obligations.ReadUnattributed
  intro f s htakes
  rw [exec_uaread_taken htakes, doUaread, deliver_replyWith, arrive_chu, volumesBytes_append_volumesBytes]
  rfl

end Sys2Proof.Machine
end

section
/-! PROOFS. The commands by what they are: a request with its work, an event, or a raw transaction; and the one principle
by which an invariant is shown for every step. -/

namespace Sys2Proof.Machine

/-! ### Requests and events -/

/-- The frame, the kind and the work of a request, but for RESYNC, whose transaction is its own (R193, R197). -/
def workOf : Instr → Option (Frame × RequestKind × (State → Reply))
  | .admitVisitor f sid cls unit => some (f, kAdmit, doAdmit sid cls unit)
  | .refresh f handle unit => some (f, kRefresh, doRefresh handle unit)
  | .detach f handle => some (f, kDetach, doDetach handle)
  | .vread f sel name => some (f, kVread, doVread sel name)
  | .purge f scope hnc => some (f, kPurge, doPurge f.tag scope hnc)
  | .pset f p => some (f, kPset, doPset p)
  | .pdel f hnc => some (f, kPdel, doPdel hnc)
  | .pread f sel name => some (f, kPread, doPread sel name)
  | .twrite f plan flags factor records => some (f, kTwrite records.length, doTwrite plan flags factor records)
  | .topen f plan => some (f, kTopen, doTopen plan)
  | .tcommit f plan check => some (f, kTcommit, doTcommit plan check)
  | .tread f plan => some (f, kTread, doTread plan)
  | .usage f handle cls dir amount link => some (f, kUsage, doUsage handle cls dir amount link)
  | .aread f sel name => some (f, kAread, doAread sel name)
  | .settle f account => some (f, kSettle, doSettle account)
  | .collect f account => some (f, kCollect, doCollect account)
  | .uaread f => some (f, kUaread, doUaread)
  | .xfetch f => some (f, kXfetch, doXfetch)
  | .xanswer f ref result units validity final => some (f, kXanswer, doXanswer ref result units validity final)
  | .xfail f ref => some (f, kXfail, doXfail ref)
  | .lconf f c => some (f, kLconf, doLconf c)
  | .lenable f link => some (f, kLenable, doLenable link)
  | .ldisable f link => some (f, kLdisable, doLdisable link)
  | .lmeasure f link delay loss level => some (f, kLmeasure, doLmeasure link delay loss level)
  | .lloss f link => some (f, kLloss, doLloss link)
  | .lhold f link => some (f, kLhold, doLhold link)
  | .lrelease f link => some (f, kLrelease, doLrelease link)
  | .ldrill f link monitor duration => some (f, kLdrill, doLdrill link monitor duration)
  | .lread f link clear => some (f, kLread, doLread link clear)
  | .rconf f r => some (f, kRconf, doRconf r)
  | .rpin f route cls link => some (f, kRpin, doRpin route cls link)
  | .runpin f route cls => some (f, kRunpin, doRunpin route cls)
  | .hready f route cls link => some (f, kHready, doHready route cls link)
  | .hdone f route cls link => some (f, kHdone, doHdone route cls link)
  | .rread f route => some (f, kRread, doRread route)
  | .lookup f handle cls => some (f, kLookup, doLookup handle cls)
  | .navconf f divisor enable => some (f, kNavconf, doNavconf divisor enable)
  | .fixpost f east north quality => some (f, kFixpost, doFixpost east north quality)
  | .nread f => some (f, kNread, doNread)
  | .zset f z => some (f, kZset, doZset z)
  | .zread f zone => some (f, kZread, doZread zone)
  | .rmute f => some (f, kRmute, doRmute)
  | .rrelease f => some (f, kRrelease, doRrelease)
  | .ucmdExclude f unit => some (f, kUcmd, doExclude unit)
  | .ucmdInclude f unit => some (f, kUcmd, doInclude unit)
  | .ucmdProbe f unit => some (f, kUcmd, doProbe unit)
  | .uread f unit => some (f, kUread, doUread unit)
  | .start f => some (f, kStart, doStart f.tag)
  | .stop f => some (f, kStop, doStop)
  | .dset f d => some (f, kDset, doDset d)
  | .clock f time => some (f, kClock, doClock time)
  | .ident f clear => some (f, kIdent, doIdent clear)
  | .nfetch f => some (f, kNfetch, doNfetch)
  | _ => none

/-- What an event of the part does: an answer read, a device reset, the NAV line, the timers, the walk, the completions. -/
def eventOf : Instr → Option (State → State)
  | .answerRead clocked => some (settleOut clocked)
  | .navMessage bytes => some (fun s => bytes.foldl (fun s b => lineByte b s) s)
  | .navFramingError b => some (lineByte b)
  | .navBreak b => some (lineByte b)
  | .retireTimerExpiry slot => some (retireExpiry slot)
  | .grantExpiry slot => some (grantPasses slot)
  | .retryWaitExpiry slot => some (retryPasses slot)
  | .answerTimerExpiry entry => some (failExchange entry)
  | .staleTimerExpiry link => some (stalePasses link)
  | .holdTimerExpiry link => some (holdPasses link)
  | .drillTimerExpiry link => some (drillPasses link)
  | .prepareTimerExpiry route cls => some (preparePasses route cls)
  | .bicastTimerExpiry route cls => some (bicastPasses route cls)
  | .releaseTimerExpiry route cls => some (releasePasses route cls)
  | .commandAnswered wire => some (busAnswered wire)
  | .commandNoack failure wire => some (busNoack failure wire)
  | .pollAnswered first second wire => some (pollDone first second wire)
  | .pollNoack failure wire => some (pollFailed failure wire)
  | .navByte b => some (lineByte b)
  | .deviceReset => some (fun s => resetState (s.rdc.resets + 1) s.pending)
  | .fixEvaluation => some (takeFix)
  | .purgeWalkStep => some (purgeStep)
  | .positionStaleTimerExpiry => some (positionPasses)
  | .muteDeadlineExpiry => some (deadlinePasses)
  | .pollTimerExpiry => some (pollPasses)
  | .shipTimeTick => some (fun s => s.withRqp { s.rqp with shipTime := s.rqp.shipTime + 1 })
  | _ => none

theorem exec_of_workOf {i : Instr} {f : Frame} {k : RequestKind} {body : State → Reply} (h : workOf i = some (f, k, body))
    (s : State) : exec i s = .next (request f k body s) := by
  cases i <;> simp only [workOf, Option.some.injEq, Prod.mk.injEq, reduceCtorEq] at h <;> obtain ⟨rfl, rfl, rfl⟩ := h <;> rfl

theorem exec_of_eventOf {i : Instr} {g : State → State} (h : eventOf i = some g) (s : State) : exec i s = .next (g s) := by
  cases i <;> simp only [eventOf, Option.some.injEq, reduceCtorEq] at h <;> subst h <;> rfl

/-- A request whose frame is taken does its work on the state of its arrival and gives the answer. -/
theorem exec_taken {i : Instr} {f : Frame} {k : RequestKind} {body : State → Reply} (h : workOf i = some (f, k, body))
    {s : State} (ht : Takes f k s) : exec i s = .next (deliver k f.tag (body (arrive f s))) := by
  rw [exec_of_workOf h, request_taken body ht]

/-- A command with a payload is a request with its work, or RESYNC. -/
theorem workOf_of_payloadOf {i : Instr} {f : Frame} {k : RequestKind} {p : List Byte} (h : payloadOf i = some (f, k, p)) :
    (∃ body, workOf i = some (f, k, body)) ∨ (i = .resync f ∧ k = kResync) := by
  cases i <;> simp only [payloadOf, Option.some.injEq, Prod.mk.injEq, reduceCtorEq] at h <;> obtain ⟨rfl, rfl, rfl⟩ := h <;>
    first | exact .inl ⟨_, rfl⟩ | exact .inr ⟨rfl, rfl⟩

/-! ### What the raw side of the port runs -/

/-- What a command can do to the state: the work of a request, a request turned away by its kind alone, RESYNC, an event,
or a discarded frame. -/
inductive Meaning : (State → State) → Prop
  | work {i f k body} (h : workOf i = some (f, k, body)) : Meaning (request f k body)
  | turned (f k r) : Meaning (request f k (reply r))
  | resync (f) : Meaning (resync f)
  | event {i g} (h : eventOf i = some g) : Meaning g
  | discard (c n) : Meaning fun s => countDiscard c (settleOut n s)

/-- A frame names a request of the part, or none at all. -/
theorem requestOf_request {f : Frame} {kind : Byte} {p : List Byte} {i : Instr} (h : requestOf f kind p = .request i) :
    (∃ k body, workOf i = some (f, k, body)) ∨ i = .resync f := by
  unfold requestOf at h
  split at h <;> first
    | (cases h; done)
    | (cases h; exact .inl ⟨_, _, rfl⟩)
    | (cases h; exact .inr rfl)
    | skip
  split at h <;> first
    | (cases h; done)
    | (cases h; exact .inl ⟨_, _, rfl⟩)

/-- The run of a decoded request is its own row. -/
theorem runRequest_eq_exec {i : Instr} (h : (payloadOf i).isSome) (s : State) : runRequest i s = exec i s := by
  cases i <;> first | rfl | cases h

theorem isSome_payloadOf_of_workOf {i : Instr} {f : Frame} {k : RequestKind} {body : State → Reply}
    (h : workOf i = some (f, k, body)) : (payloadOf i).isSome := by
  cases i <;> first | rfl | cases h

theorem takeFrame_meaning (f : Frame) (kind : Byte) (p : List Byte) (s : State) :
    ∃ g, Meaning g ∧ takeFrame f kind p s = .next (g s) := by
  unfold takeFrame
  split
  case h_1 i hi =>
    rcases requestOf_request hi with ⟨k, body, hw⟩ | rfl
    · rw [runRequest_eq_exec (isSome_payloadOf_of_workOf hw), exec_of_workOf hw]
      exact ⟨_, .work hw, rfl⟩
    · exact ⟨_, .resync f, rfl⟩
  case h_2 => exact ⟨_, .turned f kUcmd .badArg, rfl⟩
  case h_3 => exact ⟨_, .turned f ⟨kind, f.len⟩ .unknown, rfl⟩

/-- Every command is of one of these forms. -/
theorem command_cases (i : Instr) :
    (∃ f k body, workOf i = some (f, k, body)) ∨ (∃ f, i = .resync f) ∨ (∃ g, eventOf i = some g) ∨
      (∃ tag n kind p, i = .unknownRequest tag n kind p) ∨ ∃ bs, i = .frameDiscard bs := by
  cases i <;> first
    | exact .inl ⟨_, _, _, rfl⟩
    | exact .inr (.inl ⟨_, rfl⟩)
    | exact .inr (.inr (.inl ⟨_, rfl⟩))
    | exact .inr (.inr (.inr (.inl ⟨_, _, _, _, rfl⟩)))
    | exact .inr (.inr (.inr (.inr ⟨_, rfl⟩)))

/-- Every command has a meaning, and it is one of these. -/
theorem exec_meaning (i : Instr) (s : State) : ∃ g, Meaning g ∧ exec i s = .next (g s) := by
  rcases command_cases i with ⟨f, k, body, hw⟩ | ⟨f, rfl⟩ | ⟨g, he⟩ | ⟨tag, n, kind, p, rfl⟩ | ⟨bs, rfl⟩
  · exact ⟨_, .work hw, exec_of_workOf hw s⟩
  · exact ⟨_, .resync f, rfl⟩
  · exact ⟨g, .event he, exec_of_eventOf he s⟩
  · exact takeFrame_meaning ..
  · simp only [exec, execFrameDiscard]
    split
    · exact ⟨_, .event (i := .answerRead bs.length) rfl, rfl⟩
    next c _ => exact ⟨_, .discard c bs.length, rfl⟩
    · exact takeFrame_meaning ..

/-! ### The principle -/

/-- A state that differs in its port alone: the mode and the settings stand, and the tag table is as canonical as it was. -/
structure PortOnly (s t : State) : Prop where
  rest : t = s.withRqp t.rqp
  mode : t.rqp.mode = s.rqp.mode
  settings : t.rqp.settings = s.rqp.settings
  busy : canonical false s.rqp.busy = true → canonical false t.rqp.busy = true

theorem PortOnly.trans {s t u : State} (h : PortOnly s t) (h' : PortOnly t u) : PortOnly s u where
  rest := by rw [h'.rest, h.rest]; rfl
  mode := h'.mode.trans h.mode
  settings := h'.settings.trans h.settings
  busy hc := h'.busy (h.busy hc)

theorem portOnly_setTag (t : Fin 16) (b : Bool) (s : State) : PortOnly s (setTag t b s) :=
  ⟨rfl, rfl, rfl, canonical_tset _ _⟩

theorem portOnly_pushAnswer (k : Byte) (t : Fin 16) (p : List Byte) (s : State) : PortOnly s (pushAnswer k t p s) :=
  ⟨rfl, rfl, rfl, id⟩

theorem portOnly_countDiscard (c : DiscardCount) (s : State) : PortOnly s (countDiscard c s) := by
  cases c <;> exact ⟨rfl, rfl, rfl, id⟩

theorem portOnly_settleOut (n : Nat) (s : State) : PortOnly s (settleOut n s) := by
  unfold settleOut
  split
  · exact ⟨rfl, rfl, rfl, id⟩
  · split
    · refine .trans ?_ (portOnly_setTag ..)
      exact ⟨rfl, rfl, rfl, id⟩
    · exact ⟨rfl, rfl, rfl, id⟩

theorem portOnly_arrive (f : Frame) (s : State) : PortOnly s (arrive f s) :=
  (portOnly_settleOut ..).trans (portOnly_setTag ..)

theorem portOnly_deliver (k : RequestKind) (t : Fin 16) (r : Reply) : PortOnly r.1 (deliver k t r) := by
  obtain ⟨s, p⟩ := r
  cases p
  · exact ⟨rfl, rfl, rfl, id⟩
  · exact portOnly_pushAnswer ..

/-- What keeps an invariant of the part, kind of command by kind of command. -/
structure Kept (P : State → Prop) : Prop where
  port : ∀ {s t}, PortOnly s t → P s → P t
  queue : ∀ {s} q, P s → P (s.withPending q)
  work : ∀ {i f k body s}, workOf i = some (f, k, body) → P s → P (body s).1
  resync : ∀ {s}, P s → P (resynchronize s)
  event : ∀ {i g s}, eventOf i = some g → P s → P (g s)
  tick : ∀ {s}, P s → P (tick s)

theorem Kept.request {P : State → Prop} (h : Kept P) {f : Frame} {k : RequestKind} {body : State → Reply}
    (hbody : ∀ {s}, P s → P (body s).1) {s : State} (hs : P s) : P (request f k body s) := by
  have harrive : P (arrive f s) := h.port (portOnly_arrive f s) hs
  unfold Machine.request
  split
  · exact h.port ((portOnly_settleOut ..).trans (portOnly_countDiscard ..)) hs
  · split
    · exact h.port ((portOnly_settleOut ..).trans (portOnly_countDiscard ..)) hs
    · split
      · exact h.port (portOnly_deliver ..) harrive
      · exact h.port (portOnly_deliver ..) (hbody harrive)

theorem Kept.resyncFrame {P : State → Prop} (h : Kept P) (f : Frame) {s : State} (hs : P s) : P (Machine.resync f s) := by
  unfold Machine.resync
  split
  · exact h.port ((portOnly_settleOut ..).trans (portOnly_countDiscard ..)) hs
  · split
    · exact h.port (portOnly_deliver ..) (h.port (portOnly_arrive f s) hs)
    · exact h.port ((portOnly_setTag ..).trans (portOnly_pushAnswer ..)) (h.resync (h.port (portOnly_settleOut ..) hs))

theorem Kept.meaning {P : State → Prop} (h : Kept P) {g : State → State} (hg : Meaning g) {s : State} (hs : P s) :
    P (g s) := by
  cases hg with
  | work hw => exact h.request (h.work hw) hs
  | turned f k r => exact h.request id hs
  | resync f => exact h.resyncFrame f hs
  | event he => exact h.event he hs
  | discard c n => exact h.port ((portOnly_settleOut ..).trans (portOnly_countDiscard ..)) hs

/-- An invariant that every kind of command keeps is kept by every step. -/
theorem Kept.step {P : State → Prop} (h : Kept P) {s t : State} (hs : P s) (hstep : step s = .next t) : P t := by
  unfold Machine.step at hstep
  split at hstep
  · obtain rfl : idle s = t := by simpa using hstep
    unfold idle
    split
    · exact h.queue _ hs
    · exact h.tick hs
  next c rest _ =>
    obtain ⟨g, hg, hexec⟩ := exec_meaning c (s.withPending rest)
    obtain rfl : g (s.withPending rest) = t := by simpa [hexec] using hstep
    exact h.meaning hg (h.queue rest hs)

end Sys2Proof.Machine
end

section
/-! PROOFS. The canonical form of the tables (O56): one lemma for each operation, in the order of the model. -/

namespace Sys2Proof.Machine

/-- The canonical form of the nine tables, each under its name. -/
structure Canon (s : State) : Prop where
  busy : canonical false s.rqp.busy = true
  slots : canonical slotReset s.vrg.slots = true
  partners : canonical none s.chu.partners = true
  plans : canonical planReset s.chu.plans = true
  accounts : canonical none s.chu.accounts = true
  entries : canonical xentryReset s.qxu.entries = true
  routes : canonical routeReset s.rte.routes = true
  zones : canonical zoneReset s.zne.zones = true
  units : canonical unitReset s.rdc.units = true

theorem canon_iff (s : State) : Canon s ↔ Canonical s :=
  ⟨fun ⟨h1, h2, h3, h4, h5, h6, h7, h8, h9⟩ => ⟨h1, h2, h3, h4, h5, h6, h7, h8, h9⟩,
    fun ⟨h1, h2, h3, h4, h5, h6, h7, h8, h9⟩ => ⟨h1, h2, h3, h4, h5, h6, h7, h8, h9⟩⟩

variable {s : State}

/-! ### The updates of the state -/

theorem canon_portOnly {t : State} (hp : PortOnly s t) (h : Canon s) : Canon t := by
  rw [hp.rest]
  exact { h with busy := hp.busy h.busy }

theorem canon_withRqp {b : Rqp} (hb : b.busy = s.rqp.busy) (h : Canon s) : Canon (s.withRqp b) :=
  { h with busy := (congrArg (canonical false) hb).trans h.busy }

theorem canon_withVrg {b : Vrg} (hb : b.slots = s.vrg.slots) (h : Canon s) : Canon (s.withVrg b) :=
  { h with slots := (congrArg (canonical slotReset) hb).trans h.slots }

theorem canon_withChu {b : Chu} (hp : b.partners = s.chu.partners) (hl : b.plans = s.chu.plans)
    (ha : b.accounts = s.chu.accounts) (h : Canon s) : Canon (s.withChu b) :=
  { h with
    partners := (congrArg (canonical none) hp).trans h.partners
    plans := (congrArg (canonical planReset) hl).trans h.plans
    accounts := (congrArg (canonical none) ha).trans h.accounts }

theorem canon_withQxu {b : Qxu} (hb : b.entries = s.qxu.entries) (h : Canon s) : Canon (s.withQxu b) :=
  { h with entries := (congrArg (canonical xentryReset) hb).trans h.entries }

theorem canon_withZne {b : Zne} (hb : b.zones = s.zne.zones) (h : Canon s) : Canon (s.withZne b) :=
  { h with zones := (congrArg (canonical zoneReset) hb).trans h.zones }

theorem canon_withRdc {b : Rdc} (hb : b.units = s.rdc.units) (h : Canon s) : Canon (s.withRdc b) :=
  { h with units := (congrArg (canonical unitReset) hb).trans h.units }

theorem canon_withBase (b : TimeBase) (h : Canon s) : Canon (s.withBase b) := { h with }

theorem canon_withPending (q : List Instr) (h : Canon s) : Canon (s.withPending q) := { h with }

theorem canon_setSlot (i : Nat) (v : Slot) (h : Canon s) : Canon (s.setSlot i v) :=
  { h with slots := canonical_tset i v h.slots }

theorem canon_setPartner (i : Nat) (v : Option Partner) (h : Canon s) : Canon (s.setPartner i v) :=
  { h with partners := canonical_tset i v h.partners }

theorem canon_setPlan (i : Nat) (v : Plan) (h : Canon s) : Canon (s.setPlan i v) :=
  { h with plans := canonical_tset i v h.plans }

theorem canon_setAccount (i : Nat) (v : Option Account) (h : Canon s) : Canon (s.setAccount i v) :=
  { h with accounts := canonical_tset i v h.accounts }

theorem canon_setEntry (i : Nat) (v : XEntry) (h : Canon s) : Canon (s.setEntry i v) :=
  { h with entries := canonical_tset i v h.entries }

theorem canon_setLink (i : Link) (v : LinkRec) (h : Canon s) : Canon (s.setLink i v) := { h with }

theorem canon_setRoute (i : Nat) (v : Route) (h : Canon s) : Canon (s.setRoute i v) :=
  { h with routes := canonical_tset i v h.routes }

theorem canon_setZone (i : Nat) (v : Zone) (h : Canon s) : Canon (s.setZone i v) :=
  { h with zones := canonical_tset i v h.zones }

theorem canon_setUnit (i : Nat) (v : UnitRec) (h : Canon s) : Canon (s.setUnit i v) :=
  { h with units := canonical_tset i v h.units }

theorem canon_updVisitor (i : Nat) (g : Visitor → Visitor) (h : Canon s) : Canon (s.updVisitor i g) := by
  unfold State.updVisitor
  split
  · exact canon_setSlot _ _ h
  · exact h

theorem canon_updQuota (i : Nat) (g : Quota → Quota) (h : Canon s) : Canon (s.updQuota i g) := canon_updVisitor _ _ h

theorem canon_setPath (r : Nat) (c : TrafficClass) (p : Path) (h : Canon s) : Canon (s.setPath r c p) := canon_setRoute _ _ h

theorem canon_setNav (n : Nav) (h : Canon s) : Canon (s.setNav n) := canon_withZne rfl h

theorem canon_setPos (p : Position) (h : Canon s) : Canon (s.setPos p) := canon_withZne rfl h

theorem canon_giveNotice (k : NoticeKind) (j : Subject) (d v1 v2 v3 v4 v5 : Byte) (h : Canon s) :
    Canon (giveNotice k j d v1 v2 v3 v4 v5 s) := by
  unfold giveNotice
  split <;> exact canon_withRqp rfl h

theorem canon_answerInFlight (k : Byte) (r : InFlight) (p : List Byte) (h : Canon s) : Canon (answerInFlight k r p s) := by
  unfold answerInFlight
  split
  · exact h
  · exact canon_withRqp rfl h

/-- A fold over any list keeps the form where each of its steps does. -/
theorem canon_foldl {β : Type} {f : State → β → State} (hf : ∀ {s} b, Canon s → Canon (f s b)) (l : List β) {s : State}
    (h : Canon s) : Canon (l.foldl f s) := by
  induction l generalizing s with
  | nil => exact h
  | cons b l ih => exact ih (hf b h)

/-- So does a fold that counts beside the state. -/
theorem canon_foldl_fst {β γ : Type} {f : State × γ → β → State × γ} (hf : ∀ a b, Canon a.1 → Canon (f a b).1) (l : List β)
    {a : State × γ} (h : Canon a.1) : Canon (l.foldl f a).1 := by
  induction l generalizing a with
  | nil => exact h
  | cons b l ih => exact ih (hf a b h)

/-! ### Accounts, partners and plans -/

theorem canon_accountTaken (h : Canon s) : Canon (accountTaken s) := by
  unfold accountTaken
  extract_lets n b s1
  have h1 : Canon s1 := canon_withChu rfl rfl rfl h
  split
  · exact canon_giveNotice _ _ _ _ _ _ _ _ (canon_withChu rfl rfl rfl h1)
  · exact h1

theorem canon_accountFreed (h : Canon s) : Canon (accountFreed s) := canon_withChu rfl rfl rfl h

theorem canon_commitAccount (i : Nat) (a : Account) (hit : Bool) (h : Canon s) : Canon (commitAccount i a hit s) := by
  unfold commitAccount
  extract_lets s1
  have h1 : Canon s1 := canon_setAccount _ _ h
  split
  · exact canon_giveNotice _ _ _ _ _ _ _ _ h1
  · exact h1

theorem canon_updAccount (i : Nat) (g : Account → Account) (h : Canon s) : Canon (s.updAccount i g) := by
  unfold State.updAccount
  split
  · exact canon_setAccount _ _ h
  · exact h

theorem canon_ratePost (i : Nat) (p : Option Partner) (c : TrafficClass) (up : Bool) (n : Nat) (l : Link) (h : Canon s) :
    Canon (ratePost i p c up n l s).1 := by
  unfold ratePost
  split
  · exact canon_commitAccount _ _ _ h
  · exact h

theorem canon_closeOut (i : Nat) (p : Option Partner) (h : Canon s) : Canon (closeOut i p s).1 := by
  unfold closeOut
  split
  · exact canon_commitAccount _ _ _ h
  · exact h

theorem canon_takeAccount (i : Nat) (sid hnc : Digits) (h : Canon s) : Canon (takeAccount i sid hnc s) := by
  unfold takeAccount
  split
  · exact canon_setAccount _ _ h
  · exact canon_accountTaken (canon_setAccount _ _ h)

theorem canon_updVisitors (p : Option Nat) (g : Nat → Nat) (h : Canon s) : Canon (s.updVisitors p g) := by
  unfold State.updVisitors
  repeat' split
  all_goals simp only [h, canon_setPartner]

theorem canon_updPlanCount (i : Nat) (g : Nat → Nat) (h : Canon s) : Canon (s.updPlanCount i g) := canon_setPlan _ _ h

/-! ### Exchanges and the gate -/

theorem canon_exchangeNotice (i : Nat) (h : Canon s) : Canon (exchangeNotice i s) := by
  unfold exchangeNotice
  split
  · exact canon_giveNotice _ _ _ _ _ _ _ _ h
  · exact h

theorem canon_noticeToSend (i : Nat) (h : Canon s) : Canon (noticeToSend i s) := by
  unfold noticeToSend
  split
  · exact canon_exchangeNotice _ h
  · exact canon_withQxu rfl h

theorem canon_giveOwed (h : Canon s) : Canon (giveOwed s) := by
  unfold giveOwed
  extract_lets b s1
  have h1 : Canon s1 := canon_withQxu rfl h
  repeat' split
  all_goals simp only [h, h1, canon_exchangeNotice]

theorem canon_createExchange (i slot : Nat) (k : XKind) (h : Canon s) : Canon (createExchange i slot k s) :=
  canon_noticeToSend _ (canon_updVisitor _ _ (canon_withQxu rfl (canon_setEntry _ _ h)))

theorem canon_requestExchange (slot : Nat) (k : XKind) (h : Canon s) : Canon (requestExchange slot k s) := by
  unfold requestExchange
  split
  · exact canon_createExchange _ _ _ h
  · exact canon_updVisitor _ _ (canon_withQxu rfl h)

theorem canon_serveDeferred (i : Nat) (h : Canon s) : Canon (serveDeferred i s) := by
  unfold serveDeferred
  split
  · exact canon_createExchange _ _ _ (canon_withQxu rfl h)
  · exact h

theorem canon_freeEntry (i : Nat) (h : Canon s) : Canon (freeEntry i s) := by
  unfold freeEntry
  split
  · exact canon_serveDeferred _ (canon_updVisitor _ _ (canon_withQxu rfl (canon_setEntry _ _ h)))
  · exact h

theorem canon_leaveDeferred (slot : Nat) (h : Canon s) : Canon (leaveDeferred slot s) :=
  canon_updVisitor _ _ (canon_withQxu rfl h)

theorem canon_shutGate (slot : Nat) (c : Byte) (h : Canon s) : Canon (shutGate slot c s) := by
  unfold shutGate
  extract_lets s1
  have h1 : Canon s1 := canon_updQuota _ _ h
  repeat' split
  all_goals simp only [h, h1, canon_giveNotice]

theorem canon_gateEvaluation (slot : Nat) (h : Canon s) : Canon (gateEvaluation slot s) := by
  unfold gateEvaluation
  repeat' split
  all_goals simp only [h, canon_updQuota, canon_requestExchange, canon_shutGate]

theorem canon_reorderCheck (slot : Nat) (h : Canon s) : Canon (reorderCheck slot s) := by
  unfold reorderCheck
  repeat' split
  all_goals simp only [h, canon_requestExchange]

theorem canon_quotaCharge (slot n : Nat) (h : Canon s) : Canon (quotaCharge slot n s) := by
  unfold quotaCharge
  extract_lets s1
  have h1 : Canon s1 := canon_updQuota _ _ h
  repeat' split
  all_goals simp only [h1, canon_gateEvaluation, canon_reorderCheck]

theorem canon_becameActive (slot : Nat) (h : Canon s) : Canon (becameActive slot s) := by
  unfold becameActive
  repeat' split
  all_goals simp only [h, canon_gateEvaluation, canon_requestExchange]

theorem canon_stopQuota (slot : Nat) (h : Canon s) : Canon (stopQuota slot s) := canon_updQuota _ _ h

theorem canon_lowerUnreported (i : Nat) (r : Option Nat) (h : Canon s) : Canon (lowerUnreported i r s) :=
  canon_updAccount _ _ h

/-! ### The visitor register -/

theorem canon_activity (slot : Nat) (h : Canon s) : Canon (activity slot s) := canon_updVisitor _ _ (canon_withVrg rfl h)

theorem canon_suspend (slot : Nat) (h : Canon s) : Canon (suspend slot s) := canon_updVisitor _ _ h

theorem canon_activate (slot : Nat) (h : Canon s) : Canon (activate slot s) := canon_updVisitor _ _ h

theorem canon_becomeFree (slot : Nat) (h : Canon s) : Canon (becomeFree slot s) := by
  unfold becomeFree
  split
  · exact canon_updVisitors _ _ (canon_setSlot _ _ h)
  · exact h

theorem canon_retireSteps (slot : Nat) (r : RetireReason) (h : Canon s) : Canon (retireSteps slot r s) := by
  unfold retireSteps
  extract_lets e s1 s2 s3 b s4 s5
  have h2 : Canon s2 := by
    have h1 : Canon s1 := canon_setSlot _ _ h
    unfold s2
    split
    · exact canon_freeEntry _ h1
    · exact h1
  have h5 : Canon s5 := canon_stopQuota _ (canon_updVisitor _ _ (canon_withVrg rfl (canon_leaveDeferred _ h2)))
  split
  · split
    · exact h5
    · exact canon_updAccount _ _ (canon_closeOut _ _ h5)
  · exact h5

theorem canon_departOrFree (slot : Nat) (h : Canon s) : Canon (departOrFree slot s) := by
  unfold departOrFree
  extract_lets s1
  have h1 : Canon s1 := canon_updVisitor _ _ h
  repeat' split
  all_goals simp only [h, h1, canon_requestExchange, canon_freeEntry, canon_becomeFree]

theorem canon_retire (slot : Nat) (r : RetireReason) (h : Canon s) : Canon (retire slot r s) := by
  unfold retire
  extract_lets s1
  have h1 : Canon s1 := canon_departOrFree _ (canon_retireSteps _ _ h)
  split
  · exact canon_giveNotice _ _ _ _ _ _ _ _ h1
  · exact h1

theorem canon_evict (slot : Nat) (h : Canon s) : Canon (evict slot s) := by
  unfold evict
  extract_lets s1 s2 s3
  have h1 : Canon s1 := canon_retireSteps _ _ h
  have h2 : Canon s2 := by
    unfold s2
    split
    · exact canon_updAccount _ _ h1
    · exact h1
  have h3 : Canon s3 := by
    unfold s3
    split
    · exact canon_freeEntry _ (canon_becomeFree _ h2)
    · exact canon_becomeFree _ h2
  exact canon_giveNotice _ _ _ _ _ _ _ _ h3

theorem canon_startOfMuting (h : Canon s) : Canon (startOfMuting s).1 := by
  refine canon_foldl_fst (fun a i ha => ?_) _ h
  split <;> simp only [canon_suspend, canon_retire, ha]

theorem canon_suspendUnit (u : Nat) (h : Canon s) : Canon (suspendUnit u s).1 := by
  refine canon_foldl_fst (fun a i ha => ?_) _ h
  repeat' split
  all_goals simp only [canon_suspend, ha]

theorem canon_authorizationAdmit (slot : Nat) (b : Byte) (h : Canon s) : Canon (authorizationAdmit slot b s) := by
  unfold authorizationAdmit
  split
  · refine canon_giveNotice _ _ _ _ _ _ _ _ ?_
    split
    · exact canon_becameActive _ (canon_activate _ h)
    · exact canon_gateEvaluation _ (canon_suspend _ h)
  · exact h

theorem canon_finalAfterQuota (slot : Nat) (h : Canon s) : Canon (finalAfterQuota slot s) := by
  unfold finalAfterQuota finalReportingEnd
  split
  · exact canon_becomeFree _ h
  · exact canon_becomeFree _ h
  · exact canon_requestExchange _ _ h

theorem canon_applyGrant (x : Exchange) (u v : Nat) (f : Bool) (h : Canon s) : Canon (applyGrant x u v f s) := by
  unfold applyGrant
  extract_lets s1 s2
  have h1 : Canon s1 := canon_lowerUnreported _ _ h
  split
  · exact canon_finalAfterQuota _ h1
  · exact canon_gateEvaluation _ (canon_reorderCheck _ (canon_updQuota _ _ h1))

theorem canon_refuseQuota (slot : Nat) (c : Byte) (h : Canon s) : Canon (refuseQuota slot c s) :=
  canon_shutGate _ _ (canon_updQuota _ _ h)

theorem canon_applyDeny (x : Exchange) (h : Canon s) : Canon (applyDeny x s) := by
  unfold applyDeny
  extract_lets s1
  have h1 : Canon s1 := canon_lowerUnreported _ _ h
  split
  · exact canon_finalAfterQuota _ h1
  · exact canon_refuseQuota _ _ h1

theorem canon_applyAck (x : Exchange) (h : Canon s) : Canon (applyAck x s) :=
  canon_becomeFree _ (canon_lowerUnreported _ _ h)

theorem canon_applySecondFailure (x : Exchange) (h : Canon s) : Canon (applySecondFailure x s) := by
  unfold applySecondFailure finalReportingEnd
  repeat' split
  all_goals simp only [h, canon_authorizationAdmit, canon_retire, canon_finalAfterQuota, canon_refuseQuota, canon_becomeFree,
    canon_updAccount]

theorem canon_requeue (i : Nat) (x : Exchange) (h : Canon s) : Canon (requeue i x s) :=
  canon_noticeToSend _ (canon_updVisitor _ _ (canon_withQxu rfl (canon_setEntry _ _ h)))

theorem canon_failExchange (i : Nat) (h : Canon s) : Canon (failExchange i s) := by
  unfold failExchange
  repeat' split
  all_goals simp only [h, canon_applySecondFailure, canon_freeEntry, canon_requeue]

theorem canon_linksLeave (lost : Link → Bool) (h : Canon s) : Canon (linksLeave lost s) := by
  refine canon_foldl (fun i h => ?_) _ h
  repeat' split
  all_goals simp only [h, canon_failExchange]

/-! ### Paths and links -/

theorem canon_movePath (r : Nat) (c : TrafficClass) (st : PathState) (m : Option MoveReason) (d : Byte) (a b : Option Link)
    (h : Canon s) : Canon (movePath r c st m d a b s) := canon_giveNotice _ _ _ _ _ _ _ _ (canon_setPath _ _ _ h)

theorem canon_startPreparing (r : Nat) (c : TrafficClass) (a b : Link) (m : MoveReason) (h : Canon s) :
    Canon (startPreparing r c a b m s) := canon_movePath _ _ _ _ _ _ _ h

theorem canon_hardSwitch (r : Nat) (c : TrafficClass) (t : Option Link) (m : Option MoveReason) (h : Canon s) :
    Canon (hardSwitch r c t m s) := by
  cases t <;> exact canon_movePath _ _ _ _ _ _ _ h

theorem canon_enterReleasing (r : Nat) (c : TrafficClass) (a b : Link) (h : Canon s) : Canon (enterReleasing r c a b s) :=
  canon_movePath _ _ _ _ _ _ _ h

theorem canon_reselectSteady (r : Nat) (c : TrafficClass) (a : Link) (m : MoveReason) (h : Canon s) :
    Canon (reselectSteady r c a m s) := by
  unfold reselectSteady
  repeat' split
  all_goals simp only [h, canon_startPreparing, canon_hardSwitch]

theorem canon_enterSteady (r : Nat) (c : TrafficClass) (a : Link) (h : Canon s) : Canon (enterSteady r c a s) :=
  canon_reselectSteady _ _ _ _ (canon_setPath _ _ _ h)

theorem canon_abandon (r : Nat) (c : TrafficClass) (a b : Link) (h : Canon s) : Canon (abandon r c a b s) :=
  canon_enterSteady _ _ _ (canon_movePath _ _ _ _ _ _ _ h)

theorem canon_reselect (r : Nat) (c : TrafficClass) (m : MoveReason) (h : Canon s) : Canon (reselect r c m s) := by
  unfold reselect
  dsimp only
  repeat' split
  all_goals simp only [h, canon_reselectSteady, canon_startPreparing, canon_hardSwitch, canon_abandon, canon_enterReleasing]

theorem canon_reselectRoute (r : Nat) (m : MoveReason) (h : Canon s) : Canon (reselectRoute r m s) :=
  canon_foldl (fun _ h => canon_reselect _ _ _ h) _ h

theorem canon_reselectAll (m : MoveReason) (h : Canon s) : Canon (reselectAll m s) :=
  canon_foldl (fun _ h => canon_reselectRoute _ _ h) _ h

theorem canon_changeLink (i : Link) (l : LinkRec) (c : LinkCause) (h : Canon s) : Canon (changeLink i l c s) := by
  unfold changeLink
  extract_lets old l' s1 s2
  have h1 : Canon s1 := canon_giveNotice _ _ _ _ _ _ _ _ (canon_setLink _ _ h)
  refine canon_reselectAll _ ?_
  unfold s2
  repeat' split
  all_goals simp only [h1, canon_linksLeave, canon_giveOwed]

theorem canon_endHold (i : Link) (h : Canon s) : Canon (endHold i s) := canon_changeLink _ _ _ h

theorem canon_holdForFailure (i : Link) (c : LinkCause) (h : Canon s) : Canon (holdForFailure i c s) := by
  unfold holdForFailure
  extract_lets l s1
  have h1 : Canon s1 := canon_changeLink _ _ _ h
  split
  · exact canon_endHold _ h1
  · exact h1

theorem canon_evaluateLink (i : Link) (h : Canon s) : Canon (evaluateLink i s) := by
  unfold evaluateLink
  extract_lets l
  repeat' split
  all_goals simp only [h, canon_changeLink]

theorem canon_judgeProbe (i : Link) (b : Bool) (h : Canon s) : Canon (judgeProbe i b s) := by
  unfold judgeProbe
  extract_lets l
  repeat' split
  all_goals simp only [h, canon_changeLink, canon_setLink]

theorem canon_actOnMeasurement (i : Link) (b : Bool) (h : Canon s) : Canon (actOnMeasurement i b s) := by
  unfold actOnMeasurement
  repeat' split
  all_goals simp only [h, canon_judgeProbe, canon_evaluateLink]

/-! ### Radio units and the cell bus -/

theorem canon_placeMark (u : Nat) (m : Mark) (h : Canon s) : Canon (placeMark u m s) := by
  unfold placeMark
  split
  · exact h
  · exact canon_setUnit _ _ h

theorem canon_setMark (u : Nat) (m : Option Mark) (h : Canon s) : Canon (setMark u m s) := canon_setUnit _ _ h

theorem canon_radioNotice (d v1 v2 v3 v4 v5 : Byte) (h : Canon s) : Canon (radioNotice d v1 v2 v3 v4 v5 s) :=
  canon_giveNotice _ _ _ _ _ _ _ _ h

theorem canon_assertRfoff (h : Canon s) : Canon (assertRfoff s) := canon_withRdc rfl h

theorem canon_changeUnit (u : Nat) (new : UnitState) (c : UnitCause) (h : Canon s) : Canon (changeUnit u new c s) := by
  unfold changeUnit
  extract_lets old r s1
  have h1 : Canon s1 := canon_setUnit _ _ h
  have h2 : Canon (if lostState new = true then suspendUnit u s1 else (s1, 0)).1 := by
    split
    · exact canon_suspendUnit _ h1
    · exact h1
  split
  · exact h
  · refine canon_giveNotice _ _ _ _ _ _ _ _ ?_
    dsimp only
    split
    · exact canon_assertRfoff h2
    · exact h2

theorem canon_endCheck (h : Canon s) : Canon (endCheck s) := by
  unfold endCheck
  repeat' split
  all_goals first | exact h | exact canon_radioNotice _ _ _ _ _ _ (canon_withRdc rfl h)

theorem canon_commandAnsweredRule (u : Nat) (m : Mark) (h : Canon s) : Canon (commandAnsweredRule u m s) := by
  unfold commandAnsweredRule
  extract_lets r s1 s2 s3
  have h1 : Canon s1 := canon_setUnit _ _ h
  have h2 : Canon s2 := canon_changeUnit _ _ _ h1
  have h3 : Canon s3 := canon_changeUnit _ _ _ h1
  repeat' split
  all_goals simp only [h1, h2, h3, canon_placeMark]

theorem canon_commandNoackRule (u : Nat) (m : Mark) (h : Canon s) : Canon (commandNoackRule u m s) := by
  unfold commandNoackRule
  dsimp only
  repeat' split
  all_goals simp only [h, canon_setMark, canon_changeUnit]

theorem canon_pollAnsweredRule (u : Nat) (r f : Bool) (h : Canon s) : Canon (pollAnsweredRule u r f s) := by
  unfold pollAnsweredRule
  extract_lets r' s1 policy s2
  have h1 : Canon s1 := canon_setUnit _ _ h
  have h2 : Canon s2 := canon_changeUnit _ _ _ h1
  repeat' split
  all_goals simp only [h1, h2, canon_placeMark, canon_changeUnit]

theorem canon_pollNoackRule (u : Nat) (h : Canon s) : Canon (pollNoackRule u s) := by
  unfold pollNoackRule
  dsimp only
  repeat' split
  all_goals simp only [h, canon_setUnit, canon_changeUnit]

theorem canon_noackRule (u : Nat) (m : Mark) (f : BusFailure) (h : Canon s) : Canon (noackRule u m f s) := by
  unfold noackRule
  refine canon_endCheck ?_
  have h1 := canon_setUnit u { s.unit u with lastFailure := some f } h
  cases m
  · exact canon_commandNoackRule _ _ h1
  · exact canon_pollNoackRule _ h1
  · exact canon_commandNoackRule _ _ h1
  · exact canon_commandNoackRule _ _ h1

theorem canon_busCheck (h : Canon s) : Canon (busCheck s).2 := by
  unfold busCheck
  extract_lets n high b s1
  have h1 : Canon s1 := canon_withRdc rfl h
  dsimp only
  split
  · exact canon_radioNotice _ _ _ _ _ _ h1
  · split
    · exact canon_radioNotice _ _ _ _ _ _ h1
    · exact h1

theorem canon_arbitrate (fuel : Nat) (h : Canon s) : Canon (arbitrate fuel s) := by
  induction fuel generalizing s with
  | zero => exact h
  | succ fuel ih =>
    unfold arbitrate
    split
    · exact h
    · split
      next u m _ =>
        have h2 : Canon (busCheck (setMark u none s)).2 := canon_busCheck (canon_setMark _ _ h)
        dsimp only
        split
        · exact canon_withRdc rfl h2
        · exact ih (canon_noackRule _ _ _ h2)
      · exact h

theorem canon_endProbe (h : Canon s) : Canon (endProbe s) := by
  unfold endProbe
  split
  · split
    · exact h
    · exact canon_answerInFlight _ _ _ (canon_withRdc rfl (canon_withZne rfl (canon_withRqp rfl h)))
  · exact h

theorem canon_settleBus (h : Canon s) : Canon (settleBus s) := canon_endProbe (canon_arbitrate _ h)

theorem canon_completeBus {sent : List BusSymbol} {wire : List Nat} {rule : State → State}
    (hr : ∀ {s}, Canon s → Canon (rule s)) (h : Canon s) : Canon (completeBus sent wire rule s) :=
  canon_settleBus (canon_endCheck (hr (canon_withRdc rfl h)))

theorem canon_muteMarks (u : Nat) (h : Canon s) : Canon (muteMarks u s) := by
  unfold muteMarks
  dsimp only
  repeat' split
  all_goals simp only [h, canon_placeMark, canon_setMark]

theorem canon_withDeadline (d : Option Nat) (h : Canon s) : Canon (s.withRdc { s.rdc with deadline := d }) :=
  canon_withRdc rfl h

theorem canon_beginMuting (c : PolicyCause) (h : Canon s) : Canon (beginMuting c s) := by
  unfold beginMuting
  extract_lets b s1
  have h1 : Canon s1 := canon_withRdc rfl h
  have h2 : Canon (startOfMuting s1).1 := canon_startOfMuting h1
  dsimp only
  refine canon_endCheck (canon_withDeadline _ ?_)
  have h3 : ∀ {s}, Canon s → Canon (unitKeys.foldl (fun s u => muteMarks u s) s) := fun h =>
    canon_foldl (fun u h => canon_muteMarks u h) _ h
  split
  · exact canon_assertRfoff (h3 (canon_radioNotice _ _ _ _ _ _ h2))
  · exact h3 (canon_radioNotice _ _ _ _ _ _ h2)

theorem canon_unmuteMarks (u : Nat) (h : Canon s) : Canon (unmuteMarks u s) := by
  unfold unmuteMarks
  dsimp only
  repeat' split
  all_goals simp only [h, canon_setMark]

theorem canon_beginUnmuting (c : PolicyCause) (h : Canon s) : Canon (beginUnmuting c s) := by
  unfold beginUnmuting
  extract_lets b s1 s2
  have h2 : Canon s2 := canon_radioNotice _ _ _ _ _ _ (canon_withRdc rfl h)
  exact canon_endCheck (canon_foldl (fun u h => canon_unmuteMarks u h) _ h2)

theorem canon_policyTurned (p : Policy) (c : PolicyCause) (h : Canon s) : Canon (policyTurned p c s) := by
  unfold policyTurned
  dsimp only
  repeat' split
  all_goals simp only [h, canon_settleBus, canon_beginMuting, canon_beginUnmuting]

/-! ### The zone engine -/

theorem canon_disposeMessage (bs : List Byte) (m : Bool) (h : Canon s) : Canon (disposeMessage bs m s) := by
  unfold disposeMessage
  dsimp only
  split
  · exact canon_setNav _ h
  · exact canon_withZne rfl h

theorem canon_takeByte (b : Byte) (m : Bool) (h : Canon s) : Canon (takeByte b m s) := by
  unfold takeByte
  split
  · exact h
  · split
    · exact canon_setNav _ h
    · exact h
  · dsimp only
    split
    · exact canon_disposeMessage _ _ h
    · exact canon_setNav _ h

theorem canon_endReception (w : NavDiscard) (h : Canon s) : Canon (endReception w s) := by
  unfold endReception
  split <;> simp only [h, canon_setNav]

theorem canon_breakStatus (h : Canon s) : Canon (breakStatus s) := by
  unfold breakStatus
  split
  · exact h
  · exact canon_giveNotice _ _ _ _ _ _ _ _ (canon_setNav _ h)

theorem canon_lineByte (x : LineByte) (h : Canon s) : Canon (lineByte x s) := by
  unfold lineByte
  repeat' split
  all_goals simp only [h, canon_takeByte, canon_endReception, canon_breakStatus, canon_setNav]

theorem canon_handOnPermit (m : LinkSet) (h : Canon s) : Canon (handOnPermit m s) := by
  unfold handOnPermit
  extract_lets new s1 s2
  split
  · exact h
  · refine canon_reselectAll _ ?_
    have h1 : Canon s1 := canon_linksLeave _ h
    unfold s2
    split
    · exact canon_giveOwed h1
    · exact h1

theorem canon_handOnPolicy (p : Policy) (h : Canon s) : Canon (handOnPolicy p s) := by
  unfold handOnPolicy
  split
  · exact h
  · exact canon_policyTurned _ _ h

theorem canon_handOn (v : InForce) (h : Canon s) : Canon (handOn v s) := canon_handOnPolicy _ (canon_handOnPermit _ h)

theorem canon_changedNotice (z : Nat) (p : PositionState) (c : ChangeClass) (h : Canon s) : Canon (changedNotice z p c s) :=
  canon_giveNotice _ _ _ _ _ _ _ _ h

theorem canon_takeEffect (k : Nat) (c : ChangeClass) (h : Canon s) : Canon (takeEffect k c s) :=
  canon_handOn _ (canon_changedNotice _ _ _ (canon_setPos _ h))

theorem canon_countFix (k : Nat) (c : ChangeClass) (h : Canon s) : Canon (countFix k c s) := by
  unfold countFix
  dsimp only
  split
  · exact canon_takeEffect _ _ h
  · exact canon_setPos _ h

theorem canon_wantChange (k : Nat) (f : Fix) (h : Canon s) : Canon (wantChange k f s) := by
  unfold wantChange
  repeat' split
  all_goals simp only [h, canon_takeEffect, canon_countFix]

theorem canon_evaluateFix (f : Fix) (h : Canon s) : Canon (evaluateFix f s) := by
  unfold evaluateFix
  extract_lets k b s1 p s2
  have h1 : Canon s1 := canon_setPos _ h
  have h2 : Canon s2 := by
    unfold s2
    split
    · exact h1
    · exact canon_setPos _ h1
  split
  · exact canon_setPos _ h1
  · exact canon_wantChange _ _ h2

end Sys2Proof.Machine
end

section
/-! PROOFS. The canonical form of the tables (O56): the work of each request, the events, the time base. -/

namespace Sys2Proof.Machine

variable {s : State}

/-! ### Replies -/

@[simp] theorem reply_fst (r : ResultCode) (s : State) : (reply r s).1 = s := rfl

@[simp] theorem replyWith_fst (r : ResultCode) (fields : List Byte) (s : State) : (replyWith r fields s).1 = s := rfl

@[simp] theorem visitorReply_fst (r : ResultCode) (slot : Nat) (s : State) : (visitorReply r slot s).1 = s := rfl

@[simp] theorem usageReply_fst (r : ResultCode) (a : Attribution) (n : Nat) (g : Option Gate) (s : State) :
    (usageReply r a n g s).1 = s := rfl

/-! ### Chapter 1 -/

theorem canon_takeSlot (slot : Nat) (sid : Digits) (a : Option Nat) (v : Visitor) (h : Canon s) :
    Canon (takeSlot slot sid a v s) := canon_withVrg rfl (canon_setSlot _ _ h)

theorem canon_admitted (slot : Nat) (h : Canon s) : Canon (admitted slot s) := canon_giveNotice _ _ _ _ _ _ _ _ h

theorem canon_admitRefused (r : ResultCode) (j : Subject) (h : Canon s) : Canon (admitRefused r j s).1 :=
  canon_giveNotice _ _ _ _ _ _ _ _ h

theorem canon_attach (slot u : Nat) (h : Canon s) : Canon (attach slot u s).1 := by
  have h1 (g : Visitor → Visitor) : Canon (s.updVisitor slot g) := canon_updVisitor _ _ h
  unfold attach
  split
  · split
    · exact canon_activity _ (h1 _)
    · exact canon_becameActive _ (canon_activity _ (canon_activate _ (h1 _)))
    · exact h
    · exact h
  · exact h

theorem canon_roomFor {cls : ServiceClass} {slot : Nat} {t : State} (hr : s.roomFor cls = some (slot, t)) (h : Canon s) :
    Canon t := by
  unfold State.roomFor at hr
  split at hr
  · cases hr
    exact h
  · split at hr
    · cases hr
    · obtain ⟨i, -, hi⟩ := Option.map_eq_some_iff.mp hr
      cases hi
      exact canon_evict _ h

theorem canon_admitEmergency (sid : Digits) (u : Nat) (h : Canon s) : Canon (admitEmergency sid u s).1 := by
  unfold admitEmergency
  split
  next slot t hr => exact canon_admitted _ (canon_activate _ (canon_takeSlot _ _ _ _ (canon_roomFor hr h)))
  · exact canon_admitRefused _ _ h

theorem canon_admitComplete (sid : Digits) (cls : ServiceClass) (u p : Nat) (r : Partner) (a slot : Nat) (h : Canon s) :
    Canon (admitComplete sid cls u p r a slot s).1 := by
  unfold admitComplete
  extract_lets route quota s1 s2
  have h2 : Canon s2 := canon_takeAccount _ _ _ (canon_updVisitors _ _ (canon_takeSlot _ _ _ _ h))
  split
  · exact canon_admitted _ (canon_gateEvaluation _ (canon_requestExchange _ _ h2))
  · exact canon_admitted _ (canon_becameActive _ (canon_activate _ h2))

theorem canon_admitNew (sid : Digits) (cls : ServiceClass) (u : Nat) (h : Canon s) : Canon (admitNew sid cls u s).1 := by
  unfold admitNew
  repeat' split
  case h_1 hr => exact canon_admitComplete _ _ _ _ _ _ _ (canon_roomFor hr h)
  all_goals exact canon_admitRefused _ _ h

theorem canon_doAdmit (sid : BitVec 64) (cls u : Byte) (h : Canon s) : Canon (doAdmit sid cls u s).1 := by
  unfold doAdmit
  repeat' split
  all_goals simp only [reply_fst, h, canon_attach, canon_admitEmergency, canon_admitNew]

theorem canon_doRefresh (hd : BitVec 16) (u : Byte) (h : Canon s) : Canon (doRefresh hd u s).1 := by
  unfold doRefresh
  extract_lets slot s1
  have h1 : Canon s1 := canon_activity _ (canon_updVisitor _ _ h)
  repeat' split
  all_goals simp only [reply_fst, replyWith_fst, h, h1]

theorem canon_doDetach (hd : BitVec 16) (h : Canon s) : Canon (doDetach hd s).1 := by
  unfold doDetach
  extract_lets slot s1
  have h1 : Canon s1 := canon_retire _ _ h
  repeat' split
  all_goals simp only [reply_fst, replyWith_fst, h, h1]

theorem doVread_fst (sel : Byte) (name : BitVec 64) (s : State) : (doVread sel name s).1 = s := by
  unfold doVread
  dsimp only
  repeat' split
  all_goals rfl

theorem canon_startPurge (tag : Fin 16) (scope : PurgeScope) (h : Canon s) : Canon (startPurge tag scope s).1 := by
  unfold startPurge
  split
  · exact h
  · exact canon_withVrg rfl h

theorem canon_doPurge (tag : Fin 16) (scope : Byte) (hnc : BitVec 24) (h : Canon s) : Canon (doPurge tag scope hnc s).1 := by
  unfold doPurge
  repeat' split
  all_goals simp only [reply_fst, h, canon_startPurge]

theorem canon_purgeStep (h : Canon s) : Canon (purgeStep s) := by
  unfold purgeStep
  split
  next p _ =>
    extract_lets hit s1 n b
    have h1 : Canon s1 := by
      unfold s1
      split
      · exact canon_retire _ _ h
      · exact h
    split
    · exact canon_answerInFlight _ _ _ (canon_withVrg rfl h1)
    · exact canon_withVrg rfl h1
  · exact h

theorem canon_retireExpiry (slot : Nat) (h : Canon s) : Canon (retireExpiry slot s) := by
  unfold retireExpiry
  repeat' split
  all_goals simp only [h, canon_retire]

/-! ### Chapters 2 and 3 -/

theorem canon_movePlan (old : Option Nat) (new : Nat) (h : Canon s) : Canon (movePlan old new s) := by
  unfold movePlan
  split
  · exact h
  · refine canon_updPlanCount _ _ ?_
    split
    · exact canon_updPlanCount _ _ h
    · exact h

theorem canon_psetWrite (i : Nat) (p : PsetFields) (d : Digits) (a : Admission) (cf : CheckFail) (c : Charging) (h : Canon s) :
    Canon (psetWrite i p d a cf c s).1 := canon_movePlan _ _ (canon_setPartner _ _ h)

theorem canon_doPset (p : PsetFields) (h : Canon s) : Canon (doPset p s).1 := by
  unfold doPset
  repeat' split
  all_goals simp only [reply_fst, h, canon_psetWrite]

theorem canon_doPdel (d : BitVec 24) (h : Canon s) : Canon (doPdel d s).1 := by
  unfold doPdel
  repeat' split
  all_goals simp only [reply_fst, replyWith_fst, h, canon_updPlanCount, canon_setPartner]

theorem readPartner_fst (i : Nat) (s : State) : (readPartner i s).1 = s := by
  unfold readPartner
  split <;> rfl

theorem doPread_fst (sel : Byte) (name : BitVec 24) (s : State) : (doPread sel name s).1 = s := by
  unfold doPread
  dsimp only
  repeat' split
  all_goals simp only [reply_fst, readPartner_fst]

theorem canon_doTwrite (plan flags : Byte) (factor : BitVec 16) (rs : List RateField) (h : Canon s) :
    Canon (doTwrite plan flags factor rs s).1 := by
  unfold doTwrite
  dsimp only
  repeat' split
  all_goals simp only [reply_fst, h, canon_setPlan]

theorem canon_doTopen (plan : Byte) (h : Canon s) : Canon (doTopen plan s).1 := by
  unfold doTopen
  dsimp only
  repeat' split
  all_goals simp only [reply_fst, h, canon_setPlan]

theorem canon_doTcommit (plan : Byte) (check : BitVec 16) (h : Canon s) : Canon (doTcommit plan check s).1 := by
  unfold doTcommit
  dsimp only
  repeat' split
  all_goals simp only [reply_fst, replyWith_fst, h, canon_setPlan]

theorem doTread_fst (plan : Byte) (s : State) : (doTread plan s).1 = s := by
  unfold doTread
  split <;> rfl

theorem canon_handCharge (slot : Nat) (p : Option Partner) (n : Nat) (h : Canon s) : Canon (handCharge slot p n s) := by
  unfold handCharge
  split
  · exact canon_quotaCharge _ _ h
  · exact h

theorem canon_markUnreported (a : Nat) (p : Option Partner) (n : Nat) (h : Canon s) : Canon (markUnreported a p n s) := by
  unfold markUnreported
  split
  · exact canon_updAccount _ _ h
  · exact h

theorem canon_postLive (slot a : Nat) (p : Option Partner) (c : TrafficClass) (up : Bool) (n : Nat) (l : Link)
    (h : Canon s) : Canon (postLive slot a p c up n l s).1 :=
  canon_activity _ (canon_handCharge _ _ _ (canon_ratePost _ _ _ _ _ _ h))

theorem canon_postDeparting (slot a : Nat) (p : Option Partner) (c : TrafficClass) (up : Bool) (n : Nat) (l : Link)
    (h : Canon s) : Canon (postDeparting slot a p c up n l s).1 := by
  have h1 := canon_handCharge slot p (ratePost a p c up n l (s.updAccount a fun a => { a with late := true })).2
    (canon_ratePost a p c up n l (canon_updAccount a (fun a => { a with late := true }) h))
  unfold postDeparting
  dsimp only [usageReply_fst]
  split
  · exact canon_markUnreported _ _ _ h1
  · exact h1

theorem canon_postFree (a : Nat) (p : Option Partner) (c : TrafficClass) (up : Bool) (n : Nat) (l : Link) (h : Canon s) :
    Canon (postFree a p c up n l s).1 :=
  canon_markUnreported _ _ _ (canon_ratePost _ _ _ _ _ _ (canon_updAccount _ _ h))

theorem canon_postEmergency (slot : Nat) (c : TrafficClass) (up : Bool) (n : Nat) (h : Canon s) :
    Canon (postEmergency slot c up n s).1 := canon_activity _ (canon_withChu rfl rfl rfl h)

theorem canon_postNone (c : TrafficClass) (up : Bool) (n : Nat) (h : Canon s) : Canon (postNone c up n s).1 :=
  canon_withChu rfl rfl rfl h

theorem canon_post (hd : BitVec 16) (c : TrafficClass) (up : Bool) (n : Nat) (l : Link) (h : Canon s) :
    Canon (post hd c up n l s).1 := by
  unfold post
  dsimp only
  repeat' split
  all_goals simp only [h, canon_postNone, canon_postEmergency, canon_postDeparting, canon_postLive, canon_postFree]

theorem canon_doUsage (hd : BitVec 16) (c d : Byte) (n : BitVec 24) (l : Byte) (h : Canon s) :
    Canon (doUsage hd c d n l s).1 := by
  unfold doUsage
  repeat' split
  all_goals simp only [reply_fst, usageReply_fst, h, canon_post]

theorem readAccount_fst (i : Nat) (s : State) : (readAccount i s).1 = s := by
  unfold readAccount
  split <;> rfl

theorem doAread_fst (sel : Byte) (name : BitVec 64) (s : State) : (doAread sel name s).1 = s := by
  unfold doAread
  dsimp only
  repeat' split
  all_goals simp only [reply_fst, readAccount_fst]

theorem canon_doSettle (a : BitVec 16) (h : Canon s) : Canon (doSettle a s).1 := by
  unfold doSettle
  dsimp only
  repeat' split
  all_goals simp only [reply_fst, replyWith_fst, h, canon_setAccount]

theorem canon_collectClose (i : Nat) (a : Account) (h : Canon s) : Canon (collectClose i a s) :=
  canon_markUnreported _ _ _ (canon_closeOut _ _ h)

theorem canon_doCollect (a : BitVec 16) (h : Canon s) : Canon (doCollect a s).1 := by
  unfold doCollect
  dsimp only
  repeat' split
  case h_1.isFalse.isFalse => exact canon_accountFreed (canon_setAccount _ _ (canon_collectClose _ _ h))
  all_goals exact h

/-! ### Chapter 4 -/

theorem canon_doXfetch (h : Canon s) : Canon (doXfetch s).1 := by
  unfold doXfetch
  split
  · split
    · split
      · exact canon_setEntry _ _ h
      · exact canon_withQxu rfl h
    · exact h
  · exact h

theorem canon_applyAnswer (x : Exchange) (r : ShoreResult) (u v : Nat) (f : Bool) (h : Canon s) :
    Canon (applyAnswer x r u v f s) := by
  unfold applyAnswer
  split
  · exact canon_authorizationAdmit _ _ h
  · exact canon_retire _ _ h
  · exact canon_applyGrant _ _ _ _ h
  · exact canon_applyDeny _ h
  · exact canon_applyAck _ h

theorem canon_doXanswer (ref : BitVec 16) (r : Byte) (u : BitVec 32) (v : BitVec 16) (f : Byte) (h : Canon s) :
    Canon (doXanswer ref r u v f s).1 := by
  unfold doXanswer
  repeat' split
  all_goals simp only [reply_fst, replyWith_fst, h, canon_applyAnswer, canon_freeEntry]

theorem canon_doXfail (ref : BitVec 16) (h : Canon s) : Canon (doXfail ref s).1 := by
  unfold doXfail
  repeat' split
  all_goals simp only [reply_fst, replyWith_fst, h, canon_failExchange]

theorem canon_grantPasses (slot : Nat) (h : Canon s) : Canon (grantPasses slot s) := by
  unfold grantPasses
  repeat' split
  all_goals simp only [h, canon_gateEvaluation, canon_updQuota]

theorem canon_askAfterWait (slot : Nat) (h : Canon s) : Canon (askAfterWait slot s) := by
  unfold askAfterWait
  repeat' split
  all_goals simp only [h, canon_requestExchange]

theorem canon_retryPasses (slot : Nat) (h : Canon s) : Canon (retryPasses slot s) := by
  have h1 (g : Quota → Quota) : Canon (s.updQuota slot g) := canon_updQuota _ _ h
  unfold retryPasses
  repeat' split
  all_goals simp only [h, h1, canon_gateEvaluation, canon_askAfterWait]

/-! ### Chapters 5 and 6 -/

theorem canon_doLconf (c : LconfFields) (h : Canon s) : Canon (doLconf c s).1 := by
  unfold doLconf
  split
  · exact canon_evaluateLink _ (canon_setLink _ _ h)
  · exact h

theorem canon_doLenable (l : Byte) (h : Canon s) : Canon (doLenable l s).1 := by
  unfold doLenable
  dsimp only
  repeat' split
  all_goals simp only [reply_fst, h, canon_changeLink]

theorem canon_doLdisable (l : Byte) (h : Canon s) : Canon (doLdisable l s).1 := by
  unfold doLdisable
  dsimp only
  repeat' split
  all_goals simp only [reply_fst, h, canon_changeLink, canon_setLink]

theorem canon_doLmeasure (l : Byte) (d : BitVec 32) (lo le : BitVec 16) (h : Canon s) :
    Canon (doLmeasure l d lo le s).1 := by
  unfold doLmeasure
  dsimp only
  repeat' split
  all_goals simp only [reply_fst, replyWith_fst, h, canon_actOnMeasurement, canon_setLink]

theorem canon_doLloss (l : Byte) (h : Canon s) : Canon (doLloss l s).1 := by
  unfold doLloss
  dsimp only
  repeat' split
  all_goals simp only [reply_fst, h, canon_holdForFailure, canon_setLink]

theorem canon_doLhold (l : Byte) (h : Canon s) : Canon (doLhold l s).1 := by
  unfold doLhold
  dsimp only
  repeat' split
  all_goals simp only [reply_fst, h, canon_changeLink]

theorem canon_doLrelease (l : Byte) (h : Canon s) : Canon (doLrelease l s).1 := by
  unfold doLrelease
  repeat' split
  all_goals simp only [reply_fst, h, canon_changeLink]

theorem canon_doLdrill (l m : Byte) (d : BitVec 16) (h : Canon s) : Canon (doLdrill l m d s).1 := by
  unfold doLdrill
  dsimp only
  repeat' split
  all_goals simp only [reply_fst, h, canon_changeLink]

theorem canon_doLread (l c : Byte) (h : Canon s) : Canon (doLread l c s).1 := by
  unfold doLread
  split
  · rw [replyWith_fst]
    split
    · exact canon_setLink _ _ h
    · exact h
  · exact h

theorem canon_stalePasses (i : Link) (h : Canon s) : Canon (stalePasses i s) := by
  unfold stalePasses
  split
  · exact canon_holdForFailure _ _ h
  · exact h

theorem canon_holdPasses (i : Link) (h : Canon s) : Canon (holdPasses i s) := by
  unfold holdPasses
  split
  · exact canon_endHold _ h
  · exact h

theorem canon_drillPasses (i : Link) (h : Canon s) : Canon (drillPasses i s) := by
  unfold drillPasses
  dsimp only
  repeat' split
  case isFalse.isTrue => exact canon_giveNotice _ _ _ _ _ _ _ _ (canon_setLink _ _ h)
  all_goals simp only [h, canon_changeLink]

theorem canon_doRconf (r : RconfFields) (h : Canon s) : Canon (doRconf r s).1 := by
  unfold doRconf
  dsimp only
  repeat' split
  all_goals simp only [reply_fst, h, canon_reselectRoute, canon_setRoute]

theorem canon_pinPath (r : Nat) (c : TrafficClass) (pin : Option Link) (h : Canon s) : Canon (pinPath r c pin s).1 :=
  canon_reselect _ _ _ (canon_setPath _ _ _ h)

theorem canon_doRpin (r c l : Byte) (h : Canon s) : Canon (doRpin r c l s).1 := by
  unfold doRpin
  repeat' split
  all_goals simp only [reply_fst, h, canon_pinPath]

theorem canon_doRunpin (r c : Byte) (h : Canon s) : Canon (doRunpin r c s).1 := by
  unfold doRunpin
  repeat' split
  all_goals simp only [reply_fst, h, canon_pinPath]

theorem canon_readyPath (r : Nat) (c : TrafficClass) (a b : Link) (h : Canon s) : Canon (readyPath r c a b s) := by
  unfold readyPath
  split
  · exact canon_enterReleasing _ _ _ _ h
  · exact canon_setPath _ _ _ h

theorem canon_doHready (r c l : Byte) (h : Canon s) : Canon (doHready r c l s).1 := by
  unfold doHready confirmReady
  dsimp only
  repeat' split
  all_goals simp only [reply_fst, replyWith_fst, h, canon_readyPath]

theorem canon_doHdone (r c l : Byte) (h : Canon s) : Canon (doHdone r c l s).1 := by
  unfold doHdone confirmDone
  dsimp only
  repeat' split
  all_goals simp only [reply_fst, replyWith_fst, h, canon_enterSteady]

theorem doRread_fst (r : Byte) (s : State) : (doRread r s).1 = s := by
  unfold doRread
  split <;> rfl

theorem doLookup_fst (hd : BitVec 16) (c : Byte) (s : State) : (doLookup hd c s).1 = s := by
  unfold doLookup
  repeat' split
  all_goals rfl

theorem canon_preparePasses (r : Nat) (c : TrafficClass) (h : Canon s) : Canon (preparePasses r c s) := by
  unfold preparePasses
  repeat' split
  all_goals simp only [h, canon_abandon, canon_reselectSteady, canon_hardSwitch]

theorem canon_bicastPasses (r : Nat) (c : TrafficClass) (h : Canon s) : Canon (bicastPasses r c s) := by
  unfold bicastPasses
  split <;> simp only [h, canon_enterReleasing]

theorem canon_releasePasses (r : Nat) (c : TrafficClass) (h : Canon s) : Canon (releasePasses r c s) := by
  unfold releasePasses
  split <;> simp only [h, canon_enterSteady, canon_movePath]

/-! ### Chapter 7 -/

theorem navConfigured_zones (d : Byte) (e : Bool) (z : Zne) : (navConfigured d e z).zones = z.zones := by
  unfold navConfigured
  repeat' split
  all_goals rfl

theorem canon_doNavconf (d e : Byte) (h : Canon s) : Canon (doNavconf d e s).1 :=
  canon_withZne (navConfigured_zones ..) h

theorem canon_doFixpost (e n : BitVec 24) (q : Byte) (h : Canon s) : Canon (doFixpost e n q s).1 := by
  unfold doFixpost
  repeat' split
  case isFalse.isFalse.isFalse => exact canon_withZne rfl h
  all_goals exact h

theorem canon_writeZone (i : Nat) (z : Zone) (h : Canon s) : Canon (writeZone i z s) := by
  have h1 (p : Position) : Canon ((s.setZone i z).setPos p) := canon_setPos _ (canon_setZone _ _ h)
  unfold writeZone editInForce
  dsimp only
  split
  · exact h1 _
  · exact canon_handOn _ (canon_giveNotice _ _ _ _ _ _ _ _ (h1 _))

theorem canon_doZset (z : ZsetFields) (h : Canon s) : Canon (doZset z s).1 := by
  unfold doZset
  dsimp only
  repeat' split
  all_goals simp only [reply_fst, h, canon_writeZone]

theorem doZread_fst (z : Byte) (s : State) : (doZread z s).1 = s := by
  unfold doZread
  split <;> rfl

theorem canon_takeFix (h : Canon s) : Canon (takeFix s) := by
  unfold takeFix
  split
  · exact h
  next x rest _ =>
    have h1 : Canon (s.withZne { s.zne with fifo := rest }) := canon_withZne rfl h
    dsimp only
    split
    · exact h1
    · exact canon_evaluateFix _ h1

theorem canon_positionPasses (h : Canon s) : Canon (positionPasses s) := by
  unfold positionPasses
  dsimp only
  split
  · exact h
  · split
    · exact canon_handOnPolicy _ (canon_giveNotice _ _ _ _ _ _ _ _ (canon_setPos _ h))
    · exact canon_setPos _ h
    · exact canon_setPos _ h

/-! ### Chapters 8 and 9 -/

theorem canon_operatorMute (on : Bool) (h : Canon s) : Canon (operatorMute on s) := by
  unfold operatorMute
  split
  · exact h
  · exact canon_policyTurned _ _ (canon_withRdc rfl h)

theorem canon_doExclude (u : Byte) (h : Canon s) : Canon (doExclude u s).1 := by
  unfold doExclude excludeUnit
  repeat' split
  case isFalse.isFalse =>
    exact canon_settleBus (canon_endCheck (canon_setMark _ _ (canon_changeUnit _ _ _ h)))
  all_goals exact h

theorem canon_doInclude (u : Byte) (h : Canon s) : Canon (doInclude u s).1 := by
  unfold doInclude includeUnit
  repeat' split
  case isFalse.isTrue => exact canon_endCheck (canon_changeUnit _ _ _ (canon_setUnit _ _ h))
  all_goals exact h

theorem canon_doProbe (u : Byte) (h : Canon s) : Canon (doProbe u s).1 := by
  unfold doProbe
  dsimp only
  repeat' split
  all_goals simp only [reply_fst, replyWith_fst, h, canon_settleBus, canon_placeMark]

theorem doUread_fst (u : Byte) (s : State) : (doUread u s).1 = s := by
  unfold doUread
  split <;> rfl

theorem canon_busAnswered (w : List Nat) (h : Canon s) : Canon (busAnswered w s) := by
  unfold busAnswered
  split
  · exact h
  · exact h
  · exact canon_completeBus (fun h => canon_commandAnsweredRule _ _ h) h

theorem canon_busNoack (f : BusFailure) (w : List Nat) (h : Canon s) : Canon (busNoack f w s) := by
  unfold busNoack
  split
  · exact h
  · exact h
  · exact canon_completeBus (fun h => canon_noackRule _ _ _ h) h

theorem canon_pollDone (a b : Byte) (w : List Nat) (h : Canon s) : Canon (pollDone a b w s) := by
  unfold pollDone
  split
  · split
    · exact canon_completeBus (fun h => canon_pollAnsweredRule _ _ _ h) h
    · exact canon_completeBus (fun h => canon_noackRule _ _ _ h) h
  all_goals exact h

theorem canon_pollFailed (f : BusFailure) (w : List Nat) (h : Canon s) : Canon (pollFailed f w s) := by
  unfold pollFailed
  split
  · exact canon_completeBus (fun h => canon_noackRule _ _ _ h) h
  all_goals exact h

theorem canon_deadlinePasses (h : Canon s) : Canon (deadlinePasses s) := by
  unfold deadlinePasses
  split
  · exact h
  · exact canon_radioNotice _ _ _ _ _ _ (canon_assertRfoff (canon_withDeadline _ h))

theorem canon_pollPasses (h : Canon s) : Canon (pollPasses s) := by
  unfold pollPasses pollRound
  split
  · exact h
  · exact canon_settleBus (canon_foldl (fun u h => canon_placeMark _ _ h) _ (canon_withRdc rfl h))

theorem canon_probeUnit (u : Nat) (h : Canon s) : Canon (probeUnit u s) := by
  unfold probeUnit
  split
  · exact h
  · exact canon_setUnit _ _ h

theorem canon_startProbe (tag : Fin 16) (h : Canon s) : Canon (startProbe tag s) := by
  have h1 (b : Rdc) (hb : b.units = s.rdc.units) : Canon (s.withRdc b) := canon_withRdc hb h
  exact canon_settleBus (canon_foldl (fun u h => canon_probeUnit u h) _ (h1 _ rfl))

theorem canon_doStart (tag : Fin 16) (h : Canon s) : Canon (doStart tag s).1 := by
  unfold doStart
  repeat' split
  all_goals simp only [reply_fst, h, canon_startProbe]

theorem canon_stopPosition (h : Canon s) : Canon (stopPosition s) := by
  have h1 := canon_setPos positionReset h
  refine canon_handOn _ ?_
  split
  · exact h1
  · exact canon_changedNotice _ _ _ h1

theorem canon_leaveService (h : Canon s) : Canon (leaveService s) := by
  have h1 (b : Rqp) (hb : b.busy = s.rqp.busy) : Canon (s.withRqp b) := canon_withRqp hb h
  have h2 := canon_assertRfoff (canon_stopPosition (h1 { s.rqp with mode := .config } rfl))
  exact canon_withRdc rfl h2

theorem canon_doStop (h : Canon s) : Canon (doStop s).1 := by
  unfold doStop
  repeat' split
  all_goals simp only [reply_fst, h, canon_leaveService]

theorem canon_storeSettings (d : Settings) (h : Canon s) : Canon (storeSettings d s) := by
  have h1 : Canon (s.withRqp { s.rqp with settings := d }) := canon_withRqp rfl h
  exact canon_withChu rfl rfl rfl h1

theorem canon_doDset (d : DsetFields) (h : Canon s) : Canon (doDset d s).1 := by
  unfold doDset
  split
  · exact h
  · split
    · split
      · exact h
      · exact canon_storeSettings _ h
    · exact h

theorem canon_doIdent (c : Byte) (h : Canon s) : Canon (doIdent c s).1 := by
  unfold doIdent
  rw [replyWith_fst]
  split
  · exact canon_withRqp rfl h
  · exact h

/-! ### The time base and the reset -/

theorem canonical_reset : Canonical State.reset := by decide

theorem canon_resetState (n : Nat) (q : List Instr) : Canon (resetState n q) :=
  canon_withPending q (canon_withRdc rfl ((canon_iff _).mpr canonical_reset))

/-- A tick of the slots never makes a record a reset one. -/
theorem mapVisitor_ne {g : Visitor → Visitor} {e : Slot} (h : e ≠ slotReset) : mapVisitor g e ≠ slotReset := by
  obtain ⟨gen, sid, account, reason, visitor⟩ := e
  cases visitor with
  | none => exact h
  | some v => simp [mapVisitor, slotReset]

theorem exchangeSecond_ne {e : XEntry} (h : e ≠ xentryReset) : exchangeSecond e ≠ xentryReset := by
  obtain ⟨use, ex⟩ := e
  cases ex with
  | none => exact h
  | some x => simp [exchangeSecond, xentryReset]

theorem mapPaths_ne {g : Path → Path} (hg : ∀ p, g p = pathReset → p = pathReset) {r : Route} (h : r ≠ routeReset) :
    mapPaths g r ≠ routeReset := by
  obtain ⟨bicast, prepare, release, voice, data, message⟩ := r
  intro heq
  simp only [mapPaths, routeReset, Route.mk.injEq, PerClass.mk.injEq] at heq
  obtain ⟨rfl, rfl, rfl, hv, hd, hm⟩ := heq
  exact h (by rw [hg _ hv, hg _ hd, hg _ hm]; rfl)

theorem pathTick_eq_reset {p : Path} (h : pathTick p = pathReset) : p = pathReset := by
  unfold pathTick at h
  split at h <;> first | exact h | simp [pathReset] at h

theorem pathSecond_eq_reset {p : Path} (h : pathSecond p = pathReset) : p = pathReset := by
  unfold pathSecond at h
  split at h <;> first | exact h | simp [pathReset] at h

theorem canon_tickHundredth (h : Canon s) : Canon (tickHundredth s) :=
  { h with routes := canonical_tmap _ (fun _ hv => mapPaths_ne (fun _ => pathTick_eq_reset) hv) h.routes }

theorem canon_tickSecond (h : Canon s) : Canon (tickSecond s) :=
  { h with
    slots := canonical_tmap _ (fun _ hv => mapVisitor_ne hv) h.slots
    entries := canonical_tmap _ (fun _ hv => exchangeSecond_ne hv) h.entries
    routes := canonical_tmap _ (fun _ hv => mapPaths_ne (fun _ => pathSecond_eq_reset) hv) h.routes }

theorem canon_tickMinute (h : Canon s) : Canon (tickMinute s) :=
  { h with slots := canonical_tmap _ (fun _ hv => mapVisitor_ne hv) h.slots }

theorem canon_tick (h : Canon s) : Canon (tick s) := by
  have h1 := canon_tickHundredth h
  unfold tick
  dsimp only
  split
  · exact canon_withBase _ h1
  · split
    · exact canon_withBase _ (canon_tickSecond h1)
    · exact canon_withBase _ (canon_tickMinute (canon_tickSecond h1))

/-! ### Every step -/

theorem canon_work {i : Instr} {f : Frame} {k : RequestKind} {body : State → Reply} (hw : workOf i = some (f, k, body))
    (h : Canon s) : Canon (body s).1 := by
  cases i <;> simp only [workOf, Option.some.injEq, Prod.mk.injEq, reduceCtorEq] at hw <;> obtain ⟨rfl, rfl, rfl⟩ := hw
  case clock => exact canon_withRqp rfl h
  case nfetch => exact canon_withRqp rfl h
  case uaread => exact canon_withChu rfl rfl rfl h
  case nread => exact h
  case rmute => exact canon_operatorMute true h
  case rrelease => exact canon_operatorMute false h
  all_goals simp only [h, canon_doAdmit, canon_doRefresh, canon_doDetach, doVread_fst, canon_doPurge, canon_doPset,
    canon_doPdel, doPread_fst, canon_doTwrite, canon_doTopen, canon_doTcommit, doTread_fst, canon_doUsage, doAread_fst,
    canon_doSettle, canon_doCollect, canon_doXfetch, canon_doXanswer, canon_doXfail, canon_doLconf, canon_doLenable,
    canon_doLdisable, canon_doLmeasure, canon_doLloss, canon_doLhold, canon_doLrelease, canon_doLdrill, canon_doLread,
    canon_doRconf, canon_doRpin, canon_doRunpin, canon_doHready, canon_doHdone, doRread_fst, doLookup_fst,
    canon_doNavconf, canon_doFixpost, canon_doZset, doZread_fst, canon_doExclude, canon_doInclude, canon_doProbe,
    doUread_fst, canon_doStart, canon_doStop, canon_doDset, canon_doIdent]

theorem canon_event {i : Instr} {g : State → State} (he : eventOf i = some g) (h : Canon s) : Canon (g s) := by
  cases i <;> simp only [eventOf, Option.some.injEq, reduceCtorEq] at he <;> subst he
  case answerRead n => exact canon_portOnly (portOnly_settleOut n s) h
  case deviceReset => exact canon_resetState ..
  case navMessage bs => exact canon_foldl (fun b h => canon_lineByte b h) _ h
  case shipTimeTick => exact canon_withRqp rfl h
  all_goals simp only [h, canon_lineByte, canon_takeFix, canon_purgeStep, canon_retireExpiry, canon_grantPasses,
    canon_retryPasses, canon_failExchange, canon_stalePasses, canon_holdPasses, canon_drillPasses, canon_preparePasses,
    canon_bicastPasses, canon_releasePasses, canon_positionPasses, canon_deadlinePasses, canon_pollPasses,
    canon_busAnswered, canon_busNoack, canon_pollDone, canon_pollFailed]

theorem canon_kept : Kept Canon where
  port := canon_portOnly
  queue := canon_withPending
  work := canon_work
  resync h := canon_withRdc rfl (canon_withVrg rfl { h with busy := rfl })
  event := canon_event
  tick := canon_tick

end Sys2Proof.Machine
end

section
/-! PROOFS. What the requests and events of the chapters 1 to 4 leave alone: links, routes, zones, radio, mode and settings. -/

namespace Sys2Proof.Machine

variable {s : State}

/-- The part of the state that visitors, accounts and exchanges are served on and never change. -/
def stage (s : State) : Lmn × Rte × Zne × Rdc × TimeBase × Mode × Settings :=
  (s.lmn, s.rte, s.zne, s.rdc, s.base, s.rqp.mode, s.rqp.settings)

theorem stage_eq {s t : State} (h : stage t = stage s) :
    t.lmn = s.lmn ∧ t.rte = s.rte ∧ t.zne = s.zne ∧ t.rdc = s.rdc ∧ t.base = s.base ∧ t.rqp.mode = s.rqp.mode ∧
      t.rqp.settings = s.rqp.settings := by
  simpa only [stage, Prod.mk.injEq] using h

theorem stage_rte {s t : State} (h : stage t = stage s) : t.rte = s.rte := (stage_eq h).2.1

/-! ### The operations that chapters share -/

@[simp] theorem stage_withVrg (b : Vrg) : stage (s.withVrg b) = stage s := rfl

@[simp] theorem stage_withChu (b : Chu) : stage (s.withChu b) = stage s := rfl

@[simp] theorem stage_withQxu (b : Qxu) : stage (s.withQxu b) = stage s := rfl

@[simp] theorem stage_setSlot (i : Nat) (e : Slot) : stage (s.setSlot i e) = stage s := rfl

@[simp] theorem stage_setPartner (i : Nat) (e : Option Partner) : stage (s.setPartner i e) = stage s := rfl

@[simp] theorem stage_setPlan (i : Nat) (e : Plan) : stage (s.setPlan i e) = stage s := rfl

@[simp] theorem stage_setAccount (i : Nat) (e : Option Account) : stage (s.setAccount i e) = stage s := rfl

@[simp] theorem stage_setEntry (i : Nat) (e : XEntry) : stage (s.setEntry i e) = stage s := rfl

@[simp] theorem stage_updVisitor (i : Nat) (g : Visitor → Visitor) : stage (s.updVisitor i g) = stage s := by
  unfold State.updVisitor
  split <;> rfl

@[simp] theorem stage_updQuota (i : Nat) (g : Quota → Quota) : stage (s.updQuota i g) = stage s := stage_updVisitor ..

@[simp] theorem stage_updAccount (i : Nat) (g : Account → Account) : stage (s.updAccount i g) = stage s := by
  unfold State.updAccount
  split <;> rfl

@[simp] theorem stage_updPlanCount (i : Nat) (g : Nat → Nat) : stage (s.updPlanCount i g) = stage s := rfl

@[simp] theorem stage_updVisitors (p : Option Nat) (g : Nat → Nat) : stage (s.updVisitors p g) = stage s := by
  unfold State.updVisitors
  repeat' split
  all_goals rfl

@[simp] theorem stage_giveNotice (kind : NoticeKind) (subject : Subject) (detail v1 v2 v3 v4 v5 : Byte) : stage (giveNotice kind subject detail v1 v2 v3 v4 v5 s) = stage s := by
  simp [stage]

@[simp] theorem stage_answerInFlight (kind : Byte) (r : InFlight) (payload : List Byte) : stage (answerInFlight kind r payload s) = stage s := by
  simp [stage]

@[simp] theorem stage_accountTaken : stage (accountTaken s) = stage s := by
  simp [stage]

@[simp] theorem stage_accountFreed : stage (accountFreed s) = stage s := by
  simp [stage]

@[simp] theorem stage_takeAccount (i : Nat) (sid hnc : Digits) : stage (takeAccount i sid hnc s) = stage s := by
  simp [stage]

@[simp] theorem stage_requestExchange (slot : Nat) (kind : XKind) : stage (requestExchange slot kind s) = stage s := by
  simp [stage]

@[simp] theorem stage_freeEntry (i : Nat) : stage (freeEntry i s) = stage s := by
  simp [stage]

@[simp] theorem stage_gateEvaluation (slot : Nat) : stage (gateEvaluation slot s) = stage s := by
  simp [stage]

@[simp] theorem stage_quotaCharge (slot charge : Nat) : stage (quotaCharge slot charge s) = stage s := by
  simp [stage]

@[simp] theorem stage_becameActive (slot : Nat) : stage (becameActive slot s) = stage s := by
  simp [stage]

@[simp] theorem stage_activity (slot : Nat) : stage (activity slot s) = stage s := by
  simp [stage]

@[simp] theorem stage_activate (slot : Nat) : stage (activate slot s) = stage s := by
  simp [stage]

@[simp] theorem stage_retire (slot : Nat) (reason : RetireReason) : stage (retire slot reason s) = stage s := by
  simp [stage]

@[simp] theorem stage_evict (slot : Nat) : stage (evict slot s) = stage s := by
  simp [stage]

@[simp] theorem stage_authorizationAdmit (slot : Nat) (byPolicy : Byte) : stage (authorizationAdmit slot byPolicy s) = stage s := by
  simp [stage]

@[simp] theorem stage_applyGrant (x : Exchange) (units validity : Nat) (final : Bool) : stage (applyGrant x units validity final s) = stage s := by
  simp [stage]

@[simp] theorem stage_applyDeny (x : Exchange) : stage (applyDeny x s) = stage s := by
  simp [stage]

@[simp] theorem stage_applyAck (x : Exchange) : stage (applyAck x s) = stage s := by
  simp [stage]

@[simp] theorem stage_failExchange (i : Nat) : stage (failExchange i s) = stage s := by
  simp [stage]

@[simp] theorem stage_ratePost (i : Nat) (p : Option Partner) (c : TrafficClass) (up : Bool) (n : Nat) (l : Link) :
    stage (ratePost i p c up n l s).1 = stage s := by
  simp [stage]

@[simp] theorem stage_closeOut (i : Nat) (p : Option Partner) : stage (closeOut i p s).1 = stage s := by
  simp [stage]

/-! ### Chapter 1 -/

@[simp] theorem stage_takeSlot (slot : Nat) (sid : Digits) (a : Option Nat) (v : Visitor) : stage (takeSlot slot sid a v s) = stage s := by
  simp [takeSlot]

@[simp] theorem stage_admitted (slot : Nat) : stage (admitted slot s) = stage s := by
  simp [admitted]

@[simp] theorem stage_admitRefused (r : ResultCode) (j : Subject) : stage (admitRefused r j s).1 = stage s := by
  simp [admitRefused]

@[simp] theorem stage_attach (slot u : Nat) : stage (attach slot u s).1 = stage s := by
  unfold attach
  repeat' split
  all_goals simp

theorem stage_roomFor {cls : ServiceClass} {slot : Nat} {t : State} (hr : s.roomFor cls = some (slot, t)) :
    stage t = stage s := by
  unfold State.roomFor at hr
  split at hr
  · cases hr
    rfl
  · split at hr
    · cases hr
    · obtain ⟨i, -, hi⟩ := Option.map_eq_some_iff.mp hr
      cases hi
      exact stage_evict _

@[simp] theorem stage_admitEmergency (sid : Digits) (u : Nat) : stage (admitEmergency sid u s).1 = stage s := by
  unfold admitEmergency
  split
  next slot t hr => simp [stage_roomFor hr]
  · simp

@[simp] theorem stage_admitComplete (sid : Digits) (cls : ServiceClass) (u p : Nat) (r : Partner) (a slot : Nat) : stage (admitComplete sid cls u p r a slot s).1 = stage s := by
  unfold admitComplete
  dsimp only
  repeat' split
  all_goals simp

@[simp] theorem stage_admitNew (sid : Digits) (cls : ServiceClass) (u : Nat) : stage (admitNew sid cls u s).1 = stage s := by
  unfold admitNew
  repeat' split
  case h_1 hr => simp [stage_roomFor hr]
  all_goals simp

@[simp] theorem stage_doAdmit (sid : BitVec 64) (cls u : Byte) : stage (doAdmit sid cls u s).1 = stage s := by
  unfold doAdmit
  repeat' split
  all_goals simp

@[simp] theorem stage_doRefresh (hd : BitVec 16) (u : Byte) : stage (doRefresh hd u s).1 = stage s := by
  unfold doRefresh
  dsimp only
  repeat' split
  all_goals simp

@[simp] theorem stage_doDetach (hd : BitVec 16) : stage (doDetach hd s).1 = stage s := by
  unfold doDetach
  dsimp only
  repeat' split
  all_goals simp

@[simp] theorem stage_startPurge (tag : Fin 16) (scope : PurgeScope) : stage (startPurge tag scope s).1 = stage s := by
  unfold startPurge
  repeat' split
  all_goals simp

@[simp] theorem stage_doPurge (tag : Fin 16) (scope : Byte) (hnc : BitVec 24) : stage (doPurge tag scope hnc s).1 = stage s := by
  unfold doPurge
  repeat' split
  all_goals simp

@[simp] theorem stage_purgeStep : stage (purgeStep s) = stage s := by
  unfold purgeStep
  dsimp only
  repeat' split
  all_goals simp

@[simp] theorem stage_retireExpiry (slot : Nat) : stage (retireExpiry slot s) = stage s := by
  unfold retireExpiry
  repeat' split
  all_goals simp

/-! ### Chapters 2 and 3 -/

@[simp] theorem stage_movePlan (old : Option Nat) (new : Nat) : stage (movePlan old new s) = stage s := by
  unfold movePlan
  repeat' split
  all_goals simp

@[simp] theorem stage_psetWrite (i : Nat) (p : PsetFields) (d : Digits) (a : Admission) (cf : CheckFail) (c : Charging) : stage (psetWrite i p d a cf c s).1 = stage s := by
  simp [psetWrite]

@[simp] theorem stage_doPset (p : PsetFields) : stage (doPset p s).1 = stage s := by
  unfold doPset
  repeat' split
  all_goals simp

@[simp] theorem stage_doPdel (d : BitVec 24) : stage (doPdel d s).1 = stage s := by
  unfold doPdel
  repeat' split
  all_goals simp

@[simp] theorem stage_doTwrite (plan flags : Byte) (factor : BitVec 16) (rs : List RateField) : stage (doTwrite plan flags factor rs s).1 = stage s := by
  unfold doTwrite
  dsimp only
  repeat' split
  all_goals simp

@[simp] theorem stage_doTopen (plan : Byte) : stage (doTopen plan s).1 = stage s := by
  unfold doTopen
  dsimp only
  repeat' split
  all_goals simp

@[simp] theorem stage_doTcommit (plan : Byte) (check : BitVec 16) : stage (doTcommit plan check s).1 = stage s := by
  unfold doTcommit
  dsimp only
  repeat' split
  all_goals simp

@[simp] theorem stage_handCharge (slot : Nat) (p : Option Partner) (n : Nat) : stage (handCharge slot p n s) = stage s := by
  unfold handCharge
  repeat' split
  all_goals simp

@[simp] theorem stage_markUnreported (a : Nat) (p : Option Partner) (n : Nat) : stage (markUnreported a p n s) = stage s := by
  unfold markUnreported
  repeat' split
  all_goals simp

@[simp] theorem stage_postLive (slot a : Nat) (p : Option Partner) (c : TrafficClass) (up : Bool) (n : Nat) (l : Link) : stage (postLive slot a p c up n l s).1 = stage s := by
  simp [postLive]

@[simp] theorem stage_postDeparting (slot a : Nat) (p : Option Partner) (c : TrafficClass) (up : Bool) (n : Nat) (l : Link) : stage (postDeparting slot a p c up n l s).1 = stage s := by
  unfold postDeparting
  dsimp only
  repeat' split
  all_goals simp

@[simp] theorem stage_postFree (a : Nat) (p : Option Partner) (c : TrafficClass) (up : Bool) (n : Nat) (l : Link) : stage (postFree a p c up n l s).1 = stage s := by
  simp [postFree]

@[simp] theorem stage_postEmergency (slot : Nat) (c : TrafficClass) (up : Bool) (n : Nat) : stage (postEmergency slot c up n s).1 = stage s := by
  simp [postEmergency]

@[simp] theorem stage_postNone (c : TrafficClass) (up : Bool) (n : Nat) : stage (postNone c up n s).1 = stage s := by
  simp [postNone]

@[simp] theorem stage_post (hd : BitVec 16) (c : TrafficClass) (up : Bool) (n : Nat) (l : Link) : stage (post hd c up n l s).1 = stage s := by
  unfold post
  dsimp only
  repeat' split
  all_goals simp

@[simp] theorem stage_doUsage (hd : BitVec 16) (c d : Byte) (n : BitVec 24) (l : Byte) : stage (doUsage hd c d n l s).1 = stage s := by
  unfold doUsage
  repeat' split
  all_goals simp

@[simp] theorem stage_doSettle (a : BitVec 16) : stage (doSettle a s).1 = stage s := by
  unfold doSettle
  dsimp only
  repeat' split
  all_goals simp

@[simp] theorem stage_collectClose (i : Nat) (a : Account) : stage (collectClose i a s) = stage s := by
  simp [collectClose]

@[simp] theorem stage_doCollect (a : BitVec 16) : stage (doCollect a s).1 = stage s := by
  unfold doCollect
  dsimp only
  repeat' split
  all_goals simp

/-! ### Chapter 4 -/

@[simp] theorem stage_doXfetch : stage (doXfetch s).1 = stage s := by
  unfold doXfetch
  dsimp only
  repeat' split
  all_goals simp

@[simp] theorem stage_applyAnswer (x : Exchange) (r : ShoreResult) (u v : Nat) (f : Bool) : stage (applyAnswer x r u v f s) = stage s := by
  unfold applyAnswer
  repeat' split
  all_goals simp

@[simp] theorem stage_doXanswer (ref : BitVec 16) (r : Byte) (u : BitVec 32) (v : BitVec 16) (f : Byte) : stage (doXanswer ref r u v f s).1 = stage s := by
  unfold doXanswer
  repeat' split
  all_goals simp

@[simp] theorem stage_doXfail (ref : BitVec 16) : stage (doXfail ref s).1 = stage s := by
  unfold doXfail
  repeat' split
  all_goals simp

@[simp] theorem stage_grantPasses (slot : Nat) : stage (grantPasses slot s) = stage s := by
  unfold grantPasses
  repeat' split
  all_goals simp

@[simp] theorem stage_askAfterWait (slot : Nat) : stage (askAfterWait slot s) = stage s := by
  unfold askAfterWait
  repeat' split
  all_goals simp

@[simp] theorem stage_retryPasses (slot : Nat) : stage (retryPasses slot s) = stage s := by
  unfold retryPasses
  repeat' split
  all_goals simp

end Sys2Proof.Machine
end

section
/-! PROOFS. The shape of the paths (O56): each operation of the route engine, then every step. -/

namespace Sys2Proof.Machine

variable {s : State}

/-! ### The updates of the state -/

theorem shape_of_rte {t : State} (hr : t.rte = s.rte) (h : PathShape s) : PathShape t := by
  intro r c
  have hp : t.path r c = s.path r c := by simp only [State.path, State.route, hr]
  rw [hp]
  exact h r c

theorem shape_of_stage {t : State} (hr : stage t = stage s) (h : PathShape s) : PathShape t := shape_of_rte (stage_rte hr) h

theorem path_setRoute_self (r : Nat) (v : Route) (c : TrafficClass) : (s.setRoute r v).path r c = cget v.paths c := by
  simp [State.path]

theorem path_setRoute_other {r r' : Nat} (v : Route) (c : TrafficClass) (h : r ≠ r') :
    (s.setRoute r v).path r' c = s.path r' c := by
  simp [State.path, State.setRoute_route, h]

theorem shape_setRoute (r : Nat) (v : Route) (hv : ∀ c, twoLinks (cget v.paths c).state) (h : PathShape s) :
    PathShape (s.setRoute r v) := by
  intro r' c
  rcases eq_or_ne r r' with rfl | hr
  · rw [path_setRoute_self]
    exact hv c
  · rw [path_setRoute_other _ _ hr]
    exact h r' c

theorem path_setPath_self (r : Nat) (c : TrafficClass) (p : Path) : (s.setPath r c p).path r c = p := by
  simp [State.setPath, path_setRoute_self]

theorem shape_setPath (r : Nat) (c : TrafficClass) (p : Path) (hp : twoLinks p.state) (h : PathShape s) :
    PathShape (s.setPath r c p) := by
  refine shape_setRoute _ _ (fun c' => ?_) h
  simp only [cget_cset]
  split
  · exact hp
  · exact h r c'

/-! ### Chapter 6 -/

theorem shape_movePath (r : Nat) (c : TrafficClass) {st : PathState} (reason : Option MoveReason) (d : Byte)
    (a b : Option Link) (hst : twoLinks st) (h : PathShape s) : PathShape (movePath r c st reason d a b s) :=
  shape_of_rte (by simp [movePath]) (shape_setPath r c { s.path r c with state := st, reason := reason } hst h)

theorem shape_startPreparing (r : Nat) (c : TrafficClass) {cur target : Link} (reason : MoveReason) (hne : cur ≠ target)
    (h : PathShape s) : PathShape (startPreparing r c cur target reason s) := shape_movePath _ _ _ _ _ _ hne h

theorem shape_hardSwitch (r : Nat) (c : TrafficClass) (target : Option Link) (reason : Option MoveReason)
    (h : PathShape s) : PathShape (hardSwitch r c target reason s) := by
  unfold hardSwitch
  dsimp only
  split <;> exact shape_movePath _ _ _ _ _ _ trivial h

theorem shape_enterReleasing (r : Nat) (c : TrafficClass) {old new : Link} (hne : old ≠ new) (h : PathShape s) :
    PathShape (enterReleasing r c old new s) := shape_movePath _ _ _ _ _ _ hne.symm h

theorem shape_reselectSteady (r : Nat) (c : TrafficClass) (cur : Link) (reason : MoveReason) (h : PathShape s) :
    PathShape (reselectSteady r c cur reason s) := by
  unfold reselectSteady
  repeat' split
  case h_1.isFalse.isTrue hne _ => exact shape_startPreparing _ _ _ (Ne.symm hne) h
  all_goals simp only [h, shape_hardSwitch]

theorem shape_enterSteady (r : Nat) (c : TrafficClass) (cur : Link) (h : PathShape s) : PathShape (enterSteady r c cur s) :=
  shape_reselectSteady _ _ _ _ (shape_setPath _ _ _ trivial h)

theorem shape_abandon (r : Nat) (c : TrafficClass) (cur next : Link) (h : PathShape s) : PathShape (abandon r c cur next s) :=
  shape_enterSteady _ _ _ (shape_movePath _ _ _ _ _ _ trivial h)

theorem shape_reselect (r : Nat) (c : TrafficClass) (reason : MoveReason) (h : PathShape s) :
    PathShape (reselect r c reason s) := by
  have hshape := h r c
  unfold reselect
  dsimp only
  split
  next => exact shape_reselectSteady _ _ _ _ h
  next => split <;> simp only [h, shape_hardSwitch]
  next cur next _ hst =>
    split
    · exact h
    · split
      · exact shape_abandon _ _ _ _ h
      next hcur =>
        split
        next l hsel =>
          split
          · exact shape_startPreparing _ _ _ (fun hl => hcur (by rw [hsel, hl])) h
          · exact shape_hardSwitch _ _ _ _ h
        next => exact shape_hardSwitch _ _ _ _ h
  next cur next _ hst =>
    rw [hst] at hshape
    repeat' split
    case isFalse.isTrue => exact shape_enterReleasing _ _ hshape h
    all_goals simp only [h, shape_hardSwitch, shape_abandon]
  next => split <;> simp only [h, shape_hardSwitch]

theorem shape_foldl {α : Type} {g : State → α → State} (hg : ∀ (a : α) {s : State}, PathShape s → PathShape (g s a))
    (l : List α) {s : State} (h : PathShape s) : PathShape (l.foldl g s) :=
  List.foldlRecOn l g h fun _ hs a _ => hg a hs

theorem shape_reselectRoute (r : Nat) (reason : MoveReason) (h : PathShape s) : PathShape (reselectRoute r reason s) :=
  shape_foldl (fun c _ h => shape_reselect r c reason h) _ h

theorem shape_reselectAll (reason : MoveReason) (h : PathShape s) : PathShape (reselectAll reason s) :=
  shape_foldl (fun r _ h => shape_reselectRoute r reason h) _ h

theorem shape_pinPath (r : Nat) (c : TrafficClass) (pin : Option Link) (h : PathShape s) :
    PathShape (pinPath r c pin s).1 := shape_reselect _ _ _ (shape_setPath _ _ _ (h r c) h)

theorem shape_readyPath (r : Nat) (c : TrafficClass) {cur next : Link} (hne : cur ≠ next) (h : PathShape s) :
    PathShape (readyPath r c cur next s) := by
  unfold readyPath
  split
  · exact shape_enterReleasing _ _ hne h
  · exact shape_setPath _ _ _ hne h

theorem twoLinks_routeOf (h : PathShape s) {r : Nat} {f : RconfFields} {vs ds ms : List Link} (c : TrafficClass) :
    twoLinks (cget (routeOf (s.route r) f vs ds ms).1.paths c).state := by
  cases c
  · exact h r .voice
  · exact h r .data
  · exact h r .message

theorem shape_doRconf (f : RconfFields) (h : PathShape s) : PathShape (doRconf f s).1 := by
  unfold doRconf
  dsimp only
  repeat' split
  all_goals first | exact h | exact shape_reselectRoute _ _ (shape_setRoute _ _ (twoLinks_routeOf h) h)

theorem shape_doRpin (r c l : Byte) (h : PathShape s) : PathShape (doRpin r c l s).1 := by
  unfold doRpin
  repeat' split
  all_goals simp only [reply_fst, h, shape_pinPath]

theorem shape_doRunpin (r c : Byte) (h : PathShape s) : PathShape (doRunpin r c s).1 := by
  unfold doRunpin
  repeat' split
  all_goals simp only [reply_fst, h, shape_pinPath]

theorem shape_confirmReady (r : Nat) (c : TrafficClass) (l : Link) (h : PathShape s) :
    PathShape (confirmReady r c l s).1 := by
  have hshape := h r c
  unfold confirmReady
  dsimp only
  split
  next cur next _ hst =>
    rw [hst] at hshape
    split <;> simp only [reply_fst, replyWith_fst, h, shape_readyPath _ _ hshape]
  all_goals exact h

theorem shape_doHready (r c l : Byte) (h : PathShape s) : PathShape (doHready r c l s).1 := by
  unfold doHready
  repeat' split
  all_goals simp only [reply_fst, h, shape_confirmReady]

theorem shape_doHdone (r c l : Byte) (h : PathShape s) : PathShape (doHdone r c l s).1 := by
  unfold doHdone confirmDone
  dsimp only
  repeat' split
  all_goals simp only [reply_fst, replyWith_fst, h, shape_enterSteady]

theorem shape_preparePasses (r : Nat) (c : TrafficClass) (h : PathShape s) : PathShape (preparePasses r c s) := by
  unfold preparePasses
  repeat' split
  all_goals simp only [h, shape_abandon, shape_reselectSteady, shape_hardSwitch]

theorem shape_bicastPasses (r : Nat) (c : TrafficClass) (h : PathShape s) : PathShape (bicastPasses r c s) := by
  have hshape := h r c
  unfold bicastPasses
  split
  next cur next _ hst =>
    rw [hst] at hshape
    exact shape_enterReleasing _ _ hshape h
  all_goals exact h

theorem shape_releasePasses (r : Nat) (c : TrafficClass) (h : PathShape s) : PathShape (releasePasses r c s) := by
  unfold releasePasses
  split
  · exact shape_enterSteady _ _ _ (shape_movePath _ _ _ _ _ _ trivial h)
  all_goals exact h

/-! ### Chapter 5 -/

theorem shape_setLink (i : Link) (l : LinkRec) (h : PathShape s) : PathShape (s.setLink i l) := shape_of_rte rfl h

theorem shape_changeLink (i : Link) (new : LinkRec) (cause : LinkCause) (h : PathShape s) :
    PathShape (changeLink i new cause s) := by
  unfold changeLink
  extract_lets old rec' s1 s2
  have hrte : s2.rte = s.rte := by
    unfold s2 s1
    repeat' split
    all_goals simp
  exact shape_reselectAll _ (shape_of_rte hrte h)

theorem shape_endHold (i : Link) (h : PathShape s) : PathShape (endHold i s) := shape_changeLink _ _ _ h

theorem shape_holdForFailure (i : Link) (cause : LinkCause) (h : PathShape s) : PathShape (holdForFailure i cause s) := by
  unfold holdForFailure
  dsimp only
  split
  · exact shape_endHold _ (shape_changeLink _ _ _ h)
  · exact shape_changeLink _ _ _ h

theorem shape_evaluateLink (i : Link) (h : PathShape s) : PathShape (evaluateLink i s) := by
  unfold evaluateLink
  dsimp only
  repeat' split
  all_goals simp only [h, shape_changeLink]

theorem shape_judgeProbe (i : Link) (bad : Bool) (h : PathShape s) : PathShape (judgeProbe i bad s) := by
  unfold judgeProbe
  dsimp only
  repeat' split
  all_goals simp only [h, shape_changeLink, shape_setLink]

theorem shape_actOnMeasurement (i : Link) (bad : Bool) (h : PathShape s) : PathShape (actOnMeasurement i bad s) := by
  unfold actOnMeasurement
  repeat' split
  all_goals simp only [h, shape_judgeProbe, shape_evaluateLink]

theorem shape_doLconf (c : LconfFields) (h : PathShape s) : PathShape (doLconf c s).1 := by
  unfold doLconf
  split
  · exact shape_evaluateLink _ (shape_setLink _ _ h)
  · exact h

theorem shape_doLenable (l : Byte) (h : PathShape s) : PathShape (doLenable l s).1 := by
  unfold doLenable
  dsimp only
  repeat' split
  all_goals simp only [reply_fst, h, shape_changeLink]

theorem shape_doLdisable (l : Byte) (h : PathShape s) : PathShape (doLdisable l s).1 := by
  unfold doLdisable
  dsimp only
  repeat' split
  all_goals simp only [reply_fst, h, shape_changeLink, shape_setLink]

theorem shape_doLmeasure (l : Byte) (d : BitVec 32) (lo le : BitVec 16) (h : PathShape s) : PathShape (doLmeasure l d lo le s).1 := by
  unfold doLmeasure
  dsimp only
  repeat' split
  all_goals simp only [reply_fst, replyWith_fst, h, shape_actOnMeasurement, shape_setLink]

theorem shape_doLloss (l : Byte) (h : PathShape s) : PathShape (doLloss l s).1 := by
  unfold doLloss
  dsimp only
  repeat' split
  all_goals simp only [reply_fst, h, shape_holdForFailure, shape_setLink]

theorem shape_doLhold (l : Byte) (h : PathShape s) : PathShape (doLhold l s).1 := by
  unfold doLhold
  dsimp only
  repeat' split
  all_goals simp only [reply_fst, h, shape_changeLink]

theorem shape_doLrelease (l : Byte) (h : PathShape s) : PathShape (doLrelease l s).1 := by
  unfold doLrelease
  repeat' split
  all_goals simp only [reply_fst, h, shape_changeLink]

theorem shape_doLdrill (l m : Byte) (d : BitVec 16) (h : PathShape s) : PathShape (doLdrill l m d s).1 := by
  unfold doLdrill
  dsimp only
  repeat' split
  all_goals simp only [reply_fst, h, shape_changeLink]

theorem doLread_rte (l c : Byte) : (doLread l c s).1.rte = s.rte := by
  unfold doLread
  repeat' split
  all_goals rfl

theorem shape_stalePasses (i : Link) (h : PathShape s) : PathShape (stalePasses i s) := by
  unfold stalePasses
  split <;> simp only [h, shape_holdForFailure]

theorem shape_holdPasses (i : Link) (h : PathShape s) : PathShape (holdPasses i s) := by
  unfold holdPasses
  split <;> simp only [h, shape_endHold]

theorem shape_drillPasses (i : Link) (h : PathShape s) : PathShape (drillPasses i s) := by
  unfold drillPasses
  extract_lets l l'
  repeat' split
  case isFalse.isTrue => exact shape_of_rte (by simp [linkNotice]) h
  all_goals simp only [h, shape_changeLink]

/-! ### Chapter 7 -/

theorem shape_setPos (p : Position) (h : PathShape s) : PathShape (s.setPos p) := shape_of_rte rfl h

theorem shape_giveNotice (k : NoticeKind) (j : Subject) (d v1 v2 v3 v4 v5 : Byte) (h : PathShape s) :
    PathShape (giveNotice k j d v1 v2 v3 v4 v5 s) := shape_of_rte (giveNotice_rte ..) h

theorem shape_handOnPermit (old : LinkSet) (h : PathShape s) : PathShape (handOnPermit old s) := by
  unfold handOnPermit
  extract_lets new s1 s2
  split
  · exact h
  · have hrte : s2.rte = s.rte := by
      unfold s2 s1
      split <;> simp
    exact shape_reselectAll _ (shape_of_rte hrte h)

theorem shape_handOnPolicy (old : Policy) (h : PathShape s) : PathShape (handOnPolicy old s) :=
  shape_of_rte (handOnPolicy_rte ..) h

theorem shape_handOn (old : InForce) (h : PathShape s) : PathShape (handOn old s) :=
  shape_handOnPolicy _ (shape_handOnPermit _ h)

theorem shape_changedNotice (k : Nat) (st : PositionState) (c : ChangeClass) (h : PathShape s) :
    PathShape (changedNotice k st c s) := shape_of_rte (changedNotice_rte ..) h

theorem shape_takeEffect (k : Nat) (c : ChangeClass) (h : PathShape s) : PathShape (takeEffect k c s) :=
  shape_handOn _ (shape_changedNotice _ _ _ (shape_setPos _ h))

theorem shape_countFix (k : Nat) (c : ChangeClass) (h : PathShape s) : PathShape (countFix k c s) := by
  unfold countFix
  dsimp only
  split <;> simp only [h, shape_takeEffect, shape_setPos]

theorem shape_wantChange (k : Nat) (f : Fix) (h : PathShape s) : PathShape (wantChange k f s) := by
  unfold wantChange
  repeat' split
  all_goals simp only [h, shape_takeEffect, shape_countFix]

theorem shape_evaluateFix (f : Fix) (h : PathShape s) : PathShape (evaluateFix f s) := by
  unfold evaluateFix
  extract_lets k b s1 p s2
  have h1 : PathShape s1 := shape_setPos _ h
  have h2 : PathShape s2 := by
    unfold s2
    split
    · exact h1
    · exact shape_setPos _ h1
  split
  · exact shape_setPos _ h1
  · exact shape_wantChange _ _ h2

theorem shape_writeZone (i : Nat) (z : Zone) (h : PathShape s) : PathShape (writeZone i z s) := by
  have h1 (p : Position) : PathShape ((s.setZone i z).setPos p) := shape_of_rte rfl h
  unfold writeZone editInForce
  dsimp only
  split
  · exact h1 _
  · exact shape_handOn _ (shape_giveNotice _ _ _ _ _ _ _ _ (h1 _))

theorem shape_doZset (z : ZsetFields) (h : PathShape s) : PathShape (doZset z s).1 := by
  unfold doZset
  dsimp only
  repeat' split
  all_goals simp only [reply_fst, h, shape_writeZone]

theorem doFixpost_rte (e n : BitVec 24) (q : Byte) : (doFixpost e n q s).1.rte = s.rte := by
  unfold doFixpost
  repeat' split
  all_goals rfl

theorem shape_takeFix (h : PathShape s) : PathShape (takeFix s) := by
  unfold takeFix
  split
  · exact h
  next x rest _ =>
    have h1 : PathShape (s.withZne { s.zne with fifo := rest }) := shape_of_rte rfl h
    dsimp only
    split
    · exact h1
    · exact shape_evaluateFix _ h1

theorem shape_positionPasses (h : PathShape s) : PathShape (positionPasses s) := by
  unfold positionPasses
  dsimp only
  split
  · exact h
  · split
    · exact shape_handOnPolicy _ (shape_giveNotice _ _ _ _ _ _ _ _ (shape_setPos _ h))
    · exact shape_setPos _ h
    · exact shape_setPos _ h

/-! ### Chapters 8 and 9 -/

theorem foldl_rte {α : Type} {g : State → α → State} (hg : ∀ s a, (g s a).rte = s.rte) (l : List α) (s : State) :
    (l.foldl g s).rte = s.rte :=
  List.foldlRecOn l g (motive := fun t => t.rte = s.rte) rfl fun t ht a _ => (hg t a).trans ht

theorem operatorMute_rte (on : Bool) : (operatorMute on s).rte = s.rte := by
  unfold operatorMute
  split <;> simp

theorem doExclude_rte (u : Byte) : (doExclude u s).1.rte = s.rte := by
  unfold doExclude excludeUnit
  repeat' split
  all_goals simp

theorem doInclude_rte (u : Byte) : (doInclude u s).1.rte = s.rte := by
  unfold doInclude includeUnit
  repeat' split
  all_goals simp

theorem doProbe_rte (u : Byte) : (doProbe u s).1.rte = s.rte := by
  unfold doProbe
  dsimp only
  repeat' split
  all_goals simp

theorem completeBus_rte {g : State → State} (hg : ∀ s, (g s).rte = s.rte) (sent : List BusSymbol)
    (w : List Nat) : (completeBus sent w g s).rte = s.rte := by
  simp [completeBus, hg]

theorem busAnswered_rte (w : List Nat) : (busAnswered w s).rte = s.rte := by
  unfold busAnswered
  split
  · rfl
  · rfl
  · exact completeBus_rte (fun _ => commandAnsweredRule_rte ..) ..

theorem busNoack_rte (f : BusFailure) (w : List Nat) : (busNoack f w s).rte = s.rte := by
  unfold busNoack
  split
  · rfl
  · rfl
  · exact completeBus_rte (fun _ => noackRule_rte ..) ..

theorem pollDone_rte (a b : Byte) (w : List Nat) : (pollDone a b w s).rte = s.rte := by
  unfold pollDone
  split
  · split
    · exact completeBus_rte (fun _ => pollAnsweredRule_rte ..) ..
    · exact completeBus_rte (fun _ => noackRule_rte ..) ..
  all_goals rfl

theorem pollFailed_rte (f : BusFailure) (w : List Nat) : (pollFailed f w s).rte = s.rte := by
  unfold pollFailed
  split
  · exact completeBus_rte (fun _ => noackRule_rte ..) ..
  all_goals rfl

theorem deadlinePasses_rte : (deadlinePasses s).rte = s.rte := by
  unfold deadlinePasses
  split <;> simp

theorem pollPasses_rte : (pollPasses s).rte = s.rte := by
  unfold pollPasses pollRound
  split
  · rfl
  · simp [foldl_rte fun s u => placeMark_rte _ _ s]

theorem probeUnit_rte (u : Nat) : (probeUnit u s).rte = s.rte := by
  unfold probeUnit
  split <;> rfl

theorem doStart_rte (tag : Fin 16) : (doStart tag s).1.rte = s.rte := by
  unfold doStart startProbe
  repeat' split
  all_goals simp [foldl_rte fun s u => probeUnit_rte (s := s) u]

theorem shape_stopPosition (h : PathShape s) : PathShape (stopPosition s) := by
  have h1 := shape_setPos positionReset h
  refine shape_handOn _ ?_
  split
  · exact h1
  · exact shape_changedNotice _ _ _ h1

theorem shape_leaveService (h : PathShape s) : PathShape (leaveService s) := by
  have h1 : PathShape (s.withRqp { s.rqp with mode := .config }) := shape_of_rte rfl h
  exact shape_of_rte (t := leaveService s) (by rw [leaveService]; exact assertRfoff_rte _) (shape_stopPosition h1)

theorem shape_doStop (h : PathShape s) : PathShape (doStop s).1 := by
  unfold doStop
  repeat' split
  all_goals simp only [reply_fst, h, shape_leaveService]

theorem doDset_rte (d : DsetFields) : (doDset d s).1.rte = s.rte := by
  unfold doDset storeSettings
  repeat' split
  all_goals rfl

theorem doIdent_rte (c : Byte) : (doIdent c s).1.rte = s.rte := by
  unfold doIdent
  rw [replyWith_fst]
  split <;> rfl

/-! ### The time base -/

theorem twoLinks_pathTick {p : Path} (h : twoLinks p.state) : twoLinks (pathTick p).state := by
  unfold pathTick
  split
  next hst => simpa [hst, twoLinks] using h
  all_goals exact h

theorem twoLinks_pathSecond {p : Path} (h : twoLinks p.state) : twoLinks (pathSecond p).state := by
  unfold pathSecond
  split
  next hst => simpa [hst, twoLinks] using h
  next hst => simpa [hst, twoLinks] using h
  all_goals exact h

theorem shape_mapPaths {t : State} {g : Path → Path} (hg : ∀ {p : Path}, twoLinks p.state → twoLinks (g p).state)
    (hreset : g pathReset = pathReset) (ht : t.rte.routes = tmap (mapPaths g) s.rte.routes) (h : PathShape s) :
    PathShape t := by
  intro r c
  have hr : mapPaths g routeReset = routeReset := by simp [mapPaths, routeReset, hreset]
  have hp : (t.path r c) = g (s.path r c) := by
    simp only [State.path, State.route, ht, tget_tmap _ _ _ _ hr]
    cases c <;> rfl
  rw [hp]
  exact hg (h r c)

theorem shape_tickHundredth (h : PathShape s) : PathShape (tickHundredth s) :=
  shape_mapPaths twoLinks_pathTick rfl rfl h

theorem shape_tickSecond (h : PathShape s) : PathShape (tickSecond s) :=
  shape_mapPaths twoLinks_pathSecond rfl rfl h

theorem shape_tick (h : PathShape s) : PathShape (tick s) := by
  have h1 := shape_tickHundredth h
  unfold tick
  dsimp only
  repeat' split
  · exact shape_of_rte rfl h1
  · exact shape_of_rte rfl (shape_tickSecond h1)
  · exact shape_of_rte rfl (shape_tickSecond h1)

/-! ### Every step -/

theorem shape_work {i : Instr} {f : Frame} {k : RequestKind} {body : State → Reply} (hw : workOf i = some (f, k, body))
    (h : PathShape s) : PathShape (body s).1 := by
  cases i <;> simp only [workOf, Option.some.injEq, Prod.mk.injEq, reduceCtorEq] at hw <;> obtain ⟨rfl, rfl, rfl⟩ := hw
  case clock | nfetch | uaread | nread | navconf => exact shape_of_rte rfl h
  case rmute => exact shape_of_rte (operatorMute_rte true) h
  case rrelease => exact shape_of_rte (operatorMute_rte false) h
  case lread => exact shape_of_rte (doLread_rte ..) h
  case fixpost => exact shape_of_rte (doFixpost_rte ..) h
  case ucmdExclude => exact shape_of_rte (doExclude_rte ..) h
  case ucmdInclude => exact shape_of_rte (doInclude_rte ..) h
  case ucmdProbe => exact shape_of_rte (doProbe_rte ..) h
  case start => exact shape_of_rte (doStart_rte ..) h
  case dset => exact shape_of_rte (doDset_rte ..) h
  case ident => exact shape_of_rte (doIdent_rte ..) h
  case admitVisitor => exact shape_of_stage (stage_doAdmit ..) h
  case refresh => exact shape_of_stage (stage_doRefresh ..) h
  case detach => exact shape_of_stage (stage_doDetach ..) h
  case purge => exact shape_of_stage (stage_doPurge ..) h
  case pset => exact shape_of_stage (stage_doPset ..) h
  case pdel => exact shape_of_stage (stage_doPdel ..) h
  case twrite => exact shape_of_stage (stage_doTwrite ..) h
  case topen => exact shape_of_stage (stage_doTopen ..) h
  case tcommit => exact shape_of_stage (stage_doTcommit ..) h
  case usage => exact shape_of_stage (stage_doUsage ..) h
  case settle => exact shape_of_stage (stage_doSettle ..) h
  case collect => exact shape_of_stage (stage_doCollect ..) h
  case xfetch => exact shape_of_stage stage_doXfetch h
  case xanswer => exact shape_of_stage (stage_doXanswer ..) h
  case xfail => exact shape_of_stage (stage_doXfail ..) h
  all_goals simp only [h, doVread_fst, doPread_fst, doTread_fst, doAread_fst, doRread_fst, doLookup_fst, doZread_fst,
    doUread_fst, shape_doLconf, shape_doLenable, shape_doLdisable, shape_doLmeasure, shape_doLloss, shape_doLhold,
    shape_doLrelease, shape_doLdrill, shape_doRconf, shape_doRpin, shape_doRunpin, shape_doHready, shape_doHdone,
    shape_doZset, shape_doStop]

theorem shape_resetState (n : Nat) (q : List Instr) : PathShape (resetState n q) := by
  intro r c
  cases c <;> trivial

theorem shape_lineBytes (bs : List LineByte) (h : PathShape s) :
    PathShape (bs.foldl (fun s b => lineByte b s) s) := shape_of_rte (foldl_rte (fun s b => lineByte_rte b s) bs s) h

theorem shape_event {i : Instr} {g : State → State} (he : eventOf i = some g) (h : PathShape s) : PathShape (g s) := by
  cases i <;> simp only [eventOf, Option.some.injEq, reduceCtorEq] at he <;> subst he
  case answerRead n => exact shape_of_rte (settleOut_rte ..) h
  case deviceReset => exact shape_resetState _ _
  case navMessage bs => exact shape_lineBytes bs h
  case shipTimeTick => exact shape_of_rte rfl h
  case navByte | navFramingError | navBreak => exact shape_of_rte (lineByte_rte ..) h
  case purgeWalkStep => exact shape_of_stage stage_purgeStep h
  case retireTimerExpiry => exact shape_of_stage (stage_retireExpiry ..) h
  case grantExpiry => exact shape_of_stage (stage_grantPasses ..) h
  case retryWaitExpiry => exact shape_of_stage (stage_retryPasses ..) h
  case answerTimerExpiry => exact shape_of_stage (stage_failExchange ..) h
  case muteDeadlineExpiry => exact shape_of_rte deadlinePasses_rte h
  case pollTimerExpiry => exact shape_of_rte pollPasses_rte h
  case commandAnswered => exact shape_of_rte (busAnswered_rte ..) h
  case commandNoack => exact shape_of_rte (busNoack_rte ..) h
  case pollAnswered => exact shape_of_rte (pollDone_rte ..) h
  case pollNoack => exact shape_of_rte (pollFailed_rte ..) h
  all_goals simp only [h, shape_takeFix, shape_stalePasses, shape_holdPasses, shape_drillPasses, shape_preparePasses,
    shape_bicastPasses, shape_releasePasses, shape_positionPasses]

theorem shape_kept : Kept PathShape where
  port hp := shape_of_rte (by rw [hp.rest]; rfl)
  queue _ := shape_of_rte rfl
  work := shape_work
  resync := shape_of_rte rfl
  event := shape_event
  tick := shape_tick

/-- Settles O56: no kind of command breaks the canonical form or the shape of the paths. -/
theorem tablesAndPathsKept : Obligations.TablesAndPathsKept :=
  fun s t hstep => ⟨fun h => (canon_iff t).mp (canon_kept.step ((canon_iff s).mpr h) hstep), fun h => shape_kept.step h hstep⟩

end Sys2Proof.Machine
end

section
/-! PROOFS. The data gates (O57): what each operation does to the states and quota parts of the visitors, and that no OPEN gate is left
without credit. -/

namespace Sys2Proof.Machine

variable {s : State}

/-! ### Visitors after an update -/

theorem visitor_setSlot (i j : Nat) (e : Slot) : (s.setSlot i e).visitor j = if i = j then e.visitor else s.visitor j := by
  unfold State.visitor
  rw [State.setSlot_slot]
  split <;> rfl

theorem visitor_updVisitor (i j : Nat) (g : Visitor → Visitor) :
    (s.updVisitor i g).visitor j = if i = j then (s.visitor i).map g else s.visitor j := by
  rcases hv : s.visitor i with _ | v
  · have hs : s.updVisitor i g = s := by
      have hslot : (s.slot i).visitor = none := hv
      simp [State.updVisitor, hslot]
    rw [hs]
    split
    next heq => rw [← heq, hv, Option.map_none]
    · rfl
  · rw [updVisitor_of_visitor g hv, visitor_setSlot]
    rfl

/-- The state and the quota part of the visitor in a slot. -/
def gates (s : State) (i : Nat) : Option (VisitorState × Option Quota) := (s.visitor i).map fun v => (v.state, v.quota)

theorem gates_of_vrg {t : State} (h : t.vrg = s.vrg) : gates t = gates s := by
  funext i
  simp only [gates, State.visitor, State.slot, h]

theorem gates_of_slots {t : State} (h : t.vrg.slots = s.vrg.slots) : gates t = gates s := by
  funext i
  simp only [gates, State.visitor, State.slot, h]

theorem gates_setSlot (i : Nat) (e : Slot) (j : Nat) :
    gates (s.setSlot i e) j = if i = j then e.visitor.map fun v => (v.state, v.quota) else gates s j := by
  simp only [gates, visitor_setSlot]
  split <;> rfl

theorem gates_updVisitor (i : Nat) (g : Visitor → Visitor) (j : Nat) :
    gates (s.updVisitor i g) j =
      if i = j then (s.visitor i).map (fun v => ((g v).state, (g v).quota)) else gates s j := by
  simp only [gates, visitor_updVisitor]
  split
  · rw [Option.map_map]
    rfl
  · rfl

theorem gates_updVisitor_kept (i : Nat) {g : Visitor → Visitor} (hst : ∀ v, (g v).state = v.state)
    (hq : ∀ v, (g v).quota = v.quota) : gates (s.updVisitor i g) = gates s := by
  funext j
  rw [gates_updVisitor]
  split
  next h => simp only [hst, hq, ← h, gates]
  · rfl

theorem gates_updQuota (i : Nat) (g : Quota → Quota) (j : Nat) :
    gates (s.updQuota i g) j = if i = j then (gates s i).map (fun e => (e.1, e.2.map g)) else gates s j := by
  rw [State.updQuota, gates_updVisitor]
  split
  · simp [gates, Function.comp_def]
  · rfl

/-! ### Operations that keep every state and quota part -/

@[simp] theorem gates_giveNotice (k : NoticeKind) (j : Subject) (d v1 v2 v3 v4 v5 : Byte) :
    gates (giveNotice k j d v1 v2 v3 v4 v5 s) = gates s := gates_of_vrg (giveNotice_vrg ..)

@[simp] theorem gates_withActivity (l : List Nat) : gates (s.withVrg { s.vrg with activity := l }) = gates s :=
  gates_of_slots rfl

@[simp] theorem gates_createExchange (i slot : Nat) (k : XKind) : gates (createExchange i slot k s) = gates s := by
  unfold createExchange
  extract_lets use s1 s2
  rw [gates_of_vrg (noticeToSend_vrg ..)]
  exact (gates_updVisitor_kept slot (by intro; rfl) (by intro; rfl)).trans (gates_of_vrg rfl)

@[simp] theorem gates_requestExchange (slot : Nat) (k : XKind) : gates (requestExchange slot k s) = gates s := by
  unfold requestExchange
  split
  · exact gates_createExchange ..
  · exact (gates_updVisitor_kept slot (by intro; rfl) (by intro; rfl)).trans (gates_of_vrg rfl)

@[simp] theorem gates_serveDeferred (i : Nat) : gates (serveDeferred i s) = gates s := by
  unfold serveDeferred
  split
  · exact (gates_createExchange ..).trans (gates_of_vrg rfl)
  · rfl

@[simp] theorem gates_freeEntry (i : Nat) : gates (freeEntry i s) = gates s := by
  unfold freeEntry
  split
  next x _ =>
    dsimp only
    rw [gates_serveDeferred]
    exact (gates_updVisitor_kept x.slot (by intro; rfl) (by intro; rfl)).trans (gates_of_vrg rfl)
  · rfl

@[simp] theorem gates_leaveDeferred (slot : Nat) : gates (leaveDeferred slot s) = gates s := by
  unfold leaveDeferred
  exact (gates_updVisitor_kept slot (by intro; rfl) (by intro; rfl)).trans (gates_of_vrg rfl)

@[simp] theorem gates_reorderCheck (slot : Nat) : gates (reorderCheck slot s) = gates s := by
  unfold reorderCheck
  repeat' split
  all_goals simp

@[simp] theorem gates_activity (slot : Nat) : gates (activity slot s) = gates s := by
  unfold activity
  exact (gates_updVisitor_kept slot (by intro; rfl) (by intro; rfl)).trans (gates_withActivity _)

@[simp] theorem gates_askAfterWait (slot : Nat) : gates (askAfterWait slot s) = gates s := by
  unfold askAfterWait
  repeat' split
  all_goals simp

@[simp] theorem gates_requeue (i : Nat) (x : Exchange) : gates (requeue i x s) = gates s := by
  unfold requeue
  extract_lets use s1 s2
  rw [gates_of_vrg (noticeToSend_vrg ..)]
  exact (gates_updVisitor_kept x.slot (by intro; rfl) (by intro; rfl)).trans (gates_of_vrg rfl)

/-! ### Sound gates -/

/-- An OPEN gate has credit behind it, waits for nothing and belongs to a visitor that is not DEPARTING. -/
def SoundGate (e : Option (VisitorState × Option Quota)) : Prop :=
  ∀ st q, e = some (st, some q) → q.gate = .opened → 0 < q.remaining ∧ q.retry = none ∧ st ≠ .departing

/-- An OPEN gate belongs to a visitor that is not DEPARTING: what a gate evaluation needs to make a gate sound. -/
def PresentGate (e : Option (VisitorState × Option Quota)) : Prop :=
  ∀ st q, e = some (st, some q) → q.gate = .opened → st ≠ .departing

/-- No gate is OPEN. -/
def ClosedGate (e : Option (VisitorState × Option Quota)) : Prop := ∀ st q, e = some (st, some q) → q.gate ≠ .opened

theorem gateSound_iff : GateSound s ↔ ∀ i, SoundGate (gates s i) := by
  constructor
  · intro h i st q he hg
    obtain ⟨v, hv, hp⟩ := Option.map_eq_some_iff.mp he
    obtain ⟨rfl, hq⟩ := Prod.mk.inj hp
    exact h i v q hv hq hg
  · intro h i v q hv hq hg
    exact h i v.state q (by simp [gates, hv, hq]) hg

theorem gate_of_gates {t : State} (ht : gates t = gates s) (h : GateSound s) : GateSound t := by
  rw [gateSound_iff] at *
  rw [ht]
  exact h

theorem gate_of_vrg {t : State} (ht : t.vrg = s.vrg) (h : GateSound s) : GateSound t := gate_of_gates (gates_of_vrg ht) h

/-- Every gate is sound but one, and that one is not OPEN for a DEPARTING visitor. -/
structure AlmostSound (slot : Nat) (s : State) : Prop where
  others : ∀ i, slot ≠ i → SoundGate (gates s i)
  here : PresentGate (gates s slot)

theorem AlmostSound.of_sound (slot : Nat) (h : GateSound s) : AlmostSound slot s where
  others i _ := gateSound_iff.mp h i
  here st q he hg := (gateSound_iff.mp h slot st q he hg).2.2

theorem AlmostSound.of_gates {slot : Nat} {t : State} (ht : gates t = gates s) (h : AlmostSound slot s) :
    AlmostSound slot t := by
  constructor
  · rw [ht]
    exact h.others
  · rw [ht]
    exact h.here

/-- A change of a quota part that opens no gate leaves the other gates sound. -/
theorem AlmostSound.updQuota {slot : Nat} {g : Quota → Quota} (hg : ∀ q, (g q).gate = q.gate) (h : AlmostSound slot s) :
    AlmostSound slot (s.updQuota slot g) := by
  constructor
  · intro i hi
    rw [gates_updQuota, if_neg hi]
    exact h.others i hi
  · rw [gates_updQuota, if_pos rfl]
    intro st q he hq
    obtain ⟨⟨st', q'⟩, he', hp⟩ := Option.map_eq_some_iff.mp he
    obtain ⟨rfl, hm⟩ := Prod.mk.inj hp
    obtain ⟨q0, rfl, rfl⟩ := Option.map_eq_some_iff.mp hm
    exact h.here _ q0 he' ((hg q0).symm.trans hq)

/-- The quota part of one visitor is replaced by a sound one. -/
theorem AlmostSound.sound_updQuota {slot : Nat} {g : Quota → Quota} (h : AlmostSound slot s)
    (hg : ∀ st q, gates s slot = some (st, some q) → SoundGate (some (st, some (g q)))) :
    GateSound (s.updQuota slot g) := by
  rw [gateSound_iff]
  intro i
  rw [gates_updQuota]
  split
  next hi =>
    intro st q he
    obtain ⟨⟨st', q'⟩, he', hp⟩ := Option.map_eq_some_iff.mp he
    obtain ⟨rfl, hm⟩ := Prod.mk.inj hp
    obtain ⟨q0, rfl, rfl⟩ := Option.map_eq_some_iff.mp hm
    exact hg _ q0 he' _ _ rfl
  next hi => exact h.others i hi

/-- A gate that is set to another value than OPEN is sound. -/
theorem AlmostSound.sound_closed {slot : Nat} {g : Quota → Quota} (h : AlmostSound slot s)
    (hg : ∀ q, (g q).gate ≠ .opened) : GateSound (s.updQuota slot g) :=
  h.sound_updQuota fun _ q _ _ _ he hq => by
    obtain ⟨-, rfl⟩ := by simpa using he
    exact absurd hq (hg q)

theorem gate_shutGate {slot : Nat} (c : Byte) (h : AlmostSound slot s) : GateSound (shutGate slot c s) := by
  unfold shutGate
  split
  next q _ =>
    have h1 : GateSound (s.updQuota slot fun q => { q with gate := .shut }) := h.sound_closed (by simp)
    dsimp only
    split
    · exact h1
    · exact gate_of_gates (gates_giveNotice ..) h1
  next hq =>
    rw [gateSound_iff]
    intro i
    rcases eq_or_ne slot i with rfl | hi
    · intro st q he
      obtain ⟨v, hv, hp⟩ := Option.map_eq_some_iff.mp he
      obtain ⟨rfl, hvq⟩ := Prod.mk.inj hp
      simp [State.quota, hv, hvq] at hq
    · exact h.others i hi

/-- The gate evaluation makes every gate sound (R70). -/
theorem gate_gateEvaluation {slot : Nat} (h : AlmostSound slot s) : GateSound (gateEvaluation slot s) := by
  have hfree (hno : ∀ st q, gates s slot ≠ some (st, some q)) : GateSound s := by
    rw [gateSound_iff]
    intro i
    rcases eq_or_ne slot i with rfl | hi
    · exact fun st q he => absurd he (hno st q)
    · exact h.others i hi
  unfold gateEvaluation
  split
  next v hv =>
    split
    next q hq =>
      have hgates : gates s slot = some (v.state, some q) := by simp [gates, hv, hq]
      split
      next hdep =>
        rw [gateSound_iff]
        intro i
        rcases eq_or_ne slot i with rfl | hi
        · intro st q' he hg
          obtain ⟨rfl, rfl⟩ : v.state = st ∧ q = q' := by simpa [hgates] using he
          exact absurd (by simpa [present] using hdep) (h.here _ _ he hg)
        · exact h.others i hi
      next hpres =>
        split
        · exact h.sound_closed (by simp)
        next hretry =>
          split
          next hrem =>
            refine h.sound_updQuota fun st q' he st' q'' he' _ => ?_
            obtain ⟨rfl, rfl⟩ : v.state = st ∧ q = q' := by simpa [hgates] using he
            obtain ⟨rfl, rfl⟩ := by simpa using he'
            exact ⟨hrem, by simpa using hretry, by simpa [present] using hpres⟩
          · split
            · exact h.sound_closed (by simp)
            · split
              · exact (h.of_gates (gates_requestExchange ..)).sound_closed (by simp)
              · exact gate_shutGate _ h
    next hq => exact hfree fun st q => by simp [gates, hv, hq]
  next hv => exact hfree fun st q => by simp [gates, hv]

/-! ### The operations of the quota engine -/

theorem gate_gateEvaluation_of_sound (slot : Nat) (h : GateSound s) : GateSound (gateEvaluation slot s) :=
  gate_gateEvaluation (.of_sound slot h)

theorem gate_updQuota_departing {slot : Nat} {g : Quota → Quota} (hg : ∀ q, (g q).gate = q.gate)
    (hdep : ∀ v, s.visitor slot = some v → v.state = .departing) (h : GateSound s) : GateSound (s.updQuota slot g) := by
  refine (AlmostSound.of_sound slot h).sound_updQuota fun st q he st' q' he' hopen => ?_
  obtain ⟨rfl, rfl⟩ := by simpa using he'
  obtain ⟨v, hv, hp⟩ := Option.map_eq_some_iff.mp he
  obtain ⟨rfl, -⟩ := Prod.mk.inj hp
  exact absurd (hdep v hv) (gateSound_iff.mp h slot _ q he ((hg q).symm.trans hopen)).2.2

theorem gate_quotaCharge (slot n : Nat) (h : GateSound s) : GateSound (quotaCharge slot n s) := by
  unfold quotaCharge
  extract_lets s1
  have h1 : AlmostSound slot s1 := (AlmostSound.of_sound slot h).updQuota fun _ => rfl
  split
  next v hv =>
    split
    · exact gate_gateEvaluation (h1.of_gates (gates_reorderCheck slot))
    next hdep =>
      refine gate_updQuota_departing (fun _ => rfl) (fun v' hv' => ?_) h
      have hstate : v.state = v'.state := by
        have := hv
        rw [show s1.visitor slot = _ from visitor_updVisitor .., if_pos rfl, hv'] at this
        cases this
        rfl
      rw [← hstate]
      simpa [present] using hdep
  next hv =>
    refine gate_updQuota_departing (fun _ => rfl) (fun v' hv' => ?_) h
    rw [show s1.visitor slot = _ from visitor_updVisitor .., if_pos rfl, hv'] at hv
    cases hv

theorem gate_becameActive (slot : Nat) (h : GateSound s) : GateSound (becameActive slot s) := by
  unfold becameActive
  split
  · split
    · refine gate_gateEvaluation_of_sound slot ?_
      split
      · exact gate_of_gates (gates_requestExchange ..) h
      · exact h
    · exact h
  · exact h

/-- A visitor that is set to another state than DEPARTING keeps its gate sound. -/
theorem gate_setState (slot : Nat) {g : Visitor → Visitor} (hst : ∀ v, (g v).state ≠ .departing)
    (hq : ∀ v, (g v).quota = v.quota) (h : GateSound s) : GateSound (s.updVisitor slot g) := by
  rw [gateSound_iff] at *
  intro i
  rw [gates_updVisitor]
  split
  next hi =>
    intro st q he hopen
    obtain ⟨v, hv, hp⟩ := Option.map_eq_some_iff.mp he
    obtain ⟨rfl, hvq⟩ := Prod.mk.inj hp
    rw [hq] at hvq
    obtain ⟨hrem, hretry, -⟩ := h slot v.state q (by simp [gates, hv, hvq]) hopen
    exact ⟨hrem, hretry, hst v⟩
  · exact h i

theorem gate_suspend (slot : Nat) (h : GateSound s) : GateSound (suspend slot s) :=
  gate_setState slot (by simp) (fun _ => rfl) h

theorem gate_activate (slot : Nat) (h : GateSound s) : GateSound (activate slot s) :=
  gate_setState slot (by simp) (fun _ => rfl) h

theorem gate_activity (slot : Nat) (h : GateSound s) : GateSound (activity slot s) := gate_of_gates (gates_activity _) h

/-! ### Retirement -/

/-- Every gate is sound, and the one of the slot is not OPEN. -/
structure SoundAndClosed (slot : Nat) (s : State) : Prop where
  sound : GateSound s
  closed : ClosedGate (gates s slot)

theorem SoundAndClosed.of_gates {slot : Nat} {t : State} (ht : gates t = gates s) (h : SoundAndClosed slot s) :
    SoundAndClosed slot t where
  sound := gate_of_gates ht h.sound
  closed := by
    rw [ht]
    exact h.closed

theorem soundAndClosed_stopQuota (slot : Nat) (h : GateSound s) : SoundAndClosed slot (stopQuota slot s) where
  sound := (AlmostSound.of_sound slot h).sound_closed (by simp)
  closed := by
    rw [stopQuota, gates_updQuota, if_pos rfl]
    intro st q he
    obtain ⟨⟨st', q'⟩, -, hp⟩ := Option.map_eq_some_iff.mp he
    obtain ⟨rfl, hm⟩ := Prod.mk.inj hp
    obtain ⟨q0, rfl, rfl⟩ := Option.map_eq_some_iff.mp hm
    simp

theorem gates_setReason (slot : Nat) (r : Option RetireReason) :
    gates (s.setSlot slot { s.slot slot with reason := r }) = gates s := by
  funext j
  rw [gates_setSlot]
  split
  next h => rw [← h]; rfl
  · rfl

theorem soundAndClosed_retireSteps (slot : Nat) (r : RetireReason) (h : GateSound s) :
    SoundAndClosed slot (retireSteps slot r s) := by
  unfold retireSteps
  extract_lets b s1 s2 s3 b' s4 s5
  have h1 : GateSound s1 := gate_of_gates (gates_setReason _ _) h
  have h2 : GateSound s2 := by
    unfold s2
    split
    · exact gate_of_gates (gates_freeEntry _) h1
    · exact h1
  have h4 : GateSound s4 := gate_of_gates ((gates_withActivity _).trans (gates_leaveDeferred slot)) h2
  have h5 : SoundAndClosed slot s5 :=
    soundAndClosed_stopQuota slot (gate_of_gates (gates_updVisitor_kept slot (fun _ => rfl) fun _ => rfl) h4)
  split
  · split
    · exact h5
    · exact h5.of_gates (gates_of_vrg (by simp))
  · exact h5

theorem gate_becomeFree (slot : Nat) (h : GateSound s) : GateSound (becomeFree slot s) := by
  unfold becomeFree
  split
  · rw [gateSound_iff] at *
    intro i
    rw [gates_of_vrg (State.updVisitors_vrg ..), gates_setSlot]
    split
    · intro st q he
      cases he
    · exact h i
  · exact h

theorem gate_setDeparting {slot : Nat} (h : SoundAndClosed slot s) :
    GateSound (s.updVisitor slot fun v => { v with state := .departing }) := by
  rw [gateSound_iff]
  intro i
  rw [gates_updVisitor]
  split
  next hi =>
    intro st q he hopen
    obtain ⟨v, hv, hp⟩ := Option.map_eq_some_iff.mp he
    obtain ⟨-, hvq : v.quota = some q⟩ := Prod.mk.inj hp
    exact absurd hopen (h.closed v.state q (by simp [gates, hv, hvq]))
  · exact gateSound_iff.mp h.sound i

theorem gate_departOrFree {slot : Nat} (h : SoundAndClosed slot s) : GateSound (departOrFree slot s) := by
  have hfree := gate_becomeFree slot h.sound
  unfold departOrFree
  dsimp only
  split
  · split
    · exact gate_setDeparting h
    · exact gate_of_gates (gates_requestExchange ..) (gate_setDeparting h)
  · split
    · exact gate_of_gates (gates_freeEntry _) hfree
    · exact hfree

theorem gate_retire (slot : Nat) (r : RetireReason) (h : GateSound s) : GateSound (retire slot r s) := by
  have h1 := gate_departOrFree (soundAndClosed_retireSteps slot r h)
  unfold retire
  dsimp only
  split
  · exact gate_of_gates (gates_giveNotice ..) h1
  · exact h1

theorem gate_evict (slot : Nat) (h : GateSound s) : GateSound (evict slot s) := by
  unfold evict
  extract_lets s1 s2 s3
  have h1 : GateSound s1 := (soundAndClosed_retireSteps slot .evicted h).sound
  have h2 : GateSound s2 := by
    unfold s2
    split
    · exact gate_of_vrg (by simp) h1
    · exact h1
  have h3 : GateSound s3 := by
    unfold s3
    split
    · exact gate_of_gates (gates_freeEntry _) (gate_becomeFree slot h2)
    · exact gate_becomeFree slot h2
  exact gate_of_gates (gates_giveNotice ..) h3

theorem gate_foldl {α : Type} {g : State → α → State} (hg : ∀ (a : α) {s : State}, GateSound s → GateSound (g s a))
    (l : List α) {s : State} (h : GateSound s) : GateSound (l.foldl g s) :=
  List.foldlRecOn l g h fun _ hs a _ => hg a hs

theorem gate_foldl_fst {β γ : Type} {f : State × γ → β → State × γ} (hf : ∀ a b, GateSound a.1 → GateSound (f a b).1)
    (l : List β) {a : State × γ} (h : GateSound a.1) : GateSound (l.foldl f a).1 :=
  List.foldlRecOn l f (motive := fun a => GateSound a.1) h fun a ha b _ => hf a b ha

theorem gate_startOfMuting (h : GateSound s) : GateSound (startOfMuting s).1 := by
  refine gate_foldl_fst (fun a i ha => ?_) _ h
  split <;> simp only [gate_suspend, gate_retire, ha]

theorem gate_suspendUnit (u : Nat) (h : GateSound s) : GateSound (suspendUnit u s).1 := by
  refine gate_foldl_fst (fun a i ha => ?_) _ h
  repeat' split
  all_goals simp only [gate_suspend, ha]

/-! ### The outcomes of exchanges -/

theorem gate_authorizationAdmit (slot : Nat) (n : Byte) (h : GateSound s) : GateSound (authorizationAdmit slot n s) := by
  unfold authorizationAdmit
  split
  · refine gate_of_gates (gates_giveNotice ..) ?_
    split
    · exact gate_becameActive _ (gate_activate _ h)
    · exact gate_gateEvaluation_of_sound _ (gate_suspend _ h)
  · exact h

theorem gate_finalAfterQuota (slot : Nat) (h : GateSound s) : GateSound (finalAfterQuota slot s) := by
  unfold finalAfterQuota finalReportingEnd
  split
  · exact gate_becomeFree _ h
  · exact gate_becomeFree _ h
  · exact gate_of_gates (gates_requestExchange ..) h

theorem gate_lowerUnreported (a : Nat) (r : Option Nat) (h : GateSound s) : GateSound (lowerUnreported a r s) :=
  gate_of_vrg (lowerUnreported_vrg ..) h

theorem gate_applyGrant (x : Exchange) (u v : Nat) (f : Bool) (h : GateSound s) : GateSound (applyGrant x u v f s) := by
  unfold applyGrant
  extract_lets s1 s2
  have h1 : GateSound s1 := gate_lowerUnreported _ _ h
  split
  · exact gate_finalAfterQuota _ h1
  · have h2 : AlmostSound x.slot s2 := (AlmostSound.of_sound x.slot h1).updQuota fun _ => rfl
    exact gate_gateEvaluation (h2.of_gates (gates_reorderCheck _))

theorem gate_refuseQuota (slot : Nat) (c : Byte) (h : GateSound s) : GateSound (refuseQuota slot c s) :=
  gate_shutGate c ((AlmostSound.of_sound slot h).updQuota fun _ => rfl)

theorem gate_applyDeny (x : Exchange) (h : GateSound s) : GateSound (applyDeny x s) := by
  have h1 := gate_lowerUnreported x.account x.reported h
  unfold applyDeny
  dsimp only
  split
  · exact gate_finalAfterQuota _ h1
  · exact gate_refuseQuota _ _ h1

theorem gate_applyAck (x : Exchange) (h : GateSound s) : GateSound (applyAck x s) :=
  gate_becomeFree _ (gate_lowerUnreported _ _ h)

theorem gate_applySecondFailure (x : Exchange) (h : GateSound s) : GateSound (applySecondFailure x s) := by
  have h1 (g : Account → Account) : GateSound (s.updAccount x.account g) := gate_of_vrg (by simp) h
  unfold applySecondFailure finalReportingEnd
  repeat' split
  all_goals simp only [h, h1, gate_authorizationAdmit, gate_retire, gate_finalAfterQuota, gate_refuseQuota, gate_becomeFree]

theorem gate_freeEntry (i : Nat) (h : GateSound s) : GateSound (freeEntry i s) := gate_of_gates (gates_freeEntry _) h

theorem gate_failExchange (i : Nat) (h : GateSound s) : GateSound (failExchange i s) := by
  unfold failExchange
  split
  · split
    · exact gate_applySecondFailure _ (gate_freeEntry _ h)
    · exact gate_of_gates (gates_requeue ..) h
  · exact h

theorem gate_linksLeave (lost : Link → Bool) (h : GateSound s) : GateSound (linksLeave lost s) := by
  refine gate_foldl (fun i s h => ?_) _ h
  repeat' split
  all_goals simp only [h, gate_failExchange]

end Sys2Proof.Machine
end

section
/-! PROOFS. The data gates (O57): the requests, the events, the time base, and every step. -/

namespace Sys2Proof.Machine

variable {s : State}

/-! ### Chapter 1 -/

theorem gate_updVisitor (slot : Nat) {g : Visitor → Visitor} (hst : ∀ v, (g v).state = v.state)
    (hq : ∀ v, (g v).quota = v.quota) (h : GateSound s) : GateSound (s.updVisitor slot g) :=
  gate_of_gates (gates_updVisitor_kept slot hst hq) h

theorem gate_giveNotice (k : NoticeKind) (j : Subject) (d v1 v2 v3 v4 v5 : Byte) (h : GateSound s) :
    GateSound (giveNotice k j d v1 v2 v3 v4 v5 s) := gate_of_gates (gates_giveNotice ..) h

/-- A slot is taken by a visitor whose gate is sound. -/
theorem gate_takeSlot (slot : Nat) (sid : Digits) (a : Option Nat) {v : Visitor}
    (hv : SoundGate (some (v.state, v.quota))) (h : GateSound s) : GateSound (takeSlot slot sid a v s) := by
  have h1 : GateSound (s.setSlot slot ⟨(s.slot slot).gen + 1, some sid, a, none, some v⟩) := by
    rw [gateSound_iff] at *
    intro i
    rw [gates_setSlot]
    split
    · exact hv
    · exact h i
  exact gate_of_gates (gates_of_slots rfl) h1

theorem soundGate_none (st : VisitorState) : SoundGate (some (st, none)) := by
  intro st q he
  cases he

theorem soundGate_quotaOpen (n : Nat) : SoundGate (some (.authorizing, some (quotaOpen n))) := by
  intro st q he hopen
  obtain ⟨rfl, rfl⟩ := by simpa using he
  simp only [quotaOpen, ite_eq_left_iff, reduceCtorEq, imp_false, Decidable.not_not] at hopen
  exact ⟨by simpa [quotaOpen] using hopen, rfl, by simp⟩

theorem gate_attach (slot u : Nat) (h : GateSound s) : GateSound (attach slot u s).1 := by
  have h1 : GateSound (s.updVisitor slot fun v => { v with unit := u }) := by
    refine gate_updVisitor slot ?_ ?_ h <;> intro <;> rfl
  unfold attach
  split
  · split
    · exact gate_activity _ h1
    · exact gate_becameActive _ (gate_activity _ (gate_activate _ h1))
    · exact h
    · exact h
  · exact h

theorem gate_roomFor {cls : ServiceClass} {slot : Nat} {t : State} (hr : s.roomFor cls = some (slot, t))
    (h : GateSound s) : GateSound t := by
  unfold State.roomFor at hr
  split at hr
  · cases hr
    exact h
  · split at hr
    · cases hr
    · obtain ⟨i, -, hi⟩ := Option.map_eq_some_iff.mp hr
      cases hi
      exact gate_evict _ h

theorem gate_admitted (slot : Nat) (h : GateSound s) : GateSound (admitted slot s) := gate_giveNotice _ _ _ _ _ _ _ _ h

theorem gate_admitRefused (r : ResultCode) (j : Subject) (h : GateSound s) : GateSound (admitRefused r j s).1 :=
  gate_giveNotice _ _ _ _ _ _ _ _ h

theorem gate_admitEmergency (sid : Digits) (u : Nat) (h : GateSound s) : GateSound (admitEmergency sid u s).1 := by
  unfold admitEmergency
  split
  next slot t hr =>
    exact gate_admitted _ (gate_activate _ (gate_takeSlot _ _ _ (soundGate_none _) (gate_roomFor hr h)))
  · exact gate_admitRefused _ _ h

theorem gate_admitComplete (sid : Digits) (cls : ServiceClass) (u p : Nat) (r : Partner) (a slot : Nat)
    (h : GateSound s) : GateSound (admitComplete sid cls u p r a slot s).1 := by
  unfold admitComplete
  extract_lets route quota s1 s2
  have hv : SoundGate (some (.authorizing, quota)) := by
    unfold quota
    split
    · exact soundGate_quotaOpen _
    · exact soundGate_none _
  have h1 : GateSound s1 := gate_takeSlot slot sid (some a) (v := newVisitor cls (some p) route u quota _) hv h
  have h2 : GateSound s2 := gate_of_vrg (by simp [s2]) h1
  split
  · exact gate_admitted _ (gate_gateEvaluation_of_sound _ (gate_of_gates (gates_requestExchange ..) h2))
  · exact gate_admitted _ (gate_becameActive _ (gate_activate _ h2))

theorem gate_admitNew (sid : Digits) (cls : ServiceClass) (u : Nat) (h : GateSound s) :
    GateSound (admitNew sid cls u s).1 := by
  unfold admitNew
  repeat' split
  case h_1 hr => exact gate_admitComplete _ _ _ _ _ _ _ (gate_roomFor hr h)
  all_goals exact gate_admitRefused _ _ h

theorem gate_doAdmit (sid : BitVec 64) (cls u : Byte) (h : GateSound s) : GateSound (doAdmit sid cls u s).1 := by
  unfold doAdmit
  repeat' split
  all_goals simp only [reply_fst, h, gate_attach, gate_admitEmergency, gate_admitNew]

theorem gate_doRefresh (hd : BitVec 16) (u : Byte) (h : GateSound s) : GateSound (doRefresh hd u s).1 := by
  unfold doRefresh
  extract_lets slot s1
  have h1 : GateSound s1 := by
    refine gate_activity _ (gate_updVisitor slot ?_ ?_ h) <;> intro <;> rfl
  repeat' split
  all_goals simp only [reply_fst, replyWith_fst, h, h1]

theorem gate_doDetach (hd : BitVec 16) (h : GateSound s) : GateSound (doDetach hd s).1 := by
  unfold doDetach
  extract_lets slot s1
  have h1 : GateSound s1 := gate_retire _ _ h
  repeat' split
  all_goals simp only [reply_fst, replyWith_fst, h, h1]

theorem gate_withPurge (p : Option Purge) (h : GateSound s) : GateSound (s.withVrg { s.vrg with purge := p }) :=
  gate_of_gates (gates_of_slots rfl) h

theorem gate_doPurge (tag : Fin 16) (scope : Byte) (hnc : BitVec 24) (h : GateSound s) :
    GateSound (doPurge tag scope hnc s).1 := by
  unfold doPurge startPurge
  repeat' split
  all_goals simp only [reply_fst, h, gate_withPurge]

theorem gate_purgeStep (h : GateSound s) : GateSound (purgeStep s) := by
  unfold purgeStep
  split
  next p _ =>
    have h1 : GateSound (if (s.visitor p.position).any (purgeMatches p.scope) then retire p.position .purged s else s) := by
      split
      · exact gate_retire _ _ h
      · exact h
    dsimp only
    split
    · exact gate_of_vrg (answerInFlight_vrg ..) (gate_withPurge none h1)
    · exact gate_withPurge _ h1
  · exact h

theorem gate_retireExpiry (slot : Nat) (h : GateSound s) : GateSound (retireExpiry slot s) := by
  unfold retireExpiry
  repeat' split
  all_goals simp only [h, gate_retire]

/-! ### Chapters 2 to 4 -/

theorem movePlan_vrg (old : Option Nat) (new : Nat) : (movePlan old new s).vrg = s.vrg := by
  unfold movePlan
  repeat' split
  all_goals simp

theorem doPset_vrg (p : PsetFields) : (doPset p s).1.vrg = s.vrg := by
  unfold doPset psetWrite
  repeat' split
  all_goals simp [movePlan_vrg]

theorem doPdel_vrg (d : BitVec 24) : (doPdel d s).1.vrg = s.vrg := by
  unfold doPdel
  repeat' split
  all_goals simp

theorem doTwrite_vrg (plan flags : Byte) (factor : BitVec 16) (rs : List RateField) :
    (doTwrite plan flags factor rs s).1.vrg = s.vrg := by
  unfold doTwrite
  dsimp only
  repeat' split
  all_goals rfl

theorem doTopen_vrg (plan : Byte) : (doTopen plan s).1.vrg = s.vrg := by
  unfold doTopen
  dsimp only
  repeat' split
  all_goals rfl

theorem doTcommit_vrg (plan : Byte) (check : BitVec 16) : (doTcommit plan check s).1.vrg = s.vrg := by
  unfold doTcommit
  dsimp only
  repeat' split
  all_goals rfl

theorem gate_handCharge (slot : Nat) (p : Option Partner) (n : Nat) (h : GateSound s) :
    GateSound (handCharge slot p n s) := by
  unfold handCharge
  split
  · exact gate_quotaCharge _ _ h
  · exact h

theorem markUnreported_vrg (a : Nat) (p : Option Partner) (n : Nat) : (markUnreported a p n s).vrg = s.vrg := by
  unfold markUnreported
  split <;> simp

theorem gate_postLive (slot a : Nat) (p : Option Partner) (c : TrafficClass) (up : Bool) (n : Nat) (l : Link)
    (h : GateSound s) : GateSound (postLive slot a p c up n l s).1 :=
  gate_activity _ (gate_handCharge _ _ _ (gate_of_vrg (ratePost_vrg ..) h))

theorem gate_postDeparting (slot a : Nat) (p : Option Partner) (c : TrafficClass) (up : Bool) (n : Nat) (l : Link)
    (h : GateSound s) : GateSound (postDeparting slot a p c up n l s).1 := by
  have h1 (m : Nat) : GateSound (handCharge slot p m
      (ratePost a p c up n l (s.updAccount a fun r => { r with late := true })).1) :=
    gate_handCharge _ _ _ (gate_of_vrg (by simp) h)
  unfold postDeparting
  dsimp only [usageReply_fst]
  split
  · exact gate_of_vrg (markUnreported_vrg ..) (h1 _)
  · exact h1 _

theorem gate_postFree (a : Nat) (p : Option Partner) (c : TrafficClass) (up : Bool) (n : Nat) (l : Link)
    (h : GateSound s) : GateSound (postFree a p c up n l s).1 := by
  refine gate_of_vrg (s := s) ?_ h
  simp [postFree, markUnreported_vrg]

theorem gate_postEmergency (slot : Nat) (c : TrafficClass) (up : Bool) (n : Nat) (h : GateSound s) :
    GateSound (postEmergency slot c up n s).1 := gate_activity _ (gate_of_vrg rfl h)

theorem gate_postNone (c : TrafficClass) (up : Bool) (n : Nat) (h : GateSound s) : GateSound (postNone c up n s).1 :=
  gate_of_vrg rfl h

theorem gate_doUsage (hd : BitVec 16) (c d : Byte) (n : BitVec 24) (l : Byte) (h : GateSound s) :
    GateSound (doUsage hd c d n l s).1 := by
  unfold doUsage post
  dsimp only
  repeat' split
  all_goals simp only [reply_fst, usageReply_fst, h, gate_postNone, gate_postEmergency, gate_postDeparting, gate_postLive,
    gate_postFree]

theorem doSettle_vrg (a : BitVec 16) : (doSettle a s).1.vrg = s.vrg := by
  unfold doSettle
  dsimp only
  repeat' split
  all_goals rfl

theorem doCollect_vrg (a : BitVec 16) : (doCollect a s).1.vrg = s.vrg := by
  unfold doCollect collectClose
  dsimp only
  repeat' split
  all_goals simp [markUnreported_vrg]

theorem doXfetch_vrg : (doXfetch s).1.vrg = s.vrg := by
  unfold doXfetch
  repeat' split
  all_goals rfl

theorem gate_applyAnswer (x : Exchange) (r : ShoreResult) (u v : Nat) (f : Bool) (h : GateSound s) :
    GateSound (applyAnswer x r u v f s) := by
  unfold applyAnswer
  split
  · exact gate_authorizationAdmit _ _ h
  · exact gate_retire _ _ h
  · exact gate_applyGrant _ _ _ _ h
  · exact gate_applyDeny _ h
  · exact gate_applyAck _ h

theorem gate_doXanswer (ref : BitVec 16) (r : Byte) (u : BitVec 32) (v : BitVec 16) (f : Byte) (h : GateSound s) :
    GateSound (doXanswer ref r u v f s).1 := by
  unfold doXanswer
  repeat' split
  all_goals simp only [reply_fst, replyWith_fst, h, gate_applyAnswer, gate_freeEntry]

theorem gate_doXfail (ref : BitVec 16) (h : GateSound s) : GateSound (doXfail ref s).1 := by
  unfold doXfail
  repeat' split
  all_goals simp only [reply_fst, replyWith_fst, h, gate_failExchange]

theorem gate_grantPasses (slot : Nat) (h : GateSound s) : GateSound (grantPasses slot s) := by
  have h1 : GateSound (gateEvaluation slot (s.updQuota slot forfeit)) :=
    gate_gateEvaluation ((AlmostSound.of_sound slot h).updQuota fun _ => rfl)
  unfold grantPasses
  repeat' split
  all_goals simp only [h, h1]

theorem gate_retryPasses (slot : Nat) (h : GateSound s) : GateSound (retryPasses slot s) := by
  have h1 : AlmostSound slot (s.updQuota slot fun q => { q with retry := none }) :=
    (AlmostSound.of_sound slot h).updQuota fun _ => rfl
  have h2 := gate_gateEvaluation (h1.of_gates (gates_askAfterWait slot))
  unfold retryPasses
  repeat' split
  all_goals simp only [h, h2]

/-! ### Chapters 5 and 6 -/

theorem gate_setLink (i : Link) (l : LinkRec) (h : GateSound s) : GateSound (s.setLink i l) := gate_of_vrg rfl h

theorem gate_changeLink (i : Link) (new : LinkRec) (cause : LinkCause) (h : GateSound s) :
    GateSound (changeLink i new cause s) := by
  unfold changeLink
  extract_lets old rec' s1 s2
  have h1 : GateSound s1 := gate_of_vrg (by simp [s1]) h
  have h2 : GateSound s2 := by
    unfold s2
    repeat' split
    · exact gate_linksLeave _ h1
    · exact gate_of_vrg (giveOwed_vrg _) h1
    · exact h1
  exact gate_of_vrg (reselectAll_vrg ..) h2

theorem gate_endHold (i : Link) (h : GateSound s) : GateSound (endHold i s) := gate_changeLink _ _ _ h

theorem gate_holdForFailure (i : Link) (cause : LinkCause) (h : GateSound s) : GateSound (holdForFailure i cause s) := by
  unfold holdForFailure
  dsimp only
  split
  · exact gate_endHold _ (gate_changeLink _ _ _ h)
  · exact gate_changeLink _ _ _ h

theorem gate_evaluateLink (i : Link) (h : GateSound s) : GateSound (evaluateLink i s) := by
  unfold evaluateLink
  dsimp only
  repeat' split
  all_goals simp only [h, gate_changeLink]

theorem gate_judgeProbe (i : Link) (bad : Bool) (h : GateSound s) : GateSound (judgeProbe i bad s) := by
  unfold judgeProbe
  dsimp only
  repeat' split
  all_goals simp only [h, gate_changeLink, gate_setLink]

theorem gate_actOnMeasurement (i : Link) (bad : Bool) (h : GateSound s) : GateSound (actOnMeasurement i bad s) := by
  unfold actOnMeasurement
  repeat' split
  all_goals simp only [h, gate_judgeProbe, gate_evaluateLink]

theorem gate_doLconf (c : LconfFields) (h : GateSound s) : GateSound (doLconf c s).1 := by
  unfold doLconf
  split
  · exact gate_evaluateLink _ (gate_setLink _ _ h)
  · exact h

theorem gate_doLenable (l : Byte) (h : GateSound s) : GateSound (doLenable l s).1 := by
  unfold doLenable
  dsimp only
  repeat' split
  all_goals simp only [reply_fst, h, gate_changeLink]

theorem gate_doLdisable (l : Byte) (h : GateSound s) : GateSound (doLdisable l s).1 := by
  unfold doLdisable
  dsimp only
  repeat' split
  all_goals simp only [reply_fst, h, gate_changeLink, gate_setLink]

theorem gate_doLmeasure (l : Byte) (d : BitVec 32) (lo le : BitVec 16) (h : GateSound s) :
    GateSound (doLmeasure l d lo le s).1 := by
  unfold doLmeasure
  dsimp only
  repeat' split
  all_goals simp only [reply_fst, replyWith_fst, h, gate_actOnMeasurement, gate_setLink]

theorem gate_doLloss (l : Byte) (h : GateSound s) : GateSound (doLloss l s).1 := by
  unfold doLloss
  dsimp only
  repeat' split
  all_goals simp only [reply_fst, h, gate_holdForFailure, gate_setLink]

theorem gate_doLhold (l : Byte) (h : GateSound s) : GateSound (doLhold l s).1 := by
  unfold doLhold
  dsimp only
  repeat' split
  all_goals simp only [reply_fst, h, gate_changeLink]

theorem gate_doLrelease (l : Byte) (h : GateSound s) : GateSound (doLrelease l s).1 := by
  unfold doLrelease
  repeat' split
  all_goals simp only [reply_fst, h, gate_changeLink]

theorem gate_doLdrill (l m : Byte) (d : BitVec 16) (h : GateSound s) : GateSound (doLdrill l m d s).1 := by
  unfold doLdrill
  dsimp only
  repeat' split
  all_goals simp only [reply_fst, h, gate_changeLink]

theorem doLread_vrg (l c : Byte) : (doLread l c s).1.vrg = s.vrg := by
  unfold doLread
  repeat' split
  all_goals rfl

theorem gate_stalePasses (i : Link) (h : GateSound s) : GateSound (stalePasses i s) := by
  unfold stalePasses
  split <;> simp only [h, gate_holdForFailure]

theorem gate_holdPasses (i : Link) (h : GateSound s) : GateSound (holdPasses i s) := by
  unfold holdPasses
  split <;> simp only [h, gate_endHold]

theorem gate_drillPasses (i : Link) (h : GateSound s) : GateSound (drillPasses i s) := by
  unfold drillPasses
  extract_lets l l'
  repeat' split
  case isFalse.isTrue => exact gate_of_vrg (by simp) h
  all_goals simp only [h, gate_changeLink]

theorem setPath_vrg (r : Nat) (c : TrafficClass) (p : Path) : (s.setPath r c p).vrg = s.vrg := rfl

theorem doRconf_vrg (f : RconfFields) : (doRconf f s).1.vrg = s.vrg := by
  unfold doRconf
  dsimp only
  repeat' split
  all_goals simp

theorem pinPath_vrg (r : Nat) (c : TrafficClass) (pin : Option Link) : (pinPath r c pin s).1.vrg = s.vrg :=
  (reselect_vrg ..).trans (setPath_vrg ..)

theorem doRpin_vrg (r c l : Byte) : (doRpin r c l s).1.vrg = s.vrg := by
  unfold doRpin
  repeat' split
  all_goals simp only [reply_fst, pinPath_vrg]

theorem doRunpin_vrg (r c : Byte) : (doRunpin r c s).1.vrg = s.vrg := by
  unfold doRunpin
  repeat' split
  all_goals simp only [reply_fst, pinPath_vrg]

theorem doHready_vrg (r c l : Byte) : (doHready r c l s).1.vrg = s.vrg := by
  unfold doHready confirmReady readyPath
  dsimp only
  repeat' split
  all_goals simp

theorem doHdone_vrg (r c l : Byte) : (doHdone r c l s).1.vrg = s.vrg := by
  unfold doHdone confirmDone
  dsimp only
  repeat' split
  all_goals simp

theorem preparePasses_vrg (r : Nat) (c : TrafficClass) : (preparePasses r c s).vrg = s.vrg := by
  unfold preparePasses
  repeat' split
  all_goals simp

theorem bicastPasses_vrg (r : Nat) (c : TrafficClass) : (bicastPasses r c s).vrg = s.vrg := by
  unfold bicastPasses
  split <;> simp

theorem releasePasses_vrg (r : Nat) (c : TrafficClass) : (releasePasses r c s).vrg = s.vrg := by
  unfold releasePasses
  split <;> simp

/-! ### Chapter 8: the radio -/

theorem gate_changeUnit (u : Nat) (new : UnitState) (c : UnitCause) (h : GateSound s) : GateSound (changeUnit u new c s) := by
  unfold changeUnit
  extract_lets old r s1
  have h1 : GateSound s1 := gate_of_vrg rfl h
  have h2 : GateSound (if lostState new = true then suspendUnit u s1 else (s1, 0)).1 := by
    split
    · exact gate_suspendUnit _ h1
    · exact h1
  split
  · exact h
  · refine gate_giveNotice _ _ _ _ _ _ _ _ ?_
    dsimp only
    split
    · exact gate_of_vrg (assertRfoff_vrg _) h2
    · exact h2

theorem gate_endCheck (h : GateSound s) : GateSound (endCheck s) := gate_of_vrg (endCheck_vrg _) h

theorem gate_placeMark (u : Nat) (m : Mark) (h : GateSound s) : GateSound (placeMark u m s) :=
  gate_of_vrg (placeMark_vrg ..) h

theorem gate_setMark (u : Nat) (m : Option Mark) (h : GateSound s) : GateSound (setMark u m s) :=
  gate_of_vrg (setMark_vrg ..) h

theorem gate_setUnit (u : Nat) (r : UnitRec) (h : GateSound s) : GateSound (s.setUnit u r) := gate_of_vrg rfl h

theorem gate_withRdc (b : Rdc) (h : GateSound s) : GateSound (s.withRdc b) := gate_of_vrg rfl h

theorem gate_commandAnsweredRule (u : Nat) (m : Mark) (h : GateSound s) : GateSound (commandAnsweredRule u m s) := by
  unfold commandAnsweredRule
  extract_lets r s1 s2 s3
  have h1 : GateSound s1 := gate_setUnit _ _ h
  have h2 : GateSound s2 := gate_changeUnit _ _ _ h1
  have h3 : GateSound s3 := gate_changeUnit _ _ _ h1
  repeat' split
  all_goals simp only [h1, h2, h3, gate_placeMark]

theorem gate_commandNoackRule (u : Nat) (m : Mark) (h : GateSound s) : GateSound (commandNoackRule u m s) := by
  unfold commandNoackRule
  dsimp only
  repeat' split
  all_goals simp only [h, gate_setMark, gate_changeUnit]

theorem gate_pollAnsweredRule (u : Nat) (r f : Bool) (h : GateSound s) : GateSound (pollAnsweredRule u r f s) := by
  unfold pollAnsweredRule
  extract_lets r' s1 policy s2
  have h1 : GateSound s1 := gate_setUnit _ _ h
  have h2 : GateSound s2 := gate_changeUnit _ _ _ h1
  repeat' split
  all_goals simp only [h1, h2, gate_placeMark, gate_changeUnit]

theorem gate_pollNoackRule (u : Nat) (h : GateSound s) : GateSound (pollNoackRule u s) := by
  unfold pollNoackRule
  dsimp only
  repeat' split
  all_goals simp only [h, gate_setUnit, gate_changeUnit]

theorem gate_noackRule (u : Nat) (m : Mark) (f : BusFailure) (h : GateSound s) : GateSound (noackRule u m f s) := by
  unfold noackRule
  refine gate_endCheck ?_
  have h1 := gate_setUnit u { s.unit u with lastFailure := some f } h
  cases m
  case poll => exact gate_pollNoackRule _ h1
  all_goals exact gate_commandNoackRule _ _ h1

theorem gate_arbitrate (fuel : Nat) (h : GateSound s) : GateSound (arbitrate fuel s) := by
  induction fuel generalizing s with
  | zero => exact h
  | succ fuel ih =>
    unfold arbitrate
    split
    · exact h
    · split
      next u m _ =>
        have h2 : GateSound (busCheck (setMark u none s)).2 := gate_of_vrg (by simp) h
        dsimp only
        split
        · exact gate_withRdc _ h2
        · exact ih (gate_noackRule _ _ _ h2)
      · exact h

theorem gate_settleBus (h : GateSound s) : GateSound (settleBus s) :=
  gate_of_vrg (endProbe_vrg _) (gate_arbitrate _ h)

theorem gate_completeBus {sent : List BusSymbol} {wire : List Nat} {rule : State → State}
    (hr : ∀ {s}, GateSound s → GateSound (rule s)) (h : GateSound s) : GateSound (completeBus sent wire rule s) :=
  gate_settleBus (gate_endCheck (hr (gate_withRdc _ h)))

theorem foldl_vrg {α : Type} {g : State → α → State} (hg : ∀ s a, (g s a).vrg = s.vrg) (l : List α) (s : State) :
    (l.foldl g s).vrg = s.vrg :=
  List.foldlRecOn l g (motive := fun t => t.vrg = s.vrg) rfl fun t ht a _ => (hg t a).trans ht

theorem gate_beginMuting (c : PolicyCause) (h : GateSound s) : GateSound (beginMuting c s) := by
  have h1 := gate_startOfMuting (gate_withRdc { s.rdc with radio := .muting } h)
  refine gate_of_vrg ?_ h1
  unfold beginMuting
  dsimp only
  rw [endCheck_vrg]
  split <;> simp [foldl_vrg fun s u => muteMarks_vrg u s]

theorem gate_policyTurned (p : Policy) (c : PolicyCause) (h : GateSound s) : GateSound (policyTurned p c s) := by
  have h1 : GateSound (beginUnmuting c s) := gate_of_vrg (beginUnmuting_vrg ..) h
  unfold policyTurned
  dsimp only
  repeat' split
  all_goals simp only [h, h1, gate_settleBus, gate_beginMuting]

/-! ### Chapter 7 -/

theorem gate_setPos (p : Position) (h : GateSound s) : GateSound (s.setPos p) := gate_of_vrg rfl h

theorem gate_handOnPermit (old : LinkSet) (h : GateSound s) : GateSound (handOnPermit old s) := by
  unfold handOnPermit
  extract_lets new s1 s2
  split
  · exact h
  · have h1 : GateSound s1 := gate_linksLeave _ h
    have h2 : GateSound s2 := by
      unfold s2
      split
      · exact gate_of_vrg (giveOwed_vrg _) h1
      · exact h1
    exact gate_of_vrg (reselectAll_vrg ..) h2

theorem gate_handOnPolicy (old : Policy) (h : GateSound s) : GateSound (handOnPolicy old s) := by
  unfold handOnPolicy
  split
  · exact h
  · exact gate_policyTurned _ _ h

theorem gate_handOn (old : InForce) (h : GateSound s) : GateSound (handOn old s) :=
  gate_handOnPolicy _ (gate_handOnPermit _ h)

theorem gate_changedNotice (k : Nat) (st : PositionState) (c : ChangeClass) (h : GateSound s) :
    GateSound (changedNotice k st c s) := gate_of_vrg (changedNotice_vrg ..) h

theorem gate_takeEffect (k : Nat) (c : ChangeClass) (h : GateSound s) : GateSound (takeEffect k c s) :=
  gate_handOn _ (gate_changedNotice _ _ _ (gate_setPos _ h))

theorem gate_countFix (k : Nat) (c : ChangeClass) (h : GateSound s) : GateSound (countFix k c s) := by
  unfold countFix
  dsimp only
  split <;> simp only [h, gate_takeEffect, gate_setPos]

theorem gate_wantChange (k : Nat) (f : Fix) (h : GateSound s) : GateSound (wantChange k f s) := by
  unfold wantChange
  repeat' split
  all_goals simp only [h, gate_takeEffect, gate_countFix]

theorem gate_evaluateFix (f : Fix) (h : GateSound s) : GateSound (evaluateFix f s) := by
  unfold evaluateFix
  extract_lets k b s1 p s2
  have h1 : GateSound s1 := gate_setPos _ h
  have h2 : GateSound s2 := by
    unfold s2
    split
    · exact h1
    · exact gate_setPos _ h1
  split
  · exact gate_setPos _ h1
  · exact gate_wantChange _ _ h2

theorem gate_doZset (z : ZsetFields) (h : GateSound s) : GateSound (doZset z s).1 := by
  have h1 (i : Nat) (z : Zone) : GateSound (writeZone i z s) := by
    have h1 (p : Position) : GateSound ((s.setZone i z).setPos p) := gate_of_vrg rfl h
    unfold writeZone editInForce
    dsimp only
    split
    · exact h1 _
    · exact gate_handOn _ (gate_giveNotice _ _ _ _ _ _ _ _ (h1 _))
  unfold doZset
  dsimp only
  repeat' split
  all_goals simp only [reply_fst, h, h1]

theorem doFixpost_vrg (e n : BitVec 24) (q : Byte) : (doFixpost e n q s).1.vrg = s.vrg := by
  unfold doFixpost
  repeat' split
  all_goals rfl

theorem gate_takeFix (h : GateSound s) : GateSound (takeFix s) := by
  unfold takeFix
  split
  · exact h
  next x rest _ =>
    have h1 : GateSound (s.withZne { s.zne with fifo := rest }) := gate_of_vrg rfl h
    dsimp only
    split
    · exact h1
    · exact gate_evaluateFix _ h1

theorem gate_positionPasses (h : GateSound s) : GateSound (positionPasses s) := by
  unfold positionPasses
  dsimp only
  split
  · exact h
  · split
    · exact gate_handOnPolicy _ (gate_giveNotice _ _ _ _ _ _ _ _ (gate_setPos _ h))
    · exact gate_setPos _ h
    · exact gate_setPos _ h

/-! ### Chapters 8 and 9: the requests and events -/

theorem gate_operatorMute (on : Bool) (h : GateSound s) : GateSound (operatorMute on s) := by
  unfold operatorMute
  split
  · exact h
  · exact gate_policyTurned _ _ (gate_withRdc _ h)

theorem gate_doExclude (u : Byte) (h : GateSound s) : GateSound (doExclude u s).1 := by
  unfold doExclude excludeUnit
  repeat' split
  case isFalse.isFalse => exact gate_settleBus (gate_endCheck (gate_setMark _ _ (gate_changeUnit _ _ _ h)))
  all_goals exact h

theorem gate_doInclude (u : Byte) (h : GateSound s) : GateSound (doInclude u s).1 := by
  unfold doInclude includeUnit
  repeat' split
  case isFalse.isTrue => exact gate_endCheck (gate_changeUnit _ _ _ (gate_setUnit _ _ h))
  all_goals exact h

theorem gate_doProbe (u : Byte) (h : GateSound s) : GateSound (doProbe u s).1 := by
  unfold doProbe
  dsimp only
  repeat' split
  all_goals simp only [reply_fst, replyWith_fst, h, gate_settleBus, gate_placeMark]

theorem gate_busAnswered (w : List Nat) (h : GateSound s) : GateSound (busAnswered w s) := by
  unfold busAnswered
  split
  · exact h
  · exact h
  · exact gate_completeBus (gate_commandAnsweredRule _ _) h

theorem gate_busNoack (f : BusFailure) (w : List Nat) (h : GateSound s) : GateSound (busNoack f w s) := by
  unfold busNoack
  split
  · exact h
  · exact h
  · exact gate_completeBus (gate_noackRule _ _ _) h

theorem gate_pollDone (a b : Byte) (w : List Nat) (h : GateSound s) : GateSound (pollDone a b w s) := by
  unfold pollDone
  split
  · split
    · exact gate_completeBus (gate_pollAnsweredRule _ _ _) h
    · exact gate_completeBus (gate_noackRule _ _ _) h
  all_goals exact h

theorem gate_pollFailed (f : BusFailure) (w : List Nat) (h : GateSound s) : GateSound (pollFailed f w s) := by
  unfold pollFailed
  split
  · exact gate_completeBus (gate_noackRule _ _ _) h
  all_goals exact h

theorem deadlinePasses_vrg : (deadlinePasses s).vrg = s.vrg := by
  unfold deadlinePasses
  split <;> simp

theorem gate_pollPasses (h : GateSound s) : GateSound (pollPasses s) := by
  unfold pollPasses pollRound
  split
  · exact h
  · exact gate_settleBus (gate_foldl (fun u _ h => gate_placeMark _ _ h) _ (gate_withRdc _ h))

theorem gate_probeUnit (u : Nat) (h : GateSound s) : GateSound (probeUnit u s) := by
  unfold probeUnit
  split
  · exact h
  · exact gate_setUnit _ _ h

theorem gate_startProbe (tag : Fin 16) (h : GateSound s) : GateSound (startProbe tag s) := by
  have h1 (b : Rdc) : GateSound (s.withRdc b) := gate_withRdc b h
  exact gate_settleBus (gate_foldl (fun u _ h => gate_probeUnit u h) _ (h1 _))

theorem gate_doStart (tag : Fin 16) (h : GateSound s) : GateSound (doStart tag s).1 := by
  unfold doStart
  repeat' split
  all_goals simp only [reply_fst, h, gate_startProbe]

theorem gate_stopPosition (h : GateSound s) : GateSound (stopPosition s) := by
  have h1 := gate_setPos positionReset h
  refine gate_handOn _ ?_
  split
  · exact h1
  · exact gate_changedNotice _ _ _ h1

theorem gate_leaveService (h : GateSound s) : GateSound (leaveService s) := by
  have h1 : GateSound (s.withRqp { s.rqp with mode := .config }) := gate_of_vrg rfl h
  exact gate_of_vrg (t := leaveService s) (by rw [leaveService]; exact assertRfoff_vrg _) (gate_stopPosition h1)

theorem gate_doStop (h : GateSound s) : GateSound (doStop s).1 := by
  unfold doStop
  repeat' split
  all_goals simp only [reply_fst, h, gate_leaveService]

theorem doDset_vrg (d : DsetFields) : (doDset d s).1.vrg = s.vrg := by
  unfold doDset storeSettings
  repeat' split
  all_goals rfl

theorem doIdent_vrg (c : Byte) : (doIdent c s).1.vrg = s.vrg := by
  unfold doIdent
  rw [replyWith_fst]
  split <;> rfl

/-! ### The time base -/

theorem gates_mapVisitor {t : State} {g : Visitor → Visitor}
    (ht : t.vrg.slots = tmap (mapVisitor g) s.vrg.slots) (i : Nat) :
    gates t i = (s.visitor i).map fun v => ((g v).state, (g v).quota) := by
  have hslot : t.slot i = mapVisitor g (s.slot i) := by
    unfold State.slot
    rw [ht]
    exact tget_tmap _ _ _ _ rfl
  have hv : t.visitor i = (s.visitor i).map g := congrArg Slot.visitor hslot
  rw [gates, hv, Option.map_map]
  rfl

/-- A tick that keeps state, credit and gate of a quota part, and starts no retry wait, keeps the gates sound. -/
theorem gate_mapVisitor {t : State} {g : Visitor → Visitor} {k : Quota → Quota}
    (ht : t.vrg.slots = tmap (mapVisitor g) s.vrg.slots) (hst : ∀ v, (g v).state = v.state)
    (hq : ∀ v, (g v).quota = v.quota.map k) (hgate : ∀ q, (k q).gate = q.gate) (hrem : ∀ q, (k q).remaining = q.remaining)
    (hretry : ∀ q : Quota, q.retry = none → (k q).retry = none) (h : GateSound s) : GateSound t := by
  rw [gateSound_iff] at *
  intro i st q he hopen
  rw [gates_mapVisitor ht] at he
  obtain ⟨v, hv, hp⟩ := Option.map_eq_some_iff.mp he
  obtain ⟨rfl, hvq⟩ := Prod.mk.inj hp
  rw [hq] at hvq
  obtain ⟨q0, hq0, rfl⟩ := Option.map_eq_some_iff.mp hvq
  obtain ⟨hpos, hnone, hdep⟩ := h i v.state q0 (by simp [gates, hv, hq0]) ((hgate q0).symm.trans hopen)
  exact ⟨by rw [hrem]; exact hpos, hretry q0 hnone, by rw [hst]; exact hdep⟩

theorem gate_tickHundredth (h : GateSound s) : GateSound (tickHundredth s) := gate_of_vrg rfl h

theorem gate_tickSecond (h : GateSound s) : GateSound (tickSecond s) := by
  refine gate_mapVisitor (s := s) (g := visitorSecond) (k := fun q => { q with retry := countDown q.retry }) rfl
    ?_ ?_ ?_ ?_ ?_ h
  case refine_5 => intro q hq; simp [hq, countDown]
  all_goals intro; rfl

theorem gate_tickMinute (h : GateSound s) : GateSound (tickMinute s) := by
  refine gate_mapVisitor (s := s) (g := visitorMinute) (k := fun q => { q with expiry := countDown q.expiry }) rfl
    ?_ ?_ ?_ ?_ ?_ h
  case refine_5 => exact fun _ => id
  all_goals intro; rfl

theorem gate_tick (h : GateSound s) : GateSound (tick s) := by
  have h1 := gate_tickHundredth h
  unfold tick
  dsimp only
  repeat' split
  · exact gate_of_vrg rfl h1
  · exact gate_of_vrg rfl (gate_tickSecond h1)
  · exact gate_of_vrg rfl (gate_tickMinute (gate_tickSecond h1))

/-! ### Every step -/

theorem gate_work {i : Instr} {f : Frame} {k : RequestKind} {body : State → Reply} (hw : workOf i = some (f, k, body))
    (h : GateSound s) : GateSound (body s).1 := by
  cases i <;> simp only [workOf, Option.some.injEq, Prod.mk.injEq, reduceCtorEq] at hw <;> obtain ⟨rfl, rfl, rfl⟩ := hw
  case clock | nfetch | uaread | nread | navconf => exact gate_of_vrg rfl h
  case rmute => exact gate_operatorMute true h
  case rrelease => exact gate_operatorMute false h
  case pset => exact gate_of_vrg (doPset_vrg ..) h
  case pdel => exact gate_of_vrg (doPdel_vrg ..) h
  case twrite => exact gate_of_vrg (doTwrite_vrg ..) h
  case topen => exact gate_of_vrg (doTopen_vrg ..) h
  case tcommit => exact gate_of_vrg (doTcommit_vrg ..) h
  case settle => exact gate_of_vrg (doSettle_vrg ..) h
  case collect => exact gate_of_vrg (doCollect_vrg ..) h
  case xfetch => exact gate_of_vrg doXfetch_vrg h
  case lread => exact gate_of_vrg (doLread_vrg ..) h
  case rconf => exact gate_of_vrg (doRconf_vrg ..) h
  case rpin => exact gate_of_vrg (doRpin_vrg ..) h
  case runpin => exact gate_of_vrg (doRunpin_vrg ..) h
  case hready => exact gate_of_vrg (doHready_vrg ..) h
  case hdone => exact gate_of_vrg (doHdone_vrg ..) h
  case fixpost => exact gate_of_vrg (doFixpost_vrg ..) h
  case dset => exact gate_of_vrg (doDset_vrg ..) h
  case ident => exact gate_of_vrg (doIdent_vrg ..) h
  all_goals simp only [h, doVread_fst, doPread_fst, doTread_fst, doAread_fst, doRread_fst, doLookup_fst, doZread_fst,
    doUread_fst, gate_doAdmit, gate_doRefresh, gate_doDetach, gate_doPurge, gate_doUsage, gate_doXanswer, gate_doXfail,
    gate_doLconf, gate_doLenable, gate_doLdisable, gate_doLmeasure, gate_doLloss, gate_doLhold, gate_doLrelease,
    gate_doLdrill, gate_doZset, gate_doExclude, gate_doInclude, gate_doProbe, gate_doStart, gate_doStop]

theorem gate_resetState (n : Nat) (q : List Instr) : GateSound (resetState n q) := by
  intro i v q hv
  cases hv

theorem gate_lineBytes (bs : List LineByte) (h : GateSound s) : GateSound (bs.foldl (fun s b => lineByte b s) s) :=
  gate_of_vrg (foldl_vrg (fun s b => lineByte_vrg b s) bs s) h

theorem gate_event {i : Instr} {g : State → State} (he : eventOf i = some g) (h : GateSound s) : GateSound (g s) := by
  cases i <;> simp only [eventOf, Option.some.injEq, reduceCtorEq] at he <;> subst he
  case answerRead n => exact gate_of_vrg (settleOut_vrg ..) h
  case deviceReset => exact gate_resetState _ _
  case navMessage bs => exact gate_lineBytes bs h
  case shipTimeTick => exact gate_of_vrg rfl h
  case navByte | navFramingError | navBreak => exact gate_of_vrg (lineByte_vrg ..) h
  case prepareTimerExpiry => exact gate_of_vrg (preparePasses_vrg ..) h
  case bicastTimerExpiry => exact gate_of_vrg (bicastPasses_vrg ..) h
  case releaseTimerExpiry => exact gate_of_vrg (releasePasses_vrg ..) h
  case muteDeadlineExpiry => exact gate_of_vrg deadlinePasses_vrg h
  all_goals simp only [h, gate_takeFix, gate_purgeStep, gate_retireExpiry, gate_grantPasses, gate_retryPasses,
    gate_failExchange, gate_stalePasses, gate_holdPasses, gate_drillPasses, gate_positionPasses, gate_pollPasses,
    gate_busAnswered, gate_busNoack, gate_pollDone, gate_pollFailed]

theorem gate_kept : Kept GateSound where
  port hp := gate_of_vrg (by rw [hp.rest]; rfl)
  queue _ := gate_of_vrg rfl
  work := gate_work
  resync := gate_of_gates (gates_of_slots rfl)
  event := gate_event
  tick := gate_tick

/-- Settles O57: whatever opens a gate evaluates it, whatever retires a visitor shuts its gate first. -/
theorem gateSoundKept : Obligations.GateSoundKept := fun _ _ h hstep => gate_kept.step h hstep

end Sys2Proof.Machine
end

section
/-! PROOFS. The radio controller obeys the effective policy (O58): what every unit meets, and the operations on units and marks. -/

namespace Sys2Proof.Machine

variable {s : State}

/-! ### What a unit and the controller meet -/

/-- What the record of unit `u` meets under the radio state, RFOFF and the bus of `r`. The unit `x`, if any, is one whose
command has just left the bus, and which may still be SERVING with no MUTE to come. -/
structure UnitFits (r : Rdc) (x : Option Nat) (u : Nat) (v : UnitRec) : Prop where
  covered : silencing r.radio = true → v.state = .unresponsive ∨ v.state = .excluded → r.rfoff = true
  noUnmute : silencing r.radio = true → isUnmute v.mark = false
  notServing : r.radio = .muted → v.state ≠ .serving
  toMute : r.radio = .muting → v.state = .serving →
    isMute v.mark = true ∨ (∃ a, r.onBus = some (u, .mute a)) ∨ x = some u
  unmarked : v.state = .excluded → v.mark = none

/-- What the controller meets under the policy `p`. -/
structure RdcFits (p : Policy) (x : Option Nat) (r : Rdc) : Prop where
  turned : silencing r.radio = true ↔ p = .mute
  bus : r.radio = .muted → ∀ u a, r.onBus ≠ some (u, .unmute a)
  unit : ∀ u < 16, UnitFits r x u (tget unitReset r.units u)

/-- What mode, position and probe meet. -/
structure Placed (s : State) : Prop where
  place : s.rqp.mode = .config → s.zne.pos.state = .noFix
  probing : s.rdc.probe.isSome → s.rqp.mode = .config

/-- The radio controller obeys the effective policy, up to the unit `x`. -/
structure Obeys (x : Option Nat) (s : State) : Prop where
  placed : Placed s
  fits : RdcFits s.effectivePolicy x s.rdc

theorem obeys_iff : Obeys none s ↔ RadioSafe s := by
  constructor
  · rintro ⟨⟨hplace, hprobe⟩, hturned, hbus, hunit⟩
    refine ⟨hplace, hprobe, hturned, fun hs u hu => ⟨(hunit u hu).covered hs, (hunit u hu).noUnmute hs⟩,
      fun hm => ⟨fun u hu => (hunit u hu).notServing hm, hbus hm⟩, fun hm u hu hsv => ?_, fun u hu => (hunit u hu).unmarked⟩
    rcases (hunit u hu).toMute hm hsv with h | h | h
    · exact .inl h
    · exact .inr h
    · cases h
  · rintro ⟨hplace, hprobe, hturned, hquiet, hoff, hmute, hunmarked⟩
    exact ⟨⟨hplace, hprobe⟩, hturned, fun hm => (hoff hm).2, fun u hu =>
      { covered := fun hs => (hquiet hs u hu).1
        noUnmute := fun hs => (hquiet hs u hu).2
        notServing := fun hm => (hoff hm).1 u hu
        toMute := fun hm hsv => (hmute hm u hu hsv).imp_right .inl
        unmarked := hunmarked u hu }⟩

/-! ### States in the same place -/

/-- A state with the same mode, settings, position, zones, operator mute and probe. -/
structure SamePlace (s t : State) : Prop where
  mode : t.rqp.mode = s.rqp.mode
  settings : t.rqp.settings = s.rqp.settings
  zne : t.zne = s.zne
  opMute : t.rdc.opMute = s.rdc.opMute
  probe : t.rdc.probe = s.rdc.probe

theorem SamePlace.trans {t u : State} (h : SamePlace s t) (h' : SamePlace t u) : SamePlace s u :=
  ⟨h'.mode.trans h.mode, h'.settings.trans h.settings, h'.zne.trans h.zne, h'.opMute.trans h.opMute,
    h'.probe.trans h.probe⟩

theorem SamePlace.policy {t : State} (h : SamePlace s t) : t.effectivePolicy = s.effectivePolicy := by
  simp only [State.effectivePolicy, State.policyInForce, State.zoneInForce, State.zone, State.settings_eq, h.zne, h.settings,
    h.opMute]

theorem SamePlace.placed {t : State} (h : SamePlace s t) (hs : Placed s) : Placed t where
  place := by
    rw [h.mode, h.zne]
    exact hs.place
  probing := by
    rw [h.mode, h.probe]
    exact hs.probing

theorem Obeys.of_place {x x' : Option Nat} {t : State} (h : Obeys x s) (hp : SamePlace s t)
    (hf : RdcFits s.effectivePolicy x' t.rdc) : Obeys x' t where
  placed := hp.placed h.placed
  fits := by
    rw [hp.policy]
    exact hf

theorem Obeys.of_rdc {x : Option Nat} {t : State} (h : Obeys x s) (hp : SamePlace s t) (hr : t.rdc = s.rdc) : Obeys x t :=
  h.of_place hp (hr ▸ h.fits)

theorem samePlace_of_stage {t : State} (h : stage t = stage s) : SamePlace s t := by
  obtain ⟨-, -, hzne, hrdc, -, hmode, hsettings⟩ := stage_eq h
  exact ⟨hmode, hsettings, hzne, by rw [hrdc], by rw [hrdc]⟩

theorem obeys_of_stage {x : Option Nat} {t : State} (ht : stage t = stage s) (h : Obeys x s) : Obeys x t :=
  h.of_rdc (samePlace_of_stage ht) (stage_eq ht).2.2.2.1

theorem obeys_giveNotice {x : Option Nat} (k : NoticeKind) (j : Subject) (d v1 v2 v3 v4 v5 : Byte) (h : Obeys x s) :
    Obeys x (giveNotice k j d v1 v2 v3 v4 v5 s) := obeys_of_stage (stage_giveNotice ..) h

theorem obeys_radioNotice {x : Option Nat} (d v1 v2 v3 v4 v5 : Byte) (h : Obeys x s) :
    Obeys x (radioNotice d v1 v2 v3 v4 v5 s) := obeys_giveNotice _ _ _ _ _ _ _ _ h

/-! ### Weaker and stronger -/

/-- A unit's command may always be about to leave the bus. -/
theorem UnitFits.weaken {r : Rdc} {x : Option Nat} {u : Nat} {v : UnitRec} (h : UnitFits r none u v) : UnitFits r x u v :=
  { h with toMute := fun hm hsv => (h.toMute hm hsv).imp_right (·.imp_right nofun) }

theorem Obeys.weaken (x : Option Nat) (h : Obeys none s) : Obeys x s :=
  ⟨h.placed, h.fits.turned, h.fits.bus, fun u hu => (h.fits.unit u hu).weaken⟩

/-- Where the unit is not SERVING, or its MUTE is to come, it needs no excuse. -/
theorem Obeys.strengthen {u : Nat} (h : Obeys (some u) s)
    (hu : u < 16 → s.rdc.radio = .muting → (s.unit u).state = .serving → isMute (s.unit u).mark = true) : Obeys none s := by
  refine ⟨h.placed, h.fits.turned, h.fits.bus, fun w hw => { h.fits.unit w hw with toMute := fun hm hsv => ?_ }⟩
  rcases (h.fits.unit w hw).toMute hm hsv with h1 | h1 | h1
  · exact .inl h1
  · exact .inr (.inl h1)
  · cases h1
    exact .inl (hu hw hm hsv)

/-! ### A unit's record replaced -/

theorem unitFits_congr {r r' : Rdc} {x : Option Nat} {u : Nat} {v : UnitRec} (hradio : r'.radio = r.radio)
    (hrfoff : r'.rfoff = r.rfoff) (hbus : r'.onBus = r.onBus) (h : UnitFits r x u v) : UnitFits r' x u v := by
  obtain ⟨h1, h2, h3, h4, h5⟩ := h
  constructor <;> simpa only [hradio, hrfoff, hbus]

theorem obeys_setUnit {x x' : Option Nat} (u : Nat) (v : UnitRec) (hv : u < 16 → UnitFits s.rdc x' u v)
    (hx : ∀ w, w ≠ u → x = some w → x' = some w) (h : Obeys x s) : Obeys x' (s.setUnit u v) := by
  refine h.of_place ⟨rfl, rfl, rfl, rfl, rfl⟩ ⟨h.fits.turned, h.fits.bus, fun w hw => ?_⟩
  refine unitFits_congr (r := s.rdc) rfl rfl rfl ?_
  have hunit : tget unitReset (s.setUnit u v).rdc.units w = if u = w then v else s.unit w := State.setUnit_unit s u w v
  rw [hunit]
  split
  next heq => exact heq ▸ hv (heq ▸ hw)
  next hne =>
    have hfit := h.fits.unit w hw
    exact { hfit with toMute := fun hm hsv => (hfit.toMute hm hsv).imp_right (·.imp_right (hx w (Ne.symm hne))) }

/-- A record that keeps the unit's state and mark. -/
theorem obeys_setUnit_kept {x : Option Nat} (u : Nat) (v : UnitRec) (hst : v.state = (s.unit u).state)
    (hm : v.mark = (s.unit u).mark) (h : Obeys x s) : Obeys x (s.setUnit u v) := by
  refine h.of_place ⟨rfl, rfl, rfl, rfl, rfl⟩ ⟨h.fits.turned, h.fits.bus, fun w hw => ?_⟩
  refine unitFits_congr (r := s.rdc) rfl rfl rfl ?_
  have hunit : tget unitReset (s.setUnit u v).rdc.units w = if u = w then v else s.unit w := State.setUnit_unit s u w v
  rw [hunit]
  split
  next heq =>
    have hfit := h.fits.unit u (heq ▸ hw)
    obtain ⟨h1, h2, h3, h4, h5⟩ : UnitFits s.rdc x u (s.unit u) := hfit
    rw [← heq]
    constructor <;> simpa only [hst, hm]
  · exact h.fits.unit w hw

theorem unitFits_unit {x : Option Nat} (h : Obeys x s) {u : Nat} (hu : u < 16) : UnitFits s.rdc x u (s.unit u) :=
  h.fits.unit u hu

/-! ### Marks -/

theorem isMute_placedOver_mute (held : Option Mark) (a : Nat) : isMute (some (placedOver held (.mute a))) = true := by
  unfold placedOver
  repeat' split
  all_goals simp_all [isMute, markClass]

theorem isUnmute_placedOver {held : Option Mark} {m : Mark} (hh : isUnmute held = false) (hm : isUnmute (some m) = false) :
    isUnmute (some (placedOver held m)) = false := by
  unfold placedOver
  repeat' split
  all_goals simp_all [isUnmute]

theorem isMute_placedOver {held : Option Mark} {m : Mark} (hh : isMute held = true) (hm : isUnmute (some m) = false) :
    isMute (some (placedOver held m)) = true := by
  unfold placedOver
  repeat' split
  all_goals simp_all [isMute, isUnmute]

/-- A mark may be placed that is no UNMUTE, and an UNMUTE while the policy is SERVE. -/
theorem obeys_placeMark {x : Option Nat} (u : Nat) {m : Mark}
    (hm : s.effectivePolicy = .mute → isUnmute (some m) = false) (h : Obeys x s) : Obeys x (placeMark u m s) := by
  unfold placeMark
  split
  · exact h
  next hex =>
    have hquiet (hs : silencing s.rdc.radio = true) : isUnmute (some m) = false := hm (h.fits.turned.mp hs)
    refine obeys_setUnit u _ (fun hu => ?_) (fun w _ => id) h
    have hfit := unitFits_unit h hu
    refine ⟨hfit.covered, fun hs => ?_, hfit.notServing, fun hmu hsv => ?_, fun he => absurd he hex⟩
    · exact isUnmute_placedOver (hfit.noUnmute hs) (hquiet hs)
    · have hs : silencing s.rdc.radio = true := by rw [hmu]; rfl
      exact (hfit.toMute hmu hsv).imp_left fun h1 => isMute_placedOver h1 (hquiet hs)

/-- A MUTE that is placed makes good the command that left the bus. -/
theorem obeys_placeMute {u : Nat} (h : Obeys (some u) s) : Obeys none (placeMark u firstMute s) := by
  refine Obeys.strengthen (obeys_placeMark u (fun _ => rfl) h) fun _ _ hsv => ?_
  unfold placeMark at hsv ⊢
  split
  next hex => rw [if_pos hex, hex] at hsv; cases hsv
  · rw [State.setUnit_unit_self]
    exact isMute_placedOver_mute _ _

/-- A mark outright: none for an EXCLUDED unit, no UNMUTE under MUTE, a MUTE where it is needed. -/
theorem obeys_setMark {x x' : Option Nat} {u : Nat} {m : Option Mark} (hex : (s.unit u).state = .excluded → m = none)
    (hun : s.effectivePolicy = .mute → isUnmute m = false)
    (hmu : s.rdc.radio = .muting → (s.unit u).state = .serving →
      isMute m = true ∨ (∃ a, s.rdc.onBus = some (u, .mute a)) ∨ x' = some u)
    (hx : ∀ w, w ≠ u → x = some w → x' = some w) (h : Obeys x s) : Obeys x' (setMark u m s) := by
  refine obeys_setUnit u _ (fun hu => ?_) hx h
  have hfit := unitFits_unit h hu
  exact ⟨hfit.covered, fun hs => hun (h.fits.turned.mp hs), hfit.notServing, hmu, hex⟩

/-! ### The controller's own fields -/

/-- A change of the controller that keeps units, radio state, bus, operator mute and probe, and does not release RFOFF. -/
theorem obeys_withRdc {x : Option Nat} {r : Rdc} (hunits : r.units = s.rdc.units) (hradio : r.radio = s.rdc.radio)
    (hbus : r.onBus = s.rdc.onBus) (hoff : s.rdc.rfoff = true → r.rfoff = true) (hop : r.opMute = s.rdc.opMute)
    (hprobe : r.probe = s.rdc.probe) (h : Obeys x s) : Obeys x (s.withRdc r) := by
  refine h.of_place ⟨rfl, rfl, rfl, hop, hprobe⟩ ⟨?_, ?_, fun u hu => ?_⟩
  · exact hradio ▸ h.fits.turned
  · simpa only [State.withRdc_rdc, hradio, hbus] using h.fits.bus
  · obtain ⟨h1, h2, h3, h4, h5⟩ := h.fits.unit u hu
    simp only [State.withRdc_rdc, hunits]
    constructor
    · exact fun hs hv => hoff (h1 (hradio ▸ hs) hv)
    all_goals simpa only [hradio, hbus]

theorem obeys_assertRfoff {x : Option Nat} (h : Obeys x s) : Obeys x (assertRfoff s) :=
  obeys_withRdc rfl rfl rfl (fun _ => rfl) rfl rfl h

/-! ### A unit's state changed (R170, R181, R182) -/

theorem suspendUnit_samePlace (u : Nat) : (suspendUnit u s).1.rdc = s.rdc ∧ SamePlace s (suspendUnit u s).1 := by
  have hrdc : (suspendUnit u s).1.rdc = s.rdc := by simp
  have hrqp : (suspendUnit u s).1.rqp = s.rqp := by simp
  exact ⟨hrdc, by rw [hrqp], by rw [hrqp], by simp, by rw [hrdc], by rw [hrdc]⟩

/-- What a change of state leaves of the controller: the unit's new state, and RFOFF where R181 asserts it. -/
theorem changeUnit_rdc {u : Nat} {new : UnitState} (cause : UnitCause) (hne : (s.unit u).state ≠ new) :
    (changeUnit u new cause s).rdc =
      { (s.setUnit u { s.unit u with state := new }).rdc with
        rfoff := s.rdc.rfoff ||
          (decide (new = .unresponsive ∨ new = .excluded) && decide (s.rdc.radio = .muting ∨ s.rdc.radio = .muted)) } := by
  unfold changeUnit
  extract_lets old r s1
  have hlost : (if lostState new = true then suspendUnit u s1 else (s1, 0)).1.rdc = s1.rdc := by
    split
    · exact (suspendUnit_samePlace u).1
    · rfl
  rw [if_neg hne]
  generalize (if lostState new = true then suspendUnit u s1 else (s1, 0)) = p at hlost ⊢
  obtain ⟨t, n⟩ := p
  dsimp only at hlost ⊢
  have hradio : s1.rdc.radio = s.rdc.radio := rfl
  rw [giveNotice_rdc, hlost, hradio]
  by_cases hc : (new = .unresponsive ∨ new = .excluded) ∧ (s.rdc.radio = .muting ∨ s.rdc.radio = .muted)
  · have hd : (decide (new = .unresponsive ∨ new = .excluded) &&
        decide (s.rdc.radio = .muting ∨ s.rdc.radio = .muted)) = true := by simp [hc.1, hc.2]
    rw [if_pos hc, hd, Bool.or_true, assertRfoff, State.withRdc_rdc, hlost]
    rfl
  · have hd : (decide (new = .unresponsive ∨ new = .excluded) &&
        decide (s.rdc.radio = .muting ∨ s.rdc.radio = .muted)) = false := by
      rw [← Bool.decide_and]
      exact decide_eq_false hc
    rw [if_neg hc, hd, Bool.or_false, hlost]
    rfl

theorem changeUnit_samePlace (u : Nat) (new : UnitState) (cause : UnitCause) : SamePlace s (changeUnit u new cause s) := by
  refine ⟨by simp, by simp, by simp, ?_, ?_⟩
  all_goals
    by_cases h : (s.unit u).state = new
    · simp [changeUnit, h]
    · rw [changeUnit_rdc cause h]; rfl

theorem changeUnit_radio (u : Nat) (new : UnitState) (cause : UnitCause) :
    (changeUnit u new cause s).rdc.radio = s.rdc.radio := by
  by_cases h : (s.unit u).state = new
  · simp [changeUnit, h]
  · rw [changeUnit_rdc cause h]; rfl

theorem changeUnit_onBus (u : Nat) (new : UnitState) (cause : UnitCause) :
    (changeUnit u new cause s).rdc.onBus = s.rdc.onBus := by
  by_cases h : (s.unit u).state = new
  · simp [changeUnit, h]
  · rw [changeUnit_rdc cause h]; rfl

theorem changeUnit_unit (u w : Nat) (new : UnitState) (cause : UnitCause) :
    (changeUnit u new cause s).unit w = if u = w then { s.unit u with state := new } else s.unit w := by
  by_cases h : (s.unit u).state = new
  · have hs : changeUnit u new cause s = s := by simp [changeUnit, h]
    rw [hs]
    split
    next heq => rw [← heq, ← h]
    · rfl
  · rw [← State.setUnit_unit s u w]
    unfold State.unit
    rw [changeUnit_rdc cause h]
    rfl

/-- What the new state of a unit has to meet: it is covered by RFOFF where it is lost, and a SERVING unit is excused. -/
theorem obeys_changeUnit_of {x x' : Option Nat} {u : Nat} {new : UnitState} (cause : UnitCause)
    (hoff : s.rdc.radio = .muted → new ≠ .serving) (hserv : new = .serving → x' = some u)
    (hex : new = .excluded → (s.unit u).mark = none) (hx : ∀ w, w ≠ u → x = some w → x' = some w)
    (hsame : (s.unit u).state = new → Obeys x' s) (h : Obeys x s) : Obeys x' (changeUnit u new cause s) := by
  by_cases hne : (s.unit u).state = new
  · have hs : changeUnit u new cause s = s := by simp [changeUnit, hne]
    rw [hs]
    exact hsame hne
  · refine h.of_place (changeUnit_samePlace ..) ?_
    rw [changeUnit_rdc cause hne]
    refine ⟨h.fits.turned, h.fits.bus, fun w hw => ?_⟩
    have hunit : tget unitReset (s.setUnit u { s.unit u with state := new }).rdc.units w =
        if u = w then { s.unit u with state := new } else s.unit w := State.setUnit_unit s u w _
    dsimp only
    rw [hunit]
    split
    next heq =>
      subst heq
      have hfit := unitFits_unit h hw
      refine ⟨fun hs hv => ?_, hfit.noUnmute, hoff, fun _ hsv => .inr (.inr (hserv hsv)), hex⟩
      have hr : s.rdc.radio = .muting ∨ s.rdc.radio = .muted := by
        change silencing s.rdc.radio = true at hs
        cases hrad : s.rdc.radio <;> simp_all [silencing]
      have hv' : new = .unresponsive ∨ new = .excluded := hv
      simp [hr, hv']
    next hne' =>
      obtain ⟨h1, h2, h3, h4, h5⟩ := h.fits.unit w hw
      refine ⟨fun hs hv => ?_, h2, h3, fun hm hsv => ?_, h5⟩
      · simp [h1 hs hv]
      · exact (h4 hm hsv).imp_right (·.imp_right (hx w (Ne.symm hne')))

/-- A unit that changes to another state than SERVING and EXCLUDED needs no MUTE to come. -/
theorem obeys_changeUnit {u : Nat} {new : UnitState} (cause : UnitCause) (hserv : new ≠ .serving)
    (hex : new ≠ .excluded) (h : Obeys (some u) s) : Obeys none (changeUnit u new cause s) := by
  refine obeys_changeUnit_of cause (fun _ => hserv) (fun h => absurd h hserv) (fun h => absurd h hex)
    (fun w hw hxw => absurd (Option.some.inj hxw).symm hw) (fun heq => ?_) h
  exact h.strengthen fun _ _ hsv => absurd (heq.symm.trans hsv) hserv

/-- A unit that becomes SERVING, in any radio state but MUTED, is excused. -/
theorem obeys_changeUnit_serving {u : Nat} (cause : UnitCause) (hoff : s.rdc.radio ≠ .muted)
    (h : Obeys (some u) s) : Obeys (some u) (changeUnit u .serving cause s) :=
  obeys_changeUnit_of cause (fun hm => absurd hm hoff) (fun _ => rfl) nofun (fun _ _ => id) (fun _ => h) h

/-! ### The end check (R179) -/

theorem anyMark_eq_false {p : Option Mark → Bool} : s.anyMark p = false ↔ ∀ u < 16, p (s.unit u).mark = false := by
  simp only [State.anyMark, unitKeys, List.any_eq_false, List.mem_range, Bool.not_eq_true]
  rfl

theorem obeys_endCheck (h : Obeys none s) : Obeys none (endCheck s) := by
  unfold endCheck
  split
  next hm =>
    split
    · exact h
    next hc =>
      simp only [Bool.or_eq_true, not_or, Bool.not_eq_true] at hc
      obtain ⟨hmarks, hbus⟩ := hc
      refine obeys_radioNotice _ _ _ _ _ _ (h.of_place ⟨rfl, rfl, rfl, rfl, rfl⟩ ⟨?_, ?_, fun u hu => ?_⟩)
      · have := h.fits.turned
        rw [hm] at this
        exact this
      · intro _ u a hon
        simp [State.commandOnBus, show s.rdc.onBus = some (u, .unmute a) from hon] at hbus
      · have hfit := unitFits_unit h hu
        have hs : silencing s.rdc.radio = true := by rw [hm]; rfl
        refine ⟨fun _ => hfit.covered hs, fun _ => hfit.noUnmute hs, fun _ hsv => ?_, nofun, hfit.unmarked⟩
        rcases hfit.toMute hm hsv with h1 | ⟨a, ha⟩ | h1
        · rw [anyMark_eq_false.mp hmarks u hu] at h1
          cases h1
        · simp [State.commandOnBus, ha] at hbus
        · cases h1
  next hm =>
    split
    · exact h
    · refine obeys_radioNotice _ _ _ _ _ _ (h.of_place ⟨rfl, rfl, rfl, rfl, rfl⟩ ⟨?_, nofun, fun u hu => ?_⟩)
      · have := h.fits.turned
        rw [hm] at this
        exact this
      · exact ⟨nofun, nofun, nofun, nofun, (unitFits_unit h hu).unmarked⟩
  · exact h
  · exact h

end Sys2Proof.Machine
end

section
/-! PROOFS. The radio controller obeys the effective policy (O58): the rules of the completions, the arbiter, the probe, MUTING and
UNMUTING. -/

namespace Sys2Proof.Machine

variable {s : State}

/-! ### A command that has left the bus -/

/-- The command `m` of unit `u` is off the bus and its rule has still to act. -/
structure OffBus (u : Nat) (m : Mark) (s : State) : Prop where
  left : Obeys (some u) s
  other : isMute (some m) = false → Obeys none s
  unmute : isUnmute (some m) = true → s.rdc.radio ≠ .muted

/-- A record that keeps the unit's state and mark changes nothing here. -/
theorem OffBus.setUnit_kept {u : Nat} {m : Mark} (h : OffBus u m s) (w : Nat) (v : UnitRec)
    (hst : v.state = (s.unit w).state) (hm : v.mark = (s.unit w).mark) : OffBus u m (s.setUnit w v) :=
  ⟨obeys_setUnit_kept w v hst hm h.left, fun hmu => obeys_setUnit_kept w v hst hm (h.other hmu), h.unmute⟩

/-- A unit that is not SERVING has no MUTE to come. -/
theorem Obeys.of_state {u : Nat} (h : Obeys (some u) s) (hst : (s.unit u).state ≠ .serving) : Obeys none s :=
  h.strengthen fun _ _ hsv => absurd hsv hst

theorem not_muting_of_serve (h : Obeys (some u) s) (hp : s.effectivePolicy = .serve) : s.rdc.radio ≠ .muting := by
  intro hm
  have hmute : s.effectivePolicy = .mute := h.fits.turned.mp (by rw [hm]; rfl)
  rw [hmute] at hp
  cases hp

theorem effectivePolicy_of_ne_mute (h : s.effectivePolicy ≠ .mute) : s.effectivePolicy = .serve := by
  cases hp : s.effectivePolicy
  · rfl
  · exact absurd hp h

theorem obeys_placeUnmute {x : Option Nat} (u : Nat) (hp : s.effectivePolicy = .serve) (h : Obeys x s) :
    Obeys x (placeMark u firstUnmute s) :=
  obeys_placeMark u (fun hm => by rw [hp] at hm; cases hm) h

theorem obeys_placeFirstMute {x : Option Nat} (u : Nat) (h : Obeys x s) : Obeys x (placeMark u firstMute s) :=
  obeys_placeMark u (fun _ => rfl) h

/-! ### The rules of the completions (R173, R174, R184, R185) -/

theorem obeys_commandAnsweredRule {u : Nat} {m : Mark} (h : OffBus u m s) : Obeys none (commandAnsweredRule u m s) := by
  unfold commandAnsweredRule
  extract_lets r s1 s2 s3
  have h1 : OffBus u m s1 := h.setUnit_kept u _ rfl rfl
  split
  next hst => exact h1.left.of_state (by rw [hst]; simp)
  next => exact obeys_placeMute h1.left
  next => exact h1.other rfl
  next hst => exact h1.left.of_state (by rw [hst]; simp)
  next =>
    have h2 : Obeys none s2 := obeys_changeUnit _ (by simp) (by simp) h1.left
    split
    next hp => exact obeys_placeUnmute u hp h2
    · exact h2
  next => exact obeys_placeMute h1.left
  next => exact obeys_placeMute h1.left
  next =>
    have h3 : Obeys (some u) s3 := obeys_changeUnit_serving _ (h1.unmute rfl) h1.left
    split
    · exact obeys_placeMute h3
    next hp => exact h3.strengthen fun _ hm => absurd hm (not_muting_of_serve h3 (effectivePolicy_of_ne_mute hp))
  next => exact h1.other rfl

theorem isMute_of_nextAttempt {m m' : Mark} (h : nextAttempt m = some m') : isMute (some m') = isMute (some m) := by
  cases m <;> simp only [nextAttempt, reduceCtorEq, Option.ite_none_right_eq_some, Option.some.injEq] at h
  all_goals
    obtain ⟨-, rfl⟩ := h
    rfl

theorem isUnmute_of_nextAttempt {m m' : Mark} (h : nextAttempt m = some m') : isUnmute (some m') = isUnmute (some m) := by
  cases m <;> simp only [nextAttempt, reduceCtorEq, Option.ite_none_right_eq_some, Option.some.injEq] at h
  all_goals
    obtain ⟨-, rfl⟩ := h
    rfl

/-- Under MUTE a failed MUTE is still wanted and a failed UNMUTE is not. -/
theorem stillWanted_mute {u : Nat} {m : Mark} (hp : s.effectivePolicy = .mute) :
    s.stillWanted u m = isMute (some m) := by
  cases m <;> simp [State.stillWanted, hp, isMute]

theorem obeys_commandNoackRule {u : Nat} {m : Mark} (h : OffBus u m s) : Obeys none (commandNoackRule u m s) := by
  have hpolicy (hm : s.rdc.radio = .muting) : s.effectivePolicy = .mute := h.left.fits.turned.mp (by rw [hm]; rfl)
  unfold commandNoackRule
  dsimp only
  split
  next hc =>
    by_cases hmu : isMute (some m) = false
    · exact h.other hmu
    · refine h.left.strengthen fun hu hm hsv => ?_
      rcases hc with hc | hc | hc | hc
      · rw [hsv] at hc
        cases hc
      · simp [stillWanted_mute (hpolicy hm), hmu] at hc
      · exact hc
      · rw [(unitFits_unit h.left hu).noUnmute (by rw [hm]; rfl)] at hc
        cases hc
  next hc =>
    simp only [not_or, Bool.not_eq_true, Bool.not_eq_false'] at hc
    obtain ⟨hex, hwanted, -, -⟩ := hc
    have hmute (hp : s.effectivePolicy = .mute) : isMute (some m) = true := by
      rw [← stillWanted_mute (u := u) hp]
      simpa using hwanted
    split
    next m' hm' =>
      refine obeys_setMark (x := some u) (fun he => absurd he hex) (fun hp => ?_) (fun hm _ => .inl ?_)
        (fun w hw hx => absurd (Option.some.inj hx).symm hw) h.left
      · rw [isUnmute_of_nextAttempt hm']
        have := hmute hp
        cases m <;> simp_all [isMute, isUnmute]
      · rw [isMute_of_nextAttempt hm']
        exact hmute (hpolicy hm)
    · refine obeys_setMark (x := none) (fun _ => rfl) (fun _ => rfl) (fun _ hsv => ?_) (fun _ _ => id)
        (obeys_changeUnit _ (by simp) (by simp) h.left)
      simp [changeUnit_unit] at hsv

theorem obeys_pollAnsweredRule (u : Nat) (radiating fault : Bool) (h : Obeys none s) :
    Obeys none (pollAnsweredRule u radiating fault s) := by
  unfold pollAnsweredRule
  extract_lets r s1 policy s2
  have h1 : Obeys none s1 := obeys_setUnit_kept u _ rfl rfl h
  have hfault : Obeys none (changeUnit u .faulty .fault s1) := obeys_changeUnit _ (by simp) (by simp) (h1.weaken _)
  have h2 : Obeys none s2 := obeys_changeUnit _ (by simp) (by simp) (h1.weaken _)
  have hs2 : s2.effectivePolicy = policy := (changeUnit_samePlace ..).policy
  split
  · exact h1
  · exact obeys_placeFirstMute _ h1
  · split
    · exact obeys_placeFirstMute _ h1
    · split
      · exact obeys_placeFirstMute _ h1
      next hp => exact obeys_placeUnmute u (effectivePolicy_of_ne_mute hp) h1
  · split
    · split
      · exact obeys_placeFirstMute _ h1
      · exact h1
    · split
      · exact obeys_placeFirstMute _ h2
      · split
        next hp => exact obeys_placeUnmute u (hs2.trans hp) h2
        · exact h2
  · split
    · exact obeys_placeFirstMute _ hfault
    · split
      · exact obeys_placeFirstMute _ h1
      · split
        next hp => exact obeys_placeUnmute u hp.2 h1
        · exact h1
  · split
    · exact obeys_placeFirstMute _ hfault
    · split
      · exact obeys_placeFirstMute _ h1
      · split
        next hp => exact obeys_placeUnmute u hp h1
        · exact h1

theorem obeys_pollNoackRule (u : Nat) (h : Obeys none s) : Obeys none (pollNoackRule u s) := by
  have h1 (n : Nat) : Obeys none (s.setUnit u { s.unit u with misses := n }) := obeys_setUnit_kept u _ rfl rfl h
  unfold pollNoackRule
  dsimp only
  repeat' split
  all_goals first | exact h | exact h1 _ | exact obeys_changeUnit _ (by simp) (by simp) ((h1 _).weaken _)

theorem obeys_noackRule {u : Nat} {m : Mark} (f : BusFailure) (h : OffBus u m s) : Obeys none (noackRule u m f s) := by
  have h1 := h.setUnit_kept u { s.unit u with lastFailure := some f } rfl rfl
  unfold noackRule
  refine obeys_endCheck ?_
  cases m
  case poll => exact obeys_pollNoackRule u (h1.other rfl)
  all_goals exact obeys_commandNoackRule h1

/-! ### The arbiter (R169, R172) -/

theorem of_orElse {α : Type} {p : α → Prop} {o : Option α} {f : Unit → Option α} (ho : ∀ a, o = some a → p a)
    (hf : ∀ a, f () = some a → p a) : ∀ a, o.orElse f = some a → p a := by
  cases o with
  | none => exact hf
  | some b => exact ho

theorem nextMark_some {u : Nat} {m : Mark} (h : s.nextMark = some (u, m)) : u < 16 ∧ (s.unit u).mark = some m := by
  have hkeys (p : Nat → Bool) (w : Nat) (hw : unitKeys.find? p = some w) : w < 16 :=
    List.mem_range.mp (List.mem_of_find?_eq_some hw)
  unfold State.nextMark at h
  dsimp only at h
  split at h
  next w hw =>
    obtain ⟨m', hm', hpair⟩ := Option.map_eq_some_iff.mp h
    obtain ⟨rfl, rfl⟩ := Prod.mk.inj hpair
    refine ⟨?_, hm'⟩
    exact of_orElse (hkeys _) (of_orElse (hkeys _) (hkeys _)) w hw
  · cases h

theorem busCheck_samePlace : SamePlace s (busCheck s).2 := by
  refine ⟨by simp, by simp, by simp, ?_, ?_⟩ <;> rw [busCheck_rdc]

theorem obeys_busCheck {x : Option Nat} (h : Obeys x s) : Obeys x (busCheck s).2 := by
  have h1 : Obeys x (s.withRdc (busCheck s).2.rdc) := by
    rw [busCheck_rdc]
    exact obeys_withRdc rfl rfl rfl id rfl rfl h
  exact h1.of_rdc ⟨by simp, by simp, by simp, rfl, rfl⟩ rfl

/-- A mark taken from its place is a command on its way to the bus. -/
theorem offBus_take {u : Nat} {m : Mark} (hm : s.nextMark = some (u, m)) (h : Obeys none s) :
    OffBus u m (setMark u none s) := by
  obtain ⟨hu, hmark⟩ := nextMark_some hm
  have hfit := unitFits_unit h hu
  constructor
  · exact obeys_setMark (x := none) (fun _ => rfl) (fun _ => rfl) (fun _ _ => .inr (.inr rfl)) (fun _ _ => nofun) h
  · refine fun hmu => obeys_setMark (fun _ => rfl) (fun _ => rfl) (fun hrad hsv => ?_) (fun _ _ => id) h
    rcases hfit.toMute hrad hsv with h1 | h1 | h1
    · rw [hmark, hmu] at h1
      cases h1
    · exact .inr (.inl h1)
    · cases h1
  · intro hun hrad
    have hrad : s.rdc.radio = .muted := hrad
    have := hfit.noUnmute (by rw [hrad]; rfl)
    rw [hmark, hun] at this
    cases this

theorem OffBus.busCheck {u : Nat} {m : Mark} (h : OffBus u m s) : OffBus u m (busCheck s).2 := by
  refine ⟨obeys_busCheck h.left, fun hmu => obeys_busCheck (h.other hmu), fun hun => ?_⟩
  rw [busCheck_rdc]
  exact h.unmute hun

/-- A command goes on a free bus. -/
theorem obeys_putOnBus {u : Nat} {m : Mark} (hfree : s.rdc.onBus = none) (h : OffBus u m s) :
    Obeys none (s.withRdc { s.rdc with onBus := some (u, m) }) := by
  refine h.left.of_place ⟨rfl, rfl, rfl, rfl, rfl⟩ ⟨h.left.fits.turned, fun hrad w a hon => ?_, fun w hw => ?_⟩
  · obtain ⟨rfl, rfl⟩ : u = w ∧ m = .unmute a := by simpa using hon
    exact h.unmute rfl hrad
  · obtain ⟨h1, h2, h3, h4, h5⟩ := h.left.fits.unit w hw
    refine ⟨h1, h2, h3, fun hrad hsv => ?_, h5⟩
    cases m with
    | mute a =>
      rcases h4 hrad hsv with hm | ⟨b, hb⟩ | hx
      · exact .inl hm
      · rw [hfree] at hb
        cases hb
      · cases hx
        exact .inr (.inl ⟨a, rfl⟩)
    | poll | identify | unmute =>
      rcases ((h.other rfl).fits.unit w hw).toMute hrad hsv with hm | ⟨b, hb⟩ | hx
      · exact .inl hm
      · rw [hfree] at hb
        cases hb
      · cases hx

theorem obeys_arbitrate (fuel : Nat) (h : Obeys none s) : Obeys none (arbitrate fuel s) := by
  induction fuel generalizing s with
  | zero => exact h
  | succ fuel ih =>
    unfold arbitrate
    split
    · exact h
    next hfree =>
      split
      next u m hm =>
        have h1 := (offBus_take hm h).busCheck
        dsimp only
        split
        · refine obeys_putOnBus ?_ h1
          rw [busCheck_rdc]
          change s.rdc.onBus = none
          simpa using hfree
        · exact ih (obeys_noackRule .bus h1)
      · exact h

/-! ### The end of the probe, and completions -/

theorem policy_of_config (h : Obeys none s) (hm : s.rqp.mode = .config) : s.effectivePolicy = .mute := by
  simp [State.effectivePolicy, State.policyInForce, h.placed.place hm]

theorem obeys_endProbe (h : Obeys none s) : Obeys none (endProbe s) := by
  unfold endProbe
  split
  next r hr =>
    split
    · exact h
    · extract_lets b s1 b' s2 b'' s3
      have hmute : s.effectivePolicy = .mute := policy_of_config h (h.placed.probing (by rw [hr]; rfl))
      have hmute3 : s3.effectivePolicy = .mute := by
        unfold State.effectivePolicy
        split <;> rfl
      have h3 : Obeys none s3 := by
        refine ⟨⟨fun hm => (by cases hm), nofun⟩, ?_⟩
        rw [hmute3, ← hmute]
        obtain ⟨hturned, hbus, hunit⟩ := h.fits
        exact ⟨hturned, hbus, fun u hu => unitFits_congr (r := s.rdc) rfl rfl rfl (hunit u hu)⟩
      exact obeys_of_stage (stage_answerInFlight ..) h3
  · exact h

theorem obeys_settleBus (h : Obeys none s) : Obeys none (settleBus s) := obeys_endProbe (obeys_arbitrate _ h)

theorem obeys_completeBus {u : Nat} {m : Mark} {sent : List BusSymbol} {wire : List Nat} {rule : State → State}
    (hbus : s.rdc.onBus = some (u, m)) (hr : ∀ {s}, OffBus u m s → Obeys none (rule s)) (h : Obeys none s) :
    Obeys none (completeBus sent wire rule s) := by
  refine obeys_settleBus (obeys_endCheck (hr ⟨?_, fun hmu => ?_, fun hun hrad => ?_⟩))
  · refine h.of_place ⟨rfl, rfl, rfl, rfl, rfl⟩ ⟨h.fits.turned, fun _ _ _ => nofun, fun w hw => ?_⟩
    obtain ⟨h1, h2, h3, h4, h5⟩ := h.fits.unit w hw
    refine ⟨h1, h2, h3, fun hrad hsv => ?_, h5⟩
    rcases h4 hrad hsv with h | ⟨a, ha⟩ | h
    · exact .inl h
    · rw [hbus] at ha
      obtain ⟨rfl, -⟩ : u = w ∧ m = .mute a := by simpa using ha
      exact .inr (.inr rfl)
    · cases h
  · refine h.of_place ⟨rfl, rfl, rfl, rfl, rfl⟩ ⟨h.fits.turned, fun _ _ _ => nofun, fun w hw => ?_⟩
    obtain ⟨h1, h2, h3, h4, h5⟩ := h.fits.unit w hw
    refine ⟨h1, h2, h3, fun hrad hsv => ?_, h5⟩
    rcases h4 hrad hsv with h | ⟨a, ha⟩ | h
    · exact .inl h
    · rw [hbus] at ha
      obtain ⟨rfl, rfl⟩ : u = w ∧ m = .mute a := by simpa using ha
      cases hmu
    · cases h
  · cases m with
    | unmute a => exact h.fits.bus hrad u a hbus
    | poll | identify | mute => cases hun

/-! ### The marks of every unit -/

/-- A change of one unit's record after another, each by its own record alone. -/
theorem unit_foldl {g : Nat → State → State} {f : UnitRec → UnitRec} (hself : ∀ u s, (g u s).unit u = f (s.unit u))
    (hother : ∀ u w s, u ≠ w → (g u s).unit w = s.unit w) {l : List Nat} (hl : l.Nodup) (s : State) (w : Nat) :
    (l.foldl (fun s u => g u s) s).unit w = if w ∈ l then f (s.unit w) else s.unit w := by
  induction l generalizing s with
  | nil => simp
  | cons u l ih =>
    obtain ⟨hu, hl⟩ := List.nodup_cons.mp hl
    rw [List.foldl_cons, ih hl]
    rcases eq_or_ne u w with rfl | hne
    · simp [hu, hself]
    · simp [Ne.symm hne, hother _ _ _ hne]

theorem unit_foldl_unitKeys {g : Nat → State → State} {f : UnitRec → UnitRec} (hself : ∀ u s, (g u s).unit u = f (s.unit u))
    (hother : ∀ u w s, u ≠ w → (g u s).unit w = s.unit w) (s : State) {w : Nat} (hw : w < 16) :
    (unitKeys.foldl (fun s u => g u s) s).unit w = f (s.unit w) := by
  have hmem : w ∈ unitKeys := List.mem_range.mpr hw
  have hnodup : unitKeys.Nodup := List.nodup_range
  rw [unit_foldl hself hother hnodup, if_pos hmem]

/-- The controller without its unit table. -/
def controllerRest (s : State) : Rdc := { s.rdc with units := [] }

/-- A unit's record at the start of MUTING (R177 step 4). -/
def silenced (r : UnitRec) : UnitRec :=
  match r.state with
  | .serving | .faulty => { r with mark := some (placedOver r.mark firstMute) }
  | .unresponsive | .absent => if isUnmute r.mark then { r with mark := some firstMute } else r
  | .muted => if isUnmute r.mark then { r with mark := none } else r
  | .excluded => r

theorem muteMarks_unit_self (u : Nat) (s : State) : (muteMarks u s).unit u = silenced (s.unit u) := by
  unfold muteMarks silenced
  dsimp only
  cases hst : (s.unit u).state
  case serving | faulty => simp [placeMark, hst]
  case excluded => rfl
  all_goals
    dsimp only
    split <;> simp [setMark, hst]

theorem muteMarks_unit_other (u w : Nat) (s : State) (h : u ≠ w) : (muteMarks u s).unit w = s.unit w := by
  unfold muteMarks
  dsimp only
  repeat' split
  all_goals simp [setMark, placeMark, State.setUnit_unit, h, apply_ite (State.unit · w)]

theorem muteMarks_rest (u : Nat) (s : State) : controllerRest (muteMarks u s) = controllerRest s := by
  unfold muteMarks placeMark
  dsimp only
  repeat' split
  all_goals rfl

/-- A unit's record at the start of UNMUTING (R178 step 5). -/
def released (r : UnitRec) : UnitRec :=
  match r.state with
  | .serving => if isMute r.mark then { r with mark := none } else r
  | .muted => { r with mark := some firstUnmute }
  | .unresponsive => if isMute r.mark && !faultShown r then { r with mark := some firstUnmute } else r
  | .faulty | .absent | .excluded => r

theorem unmuteMarks_unit_self (u : Nat) (s : State) : (unmuteMarks u s).unit u = released (s.unit u) := by
  unfold unmuteMarks released
  dsimp only
  cases hst : (s.unit u).state
  case muted => simp [setMark, hst]
  case serving | unresponsive =>
    dsimp only
    split <;> simp [setMark, hst]
  all_goals rfl

theorem unmuteMarks_unit_other (u w : Nat) (s : State) (h : u ≠ w) : (unmuteMarks u s).unit w = s.unit w := by
  unfold unmuteMarks
  dsimp only
  repeat' split
  all_goals simp [setMark, State.setUnit_unit, h]

theorem unmuteMarks_rest (u : Nat) (s : State) : controllerRest (unmuteMarks u s) = controllerRest s := by
  unfold unmuteMarks
  dsimp only
  repeat' split
  all_goals rfl

theorem silenced_state (r : UnitRec) : (silenced r).state = r.state := by
  unfold silenced
  repeat' split
  all_goals rfl

theorem isUnmute_silenced {r : UnitRec} (h : r.state = .excluded → r.mark = none) : isUnmute (silenced r).mark = false := by
  unfold silenced
  cases hst : r.state
  case excluded => simp [h hst, isUnmute]
  case serving | faulty =>
    have := isMute_placedOver_mute r.mark 1
    cases hp : placedOver r.mark firstMute <;> simp_all [isMute, isUnmute, firstMute]
  all_goals
    dsimp only
    split <;> simp_all [isUnmute, firstMute]

theorem isMute_silenced {r : UnitRec} (h : r.state = .serving) : isMute (silenced r).mark = true := by
  unfold silenced
  rw [h]
  exact isMute_placedOver_mute r.mark 1

theorem silenced_unmarked {r : UnitRec} (h : r.state = .excluded → r.mark = none) (hst : (silenced r).state = .excluded) :
    (silenced r).mark = none := by
  rw [silenced_state] at hst
  unfold silenced
  rw [hst]
  exact h hst

theorem released_unmarked {r : UnitRec} (h : r.state = .excluded → r.mark = none) (hst : (released r).state = .excluded) :
    (released r).mark = none := by
  unfold released at hst ⊢
  cases hr : r.state
  case excluded => exact h hr
  all_goals
    simp only [hr] at hst
    repeat' split at hst
    all_goals simp_all

/-! ### The turn of the effective policy (R175, R177, R178) -/

/-- The controller still obeys the policy `before`. -/
structure Turning (before : Policy) (s : State) : Prop where
  placed : Placed s
  fits : RdcFits before none s.rdc

theorem Obeys.turning (h : Obeys none s) : Turning s.effectivePolicy s := ⟨h.placed, h.fits⟩

theorem Turning.obeys {before : Policy} (h : Turning before s) (hp : s.effectivePolicy = before) : Obeys none s :=
  ⟨h.placed, hp ▸ h.fits⟩

theorem Turning.of_place {before : Policy} {t : State} (h : Turning before s) (hp : SamePlace s t) (hr : t.rdc = s.rdc) :
    Turning before t := ⟨hp.placed h.placed, hr ▸ h.fits⟩

theorem rest_fields {t : State} (h : controllerRest t = controllerRest s) :
    t.rdc.opMute = s.rdc.opMute ∧ t.rdc.probe = s.rdc.probe ∧ t.rdc.radio = s.rdc.radio := by
  simp only [controllerRest, Rdc.mk.injEq] at h
  simp only [h, and_self]

theorem samePlace_of_rest {t : State} (hrqp : t.rqp.mode = s.rqp.mode) (hset : t.rqp.settings = s.rqp.settings)
    (hzne : t.zne = s.zne) (hrest : controllerRest t = controllerRest s) : SamePlace s t :=
  ⟨hrqp, hset, hzne, (rest_fields hrest).1, (rest_fields hrest).2.1⟩

theorem unitsIn_pos {st : UnitState} {u : Nat} (hu : u < 16) (h : (s.unit u).state = st) : 0 < s.unitsIn st := by
  refine List.length_pos_of_mem (a := u) (List.mem_filter.mpr ⟨List.mem_range.mpr hu, ?_⟩)
  simp [h]

theorem obeys_beginMuting {before : Policy} (c : PolicyCause) (hp : s.effectivePolicy = .mute) (h : Turning before s) :
    Obeys none (beginMuting c s) := by
  unfold beginMuting
  extract_lets b s1
  have hstart : (startOfMuting s1).1.rdc = s1.rdc := startOfMuting_rdc ..
  have hplace1 : SamePlace s (startOfMuting s1).1 :=
    ⟨by simp [s1], by simp [s1], by simp [s1], by rw [hstart]; rfl, by rw [hstart]; rfl⟩
  generalize startOfMuting s1 = p at hstart hplace1 ⊢
  obtain ⟨s2, n, m⟩ := p
  dsimp only at hstart hplace1 ⊢
  generalize hs3 : radioNotice 1 (BitVec.ofNat 8 (n / 256)) (BitVec.ofNat 8 n) (BitVec.ofNat 8 (m / 256)) (BitVec.ofNat 8 m)
    (policyCauseByte c) s2 = s3
  have hrdc3 : s3.rdc = s1.rdc := by rw [← hs3, radioNotice_rdc, hstart]
  have hplace3 : SamePlace s s3 := by
    rw [← hs3]
    exact hplace1.trans (samePlace_of_stage (stage_giveNotice ..))
  generalize hs4 : unitKeys.foldl (fun s u => muteMarks u s) s3 = s4
  have hrest4 : controllerRest s4 = controllerRest s3 := by
    rw [← hs4]
    exact foldl_keeps controllerRest _ (fun s u => muteMarks_rest u s) _ _
  have hplace4 : SamePlace s s4 := by
    refine hplace3.trans (samePlace_of_rest ?_ ?_ ?_ hrest4) <;> rw [← hs4]
    · exact foldl_keeps (fun s : State => s.rqp.mode) _ (fun s u => by rw [muteMarks_rqp]) _ _
    · exact foldl_keeps (fun s : State => s.rqp.settings) _ (fun s u => by rw [muteMarks_rqp]) _ _
    · exact foldl_keeps (fun s : State => s.zne) _ (fun s u => muteMarks_zne u s) _ _
  have hradio4 : s4.rdc.radio = .muting := by
    rw [show s4.rdc.radio = s3.rdc.radio from (rest_fields hrest4).2.2, hrdc3]
    rfl
  have hunit4 {w : Nat} (hw : w < 16) : s4.unit w = silenced (s.unit w) := by
    have h3 : s3.unit w = s.unit w := by
      unfold State.unit
      rw [hrdc3]
      rfl
    rw [← hs4, unit_foldl_unitKeys muteMarks_unit_self muteMarks_unit_other s3 hw, h3]
  generalize hs5 : (if 0 < s4.unitsIn .unresponsive + s4.unitsIn .excluded then assertRfoff s4 else s4) = s5
  have hplace5 : SamePlace s4 s5 := by
    rw [← hs5]
    split <;> exact ⟨rfl, rfl, rfl, rfl, rfl⟩
  have hradio5 : s5.rdc.radio = .muting := by
    rw [← hs5, ← hradio4]
    split <;> rfl
  have hunit5 (w : Nat) : s5.unit w = s4.unit w := by
    rw [← hs5]
    split <;> rfl
  have hoff5 {w : Nat} (hw : w < 16) (hst : (s4.unit w).state = .unresponsive ∨ (s4.unit w).state = .excluded) :
      s5.rdc.rfoff = true := by
    rw [← hs5, if_pos ?_]
    · rfl
    · rcases hst with hst | hst
      · have := unitsIn_pos hw hst
        omega
      · have := unitsIn_pos hw hst
        omega
  have hplace : SamePlace s s5 := hplace4.trans hplace5
  have h5 : Obeys none s5 := by
    refine ⟨hplace.placed h.placed, ?_, fun hm => ?_, fun w hw => ?_⟩
    · rw [hradio5, hplace.policy, hp]
      simp [silencing]
    · rw [hradio5] at hm
      cases hm
    · have hun := (h.fits.unit w hw).unmarked
      have hunit : tget unitReset s5.rdc.units w = silenced (s.unit w) := (hunit5 w).trans (hunit4 hw)
      rw [hunit]
      refine ⟨fun _ hv => hoff5 hw (by rw [hunit4 hw]; exact hv), fun _ => isUnmute_silenced hun, fun hm => ?_,
        fun _ hsv => .inl (isMute_silenced ?_), silenced_unmarked hun⟩
      · rw [hradio5] at hm
        cases hm
      · rw [← silenced_state]
        exact hsv
  exact obeys_endCheck (obeys_withRdc rfl rfl rfl id rfl rfl h5)

theorem obeys_beginUnmuting {before : Policy} (c : PolicyCause) (hp : s.effectivePolicy = .serve) (h : Turning before s) :
    Obeys none (beginUnmuting c s) := by
  unfold beginUnmuting
  extract_lets b s1 s2
  have hrdc2 : s2.rdc = s1.rdc := radioNotice_rdc ..
  have hplace2 : SamePlace s s2 := by
    have h1 : SamePlace s s1 := ⟨rfl, rfl, rfl, rfl, rfl⟩
    exact h1.trans (samePlace_of_stage (stage_giveNotice ..))
  generalize hs3 : unitKeys.foldl (fun s u => unmuteMarks u s) s2 = s3
  have hrest3 : controllerRest s3 = controllerRest s2 := by
    rw [← hs3]
    exact foldl_keeps controllerRest _ (fun s u => unmuteMarks_rest u s) _ _
  have hplace3 : SamePlace s s3 := by
    refine hplace2.trans (samePlace_of_rest ?_ ?_ ?_ hrest3) <;> rw [← hs3]
    · exact foldl_keeps (fun s : State => s.rqp.mode) _ (fun s u => by rw [unmuteMarks_rqp]) _ _
    · exact foldl_keeps (fun s : State => s.rqp.settings) _ (fun s u => by rw [unmuteMarks_rqp]) _ _
    · exact foldl_keeps (fun s : State => s.zne) _ (fun s u => unmuteMarks_zne u s) _ _
  have hradio3 : s3.rdc.radio = .unmuting := by
    rw [show s3.rdc.radio = s2.rdc.radio from (rest_fields hrest3).2.2, hrdc2]
    rfl
  have hunit3 {w : Nat} (hw : w < 16) : s3.unit w = released (s.unit w) := by
    have h2 : s2.unit w = s.unit w := by
      unfold State.unit
      rw [hrdc2]
      rfl
    rw [← hs3, unit_foldl_unitKeys unmuteMarks_unit_self unmuteMarks_unit_other s2 hw, h2]
  refine obeys_endCheck ⟨hplace3.placed h.placed, ?_, fun hm => ?_, fun w hw => ?_⟩
  · rw [hradio3, hplace3.policy, hp]
    simp [silencing]
  · rw [hradio3] at hm
    cases hm
  · have hunit : tget unitReset s3.rdc.units w = released (s.unit w) := hunit3 hw
    rw [hunit]
    constructor
    case unmarked => exact released_unmarked (h.fits.unit w hw).unmarked
    all_goals
      rw [hradio3]
      nofun

theorem obeys_policyTurned {before : Policy} (c : PolicyCause) (h : Turning before s) :
    Obeys none (policyTurned before c s) := by
  unfold policyTurned
  dsimp only
  split
  next hp => exact h.obeys hp
  next hp =>
    have hturned := h.fits.turned
    split
    next hnow _ => exact obeys_settleBus (obeys_beginMuting c hnow h)
    next hnow _ => exact obeys_settleBus (obeys_beginMuting c hnow h)
    next hnow _ => exact obeys_settleBus (obeys_beginUnmuting c hnow h)
    next hnow _ => exact obeys_settleBus (obeys_beginUnmuting c hnow h)
    next hnow hrad => exact absurd (hnow.trans (hturned.mp (by rw [hrad]; rfl)).symm) hp
    next hnow hrad => exact absurd (hnow.trans (hturned.mp (by rw [hrad]; rfl)).symm) hp
    all_goals
      next hnow hrad =>
        have hserve : before = .serve := by
          cases before with
          | serve => rfl
          | mute => simp [hrad, silencing] at hturned
        exact absurd (hnow.trans hserve.symm) hp

end Sys2Proof.Machine
end

section
/-! PROOFS. The radio controller obeys the effective policy (O58): zones, requests, events, and every step. -/

namespace Sys2Proof.Machine

variable {s : State}

/-! ### Chapters 5 and 6 -/

/-- What the radio controller's obedience is about. -/
def scene (s : State) : Zne × Rdc × Mode × Settings := (s.zne, s.rdc, s.rqp.mode, s.rqp.settings)

theorem scene_eq {t : State} (h : scene t = scene s) :
    t.zne = s.zne ∧ t.rdc = s.rdc ∧ t.rqp.mode = s.rqp.mode ∧ t.rqp.settings = s.rqp.settings := by
  simpa only [scene, Prod.mk.injEq] using h

theorem samePlace_of_scene {t : State} (h : scene t = scene s) : SamePlace s t := by
  obtain ⟨hzne, hrdc, hmode, hsettings⟩ := scene_eq h
  exact ⟨hmode, hsettings, hzne, by rw [hrdc], by rw [hrdc]⟩

theorem obeys_of_scene {t : State} (ht : scene t = scene s) (h : Obeys none s) : Obeys none t :=
  h.of_rdc (samePlace_of_scene ht) (scene_eq ht).2.1

theorem scene_of_stage {t : State} (h : stage t = stage s) : scene t = scene s := by
  obtain ⟨-, -, hzne, hrdc, -, hmode, hsettings⟩ := stage_eq h
  simp only [scene, hzne, hrdc, hmode, hsettings]

@[simp] theorem scene_setLink (i : Link) (l : LinkRec) : scene (s.setLink i l) = scene s := rfl

@[simp] theorem scene_setPath (r : Nat) (c : TrafficClass) (p : Path) : scene (s.setPath r c p) = scene s := rfl

@[simp] theorem scene_setRoute (r : Nat) (v : Route) : scene (s.setRoute r v) = scene s := rfl

@[simp] theorem scene_changeLink (i : Link) (new : LinkRec) (c : LinkCause) : scene (changeLink i new c s) = scene s := by
  simp [scene]

@[simp] theorem scene_evaluateLink (i : Link) : scene (evaluateLink i s) = scene s := by
  simp [scene]

@[simp] theorem scene_actOnMeasurement (i : Link) (bad : Bool) : scene (actOnMeasurement i bad s) = scene s := by
  simp [scene]

@[simp] theorem scene_holdForFailure (i : Link) (c : LinkCause) : scene (holdForFailure i c s) = scene s := by
  simp [scene]

@[simp] theorem scene_endHold (i : Link) : scene (endHold i s) = scene s := by
  simp [scene]

@[simp] theorem scene_reselect (r : Nat) (c : TrafficClass) (m : MoveReason) : scene (reselect r c m s) = scene s := by
  simp [scene]

@[simp] theorem scene_reselectRoute (r : Nat) (m : MoveReason) : scene (reselectRoute r m s) = scene s := by
  simp [scene]

@[simp] theorem scene_reselectSteady (r : Nat) (c : TrafficClass) (l : Link) (m : MoveReason) :
    scene (reselectSteady r c l m s) = scene s := by
  simp [scene]

@[simp] theorem scene_enterReleasing (r : Nat) (c : TrafficClass) (a b : Link) :
    scene (enterReleasing r c a b s) = scene s := by
  simp [scene]

@[simp] theorem scene_enterSteady (r : Nat) (c : TrafficClass) (l : Link) : scene (enterSteady r c l s) = scene s := by
  simp [scene]

@[simp] theorem scene_abandon (r : Nat) (c : TrafficClass) (a b : Link) : scene (abandon r c a b s) = scene s := by
  simp [scene]

@[simp] theorem scene_hardSwitch (r : Nat) (c : TrafficClass) (l : Option Link) (m : Option MoveReason) :
    scene (hardSwitch r c l m s) = scene s := by
  simp [scene]

@[simp] theorem scene_movePath (r : Nat) (c : TrafficClass) (st : PathState) (m : Option MoveReason) (d : Byte)
    (a b : Option Link) : scene (movePath r c st m d a b s) = scene s := by
  simp [scene]

@[simp] theorem scene_doLconf (c : LconfFields) : scene (doLconf c s).1 = scene s := by
  unfold doLconf
  split <;> simp

@[simp] theorem scene_doLenable (l : Byte) : scene (doLenable l s).1 = scene s := by
  unfold doLenable
  dsimp only
  repeat' split
  all_goals simp

@[simp] theorem scene_doLdisable (l : Byte) : scene (doLdisable l s).1 = scene s := by
  unfold doLdisable
  dsimp only
  repeat' split
  all_goals simp

@[simp] theorem scene_doLmeasure (l : Byte) (d : BitVec 32) (lo le : BitVec 16) :
    scene (doLmeasure l d lo le s).1 = scene s := by
  unfold doLmeasure
  dsimp only
  repeat' split
  all_goals simp

@[simp] theorem scene_doLloss (l : Byte) : scene (doLloss l s).1 = scene s := by
  unfold doLloss
  dsimp only
  repeat' split
  all_goals simp

@[simp] theorem scene_doLhold (l : Byte) : scene (doLhold l s).1 = scene s := by
  unfold doLhold
  dsimp only
  repeat' split
  all_goals simp

@[simp] theorem scene_doLrelease (l : Byte) : scene (doLrelease l s).1 = scene s := by
  unfold doLrelease
  repeat' split
  all_goals simp

@[simp] theorem scene_doLdrill (l m : Byte) (d : BitVec 16) : scene (doLdrill l m d s).1 = scene s := by
  unfold doLdrill
  dsimp only
  repeat' split
  all_goals simp

@[simp] theorem scene_doLread (l c : Byte) : scene (doLread l c s).1 = scene s := by
  unfold doLread
  repeat' split
  all_goals rfl

@[simp] theorem scene_stalePasses (i : Link) : scene (stalePasses i s) = scene s := by
  unfold stalePasses
  split <;> simp

@[simp] theorem scene_holdPasses (i : Link) : scene (holdPasses i s) = scene s := by
  unfold holdPasses
  split <;> simp

@[simp] theorem scene_drillPasses (i : Link) : scene (drillPasses i s) = scene s := by
  unfold drillPasses
  extract_lets l l'
  repeat' split
  case isFalse.isTrue => simp [scene]
  all_goals simp

@[simp] theorem scene_doRconf (f : RconfFields) : scene (doRconf f s).1 = scene s := by
  unfold doRconf
  dsimp only
  repeat' split
  all_goals simp

@[simp] theorem scene_pinPath (r : Nat) (c : TrafficClass) (pin : Option Link) : scene (pinPath r c pin s).1 = scene s :=
  (scene_reselect ..).trans (scene_setPath ..)

@[simp] theorem scene_doRpin (r c l : Byte) : scene (doRpin r c l s).1 = scene s := by
  unfold doRpin
  repeat' split
  all_goals simp

@[simp] theorem scene_doRunpin (r c : Byte) : scene (doRunpin r c s).1 = scene s := by
  unfold doRunpin
  repeat' split
  all_goals simp

@[simp] theorem scene_doHready (r c l : Byte) : scene (doHready r c l s).1 = scene s := by
  unfold doHready confirmReady readyPath
  dsimp only
  repeat' split
  all_goals simp

@[simp] theorem scene_doHdone (r c l : Byte) : scene (doHdone r c l s).1 = scene s := by
  unfold doHdone confirmDone
  dsimp only
  repeat' split
  all_goals simp

@[simp] theorem scene_preparePasses (r : Nat) (c : TrafficClass) : scene (preparePasses r c s) = scene s := by
  unfold preparePasses
  repeat' split
  all_goals simp

@[simp] theorem scene_bicastPasses (r : Nat) (c : TrafficClass) : scene (bicastPasses r c s) = scene s := by
  unfold bicastPasses
  split <;> simp

@[simp] theorem scene_releasePasses (r : Nat) (c : TrafficClass) : scene (releasePasses r c s) = scene s := by
  unfold releasePasses
  split <;> simp

/-! ### Chapter 7: the hand-on (R166) -/

/-- The effective policy that a policy in force gives. -/
def effectiveOf (s : State) (p : Policy) : Policy := if s.rdc.opMute then .mute else p

theorem effectiveOf_policyInForce : effectiveOf s s.policyInForce = s.effectivePolicy := rfl

theorem scene_handOnPermit (old : LinkSet) : scene (handOnPermit old s) = scene s := by
  simp [scene]

theorem obeys_handOnPolicy {old : Policy} (h : Turning (effectiveOf s old) s) : Obeys none (handOnPolicy old s) := by
  unfold handOnPolicy
  split
  next hp => exact h.obeys (by rw [← hp, effectiveOf_policyInForce])
  · exact obeys_policyTurned _ h

theorem Turning.of_scene {before : Policy} {t : State} (h : Turning before s) (ht : scene t = scene s) : Turning before t :=
  h.of_place (samePlace_of_scene ht) (scene_eq ht).2.1

theorem effectiveOf_of_scene {t : State} (ht : scene t = scene s) (p : Policy) : effectiveOf t p = effectiveOf s p := by
  rw [effectiveOf, (scene_eq ht).2.1]
  rfl

theorem obeys_handOn {old : InForce} (h : Turning (effectiveOf s old.policy) s) : Obeys none (handOn old s) := by
  refine obeys_handOnPolicy ?_
  rw [effectiveOf_of_scene (scene_handOnPermit _)]
  exact h.of_scene (scene_handOnPermit _)

theorem scene_giveNotice (k : NoticeKind) (j : Subject) (d v1 v2 v3 v4 v5 : Byte) :
    scene (giveNotice k j d v1 v2 v3 v4 v5 s) = scene s := scene_of_stage (stage_giveNotice ..)

/-- A new position in SERVICE leaves the controller with the policy it had. -/
theorem Turning.setPos {before : Policy} (p : Position) (hp : s.rqp.mode = .config → p.state = .noFix)
    (h : Turning before s) : Turning before (s.setPos p) := ⟨⟨hp, h.placed.probing⟩, h.fits⟩

/-- A position that keeps state and zone changes nothing here. -/
theorem obeys_setPos {p : Position} (hst : p.state = s.zne.pos.state) (hz : p.zone = s.zne.pos.zone) (h : Obeys none s) :
    Obeys none (s.setPos p) := by
  have hpolicy : (s.setPos p).effectivePolicy = s.effectivePolicy := by
    simp only [State.effectivePolicy, State.policyInForce, State.zoneInForce, State.setPos, State.withZne_zne, hst, hz]
    rfl
  exact ⟨⟨fun hm => hst.trans (h.placed.place hm), h.placed.probing⟩, by rw [hpolicy]; exact h.fits⟩

theorem obeys_takeEffect {k : Nat} {c : ChangeClass} (hm : s.rqp.mode = .service) (h : Obeys none s) :
    Obeys none (takeEffect k c s) := by
  unfold takeEffect
  extract_lets old p s1
  have h1 : Turning s.effectivePolicy s1 := h.turning.setPos _ fun hc => by rw [hm] at hc; cases hc
  have hscene : scene (changedNotice p.zone p.state c s1) = scene s1 := scene_giveNotice ..
  refine obeys_handOn ?_
  rw [effectiveOf_of_scene hscene]
  exact h1.of_scene hscene

theorem obeys_countFix {k : Nat} {c : ChangeClass} (hm : s.rqp.mode = .service) (h : Obeys none s) :
    Obeys none (countFix k c s) := by
  unfold countFix
  dsimp only
  split
  · exact obeys_takeEffect hm h
  · exact obeys_setPos rfl rfl h

theorem obeys_wantChange {k : Nat} {f : Fix} (hm : s.rqp.mode = .service) (h : Obeys none s) :
    Obeys none (wantChange k f s) := by
  unfold wantChange
  repeat' split
  all_goals simp only [h, hm, obeys_takeEffect, obeys_countFix]

theorem obeys_evaluateFix (f : Fix) (hm : s.rqp.mode = .service) (h : Obeys none s) : Obeys none (evaluateFix f s) := by
  unfold evaluateFix
  extract_lets k b s1 p s2
  have h1 : Obeys none s1 := obeys_setPos rfl rfl h
  have h2 : Obeys none s2 := by
    unfold s2
    split
    · exact h1
    · exact obeys_setPos rfl rfl h1
  have hm2 : s2.rqp.mode = .service := by
    unfold s2
    split <;> exact hm
  split
  · exact obeys_setPos rfl rfl h1
  · exact obeys_wantChange hm2 h2

/-- A change of the zone block that keeps position and zones changes nothing here. -/
theorem obeys_withZne {b : Zne} (hpos : b.pos = s.zne.pos) (hz : b.zones = s.zne.zones) (h : Obeys none s) :
    Obeys none (s.withZne b) := by
  have hpolicy : (s.withZne b).effectivePolicy = s.effectivePolicy := by
    simp only [State.effectivePolicy, State.policyInForce, State.zoneInForce, State.zone, State.withZne_zne, hpos, hz]
    rfl
  exact ⟨⟨fun hm => (congrArg Position.state hpos).trans (h.placed.place hm), h.placed.probing⟩, by
    rw [hpolicy]
    exact h.fits⟩

theorem obeys_takeFix (h : Obeys none s) : Obeys none (takeFix s) := by
  unfold takeFix
  split
  · exact h
  next x rest _ =>
    have h1 : Obeys none (s.withZne { s.zne with fifo := rest }) := obeys_withZne rfl rfl h
    dsimp only
    split
    · exact h1
    next hm =>
      exact obeys_evaluateFix _ hm h1

theorem obeys_positionPasses (h : Obeys none s) : Obeys none (positionPasses s) := by
  unfold positionPasses
  extract_lets p old p' s1
  split
  · exact h
  · split
    next hfixed =>
      have h1 : Turning s.effectivePolicy s1 := by
        refine h.turning.setPos _ fun hc => ?_
        have := h.placed.place hc
        rw [show s.zne.pos.state = .fixed from hfixed] at this
        cases this
      have hscene : scene (zoneNotice (.zone p.zone) 2 0 0 0 0 s1.valuesByte s1) = scene s1 := scene_giveNotice ..
      refine obeys_handOnPolicy ?_
      rw [effectiveOf_of_scene hscene]
      exact h1.of_scene hscene
    · exact obeys_setPos rfl rfl h
    · exact obeys_setPos rfl rfl h

theorem obeys_writeZone (i : Nat) (z : Zone) (h : Obeys none s) : Obeys none (writeZone i z s) := by
  unfold writeZone editInForce
  extract_lets old pos s1
  have h1 : Turning s.effectivePolicy s1 := ⟨⟨h.placed.place, h.placed.probing⟩, h.fits⟩
  split
  next hold =>
    refine h1.obeys ?_
    have hpolicy : s1.policyInForce = s.policyInForce := congrArg InForce.policy hold
    change effectiveOf s1 s1.policyInForce = effectiveOf s s.policyInForce
    rw [hpolicy]
    rfl
  · have hscene : scene (zoneNotice (.zone i) 3 0 0 0 0 s1.valuesByte s1) = scene s1 := scene_giveNotice ..
    refine obeys_handOn ?_
    rw [effectiveOf_of_scene hscene]
    exact h1.of_scene hscene

theorem obeys_doZset (z : ZsetFields) (h : Obeys none s) : Obeys none (doZset z s).1 := by
  unfold doZset
  dsimp only
  repeat' split
  all_goals simp only [reply_fst, h, obeys_writeZone]

theorem obeys_setNav (n : Nav) (h : Obeys none s) : Obeys none (s.setNav n) := obeys_withZne rfl rfl h

theorem obeys_doNavconf (d e : Byte) (h : Obeys none s) : Obeys none (doNavconf d e s).1 := by
  refine obeys_withZne ?_ (navConfigured_zones ..) h
  unfold navConfigured
  repeat' split
  all_goals rfl

theorem obeys_doFixpost (e n : BitVec 24) (q : Byte) (h : Obeys none s) : Obeys none (doFixpost e n q s).1 := by
  unfold doFixpost
  repeat' split
  case isFalse.isFalse.isFalse => exact obeys_withZne rfl rfl h
  all_goals exact h

theorem obeys_takeByte (b : Byte) (m : Bool) (h : Obeys none s) : Obeys none (takeByte b m s) := by
  unfold takeByte disposeMessage
  dsimp only
  repeat' split
  all_goals first | exact h | exact obeys_setNav _ h | exact obeys_withZne rfl rfl h

theorem obeys_endReception (w : NavDiscard) (h : Obeys none s) : Obeys none (endReception w s) := by
  unfold endReception
  split <;> simp only [h, obeys_setNav]

theorem obeys_breakStatus (h : Obeys none s) : Obeys none (breakStatus s) := by
  unfold breakStatus
  split
  · exact h
  · exact obeys_giveNotice _ _ _ _ _ _ _ _ (obeys_setNav _ h)

theorem obeys_lineByte (x : LineByte) (h : Obeys none s) : Obeys none (lineByte x s) := by
  unfold lineByte
  repeat' split
  all_goals simp only [h, obeys_takeByte, obeys_endReception, obeys_breakStatus, obeys_setNav]

/-! ### Chapters 8 and 9 -/

theorem obeys_operatorMute (on : Bool) (h : Obeys none s) : Obeys none (operatorMute on s) := by
  unfold operatorMute
  split
  · exact h
  · refine obeys_policyTurned _ ⟨⟨h.placed.place, h.placed.probing⟩, h.fits.turned, h.fits.bus, fun u hu => ?_⟩
    exact unitFits_congr (r := s.rdc) rfl rfl rfl (h.fits.unit u hu)

/-- A unit that is excluded loses its mark with its state: in between it is an EXCLUDED unit that holds a mark. -/
theorem obeys_changeUnit_excluded (u : Nat) (h : Obeys none s) :
    Obeys none (setMark u none (changeUnit u .excluded .exclude s)) := by
  by_cases hst : (s.unit u).state = .excluded
  · have hs : changeUnit u .excluded .exclude s = s := by simp [changeUnit, hst]
    rw [hs]
    exact obeys_setMark (x := none) (fun _ => rfl) (fun _ => rfl) (fun _ hsv => by rw [hst] at hsv; cases hsv)
      (fun _ _ => id) h
  · have hplace : SamePlace s (setMark u none (changeUnit u .excluded .exclude s)) :=
      (changeUnit_samePlace u .excluded .exclude).trans ⟨rfl, rfl, rfl, rfl, rfl⟩
    have hunit (w : Nat) : (setMark u none (changeUnit u .excluded .exclude s)).unit w =
        if u = w then { s.unit u with state := .excluded, mark := none } else s.unit w := by
      refine (State.setUnit_unit _ u w _).trans ?_
      rw [changeUnit_unit, changeUnit_unit, if_pos rfl]
      split <;> rfl
    have hoff : (setMark u none (changeUnit u .excluded .exclude s)).rdc.rfoff =
        (s.rdc.rfoff || decide (s.rdc.radio = .muting ∨ s.rdc.radio = .muted)) := by
      change (changeUnit u .excluded .exclude s).rdc.rfoff = _
      rw [changeUnit_rdc _ hst]
      simp
    have hradio : (setMark u none (changeUnit u .excluded .exclude s)).rdc.radio = s.rdc.radio := changeUnit_radio ..
    have hbus : (setMark u none (changeUnit u .excluded .exclude s)).rdc.onBus = s.rdc.onBus := changeUnit_onBus ..
    generalize setMark u none (changeUnit u .excluded .exclude s) = t at *
    refine h.of_place hplace ⟨by rw [hradio]; exact h.fits.turned, by rw [hradio, hbus]; exact h.fits.bus, fun w hw => ?_⟩
    obtain ⟨h1, h2, h3, h4, h5⟩ := unitFits_unit h hw
    have hrec : tget unitReset t.rdc.units w = _ := hunit w
    rw [hrec]
    split
    · refine ⟨fun hs _ => ?_, fun _ => rfl, fun _ => nofun, fun _ => nofun, fun _ => rfl⟩
      rw [hradio] at hs
      rw [hoff]
      cases hr : s.rdc.radio <;> simp_all [silencing]
    · refine ⟨fun hs hv => ?_, by rw [hradio]; exact h2, by rw [hradio]; exact h3, by rw [hradio, hbus]; exact h4, h5⟩
      rw [hradio] at hs
      rw [hoff, h1 hs hv, Bool.true_or]

theorem obeys_doExclude (u : Byte) (h : Obeys none s) : Obeys none (doExclude u s).1 := by
  unfold doExclude
  repeat' split
  case isFalse.isFalse => exact obeys_settleBus (obeys_endCheck (obeys_changeUnit_excluded _ h))
  all_goals exact h

theorem obeys_doInclude (u : Byte) (h : Obeys none s) : Obeys none (doInclude u s).1 := by
  have h1 : Obeys none (includeUnit u.toNat s) := by
    refine obeys_endCheck (obeys_changeUnit _ (by simp) (by simp) (Obeys.weaken _ ?_))
    exact obeys_setUnit_kept _ _ rfl rfl h
  unfold doInclude
  repeat' split
  all_goals simp only [reply_fst, h, h1]

theorem obeys_placeProbe (u : Nat) (st : UnitState) (h : Obeys none s) : Obeys none (placeMark u (probeOf st) s) :=
  obeys_placeMark u (fun _ => by cases st <;> rfl) h

theorem obeys_doProbe (u : Byte) (h : Obeys none s) : Obeys none (doProbe u s).1 := by
  unfold doProbe
  dsimp only
  repeat' split
  all_goals simp only [reply_fst, replyWith_fst, h, obeys_settleBus, obeys_placeProbe]

theorem obeys_busAnswered (w : List Nat) (h : Obeys none s) : Obeys none (busAnswered w s) := by
  unfold busAnswered
  split
  · exact h
  · exact h
  next hbus => exact obeys_completeBus hbus obeys_commandAnsweredRule h

theorem obeys_busNoack (f : BusFailure) (w : List Nat) (h : Obeys none s) : Obeys none (busNoack f w s) := by
  unfold busNoack
  split
  · exact h
  · exact h
  next hbus => exact obeys_completeBus hbus (obeys_noackRule f) h

theorem obeys_pollDone (a b : Byte) (w : List Nat) (h : Obeys none s) : Obeys none (pollDone a b w s) := by
  unfold pollDone
  split
  next hbus =>
    split
    · exact obeys_completeBus hbus (fun h => obeys_pollAnsweredRule _ _ _ (h.other rfl)) h
    · exact obeys_completeBus hbus (obeys_noackRule _) h
  all_goals exact h

theorem obeys_pollFailed (f : BusFailure) (w : List Nat) (h : Obeys none s) : Obeys none (pollFailed f w s) := by
  unfold pollFailed
  split
  next hbus => exact obeys_completeBus hbus (obeys_noackRule f) h
  all_goals exact h

theorem obeys_deadlinePasses (h : Obeys none s) : Obeys none (deadlinePasses s) := by
  unfold deadlinePasses
  split
  · exact h
  · refine obeys_radioNotice _ _ _ _ _ _ (obeys_assertRfoff ?_)
    exact obeys_withRdc rfl rfl rfl id rfl rfl h

theorem obeys_foldl {α : Type} {g : State → α → State} (hg : ∀ (a : α) {s : State}, Obeys none s → Obeys none (g s a))
    (l : List α) {s : State} (h : Obeys none s) : Obeys none (l.foldl g s) :=
  List.foldlRecOn l g h fun _ hs a _ => hg a hs

theorem obeys_pollPasses (h : Obeys none s) : Obeys none (pollPasses s) := by
  unfold pollPasses pollRound
  split
  · exact h
  · refine obeys_settleBus (obeys_foldl (fun u _ h => obeys_placeProbe _ _ h) _ ?_)
    exact obeys_withRdc rfl rfl rfl id rfl rfl h

theorem obeys_probeUnit (u : Nat) (h : Obeys none s) : Obeys none (probeUnit u s) := by
  unfold probeUnit
  split
  · exact h
  · exact obeys_setUnit u _ (fun _ => ⟨fun _ => nofun, fun _ => rfl, fun _ => nofun, fun _ => nofun, nofun⟩)
      (fun _ _ => id) h

theorem obeys_startProbe (tag : Fin 16) (hm : s.rqp.mode = .config) (h : Obeys none s) : Obeys none (startProbe tag s) := by
  have h1 (p : Option InFlight) : Obeys none (s.withRdc { s.rdc with probe := p }) := by
    refine ⟨⟨h.placed.place, fun _ => hm⟩, h.fits.turned, h.fits.bus, fun u hu => ?_⟩
    exact unitFits_congr (r := s.rdc) rfl rfl rfl (h.fits.unit u hu)
  have h2 (t : State) (ht : Obeys none t) : Obeys none (settleBus (unitKeys.foldl (fun s u => probeUnit u s) t)) :=
    obeys_settleBus (obeys_foldl (fun u _ h => obeys_probeUnit u h) _ ht)
  exact h2 _ (h1 _)

theorem obeys_doStart (tag : Fin 16) (h : Obeys none s) : Obeys none (doStart tag s).1 := by
  unfold doStart
  split
  · exact h
  next hm =>
    split
    · exact h
    · dsimp only
      refine obeys_startProbe tag ?_ h
      cases hmode : s.rqp.mode
      · rfl
      · exact absurd hmode hm

theorem obeys_leaveService (hm : s.rqp.mode = .service) (h : Obeys none s) : Obeys none (leaveService s) := by
  have hprobe : s.rdc.probe.isSome = false := by
    rw [← Bool.not_eq_true]
    intro hp
    have := h.placed.probing hp
    rw [hm] at this
    cases this
  have h1 : Turning s.effectivePolicy ((s.withRqp { s.rqp with mode := .config }).setPos positionReset) :=
    ⟨⟨fun _ => rfl, fun _ => rfl⟩, h.fits⟩
  have h2 : Obeys none (stopPosition (s.withRqp { s.rqp with mode := .config })) := by
    unfold stopPosition
    extract_lets b old p s1
    refine obeys_handOn ?_
    split
    · exact h1
    · have hscene : scene (changedNotice p.zone p.state .stop s1) = scene s1 := scene_giveNotice ..
      rw [effectiveOf_of_scene hscene]
      exact h1.of_scene hscene
  refine obeys_withRdc rfl rfl rfl id rfl rfl (obeys_assertRfoff h2)

theorem obeys_doStop (h : Obeys none s) : Obeys none (doStop s).1 := by
  unfold doStop
  split
  · exact h
  next hm =>
    split
    · exact h
    · refine obeys_leaveService ?_ h
      cases hmode : s.rqp.mode
      · exact absurd hmode hm
      · rfl

theorem obeys_storeSettings (d : Settings) (hm : s.rqp.mode = .config) (h : Obeys none s) :
    Obeys none (storeSettings d s) := by
  have hpos := h.placed.place hm
  have hpolicy : (storeSettings d s).effectivePolicy = s.effectivePolicy := by
    rw [policy_of_config h hm]
    simp [State.effectivePolicy, State.policyInForce, storeSettings, hpos]
  exact ⟨⟨fun _ => hpos, h.placed.probing⟩, by rw [hpolicy]; exact h.fits⟩

theorem obeys_doDset (d : DsetFields) (h : Obeys none s) : Obeys none (doDset d s).1 := by
  unfold doDset
  split
  · exact h
  next hm =>
    have hconfig : s.rqp.mode = .config := by
      cases hmode : s.rqp.mode
      · rfl
      · exact absurd hmode hm
    split
    · split
      · exact h
      · exact obeys_storeSettings _ hconfig h
    · exact h

theorem scene_doIdent (c : Byte) : scene (doIdent c s).1 = scene s := by
  unfold doIdent
  rw [replyWith_fst]
  split <;> rfl

/-! ### The time base and the reset -/

theorem obeys_withPos {t : State} (hmode : t.rqp.mode = s.rqp.mode) (hset : t.rqp.settings = s.rqp.settings)
    (hzones : t.zne.zones = s.zne.zones) (hst : t.zne.pos.state = s.zne.pos.state) (hz : t.zne.pos.zone = s.zne.pos.zone)
    (hunits : t.rdc.units = s.rdc.units) (hradio : t.rdc.radio = s.rdc.radio) (hbus : t.rdc.onBus = s.rdc.onBus)
    (hoff : t.rdc.rfoff = s.rdc.rfoff) (hop : t.rdc.opMute = s.rdc.opMute) (hprobe : t.rdc.probe = s.rdc.probe)
    (h : Obeys none s) : Obeys none t := by
  rw [obeys_iff] at *
  simpa only [RadioSafe, State.unit, State.effectivePolicy, State.policyInForce, State.zoneInForce, State.zone,
    State.settings_eq, hmode, hset, hzones, hst, hz, hunits, hradio, hbus, hoff, hop, hprobe] using h

theorem obeys_tick (h : Obeys none s) : Obeys none (tick s) := by
  unfold tick
  dsimp only
  repeat' split
  all_goals exact obeys_withPos (s := s) rfl rfl rfl rfl rfl rfl rfl rfl rfl rfl rfl h

theorem obeys_resetState (n : Nat) (q : List Instr) : Obeys none (resetState n q) := by
  refine ⟨⟨fun _ => rfl, nofun⟩, ⟨fun _ => rfl, fun _ => rfl⟩, fun _ _ _ => nofun, fun u _ => ?_⟩
  exact ⟨fun _ => nofun, fun _ => rfl, fun _ => nofun, nofun, nofun⟩

/-! ### Every step -/

theorem obeys_work {i : Instr} {f : Frame} {k : RequestKind} {body : State → Reply} (hw : workOf i = some (f, k, body))
    (h : Obeys none s) : Obeys none (body s).1 := by
  cases i <;> simp only [workOf, Option.some.injEq, Prod.mk.injEq, reduceCtorEq] at hw <;> obtain ⟨rfl, rfl, rfl⟩ := hw
  case clock | nfetch | uaread => exact obeys_of_scene (s := s) rfl h
  case nread => exact h
  case rmute => exact obeys_operatorMute true h
  case rrelease => exact obeys_operatorMute false h
  case ident => exact obeys_of_scene (scene_doIdent _) h
  case admitVisitor => exact obeys_of_stage (stage_doAdmit ..) h
  case refresh => exact obeys_of_stage (stage_doRefresh ..) h
  case detach => exact obeys_of_stage (stage_doDetach ..) h
  case purge => exact obeys_of_stage (stage_doPurge ..) h
  case pset => exact obeys_of_stage (stage_doPset ..) h
  case pdel => exact obeys_of_stage (stage_doPdel ..) h
  case twrite => exact obeys_of_stage (stage_doTwrite ..) h
  case topen => exact obeys_of_stage (stage_doTopen ..) h
  case tcommit => exact obeys_of_stage (stage_doTcommit ..) h
  case usage => exact obeys_of_stage (stage_doUsage ..) h
  case settle => exact obeys_of_stage (stage_doSettle ..) h
  case collect => exact obeys_of_stage (stage_doCollect ..) h
  case xfetch => exact obeys_of_stage stage_doXfetch h
  case xanswer => exact obeys_of_stage (stage_doXanswer ..) h
  case xfail => exact obeys_of_stage (stage_doXfail ..) h
  case lconf => exact obeys_of_scene (scene_doLconf ..) h
  case lenable => exact obeys_of_scene (scene_doLenable ..) h
  case ldisable => exact obeys_of_scene (scene_doLdisable ..) h
  case lmeasure => exact obeys_of_scene (scene_doLmeasure ..) h
  case lloss => exact obeys_of_scene (scene_doLloss ..) h
  case lhold => exact obeys_of_scene (scene_doLhold ..) h
  case lrelease => exact obeys_of_scene (scene_doLrelease ..) h
  case ldrill => exact obeys_of_scene (scene_doLdrill ..) h
  case lread => exact obeys_of_scene (scene_doLread ..) h
  case rconf => exact obeys_of_scene (scene_doRconf ..) h
  case rpin => exact obeys_of_scene (scene_doRpin ..) h
  case runpin => exact obeys_of_scene (scene_doRunpin ..) h
  case hready => exact obeys_of_scene (scene_doHready ..) h
  case hdone => exact obeys_of_scene (scene_doHdone ..) h
  all_goals simp only [h, doVread_fst, doPread_fst, doTread_fst, doAread_fst, doRread_fst, doLookup_fst, doZread_fst,
    doUread_fst, obeys_doNavconf, obeys_doFixpost, obeys_doZset, obeys_doExclude, obeys_doInclude, obeys_doProbe,
    obeys_doStart, obeys_doStop, obeys_doDset]

theorem obeys_event {i : Instr} {g : State → State} (he : eventOf i = some g) (h : Obeys none s) : Obeys none (g s) := by
  cases i <;> simp only [eventOf, Option.some.injEq, reduceCtorEq] at he <;> subst he
  case answerRead n =>
    have hp := portOnly_settleOut n s
    refine obeys_of_scene ?_ h
    simp only [scene, hp.mode, hp.settings, settleOut_zne, settleOut_rdc]
  case deviceReset => exact obeys_resetState _ _
  case navMessage bs => exact obeys_foldl (fun b _ h => obeys_lineByte b h) _ h
  case shipTimeTick => exact obeys_of_scene (s := s) rfl h
  case purgeWalkStep => exact obeys_of_stage stage_purgeStep h
  case retireTimerExpiry => exact obeys_of_stage (stage_retireExpiry ..) h
  case grantExpiry => exact obeys_of_stage (stage_grantPasses ..) h
  case retryWaitExpiry => exact obeys_of_stage (stage_retryPasses ..) h
  case answerTimerExpiry => exact obeys_of_stage (stage_failExchange ..) h
  case staleTimerExpiry => exact obeys_of_scene (scene_stalePasses ..) h
  case holdTimerExpiry => exact obeys_of_scene (scene_holdPasses ..) h
  case drillTimerExpiry => exact obeys_of_scene (scene_drillPasses ..) h
  case prepareTimerExpiry => exact obeys_of_scene (scene_preparePasses ..) h
  case bicastTimerExpiry => exact obeys_of_scene (scene_bicastPasses ..) h
  case releaseTimerExpiry => exact obeys_of_scene (scene_releasePasses ..) h
  all_goals simp only [h, obeys_lineByte, obeys_takeFix, obeys_positionPasses, obeys_deadlinePasses, obeys_pollPasses,
    obeys_busAnswered, obeys_busNoack, obeys_pollDone, obeys_pollFailed]

theorem obeys_resynchronize (h : Obeys none s) : Obeys none (resynchronize s) := by
  refine ⟨⟨h.placed.place, fun hp => h.placed.probing ?_⟩, h.fits.turned, h.fits.bus, fun u hu => ?_⟩
  · simpa [resynchronize] using hp
  · exact unitFits_congr (r := s.rdc) rfl rfl rfl (h.fits.unit u hu)

theorem obeys_kept : Kept (Obeys none) where
  port {s t} hp := obeys_of_scene (by
    have hzne : t.zne = s.zne := by rw [hp.rest]; rfl
    have hrdc : t.rdc = s.rdc := by rw [hp.rest]; rfl
    simp only [scene, hzne, hrdc, hp.mode, hp.settings])
  queue _ := obeys_of_scene rfl
  work := obeys_work
  resync := obeys_resynchronize
  event := obeys_event
  tick := obeys_tick

/-- Settles O58: MUTING and UNMUTING begin where the effective policy turns, and every other event keeps what they left. -/
theorem radioSafeKept : Obligations.RadioSafeKept :=
  fun _ _ h hstep => obeys_iff.mp (obeys_kept.step (obeys_iff.mpr h) hstep)

end Sys2Proof.Machine
end

section
/-! PROOFS. The step, the answer read, RESYNC, the mode refusals, NAVCONF, FIXPOST and the reset (O1, O2, O4, O35, O47, O59). -/

namespace Sys2Proof.Machine

variable {s : State}

/-- Settles O1. -/
theorem stepRunsFrontCommand : Obligations.StepRunsFrontCommand := by
  intro s c rest h
  simp only [step, h]

/-! ### The tags -/

theorem tagBusy_setTag (t g : Fin 16) (b : Bool) (s : State) :
    (setTag t b s).tagBusy g = if g = t then b else s.tagBusy g := by
  simp only [State.tagBusy, setTag, State.withRqp_rqp, tget_tset, Fin.ext_iff, eq_comm]

/-! ### The answer read (R192) -/

theorem answerFrame_length (a : Answer) : (answerFrame a).length = a.payload.length + 6 := by
  simp [answerFrame, frameBytes]

/-- What is clocked out is the frame with FFh behind it, as far as the clock runs. -/
theorem clockOut_eq (frame : List Byte) (n : Nat) : clockOut frame n = (frame ++ List.replicate n 0xFF).take n := by
  rw [clockOut, List.take_append, List.take_replicate, Nat.min_eq_left (Nat.sub_le ..)]

/-- Settles O2, along the queue of answers and the bytes clocked. -/
theorem answerRead : Obligations.AnswerRead := by
  intro n s
  refine ⟨settleOut n s, rfl, ?_, settleOut_rqp n s, fun hnone => ?_, fun a rest hsome => ?_⟩
  · exact (portOnly_settleOut n s).rest
  · simp only [settleOut, hnone]
    exact ⟨rfl, rfl, clockOut_eq ..⟩
  · simp only [settleOut, hsome, answerFrame_length]
    split
    next hread =>
      refine ⟨clockOut_eq .., fun _ => ⟨rfl, ?_, fun g hg => ?_⟩, fun hshort => by omega⟩
      · simp [tagBusy_setTag]
      · rw [tagBusy_setTag, if_neg hg]
        rfl
    next hshort => exact ⟨clockOut_eq .., fun hread => absurd hread hshort, fun _ => ⟨rfl, rfl⟩⟩

/-! ### RESYNC (R197) -/

/-- Settles O4: RESYNC passes no check but that of its length, and sets the queue and the tags itself. -/
theorem resyncTaken : Obligations.Resync := by
  intro f s hlen hclocked
  have hcut : cutShort f = false := by
    simp only [cutShort, hlen]
    simp
    omega
  have hexec : exec (.resync f) s =
      .next (pushAnswer 0x96 f.tag [0x00] (setTag f.tag true (resynchronize (settleOut f.clocked s)))) := by
    simp only [exec, execResync, resync, hcut, hlen]
    rfl
  have hrest := (portOnly_settleOut f.clocked s).rest
  have hrqp := settleOut_rqp f.clocked s
  generalize settleOut f.clocked s = u at hexec hrest hrqp
  refine ⟨_, hexec, rfl, fun g => ?_, ?_⟩
  · have htag := tagBusy_setTag f.tag g true (resynchronize u)
    have hfree : (resynchronize u).tagBusy g = false := rfl
    rw [hfree] at htag
    refine htag.trans ?_
    split <;> simp [*]
  · rw [hrest, hrqp]
    exact ⟨rfl, rfl, rfl, rfl, rfl, rfl, rfl, rfl, rfl, rfl⟩

/-! ### The mode refusals (R201) -/

/-- Settles O35. -/
theorem modeRefusals : Obligations.ModeRefusals := by
  intro f s
  refine ⟨fun east north quality ht hmode hlow hhigh => ?_, fun ht hmode => ?_, fun ht hmode => ?_, fun d ht hmode => ?_⟩
  · have hq : ¬ (quality.toNat = 0 ∨ 2 < quality.toNat) := by omega
    rw [exec_taken rfl ht]
    simp only [doFixpost, hq, if_false, arrive_mode, hmode, if_true, deliver_reply]
    rfl
  · rw [exec_taken rfl ht]
    simp only [doStop, arrive_mode, hmode, if_true, deliver_reply]
    rfl
  · rw [exec_taken rfl ht]
    simp only [doStart, arrive_mode, hmode, if_true, deliver_reply]
    rfl
  · rw [exec_taken rfl ht]
    simp only [doDset, arrive_mode, hmode, if_true, deliver_reply]
    rfl

/-! ### NAVCONF and FIXPOST (R147, R153) -/

/-- Settles O47. -/
theorem navigation : Obligations.Navigation := by
  refine ⟨fun f divisor enable s ht => ?_, fun f east north quality s ht => ?_⟩
  · rw [exec_taken rfl ht]
    simp only [doNavconf, deliver_reply, arrive_zne, navConfigured, flagOf]
    refine ⟨fun hoff => ?_, fun hon hrx => ?_, fun hon hrx => ?_⟩
    · rw [hoff]
      rfl
    · rw [hon, hrx]
      rfl
    · rw [hon]
      cases hcase : s.zne.nav.rx
      · exact absurd hcase hrx
      all_goals rfl
  · rw [exec_taken rfl ht]
    simp only [doFixpost, arrive_mode, arrive_zne]
    refine ⟨fun hbad => ?_, fun hlow hhigh hmode => ?_⟩
    · rw [if_pos hbad]
      rfl
    · have hq : ¬ (quality.toNat = 0 ∨ 2 < quality.toNat) := by omega
      simp only [hq, if_false, hmode, reduceCtorEq]
      refine ⟨fun hfull => ?_, fun hroom => ?_⟩
      · rw [if_pos (by exact hfull)]
        rfl
      · rw [if_neg (by simpa [Config.fifoCapacity] using hroom)]
        rfl

/-! ### The reset -/

theorem resetValues : Claims.ResetValues := by
  refine ⟨fun s => ⟨_, rfl⟩, ?_⟩
  refine ⟨fun _ => rfl, rfl, rfl, fun _ => rfl, fun i z c => ?_, fun _ => rfl, rfl, rfl, rfl, rfl, fun _ => rfl, rfl, rfl, rfl,
    fun i => ?_, fun i c => ?_, rfl, rfl, fun _ => rfl, rfl, fun _ => rfl, rfl, rfl, rfl, rfl, rfl, rfl, rfl, rfl,
    fun _ => rfl, rfl, rfl, rfl, rfl, rfl, rfl, rfl, rfl, rfl, rfl⟩
  · fin_cases z <;> cases c <;> exact ⟨rfl, rfl, rfl, rfl⟩
  · fin_cases i <;> exact ⟨rfl, rfl, rfl, fun m => by cases m <;> rfl, rfl, rfl, rfl, rfl⟩
  · cases c <;> exact ⟨rfl, rfl, rfl, rfl⟩

/-- The four invariants hold in the reset state. -/
theorem resetMeetsInvariants : Claims.ResetMeetsInvariants := by
  refine ⟨canonical_reset, shape_of_rte rfl (shape_resetState 0 []), gate_of_vrg rfl (gate_resetState 0 []), ?_⟩
  rw [← obeys_iff]
  exact obeys_withPos rfl rfl rfl rfl rfl rfl rfl rfl rfl rfl rfl (obeys_resetState 0 [])

/-- Settles O59: the reset state is one record, read field by field. -/
theorem resetState_values : Obligations.ResetState := ⟨resetValues, resetMeetsInvariants⟩

end Sys2Proof.Machine
end

section
/-! PROOFS. Notices and lines (O5), finding records (O7), PDEL (O17), the CRC residue (O22). -/

namespace Sys2Proof.Machine

variable {s : State}

/-! ### Notices (R198–R200) -/

theorem noticeGiven : Claims.NoticeGiven := by
  intro k x d v1 v2 v3 v4 v5 s
  refine ⟨fun hroom => ?_, fun hfull => ?_⟩
  · exact if_pos hroom
  · exact if_neg (Nat.not_lt.mpr hfull)

theorem subjectBytes_length (x : Subject) : (subjectBytes x).length = 3 := by
  cases x <;> rfl

theorem noticeBytes_length (n : Notice) : (noticeBytes n).length = 14 := by
  simp [noticeBytes, subjectBytes_length, num]

/-- The detail and the five values of a notice, and its ship time, stand behind kind and subject. -/
theorem noticeBytes_fields (n : Notice) :
    beNat (slice 10 4 (noticeBytes n)) = n.time.toNat ∧
      slice 4 6 (noticeBytes n) = [n.detail, n.v1, n.v2, n.v3, n.v4, n.v5] := by
  have htime : beNat (beBytes 4 n.time.toNat) = n.time.toNat := by
    rw [beNat_beBytes]
    exact Nat.mod_eq_of_lt n.time.isLt
  have hlen : (beBytes 4 n.time.toNat).length = 4 := beBytes_length ..
  obtain ⟨a, b, c, hsubject⟩ : ∃ a b c, subjectBytes n.subject = [a, b, c] := by
    cases n.subject <;> exact ⟨_, _, _, rfl⟩
  have htake : (beBytes 4 n.time.toNat).take 4 = beBytes 4 n.time.toNat := List.take_of_length_le hlen.le
  simp only [noticeBytes, hsubject, num]
  refine ⟨?_, ?_⟩
  · simp [slice, htake, htime]
  · simp [slice]

theorem num_one (n : Nat) : num 1 n = [BitVec.ofNat 8 n] := by
  simp [num, beBytes]

theorem fetchNotices : Claims.FetchNotices := by
  intro f s ht q
  refine ⟨?_, fun n => ⟨noticeBytes_length n, noticeBytes_fields n⟩⟩
  rw [exec_taken rfl ht, doNfetch, deliver_replyWith]
  simp only [nfetchBytes, num_one, flag, List.length_take, List.length_drop, arrive_notices, arrive_overflow]
  rfl

theorem portLines : Claims.PortLines := by
  intro s
  refine ⟨?_, ?_⟩
  · simp only [State.alert, List.any_eq_true, alertMasked, State.settings_eq, Bool.not_eq_true']
    refine exists_congr fun n => and_congr_right fun _ => ?_
    cases n.kind <;> rfl
  · cases h : s.rqp.answers <;> simp [State.aready, h]

/-- Settles O5. -/
theorem notices : Obligations.Notices := ⟨noticeGiven, fetchNotices, portLines⟩

/-! ### Finding records -/

theorem mem_of_tget_ne {α : Type} {d : α} {t : Table α} {i : Nat} (h : tget d t i ≠ d) : (i, tget d t i) ∈ t := by
  induction t with
  | nil => exact absurd rfl h
  | cons e t ih =>
    obtain ⟨k, v⟩ := e
    simp only [tget] at h ⊢
    split at h
    next hk => simp [hk]
    next hk => simpa [hk] using .inr (ih h)

theorem le_of_mem_canonicalFrom {α : Type} [DecidableEq α] {d : α} {t : Table α} {lo i : Nat} {v : α}
    (h : canonicalFrom d lo t = true) (hm : (i, v) ∈ t) : lo ≤ i := by
  induction t generalizing lo with
  | nil => cases hm
  | cons e t ih =>
    obtain ⟨k, w⟩ := e
    simp only [canonicalFrom, Bool.and_eq_true, decide_eq_true_eq] at h
    obtain ⟨⟨hlo, -⟩, ht⟩ := h
    rcases List.mem_cons.mp hm with heq | hm
    · cases heq
      exact hlo
    · exact (Nat.le_succ_of_le hlo).trans (ih ht hm)

/-- A record that a canonical table lists is the one it reads. -/
theorem tget_of_mem {α : Type} [DecidableEq α] {d : α} {t : Table α} {i : Nat} {v : α} (h : canonical d t = true)
    (hm : (i, v) ∈ t) : tget d t i = v := by
  have main : ∀ (t : Table α) (lo : Nat), canonicalFrom d lo t = true → (i, v) ∈ t → tget d t i = v := by
    intro t
    induction t with
    | nil => nofun
    | cons e t ih =>
      obtain ⟨k, w⟩ := e
      intro lo h hm
      simp only [canonicalFrom, Bool.and_eq_true, decide_eq_true_eq] at h
      rcases List.mem_cons.mp hm with heq | hm
      · cases heq
        simp [tget]
      · have hlt : k + 1 ≤ i := le_of_mem_canonicalFrom h.2 hm
        have hne : k ≠ i := by omega
        simpa [tget, hne] using ih _ h.2 hm
  exact main t 0 h hm

theorem findKey_some {α : Type} [DecidableEq α] {d : α} {t : Table α} {p : α → Bool} {i : Nat} (h : canonical d t = true)
    (hi : findKey p t = some i) : p (tget d t i) = true := by
  obtain ⟨⟨k, v⟩, hfind, rfl⟩ := Option.map_eq_some_iff.mp hi
  rw [tget_of_mem h (List.mem_of_find?_eq_some hfind)]
  have := List.find?_some hfind
  exact this

theorem findKey_none {α : Type} {d : α} {t : Table α} {p : α → Bool} (hd : p d = false) (h : findKey p t = none) (i : Nat) :
    p (tget d t i) = false := by
  by_cases hi : tget d t i = d
  · rw [hi, hd]
  · have hfind : t.find? (fun e => p e.2) = none := Option.map_eq_none_iff.mp h
    simpa using List.find?_eq_none.mp hfind _ (mem_of_tget_ne hi)

/-- Settles O7: a record is found by its key in a canonical table, and is the record the table reads there. -/
theorem findingRecords : Obligations.FindingRecords := by
  intro s d hc
  obtain ⟨-, hslots, hpartners, -⟩ := (canon_iff s).mpr hc
  refine ⟨fun i hi => ?_, fun hnone i hv hsid => ?_, fun i hi => ?_, fun hnone i r hr hh => ?_, fun i hi => ?_, fun hnone => ?_⟩
  · have := findKey_some hslots hi
    simp only [Bool.and_eq_true, beq_iff_eq] at this
    exact ⟨this.2, this.1⟩
  · have := findKey_none (d := slotReset) rfl hnone i
    rw [Bool.and_eq_false_iff] at this
    rcases this with h | h
    · exact absurd hv (by simpa [State.visitor, State.slot] using h)
    · exact absurd hsid (by simpa [State.slot] using h)
  · have := findKey_some hpartners hi
    cases hp : tget none s.chu.partners i with
    | none => simp [hp] at this
    | some r =>
      refine ⟨r, hp, ?_⟩
      simpa [hp] using this
  · have := findKey_none (d := none) rfl hnone i
    rw [show tget none s.chu.partners i = some r from hr] at this
    simp [hh] at this
  · simp only [State.partnerBySid, hi]
  · simp only [State.partnerBySid, hnone]

/-! ### PDEL (R35) -/

theorem plan_updPlanCount (i x : Nat) (g : Nat → Nat) (s : State) :
    (s.updPlanCount i g).plan x =
      { s.plan x with partners := if x = i then g (s.plan x).partners else (s.plan x).partners } := by
  rw [State.updPlanCount, State.setPlan_plan]
  rcases eq_or_ne i x with rfl | h
  · simp
  · simp [h, Ne.symm h]

theorem purgeOf_iff (i : Nat) : s.purgeOf i = true ↔ ∃ x, s.vrg.purge = some x ∧ x.scope = .partner i := by
  unfold State.purgeOf
  split
  next p hp => simp [hp]
  next hp => simp [hp]

/-- Settles O17, along the refusals of R35 in their order. -/
theorem deletePartner : Obligations.DeletePartner := by
  intro f hnc s ht
  rw [exec_taken rfl ht]
  have hpurge (i : Nat) : (arrive f s).purgeOf i = s.purgeOf i := by simp [State.purgeOf]
  simp only [doPdel, arrive_partnerByHnc, arrive_partner, hpurge]
  refine ⟨fun hbad => ?_, fun d hd => ⟨fun hnone => ?_, fun i r hi hr => ⟨fun hp => ?_, fun hp hv => ?_, fun hp hv => ?_⟩⟩⟩
  · rw [hbad]
    rfl
  · simp only [hd, hnone]
    rfl
  · rw [← purgeOf_iff] at hp
    simp only [hd, hi, hp, if_true]
    rfl
  · rw [← purgeOf_iff] at hp
    simp only [hd, hi, hp, hr, hv, if_true, Bool.false_eq_true, if_false]
    rfl
  · rw [← purgeOf_iff] at hp
    simp only [hd, hi, hp, hr, hv, Nat.lt_irrefl, Bool.false_eq_true, if_false]
    refine ⟨((arrive f s).setPartner i none).updPlanCount r.plan (· - 1), ?_, rfl, ?_, fun j hj => ?_, fun x => ?_, ?_⟩
    · rw [deliver_replyWith, num_one]
      rfl
    · simp [State.updPlanCount]
    · simp [State.updPlanCount, State.setPartner_partner, Ne.symm hj]
    · simp [plan_updPlanCount]
    · simp [State.updPlanCount, State.setPlan, State.setPartner]

/-! ### The CRC residue (R41, R211) -/

theorem crcShift_of_lt {r : BitVec 16} (h : r.toNat < 2 ^ 15) : (crcShift r).toNat = 2 * r.toNat := by
  have hmsb : r.msb = false := by
    rw [BitVec.msb_eq_decide]
    simpa using h
  rw [crcShift, hmsb]
  simp only [Bool.false_eq_true, if_false, BitVec.toNat_shiftLeft]
  omega

/-- A remainder of one byte is shifted up whole. -/
theorem crcByte_of_low {r : BitVec 16} {b : Byte} {n : Nat} (hn : n < 256) (h : r ^^^ (b ++ 0#8) = BitVec.ofNat 16 n) :
    crcByte r b = BitVec.ofNat 16 (n * 256) := by
  have shift (m : Nat) (hm : m < 2 ^ 15) : crcShift (BitVec.ofNat 16 m) = BitVec.ofNat 16 (2 * m) := by
    apply BitVec.eq_of_toNat_eq
    rw [crcShift_of_lt (by simp; omega)]
    simp
    omega
  rw [crcByte, h, shift _ (by omega), shift _ (by omega), shift _ (by omega), shift _ (by omega), shift _ (by omega),
    shift _ (by omega), shift _ (by omega), shift _ (by omega)]
  congr 1
  ring

theorem crcByte_hi (r : BitVec 16) :
    crcByte r (BitVec.ofNat 8 (r.toNat / 256)) = BitVec.ofNat 16 (r.toNat % 256 * 256) := by
  refine crcByte_of_low (Nat.mod_lt _ (by norm_num)) (BitVec.eq_of_getLsbD_eq fun i hi => ?_)
  have hlow : (r.toNat % 256).testBit i = (decide (i < 8) && r.toNat.testBit i) := Nat.testBit_mod_two_pow r.toNat 8 i
  have hhigh : (r.toNat / 256).testBit (i - 8) = r.toNat.testBit (8 + (i - 8)) := by
    rw [show (256 : Nat) = 2 ^ 8 from rfl, Nat.testBit_div_two_pow, Nat.add_comm]
  simp only [BitVec.getLsbD_xor, BitVec.getLsbD_append, BitVec.getLsbD_ofNat, hlow, hhigh]
  rcases Nat.lt_or_ge i 8 with h | h
  · simp [h, hi, BitVec.getLsbD]
  · have hi' : i - 8 < 8 := by omega
    have hsum : 8 + (i - 8) = i := by omega
    simp [Nat.not_lt.mpr h, hi', hsum, BitVec.getLsbD]

theorem crcByte_self (n : Nat) : crcByte (BitVec.ofNat 16 (n % 256 * 256)) (BitVec.ofNat 8 n) = 0 := by
  refine crcByte_of_low (n := 0) (by norm_num) ?_
  have heq : BitVec.ofNat 16 (n % 256 * 256) = BitVec.ofNat 8 n ++ 0#8 := by
    apply BitVec.eq_of_toNat_eq
    rw [BitVec.toNat_append, Nat.shiftLeft_eq]
    simp
    omega
  rw [heq, BitVec.xor_self]

/-- Settles O22: the high byte of the remainder cancels, and the low byte the rest. -/
theorem crcResidue : Obligations.CrcResidue := by
  intro bs
  rw [crc16, List.foldl_append]
  change (crcByte (crcByte (crc16 bs) _) _) = 0
  have hhi := crcByte_hi (crc16 bs)
  have hlo := crcByte_self (crc16 bs).toNat
  simp only [pow_one, pow_zero, Nat.div_one]
  rw [hhi, hlo]

end Sys2Proof.Machine
end

section
/-! PROOFS. The rating computation, its bound, the quality factor, and close-out (chapter 3). -/

namespace Sys2Proof.Machine

/-! ### The rating computation -/

/-- Volume never touches the charge counter of a bucket. -/
@[simp] theorem addVolume_charge (c : TrafficClass) (up : Bool) (n : Nat) (b : Bucket) :
    (addVolume c up n b).charge = b.charge := by
  cases c <;> cases up <;> rfl

/-- The four volume counters after a post: the one of its class and direction takes the amount up to the limit. -/
theorem addVolume_counters (c : TrafficClass) (up : Bool) (n : Nat) (b : Bucket) :
    let top := 281474976710655
    let y := addVolume c up n b
    y.seconds = (if c = .voice then min top (b.seconds + n) else b.seconds) ∧
    y.up = (if c = .data ∧ up then min top (b.up + n) else b.up) ∧
    y.down = (if c = .data ∧ !up then min top (b.down + n) else b.down) ∧
    y.messages = (if c = .message then min top (b.messages + n) else b.messages) := by
  cases c <;> cases up <;> simp [addVolume, satAdd, Config.counterMax]

/-- The volume counter a post feeds does not depend on the charge. -/
@[simp] theorem volumeOf_with_charge (b : Bucket) (c : TrafficClass) (up : Bool) (n : Nat) :
    volumeOf { b with charge := n } c up = volumeOf b c up := by
  cases c <;> cases up <;> rfl

/-- The charge of a post and the carry it leaves (R53–R55). -/
def postCharge (r : RateInputs) (c : TrafficClass) (n : Nat) (a : Account) : Nat × Nat :=
  chargeOf (stepsOf (cget a.remainder c) n r.rate.step).1 r.rate.price r.lf r.qf (cget a.carry c)

/-- The account a rated post leaves. -/
def ratedAccount (r : RateInputs) (online : Bool) (z : TariffZone) (c : TrafficClass) (up : Bool) (n : Nat) (a : Account) :
    Account :=
  let charge := (postCharge r c n a).1
  { a with
    buckets := qset a.buckets z
      (addVolume c up n { qget a.buckets z with charge := satAdd Config.counterMax (qget a.buckets z).charge charge })
    remainder := cset a.remainder c (stepsOf (cget a.remainder c) n r.rate.step).2
    carry := cset a.carry c (postCharge r c n a).2
    unreported := if online then satAdd Config.counterMax a.unreported charge else a.unreported }

theorem rateAccount_some (r : RateInputs) (online : Bool) (z : TariffZone) (c : TrafficClass) (up : Bool) (n : Nat)
    (a : Account) :
    rateAccount (some r) online z c up n a = (ratedAccount r online z c up n a, (postCharge r c n a).1,
      (passes (volumeOf (qget a.buckets z) c up) n || passes (qget a.buckets z).charge (postCharge r c n a).1) ||
        (online && passes a.unreported (postCharge r c n a).1)) := by
  cases online <;> simp [rateAccount, ratedAccount, postCharge]

theorem rating_conserves : Claims.Rating := by
  intro r online z c up n a b charge hit hstep h
  rw [rateAccount_some, Prod.mk.injEq, Prod.mk.injEq] at h
  obtain ⟨rfl, rfl, rfl⟩ := h
  have hvol : volumeOf (qget a.buckets z) c up = (match c, up with
      | .voice, _ => (qget a.buckets z).seconds
      | .data, true => (qget a.buckets z).up
      | .data, false => (qget a.buckets z).down
      | .message, _ => (qget a.buckets z).messages) := by
    cases c <;> cases up <;> rfl
  obtain ⟨hsec, hup, hdown, hmsg⟩ := addVolume_counters c up n
    { qget a.buckets z with charge := satAdd Config.counterMax (qget a.buckets z).charge (postCharge r c n a).1 }
  simp only [ratedAccount, cget_cset_self, qget_qset_self, addVolume_charge]
  refine ⟨Nat.mod_lt _ hstep, Nat.div_add_mod' _ _, Nat.mod_lt _ (by norm_num), Nat.div_add_mod _ _, rfl, hsec, hup, hdown,
    hmsg, rfl, fun w hw => qget_qset_other _ _ hw.symm, fun d hd => ?_, trivial, ?_⟩
  · simp only [cget_cset, if_neg (Ne.symm hd), and_self]
  · have hpass (x y : Nat) : passes x y = true ↔ 281474976710655 < x + y := decide_eq_true_iff
    rw [hvol]
    simp only [Bool.or_eq_true, Bool.and_eq_true, hpass, Nat.add_comm n]
    tauto

theorem ratingBound : Claims.RatingBound := by
  intro rem n step price lf qf hrem hn hstep hmax hprice hlf hqf
  have hk : (rem + n) / step ≤ 17825789 := (Nat.div_le_self _ _).trans (by omega)
  have hproduct : (rem + n) / step * price * lf * qf ≤ 17825789 * 1000000 * 4000 * 1000 :=
    Nat.mul_le_mul (Nat.mul_le_mul (Nat.mul_le_mul hk hprice) hlf) hqf
  have hrest := Nat.mod_lt (rem + n) hstep
  have hcarry := Nat.mod_lt ((rem + n) / step * price * lf * qf + 0) (show 0 < 1000000 by norm_num)
  simp only [stepsOf, chargeOf]
  norm_num at hproduct ⊢
  omega

/-! ### The quality factor -/

theorem faultOf_iff (l : LinkRec) (m : Monitor) :
    faultOf l m = true ↔ (mget l.monitors m).fault = true ∧ mget l.cfg.mask m = false := by
  simp [faultOf]

/-- A degradation is drill-only exactly where no monitor but the drilled one is unmasked and in FAULT. -/
theorem drillOnly_iff (l : LinkRec) :
    drillOnly l = true ↔ ∃ d, l.drill = some d ∧ ∀ m, m ≠ d.monitor → ¬ faultOf l m = true := by
  cases hd : l.drill with
  | none => simp [drillOnly, hd]
  | some d =>
    simp only [drillOnly, hd, Option.some.injEq, exists_eq_left']
    constructor
    · intro h m hm
      have hm := Ne.symm hm
      cases m <;> simp_all
    · intro h
      have hdelay := h .delay
      have hloss := h .loss
      have hlevel := h .level
      cases hm : d.monitor <;> simp_all

theorem qualityFactor_rule : Claims.QualityFactor := by
  intro l factor bad drillOnly'
  have hdrill : drillOnly l = true ↔ drillOnly' := by
    simp only [drillOnly_iff, faultOf_iff, drillOnly', bad]
  constructor
  · rintro (h | ⟨c, h⟩ | ⟨h, hnot⟩)
    · simp [qualityFactor, h]
    · simp [qualityFactor, h]
    · simp [qualityFactor, h, hdrill, hnot]
  · rintro (h | h | ⟨h, hyes⟩)
    · simp [qualityFactor, h]
    · simp [qualityFactor, h]
    · simp [qualityFactor, h, hdrill, hyes]

/-- Settles O23: each clause reads off what the computation stores. -/
theorem rating : Obligations.Rating := ⟨rating_conserves, ratingBound, qualityFactor_rule⟩

/-! ### Close-out -/

/-- Settles O27. -/
theorem closeOutRule : Obligations.CloseOut := by
  intro rates online z a out price part charge
  have hpart (c : TrafficClass) :
      closeOutClass (rates.map fun p => (cget p c).price) (cget a.remainder c) (cget a.carry c) = part c := by
    cases rates <;> simp [closeOutClass, part, price]
  have hcharge : out.2.1 = charge := by
    have h := congrArg₂ (· + ·) (congrArg₂ (· + ·) (hpart .voice) (hpart .data)) (hpart .message)
    cases online <;> exact h
  refine ⟨hcharge, fun c => ?_, ?_⟩
  · cases online <;> cases c <;> exact ⟨rfl, rfl⟩
  · rw [← hcharge]
    cases online <;>
      simp [out, closeOutAccount, satAdd, Config.counterMax]
    all_goals exact fun w hw => qget_qset_other _ _ (Ne.symm hw)

end Sys2Proof.Machine
end

section
/-! PROOFS. The operands of the requests, and the refusals of ADMIT (chapter 1). -/

namespace Sys2Proof.Machine

/-! ### The operands -/

theorem serviceOf_eq_none {b : Byte} : serviceOf b = none ↔ 2 < b.toNat := by
  unfold serviceOf
  split <;> simp_all
  omega

theorem serviceOf_emergency {b : Byte} : serviceOf b = some .emergency ↔ b.toNat = 2 := by
  unfold serviceOf
  split <;> simp_all

theorem linkOf_eq_none {b : Byte} : linkOf b = none ↔ 3 < b.toNat := by
  unfold linkOf
  split <;> simp <;> omega

@[simp] theorem linkOf_linkByte (l : Link) : linkOf (linkByte l) = some l := by
  fin_cases l <;> rfl

/-- The two halves of a number, as `/` and `%`, are its slot and generation fields. -/
theorem linkOf_eq_some {b : Byte} {l : Link} : linkOf b = some l ↔ b = linkByte l := by
  constructor
  · intro h
    unfold linkOf at h
    split at h
    next hb =>
      obtain rfl := Option.some.inj h
      exact BitVec.eq_of_toNat_eq (by simp [linkByte])
    next => exact absurd h (by simp)
  · rintro rfl
    exact linkOf_linkByte l

/-! ### What R7 asks of an ADMIT -/

theorem radioAdmits_eq (r : RadioState) : radioAdmits r = !silencing r := by
  cases r <;> rfl

/-- A purge bars an admission exactly where it is not clear of the partner R7 check 4 finds. -/
theorem purgeBars_eq_false (s : State) (d : Digits) (k : ServiceClass) :
    s.purgeBars d k = false ↔ NotPurged s (s.admitPartner d k) := by
  unfold State.purgeBars NotPurged
  cases s.vrg.purge with
  | none => simp
  | some p => cases hscope : p.scope <;> simp [hscope]

@[simp] theorem arrive_admitPartner (f : Frame) (s : State) (d : Digits) (k : ServiceClass) :
    (arrive f s).admitPartner d k = s.admitPartner d k := by
  simp [State.admitPartner]

@[simp] theorem arrive_purgeBars (f : Frame) (s : State) (d : Digits) (k : ServiceClass) :
    (arrive f s).purgeBars d k = s.purgeBars d k := by
  simp [State.purgeBars]

theorem admitPartner_new {s : State} {d : Digits} (h : s.slotBySid d = none) (k : ServiceClass) :
    s.admitPartner d k = if k = .emergency then none else s.partnerBySid d := by
  simp only [State.admitPartner, h]

/-- An ADMIT that R7 refuses nothing: its operands are in range, the part is in SERVICE with the radio and the unit
serving, and no purge bars it. -/
structure Admittable (sid : BitVec 64) (cls unit : Byte) (d : Digits) (k : ServiceClass) (s : State) : Prop where
  sid : sidOf sid = some d
  cls : serviceOf cls = some k
  inRange : unit.toNat ≤ 15
  mode : s.rqp.mode = .service
  radio : silencing s.rdc.radio = false
  serving : (s.unit unit.toNat).state = .serving
  purge : NotPurged s (s.admitPartner d k)

/-- The work of an ADMIT whose operands spell a SID and a class and whose unit is in range, with the checks of R7 to come. -/
theorem doAdmit_spelled {sid : BitVec 64} {cls unit : Byte} {d : Digits} {k : ServiceClass} (hsid : sidOf sid = some d)
    (hcls : serviceOf cls = some k) (hunit : unit.toNat ≤ 15) (s : State) :
    doAdmit sid cls unit s =
      if s.rqp.mode = .config then reply .mode s
      else if silencing s.rdc.radio = true ∨ (s.unit unit.toNat).state ≠ .serving then reply .state s
      else if s.purgeBars d k then reply .busy s
      else match s.slotBySid d with
        | some slot => attach slot unit.toNat s
        | none => if k = .emergency then admitEmergency d unit.toNat s else admitNew d k unit.toNat s := by
  simp only [doAdmit, hsid, hcls, if_neg (Nat.not_lt.mpr hunit), radioAdmits_eq, State.unitServing, Bool.not_not,
    Bool.or_eq_true, Bool.not_eq_true', beq_eq_false_iff_ne] <;> rfl

theorem doAdmit_bad {sid : BitVec 64} {cls unit : Byte} (h : sidOf sid = none ∨ 2 < cls.toNat ∨ 15 < unit.toNat) (s : State) :
    doAdmit sid cls unit s = reply .badArg s := by
  unfold doAdmit
  split
  next d k hsid hcls =>
    have hunit : 15 < unit.toNat := by
      simpa [hsid, ← serviceOf_eq_none, hcls] using h
    rw [if_pos hunit]
  next => rfl

/-- The work of an ADMIT that R7 does not refuse. -/
theorem exec_admit {f : Frame} {sid : BitVec 64} {cls unit : Byte} {d : Digits} {k : ServiceClass} {s : State}
    (ht : Takes f kAdmit s) (h : Admittable sid cls unit d k s) :
    exec (.admitVisitor f sid cls unit) s = .next (deliver kAdmit f.tag (match s.slotBySid d with
      | some slot => attach slot unit.toNat (arrive f s)
      | none => if k = .emergency then admitEmergency d unit.toNat (arrive f s)
        else admitNew d k unit.toNat (arrive f s))) := by
  have hpurge := (purgeBars_eq_false s d k).mpr h.purge
  rw [exec_taken rfl ht, doAdmit_spelled h.sid h.cls h.inRange]
  simp only [arrive_mode, arrive_rdc, arrive_unit, arrive_purgeBars, arrive_slotBySid, h.mode, h.radio, h.serving, hpurge,
    reduceCtorEq, Bool.false_eq_true, ne_eq, not_true_eq_false, or_self, if_false]

/-! ### The refusals -/

theorem admitRefused_checks : Claims.AdmitRefused := by
  intro f sid cls unit s ht bad silent refused
  have hwork : exec (.admitVisitor f sid cls unit) s = .next (deliver kAdmit f.tag (doAdmit sid cls unit (arrive f s))) :=
    exec_taken rfl ht
  have hspelled (hgood : ¬ bad) : ∃ d k, sidOf sid = some d ∧ serviceOf cls = some k ∧ unit.toNat ≤ 15 := by
    obtain ⟨hsid, hcls, hunit⟩ : sidOf sid ≠ none ∧ serviceOf cls ≠ none ∧ unit.toNat ≤ 15 := by
      simpa [bad, ← serviceOf_eq_none] using hgood
    obtain ⟨d, hd⟩ := Option.ne_none_iff_exists'.mp hsid
    obtain ⟨k, hk⟩ := Option.ne_none_iff_exists'.mp hcls
    exact ⟨d, k, hd, hk, hunit⟩
  have hbarred {d : Digits} {k : ServiceClass} (hsid : sidOf sid = some d) (hcls : serviceOf cls = some k) (hgood : ¬ bad)
      (hmode : s.rqp.mode = .service) (hloud : ¬ silent) (hpurge : s.purgeBars d k = true) : refused 0x10 := by
    obtain ⟨_, _, _, _, hunit⟩ := hspelled hgood
    show exec _ s = _
    rw [hwork, doAdmit_spelled hsid hcls hunit]
    simp only [arrive_mode, hmode, arrive_rdc, arrive_unit, arrive_purgeBars, hpurge, reduceCtorEq, if_false, if_true]
    rw [if_neg hloud]
    rfl
  refine ⟨fun hbad => ?_, fun hgood hmode => ?_, fun hgood hmode hsilent => ?_, fun hgood hmode hloud hall => ?_,
    fun d p i hgood hmode hloud hd hp hscope => ⟨fun j v hj hv hpartner => ?_, fun hnew hlow hpartner => ?_⟩⟩
  · show exec _ s = _
    rw [hwork, doAdmit_bad hbad]
    rfl
  · obtain ⟨d, k, hd, hk, hunit⟩ := hspelled hgood
    show exec _ s = _
    rw [hwork, doAdmit_spelled hd hk hunit]
    simp only [arrive_mode, hmode, if_true]
    rfl
  · obtain ⟨d, k, hd, hk, hunit⟩ := hspelled hgood
    show exec _ s = _
    rw [hwork, doAdmit_spelled hd hk hunit]
    simp only [arrive_mode, hmode, arrive_rdc, arrive_unit, reduceCtorEq, if_false]
    rw [if_pos hsilent]
    rfl
  · obtain ⟨d, k, hd, hk, hunit⟩ := hspelled hgood
    obtain ⟨p, hp, hscope⟩ := hall
    exact hbarred hd hk hgood hmode hloud (by simp [State.purgeBars, hp, hscope])
  · obtain ⟨_, k, _, hk, _⟩ := hspelled hgood
    refine hbarred hd hk hgood hmode hloud ?_
    simp [State.purgeBars, hp, hscope, State.admitPartner, hj, hv, hpartner]
  · obtain ⟨_, k, _, hk, _⟩ := hspelled hgood
    have hclass : k ≠ .emergency := by
      rintro rfl
      have := serviceOf_emergency.mp hk
      omega
    refine hbarred hd hk hgood hmode hloud ?_
    simp [State.purgeBars, hp, hscope, State.admitPartner, hnew, hclass, hpartner]

theorem admitBarred : Claims.AdmitBarred := by
  intro f sid cls unit d s ht hsid hlow hunit hmode hradio hserving hpurge hnew refused
  obtain ⟨k, hk⟩ := Option.ne_none_iff_exists'.mp (mt serviceOf_eq_none.mp (show ¬ 2 < cls.toNat by omega))
  have hclass : k ≠ .emergency := by
    rintro rfl
    have := serviceOf_emergency.mp hk
    omega
  have hwork := exec_admit ht ⟨hsid, hk, hunit, hmode, hradio, hserving, by rwa [admitPartner_new hnew, if_neg hclass]⟩
  simp only [hnew, if_neg hclass, admitNew, arrive_partnerBySid, arrive_partner, arrive_chooseAccount] at hwork
  refine ⟨fun hnone => ?_, fun p r hp hr => ⟨fun hbar => ?_, fun hbar hnone => ?_⟩⟩
  · simp only [hnone] at hwork
    exact hwork
  · simp only [hp, hr, hbar, if_true] at hwork
    exact hwork
  · simp only [hp, hr, hbar, hnone, if_false] at hwork
    exact hwork

/-! ### A full register -/

/-- A register without a FREE slot has no lowest one. -/
theorem no_free_slot {s : State} (h : ∀ j < 4096, (s.visitor j).isSome) :
    firstIndex slotReset (fun e => e.visitor.isNone) s.vrg.slots Config.visitorSlots 0 = none := by
  cases hi : firstIndex slotReset (fun e => e.visitor.isNone) s.vrg.slots Config.visitorSlots 0 with
  | none => rfl
  | some i =>
    obtain ⟨hfree, -, hlt, -⟩ := firstIndex_spec _ _ _ _ _ _ hi
    have hsome : (tget slotReset s.vrg.slots i).visitor.isSome := h i (by simpa [Config.visitorSlots] using hlt)
    simp [Option.isNone_iff_eq_none.mp hfree] at hsome

@[simp] theorem arrive_evictable (f : Frame) (s : State) : (arrive f s).evictable = s.evictable := by
  simp [State.evictable, State.passengerIn]

/-- No PASSENGER in a state means the search of R11 finds none. -/
theorem passengerIn_eq_none (s : State) (st : VisitorState) :
    s.passengerIn st = none ↔ ∀ j ∈ s.vrg.activity, ∀ v, s.visitor j = some v → v.cls = .passenger → v.state ≠ st := by
  unfold State.passengerIn
  rw [List.find?_eq_none]
  refine forall₂_congr fun j _ => ?_
  cases s.visitor j <;> simp

theorem evictable_eq_none (s : State) :
    s.evictable = none ↔ ∀ j ∈ s.vrg.activity, ∀ v, s.visitor j = some v → v.cls = .passenger →
      v.state ≠ .suspended ∧ v.state ≠ .active := by
  have h : s.evictable = none ↔ s.passengerIn .suspended = none ∧ s.passengerIn .active = none := by
    unfold State.evictable
    cases s.passengerIn .suspended <;> simp
  rw [h, passengerIn_eq_none, passengerIn_eq_none]
  constructor
  · rintro ⟨hs, ha⟩ j hj v hv hp
    exact ⟨hs j hj v hv hp, ha j hj v hv hp⟩
  · intro h
    exact ⟨fun j hj v hv hp => (h j hj v hv hp).1, fun j hj v hv hp => (h j hj v hv hp).2⟩

/-- In a full register with nobody to evict no admission finds room. -/
theorem roomFor_full {s : State} {k : ServiceClass} (hfull : ∀ j < 4096, (s.visitor j).isSome)
    (h : k = .passenger ∨ s.evictable = none) : s.roomFor k = none := by
  simp only [State.roomFor, no_free_slot hfull]
  rcases h with rfl | h
  · rfl
  · rw [h]
    exact ite_self _

theorem admitFull : Claims.AdmitFull := by
  intro f sid cls unit d k s ht hsid hk hunit hmode hradio hserving hnew hpurge hfull hnobody refused
  have hwork := exec_admit ht ⟨hsid, hk, hunit, hmode, hradio, hserving, by rwa [admitPartner_new hnew]⟩
  have hroom : (arrive f s).roomFor k = none := by
    refine roomFor_full (fun j hj => ?_) ?_
    · rw [arrive_visitor]
      exact hfull j hj
    · rwa [arrive_evictable, evictable_eq_none]
  refine ⟨fun hclass => ?_, fun p r hclass hp hr hbar ha => ?_⟩
  · subst hclass
    simp only [hnew, admitEmergency, hroom, if_true] at hwork
    exact hwork
  · obtain ⟨a, ha⟩ := Option.isSome_iff_exists.mp ha
    simp only [hnew, if_neg hclass, admitNew, arrive_partnerBySid, arrive_partner, arrive_chooseAccount, hp, hr, if_neg hbar,
      ha, hroom] at hwork
    exact hwork

/-- Settles O8. -/
theorem admitRefused_settled : Obligations.AdmitRefused := ⟨admitRefused_checks, admitBarred, admitFull⟩

end Sys2Proof.Machine
end

section
/-! PROOFS. DETACH and the retire timer, PURGE and its walk, and PSET (chapters 1 and 2). -/

namespace Sys2Proof.Machine

/-! ### The causes of a retirement (R6, R18) -/

theorem departing_iff {s : State} {i : Nat} {v : Visitor} (h : s.visitor i = some v) :
    s.departing i = true ↔ v.state = .departing := by
  simp [State.departing, h]

theorem detach : Claims.Detach := by
  intro f h s ht i a
  rw [exec_taken rfl ht]
  simp only [doDetach, arrive_live]
  refine ⟨fun hdead => ?_, fun v hlive hv => ⟨fun hdeparting => ?_, fun hpresent => ?_⟩⟩
  · simp only [hdead]
    rfl
  · simp only [hlive, arrive_departing, (departing_iff hv).mpr hdeparting, i, handleSlot]
    rfl
  · have hstays : s.departing (h.toNat / 16) = false := by
      rw [← Bool.not_eq_true]
      exact mt (departing_iff hv).mp hpresent
    simp only [hlive, arrive_departing, hstays, Bool.not_true, Bool.false_eq_true, if_false, deliver_replyWith, i, a, handleSlot]
    generalize retire (h.toNat / 16) .detached (arrive f s) = t
    cases hleft : t.visitor (h.toNat / 16) <;> simp only [State.slotStateByte, hleft] <;> rfl

theorem retireTimer : Claims.RetireTimer := by
  intro i n v s hv
  rw [exec_of_eventOf rfl]
  refine ⟨fun hruns hstate => ?_, fun hruns hstate => ?_, fun hstopped => ?_⟩
  · simp [retireExpiry, hv, hruns, hstate]
  · simp [retireExpiry, hv, hruns, hstate]
  · simp [retireExpiry, hv, hstopped]

/-- Settles O14. -/
theorem retirementCauses : Obligations.RetirementCauses := ⟨detach, retireTimer⟩

/-! ### PURGE (R25–R27) -/

/-- A purge that R25 takes: it starts where none is in flight. -/
theorem deliver_startPurge (f : Frame) (x : PurgeScope) (s : State) :
    (∀ p, s.vrg.purge = some p → deliver kPurge f.tag (startPurge f.tag x (arrive f s)) =
      pushAnswer 0x14 f.tag [0x10] (arrive f s)) ∧
    (s.vrg.purge = none → deliver kPurge f.tag (startPurge f.tag x (arrive f s)) =
      (arrive f s).withVrg { s.vrg with purge := some ⟨x, 0, 0, ⟨f.tag, false⟩⟩ }) := by
  simp only [startPurge, arrive_vrg]
  constructor
  · intro p hp
    rw [hp]
    rfl
  · intro hnone
    rw [hnone]
    rfl

theorem purgeStarts : Claims.PurgeStarts := by
  intro f scope hnc s ht a starts
  rw [exec_taken rfl ht] at *
  have hstarts (x : PurgeScope) (h : doPurge f.tag scope hnc (arrive f s) = startPurge f.tag x (arrive f s)) : starts x := by
    simp only [starts, exec_taken (i := .purge f scope hnc) rfl ht, h, Host.Outcome.next.injEq]
    exact deliver_startPurge f x s
  refine ⟨fun hbad => ?_, fun hall => ?_, fun hsuspended => ?_, fun hpartner hbad => ?_, fun d hpartner hd => ⟨fun hnone => ?_,
    fun i hi => ?_⟩⟩
  · have hwork : doPurge f.tag scope hnc (arrive f s) = reply .badArg (arrive f s) := by
      unfold doPurge
      split
      case h_4 => rfl
      all_goals omega
    rw [hwork]
    rfl
  · exact hstarts _ (by simp [doPurge, hall])
  · exact hstarts _ (by simp [doPurge, hsuspended])
  · have hwork : doPurge f.tag scope hnc (arrive f s) = reply .badArg (arrive f s) := by simp [doPurge, hpartner, hbad]
    rw [hwork]
    rfl
  · have hwork : doPurge f.tag scope hnc (arrive f s) = reply .notFound (arrive f s) := by
      simp [doPurge, hpartner, hd, hnone]
    rw [hwork]
    rfl
  · exact hstarts _ (by simp [doPurge, hpartner, hd, hi])

/-- What the scope of a purge matches (R26). -/
theorem purgeMatches_iff (x : PurgeScope) (v : Visitor) :
    purgeMatches x v = true ↔ v.state ≠ .departing ∧ (match x with
      | .all => True
      | .partner i => v.partner = some i
      | .suspendedOnly => v.state = .suspended) := by
  cases x <;> simp [purgeMatches, present]
  intro h
  simp [h]

/-- The end of a step of the walk, in the state `t` with `n` entries retired so far (R27). -/
def purgeMoved (p : Purge) (n : Nat) (t : State) : State :=
  if Config.visitorSlots ≤ p.position + 1 then
    answerInFlight kPurge.code p.req (resultByte .ok :: num 2 n) (t.withVrg { t.vrg with purge := none })
  else t.withVrg { t.vrg with purge := some { p with position := p.position + 1, retired := n } }

theorem purgeStep_hit {p : Purge} {s : State} (hp : s.vrg.purge = some p)
    (h : (s.visitor p.position).any (purgeMatches p.scope) = true) :
    purgeStep s = purgeMoved p (p.retired + 1) (retire p.position .purged s) := by
  simp only [purgeStep, hp, h, if_true, purgeMoved]

theorem purgeStep_miss {p : Purge} {s : State} (hp : s.vrg.purge = some p)
    (h : (s.visitor p.position).any (purgeMatches p.scope) = false) : purgeStep s = purgeMoved p p.retired s := by
  simp only [purgeStep, hp, h, Bool.false_eq_true, if_false, purgeMoved]

theorem purgeMoved_cases (p : Purge) (n : Nat) (t : State) :
    (p.position < 4095 →
      purgeMoved p n t = t.withVrg { t.vrg with purge := some { p with position := p.position + 1, retired := n } }) ∧
    (4095 ≤ p.position → p.req.dropped = true → purgeMoved p n t = t.withVrg { t.vrg with purge := none }) ∧
    (4095 ≤ p.position → p.req.dropped = false →
      purgeMoved p n t = pushAnswer 0x14 p.req.tag ([0x00] ++ beBytes 2 n) (t.withVrg { t.vrg with purge := none })) := by
  refine ⟨fun hbelow => ?_, fun hlast hdropped => ?_, fun hlast hkept => ?_⟩
  · rw [purgeMoved, if_neg (by simp only [Config.visitorSlots]; omega)]
  · rw [purgeMoved, if_pos (by simp only [Config.visitorSlots]; omega)]
    simp only [answerInFlight, hdropped, if_true]
  · rw [purgeMoved, if_pos (by simp only [Config.visitorSlots]; omega)]
    simp only [answerInFlight, hkept]
    rfl

theorem purgeStep_rule : Claims.PurgeStep := by
  refine ⟨fun s hnone => ?_, fun p s hp => ?_⟩
  · rw [exec_of_eventOf rfl]
    simp [purgeStep, hnone]
  · intro hits
    have hhit : (s.visitor p.position).any (purgeMatches p.scope) = true ↔ hits := by
      simp only [Option.any_eq_true, purgeMatches_iff, hits] <;> rfl
    simp only [exec_of_eventOf (i := .purgeWalkStep) rfl, Host.Outcome.next.injEq]
    by_cases h : hits
    · rw [purgeStep_hit hp (hhit.mpr h)]
      exact ⟨_, _, ⟨fun _ => ⟨rfl, rfl⟩, fun hmiss => absurd h hmiss⟩, purgeMoved_cases p _ _⟩
    · rw [purgeStep_miss hp (by rwa [← Bool.not_eq_true, hhit])]
      exact ⟨_, _, ⟨fun hhits => absurd hhits h, fun _ => ⟨rfl, rfl⟩⟩, purgeMoved_cases p _ _⟩

/-- Settles O15. -/
theorem purge : Obligations.Purge := ⟨purgeStarts, purgeStep_rule⟩

/-! ### PSET (R33, R34) -/

/-- The lowest index that a search finds is the one all below which fail. -/
theorem firstIndex_eq_some {α : Type} {d : α} {p : α → Bool} {t : Table α} {n i : Nat} (hlt : i < n) (hi : p (tget d t i) = true)
    (hbelow : ∀ j < i, p (tget d t j) = false) : firstIndex d p t n 0 = some i := by
  cases h : firstIndex d p t n 0 with
  | none => exact absurd hi (by simp [firstIndex_none d p t n 0 h i (Nat.zero_le _) (by omega)])
  | some j =>
    obtain ⟨hj, -, -, hfirst⟩ := firstIndex_spec d p t n 0 j h
    rcases Nat.lt_trichotomy i j with hij | rfl | hij
    · exact absurd hi (by simp [hfirst i (Nat.zero_le _) hij])
    · rfl
    · exact absurd hj (by simp [hbelow j hij])

/-- A search fails where every index does. -/
theorem firstIndex_eq_none {α : Type} {d : α} {p : α → Bool} {t : Table α} {n : Nat}
    (h : ∀ j < n, p (tget d t j) = false) : firstIndex d p t n 0 = none := by
  cases hi : firstIndex d p t n 0 with
  | none => rfl
  | some j =>
    obtain ⟨hj, -, hlt, -⟩ := firstIndex_spec d p t n 0 j hi
    exact absurd hj (by simp [h j (by omega)])

theorem admissionOf_eq_none {b : Byte} : admissionOf b = none ↔ 2 < b.toNat := by
  unfold admissionOf
  split <;> simp_all
  omega

theorem checkFailOf_eq_none {b : Byte} : checkFailOf b = none ↔ 1 < b.toNat := by
  unfold checkFailOf
  split <;> simp_all
  omega

theorem chargingOf_eq_none {b : Byte} : chargingOf b = none ↔ 1 < b.toNat := by
  unfold chargingOf
  split <;> simp_all
  omega

/-- The record a PSET writes, and that nothing was clamped just where every amount is in its range. -/
theorem psetRecord_eq (p : PsetFields) (d : Digits) (adm : Admission) (cf : CheckFail) (ch : Charging) (n : Nat) :
    (psetRecord p d adm cf ch n).1 = storedPartner p d adm cf ch n ∧
      ((psetRecord p d adm cf ch n).2 = false ↔ partnerInRange p) := by
  simp only [psetRecord, storedPartner, partnerInRange, Bool.or_eq_false_iff, decide_eq_false_iff_not]
  simp only [clampNat, amountMax, Nat.zero_max, true_and]
  omega

theorem updPlanCount_frame (i : Nat) (g : Nat → Nat) (s : State) :
    s.updPlanCount i g = s.withChu { s.chu with plans := (s.updPlanCount i g).chu.plans } := rfl

theorem movePlan_frame (old : Option Nat) (now : Nat) (s : State) :
    movePlan old now s = s.withChu { s.chu with plans := (movePlan old now s).chu.plans } := by
  unfold movePlan
  split
  · rfl
  · cases old <;> rfl

@[simp] theorem movePlan_partner (old : Option Nat) (now j : Nat) (s : State) : (movePlan old now s).partner j = s.partner j := by
  rw [movePlan_frame]
  rfl

/-- The partner counts follow: the new plan gains one, the old plan loses one, unless they are the same (R38). -/
theorem plan_movePlan (old : Option Nat) (now x : Nat) (s : State) :
    (movePlan old now s).plan x = { s.plan x with
      partners :=
        if old = some now then (s.plan x).partners
        else if x = now then (if old = some x then (s.plan x).partners - 1 else (s.plan x).partners) + 1
        else if old = some x then (s.plan x).partners - 1 else (s.plan x).partners } := by
  unfold movePlan
  split
  · rfl
  next hmoved =>
    cases old with
    | none => simp [plan_updPlanCount]
    | some i => 
      simp only [plan_updPlanCount, Option.some.injEq, eq_comm (a := x) (b := i)]

/-- A PSET that passed its checks: its answer, the record, the counts of the plans, and nothing else. -/
theorem psetWrite_stores (f : Frame) (i : Nat) (p : PsetFields) (d : Digits) (adm : Admission) (cf : CheckFail) (ch : Charging)
    (s : State) :
    ∃ t, deliver kPset f.tag (psetWrite i p d adm cf ch s) = pushAnswer 0x20 f.tag
        [if partnerInRange p then 0x00 else 0x01, BitVec.ofNat 8 i, if (s.partner i).isSome then 1 else 0] t ∧
      t = s.withChu t.chu ∧
      t.partner i = some (storedPartner p d adm cf ch (((s.partner i).map (·.visitors)).getD 0)) ∧
      (∀ j, j ≠ i → t.partner j = s.partner j) ∧
      (∀ x, t.plan x = (movePlan ((s.partner i).map (·.plan)) p.plan.toNat s).plan x) ∧
      t.chu = { s.chu with partners := t.chu.partners, plans := t.chu.plans } := by
  obtain ⟨hrecord, hclamped⟩ := psetRecord_eq p d adm cf ch (((s.partner i).map (·.visitors)).getD 0)
  simp only [psetWrite, hrecord, deliver_replyWith, resultByte_okOrClamped hclamped, num_one]
  refine ⟨_, rfl, ?_, ?_, fun j hj => ?_, fun x => ?_, ?_⟩
  · rw [movePlan_frame]
    rfl
  · simp
  · simp [State.setPartner_partner, Ne.symm hj]
  · rw [plan_movePlan, plan_movePlan]
    rfl
  · rw [movePlan_frame]
    rfl

/-- The three codes of a PSET that spell values. -/
theorem pset_spelled {p : PsetFields} (h : ¬ (hncOf p.hnc = none ∨ 2 < p.admission.toNat ∨ 1 < p.checkFail.toNat ∨
    1 < p.charging.toNat ∨ 15 < p.plan.toNat ∨ 31 < p.route.toNat)) :
    ∃ d adm cf ch, hncOf p.hnc = some d ∧ admissionOf p.admission = some adm ∧ checkFailOf p.checkFail = some cf ∧
      chargingOf p.charging = some ch ∧ ¬ (15 < p.plan.toNat ∨ 31 < p.route.toNat) := by
  rw [← admissionOf_eq_none, ← checkFailOf_eq_none, ← chargingOf_eq_none] at h
  simp only [not_or] at h
  obtain ⟨hhnc, hadm, hcf, hch, hplan, hroute⟩ := h
  obtain ⟨d, hd⟩ := Option.ne_none_iff_exists'.mp hhnc
  obtain ⟨adm, hadm⟩ := Option.ne_none_iff_exists'.mp hadm
  obtain ⟨cf, hcf⟩ := Option.ne_none_iff_exists'.mp hcf
  obtain ⟨ch, hch⟩ := Option.ne_none_iff_exists'.mp hch
  exact ⟨d, adm, cf, ch, hd, hadm, hcf, hch, not_or.mpr ⟨hplan, hroute⟩⟩

theorem setPartner_stores : Claims.SetPartner := by
  intro f p d adm cf ch s ht hd hadm hcf hch hplan hroute hready now stores
  have hrange : ¬ (15 < p.plan.toNat ∨ 31 < p.route.toNat) := by omega
  have hwork := exec_taken (i := .pset f p) rfl ht
  have hnot : ¬ (s.plan p.plan.toNat).state = .editing := by simp [hready]
  simp only [doPset, hd, hadm, hcf, hch, if_neg hrange, arrive_partnerByHnc, arrive_plan, if_neg hnot, arrive_chu] at hwork
  have hstores (i : Nat) (visitors : Nat) (mode : Byte) (count : Nat → Nat)
      (hexec : exec (.pset f p) s = .next (deliver kPset f.tag (psetWrite i p d adm cf ch (arrive f s))))
      (hvisitors : ((s.partner i).map (·.visitors)).getD 0 = visitors)
      (hmode : (if (s.partner i).isSome then 1 else 0) = mode)
      (hcount : ∀ x, (movePlan ((s.partner i).map (·.plan)) p.plan.toNat s).plan x = { s.plan x with partners := count x }) :
      stores i visitors mode count := by
    obtain ⟨t, hdeliver, hframe, hself, hothers, hplans, hchu⟩ := psetWrite_stores f i p d adm cf ch (arrive f s)
    simp only [arrive_partner] at hdeliver hself hothers hplans
    rw [hmode] at hdeliver
    rw [hvisitors] at hself
    refine ⟨t, _, hexec.trans (congrArg _ hdeliver), rfl, hframe, hself, hothers, fun x => ?_, by simpa using hchu⟩
    rw [hplans, ← hcount, plan_movePlan, plan_movePlan, arrive_plan]
  refine ⟨fun i r hi hr hcharging => ?_, fun i hnone hlt hfree hbelow => ?_⟩
  · have hheld : ((arrive f s).partner i).any (fun r => chargingHeld r ch) = false := by
      rcases hcharging with h | h <;> simp [hr, chargingHeld, h]
    simp only [hi, hheld] at hwork
    refine hstores _ _ _ _ hwork (by simp [hr]) (by simp [hr]) fun x => ?_
    rw [plan_movePlan, hr]
    simp only [Option.map_some, Option.some.injEq, eq_comm (a := r.plan) (b := x)]
    congr 1
    split
    · rfl
    next hmoved =>
      split
      next hx => rw [if_neg (by rw [hx]; exact hmoved ∘ Eq.symm)]
      next => rfl
  · have hfirst : firstIndex none (·.isNone) s.chu.partners Config.partners 0 = some i := by
      refine firstIndex_eq_some hlt ?_ fun j hj => ?_
      · exact Option.isNone_iff_eq_none.mpr hfree
      · obtain ⟨r, hr⟩ := Option.isSome_iff_exists.mp (hbelow j hj)
        exact congrArg Option.isNone hr
    simp only [hnone, hfirst] at hwork
    refine hstores _ _ _ _ hwork (by simp [hfree]) (by simp [hfree]) fun x => ?_
    rw [plan_movePlan, hfree]
    simp [now]

theorem setPartner_refused : Claims.SetPartnerRefused := by
  intro f p s ht refused bad
  have hwork := exec_taken (i := .pset f p) rfl ht
  refine ⟨fun hbad => ?_, fun d ch hgood hd hch => ?_⟩
  · have hrefused : doPset p (arrive f s) = reply .badArg (arrive f s) := by
      unfold doPset
      split
      next d adm cf ch hd hadm hcf hch =>
        have hrange : 15 < p.plan.toNat ∨ 31 < p.route.toNat := by
          have hadm : ¬ 2 < p.admission.toNat := mt admissionOf_eq_none.mpr (by simp [hadm])
          have hcf : ¬ 1 < p.checkFail.toNat := mt checkFailOf_eq_none.mpr (by simp [hcf])
          have hch : ¬ 1 < p.charging.toNat := mt chargingOf_eq_none.mpr (by simp [hch])
          simpa [bad, hd, hadm, hcf, hch] using hbad
        rw [if_pos hrange]
      next => rfl
    rw [hrefused] at hwork
    exact hwork
  · obtain ⟨_, adm, cf, _, _, hadm, hcf, _, hrange⟩ := pset_spelled hgood
    simp only [doPset, hd, hadm, hcf, hch, if_neg hrange, arrive_partnerByHnc, arrive_plan, arrive_chu, arrive_partner] at hwork
    refine ⟨fun hnone hfull => ?_, fun hnone hfree hediting => ?_, fun i r hi hr => ⟨fun hediting => ?_,
      fun hready hdiffers hvisitors => ?_⟩⟩
    · have hfirst : firstIndex none (·.isNone) s.chu.partners Config.partners 0 = none := by
        refine firstIndex_eq_none fun j hj => ?_
        obtain ⟨r, hr⟩ := Option.isSome_iff_exists.mp (hfull j hj)
        exact congrArg Option.isNone hr
      simp only [hnone, hfirst] at hwork
      exact hwork
    · obtain ⟨i, hi, hfree⟩ := hfree
      cases hfirst : firstIndex none (·.isNone) s.chu.partners Config.partners 0 with
      | none =>
        have htaken := firstIndex_none _ _ _ _ _ hfirst i (Nat.zero_le _) (by simpa [Config.partners] using hi)
        exact absurd (congrArg Option.isNone hfree) (by rw [State.partner, htaken]; simp)
      | some j =>
        simp only [hnone, hfirst, hediting, if_true] at hwork
        exact hwork
    · simp only [hi, hediting, if_true] at hwork
      exact hwork
    · have hheld : (some r).any (fun r => chargingHeld r ch) = true := by
        simp [chargingHeld, hdiffers, hvisitors]
      simp only [hi, hr, hready, hheld, reduceCtorEq, if_true, if_false] at hwork
      exact hwork

/-- Settles O16. -/
theorem setPartner : Obligations.SetPartner := ⟨setPartner_stores, setPartner_refused⟩

end Sys2Proof.Machine
end

section
/-! PROOFS. The reads of chapters 1 to 3: VREAD, PREAD, AREAD and TREAD. -/

namespace Sys2Proof.Machine

/-! ### VREAD (R19, R221) -/

theorem bit_eq (b : Bool) (n : Nat) : bit b n = 2 ^ n * b.toNat := by
  cases b <;> simp [bit]

/-- The handle in the first two bytes of a name, as a number. -/
theorem handle_of_name (name : BitVec 64) : ((name >>> 48).setWidth 16).toNat = name.toNat / 2 ^ 48 := by
  have hlt : name.toNat / 2 ^ 48 < 2 ^ 16 := by
    have := name.isLt
    omega
  rw [BitVec.toNat_setWidth, BitVec.toNat_ushiftRight, Nat.shiftRight_eq_div_pow, Nat.mod_eq_of_lt hlt]

/-- A generation is that of a handle where the two numbers agree. -/
theorem gen_eq_handleGen_iff (g : BitVec 4) (h : BitVec 16) : g = handleGen h ↔ g.toNat = h.toNat % 16 := by
  rw [← BitVec.toNat_inj, handleGen, BitVec.toNat_ofNat]
  simp

theorem deferredMark_eq (v : Option Visitor) : (v.map (·.deferred)).getD false = v.any (·.deferred) := by
  cases v <;> rfl

theorem quotaBytes_eq (q : Option Quota) :
    quotaBytes q = match q with
      | some q => beBytes 5 (q.remaining % 256 ^ 5).toNat ++ beBytes 4 q.lastGrant ++
          (match q.expiry with
            | some n => beBytes 2 n
            | none => [(0xFF : Byte), 0xFF]) ++
          [BitVec.ofNat 8 ((gateByte q.gate).toNat + 4 * q.final.toNat)] ++
          (match q.retry with
            | some n => beBytes 2 n
            | none => [(0xFF : Byte), 0xFF])
      | none => List.replicate 14 0 := by
  cases q with
  | none => rfl
  | some q =>
    simp only [quotaBytes, bit_eq, Nat.reducePow]
    cases q.expiry <;> cases q.retry <;> rfl

theorem readVisitor : Claims.ReadVisitor := by
  intro f name s ht answers orZero orOnes entry
  have hwork (sel : Byte) : exec (.vread f sel name) s = .next (deliver kVread f.tag (doVread sel name (arrive f s))) :=
    exec_taken rfl ht
  have hentry (i : Nat) : resultByte .ok :: entryBytes i (s.slot i) = entry i := by
    simp only [entryBytes, bit_eq, deferredMark_eq, quotaBytes_eq, Nat.reducePow, one_mul, entry]
    rfl
  have hanswers {sel : Byte} {p : List Byte} (h : deliver kVread f.tag (doVread sel name (arrive f s)) =
      pushAnswer 0x13 f.tag p (arrive f s)) : answers sel p := (hwork sel).trans (congrArg _ h)
  refine ⟨fun sel hsel => hanswers ?_, fun hbad => hanswers ?_, fun d hd => ⟨fun hnone => hanswers ?_,
    fun j hj => hanswers ?_⟩, ?_⟩
  · have hrefused : doVread sel name (arrive f s) = reply .badArg (arrive f s) := by
      unfold doVread
      split
      case h_3 => rfl
      all_goals omega
    rw [hrefused]
    rfl
  · have hrefused : doVread 1 name (arrive f s) = reply .badArg (arrive f s) := by simp [doVread, hbad]
    rw [hrefused]
    rfl
  · have hrefused : doVread 1 name (arrive f s) = reply .notFound (arrive f s) := by simp [doVread, hd, hnone]
    rw [hrefused]
    rfl
  · have hread : doVread 1 name (arrive f s) = replyWith .ok (entryBytes j (s.slot j)) (arrive f s) := by
      simp [doVread, hd, hj]
    rw [hread, deliver_replyWith, hentry]
    rfl
  · intro h
    have hh : ((name >>> 48).setWidth 16).toNat = h := handle_of_name name
    have hslot : handleSlot ((name >>> 48).setWidth 16) = h / 16 := congrArg (· / 16) hh
    have hgen := gen_eq_handleGen_iff (s.slot (h / 16)).gen ((name >>> 48).setWidth 16)
    rw [hh] at hgen
    have hread : doVread 0 name (arrive f s) =
        if (s.slot (h / 16)).gen = handleGen ((name >>> 48).setWidth 16) then
          replyWith .ok (entryBytes (h / 16) (s.slot (h / 16))) (arrive f s) else reply .stale (arrive f s) := by
      simp only [doVread, hslot, arrive_slot]
      rfl
    refine ⟨fun hother => hanswers ?_, fun hsame => hanswers ?_⟩
    · rw [hread, if_neg (mt hgen.mp hother)]
      rfl
    · rw [hread, if_pos (hgen.mpr hsame), deliver_replyWith, hentry]
      rfl

/-! ### PREAD and AREAD (R36, R62, R222, R223) -/

theorem doPread_index (name : BitVec 24) (s : State) :
    doPread 1 name s = if 63 < name.toNat / 65536 then reply .badArg s else readPartner (name.toNat / 65536) s := by
  have hi : (name >>> 16).toNat = name.toNat / 65536 := by
    rw [BitVec.toNat_ushiftRight, Nat.shiftRight_eq_div_pow]
  simp only [doPread, hi]
  rfl

theorem doAread_index (name : BitVec 64) (s : State) :
    doAread 0 name s = if 4607 < name.toNat / 2 ^ 48 then reply .badArg s else readAccount (name.toNat / 2 ^ 48) s := by
  have hi : (name >>> 48).toNat = name.toNat / 2 ^ 48 := by
    rw [BitVec.toNat_ushiftRight, Nat.shiftRight_eq_div_pow]
  simp only [doAread, hi]
  rfl

theorem readPartnerAccount : Claims.ReadPartnerAccount := by
  constructor
  · intro f name s ht i answers record
    have hanswers {sel : Byte} {p : List Byte} (h : deliver kPread f.tag (doPread sel name (arrive f s)) =
        pushAnswer 0x22 f.tag p (arrive f s)) : answers sel p :=
      (exec_taken (i := .pread f sel name) rfl ht).trans (congrArg _ h)
    refine ⟨fun sel hsel => hanswers ?_, fun hhigh => hanswers ?_, fun hlow hnone => hanswers ?_,
      fun r hlow hr => hanswers ?_, fun hbad => hanswers ?_, fun d hd => ⟨fun hnone => hanswers ?_,
      fun j r hj hr => hanswers ?_⟩⟩
    · have hrefused : doPread sel name (arrive f s) = reply .badArg (arrive f s) := by
        unfold doPread
        split
        case h_3 => rfl
        all_goals omega
      rw [hrefused]
      rfl
    · rw [doPread_index, if_pos hhigh]
      rfl
    · rw [doPread_index, if_neg (Nat.not_lt.mpr hlow)]
      simp only [readPartner, arrive_partner, show s.partner (name.toNat / 65536) = none from hnone]
      rfl
    · rw [doPread_index, if_neg (Nat.not_lt.mpr hlow)]
      simp only [readPartner, arrive_partner, show s.partner (name.toNat / 65536) = some r from hr]
      rfl
    · have hrefused : doPread 0 name (arrive f s) = reply .badArg (arrive f s) := by simp [doPread, hbad]
      rw [hrefused]
      rfl
    · have hrefused : doPread 0 name (arrive f s) = reply .notFound (arrive f s) := by simp [doPread, hd, hnone]
      rw [hrefused]
      rfl
    · have hread : doPread 0 name (arrive f s) = replyWith .ok (partnerBytes j r) (arrive f s) := by
        simp [doPread, hd, hj, readPartner, hr]
      rw [hread]
      rfl
  · intro f name s ht i answers three record
    have hanswers {sel : Byte} {p : List Byte} (h : deliver kAread f.tag (doAread sel name (arrive f s)) =
        pushAnswer 0x31 f.tag p (arrive f s)) : answers sel p :=
      (exec_taken (i := .aread f sel name) rfl ht).trans (congrArg _ h)
    have hrecord (i : Nat) (a : Account) : resultByte .ok :: accountBytes i a = record i a := by
      simp only [accountBytes, bucketsBytes, record, List.flatMap_cons, List.flatMap_nil, List.append_nil, List.append_assoc]
      rfl
    refine ⟨fun sel hsel => hanswers ?_, fun hhigh => hanswers ?_, fun hlow hnone => hanswers ?_,
      fun a hlow ha => hanswers ?_, fun hbad => hanswers ?_, fun d hd => ⟨fun hnone => hanswers ?_,
      fun j a hj ha => hanswers ?_⟩⟩
    · have hrefused : doAread sel name (arrive f s) = reply .badArg (arrive f s) := by
        unfold doAread
        split
        case h_3 => rfl
        all_goals omega
      rw [hrefused]
      rfl
    · rw [doAread_index, if_pos hhigh]
      rfl
    · rw [doAread_index, if_neg (Nat.not_lt.mpr hlow)]
      simp only [readAccount, arrive_account, show s.account (name.toNat / 2 ^ 48) = none from hnone]
      rfl
    · rw [doAread_index, if_neg (Nat.not_lt.mpr hlow)]
      simp only [readAccount, arrive_account, show s.account (name.toNat / 2 ^ 48) = some a from ha]
      rw [deliver_replyWith, hrecord]
      rfl
    · have hrefused : doAread 1 name (arrive f s) = reply .badArg (arrive f s) := by simp [doAread, hbad]
      rw [hrefused]
      rfl
    · have hrefused : doAread 1 name (arrive f s) = reply .notFound (arrive f s) := by simp [doAread, hd, hnone]
      rw [hrefused]
      rfl
    · have hread : doAread 1 name (arrive f s) = replyWith .ok (accountBytes j a) (arrive f s) := by
        simp [doAread, hd, hj, readAccount, ha]
      rw [hread, deliver_replyWith, hrecord]
      rfl

/-! ### TREAD (R43) -/

theorem readPlan : Claims.ReadPlan := by
  intro f plan s ht x answers content
  have hwork := exec_taken (i := .tread f plan) rfl ht
  simp only [doTread, arrive_plan] at hwork
  have hcontent : ratesContent x.rates ++ num 2 x.factor = content := by
    simp only [content, List.flatMap_cons, List.flatMap_nil, List.append_nil, List.append_assoc, ratesContent, qlist,
      rateContent]
    rfl
  refine ⟨fun hhigh => ?_, fun hlow => ?_⟩
  · rw [if_pos hhigh] at hwork
    exact hwork
  · rw [if_neg (Nat.not_lt.mpr hlow)] at hwork
    refine hwork.trans ?_
    rw [deliver_replyWith, ← hcontent]
    simp only [planBytes, planCheck]
    simp only [List.append_assoc]
    cases x.state <;> rfl

/-- Settles O21. -/
theorem readRecords : Obligations.ReadRecords := ⟨readVisitor, readPartnerAccount, readPlan⟩

end Sys2Proof.Machine
end

section
/-! PROOFS. Bytes to requests and back: a field is read back from its bytes, a payload is the fields read from it, and a
whole transaction carries its request (chapters 9 and 10). -/

namespace Sys2Proof

/-! ### Reading fields -/

@[simp] theorem byteAt_cons_zero (b : Byte) (l : List Byte) : byteAt (b :: l) 0 = b := rfl

@[simp] theorem byteAt_cons_succ (b : Byte) (l : List Byte) (i : Nat) : byteAt (b :: l) (i + 1) = byteAt l i := rfl

theorem byteAt_append_of_le {a : List Byte} {i : Nat} (h : a.length ≤ i) (l : List Byte) :
    byteAt (a ++ l) i = byteAt l (i - a.length) := by
  simp [byteAt, List.getElem?_append_right h]

theorem fieldAt_append_of_le {a : List Byte} {i : Nat} (h : a.length ≤ i) (w n : Nat) (l : List Byte) :
    fieldAt w n (a ++ l) i = fieldAt w n l (i - a.length) := by
  simp [fieldAt, List.drop_append, List.drop_eq_nil_of_le h]

@[simp] theorem fieldAt_cons_succ (w n : Nat) (b : Byte) (l : List Byte) (i : Nat) :
    fieldAt w n (b :: l) (i + 1) = fieldAt w n l i := rfl

/-- A field of whole bytes is read back from the bytes that spell it. -/
theorem fieldAt_append_zero {w n : Nat} (hw : w = 8 * n) (x : BitVec w) (l : List Byte) :
    fieldAt w n (beBytes n x.toNat ++ l) 0 = x := by
  have hpow : 256 ^ n = 2 ^ w := by rw [hw, show 256 = 2 ^ 8 from rfl, pow_mul]
  rw [fieldAt, List.drop_zero, List.take_append_of_le_length (by simp), List.take_of_length_le (by simp), beNat_beBytes,
    hpow,
    Nat.mod_eq_of_lt x.isLt]
  simp

theorem fieldAt_beBytes {w n : Nat} (hw : w = 8 * n) (x : BitVec w) : fieldAt w n (beBytes n x.toNat) 0 = x := by
  simpa using fieldAt_append_zero hw x []

/-- The listed rate records are read back from their bytes. -/
theorem ratesAt_flatMap (rs : List RateField) (a : List Byte) :
    ratesAt (a ++ rs.flatMap rateBytes) rs.length a.length = rs := by
  induction rs generalizing a with
  | nil => rfl
  | cons r rs ih =>
    have hnext := ih (a ++ rateBytes r)
    rw [List.append_assoc, List.length_append, rateBytes_length] at hnext
    have hbyte (l : List Byte) (i : Nat) : byteAt (a ++ l) (a.length + i) = byteAt l i := by
      rw [byteAt_append_of_le (Nat.le_add_right ..), Nat.add_sub_cancel_left]
    have hfield (w n : Nat) (l : List Byte) (i : Nat) : fieldAt w n (a ++ l) (a.length + i) = fieldAt w n l i := by
      rw [fieldAt_append_of_le (Nat.le_add_right ..), Nat.add_sub_cancel_left]
    rw [List.flatMap_cons, List.length_cons, ratesAt, hnext, hbyte _ 1, hfield _ _ _ 2, hfield _ _ _ 5,
      ← Nat.add_zero a.length,
      hbyte _ 0]
    simp [rateBytes, fieldAt_append_zero, fieldAt_append_of_le]

/-- A request is read back from its payload, where a TWRITE lists fewer records than a byte counts (R212). -/
theorem requestOf_payloadOf {i : Instr} {f : Frame} {k : RequestKind} {p : List Byte} (h : payloadOf i = some (f, k, p))
    (hlen : k.len ≤ 120) : requestOf f k.code p = .request i := by
  cases i
  case twrite g plan flags factor records =>
    simp only [payloadOf, Option.some.injEq, Prod.mk.injEq] at h
    obtain ⟨rfl, rfl, rfl⟩ := h
    have hcount : records.length % 256 = records.length := by
      simp only [kTwrite] at hlen
      omega
    have hrates := ratesAt_flatMap records ([plan, flags] ++ beBytes 2 factor.toNat ++ [BitVec.ofNat 8 records.length])
    simp at hrates
    simp [requestOf, kTwrite, fieldAt_append_zero, byteAt_append_of_le, hcount, hrates]
  all_goals
    simp only [payloadOf, Option.some.injEq, Prod.mk.injEq, reduceCtorEq] at h
  all_goals obtain ⟨rfl, rfl, rfl⟩ := h
  all_goals
    simp [requestOf, kAdmit, kRefresh, kDetach, kVread, kPurge, kPset, kPdel, kPread, kTopen, kTcommit, kTread, kUsage,
      kAread, kSettle, kCollect, kUaread, kXfetch, kXanswer, kXfail, kLconf, kLenable, kLdisable, kLmeasure, kLloss,
        kLhold, kLrelease, kLdrill, kLread, kRconf, kRpin, kRunpin, kHready, kHdone, kRread, kLookup, kNavconf, kFixpost,
          kNread, kZset, kZread, kRmute, kRrelease, kUcmd, kUread, kStart, kStop, kDset, kClock, kIdent, kNfetch,
            kResync, prefAt, prefBytes, fieldAt_append_zero, fieldAt_append_of_le, fieldAt_beBytes, byteAt_append_of_le]

/-! ### Payloads from fields -/

/-- A byte string of a known length is its bytes, one after another. -/
theorem map_byteAt {p : List Byte} {n : Nat} (h : p.length = n) : (List.range n).map (byteAt p) = p := by
  subst h
  refine List.ext_getElem (by simp) fun i h _ => ?_
  have hi : i < p.length := by simpa using h
  simp [byteAt, hi]

/-- Bytes above the `n`th leave the last `n` as they are. -/
theorem beBytes_add_mul (n v c : Nat) : beBytes n (v + c * 256 ^ n) = beBytes n v := by
  induction n generalizing c with
  | zero => rfl
  | succ n ih =>
    have hpos : 0 < 256 ^ n := by positivity
    have hhead : (v + c * 256 ^ (n + 1)) / 256 ^ n = v / 256 ^ n + c * 256 := by
      rw [pow_succ', ← Nat.mul_assoc, Nat.add_mul_div_right _ _ hpos]
    have htail : c * 256 ^ (n + 1) = c * 256 * 256 ^ n := by rw [pow_succ', Nat.mul_assoc]
    rw [beBytes, beBytes, hhead, htail, ih]
    congr 1
    apply BitVec.eq_of_toNat_eq
    simp

theorem beNat_cons (b : Byte) (l : List Byte) : beNat (b :: l) = beNat l + b.toNat * 256 ^ l.length := by
  have hone : beNat [b] = b.toNat := by simp [beNat]
  have h := beNat_append [b] l
  rw [hone] at h
  rw [← List.singleton_append, h, Nat.add_comm]

theorem beNat_lt (l : List Byte) : beNat l < 256 ^ l.length := by
  induction l with
  | nil => simp [beNat]
  | cons b l ih =>
    have hb := b.isLt
    rw [beNat_cons, List.length_cons, pow_succ']
    nlinarith

/-- The number a byte string stands for is spelled by it. -/
theorem beBytes_beNat (l : List Byte) : beBytes l.length (beNat l) = l := by
  induction l with
  | nil => rfl
  | cons b l ih =>
    have hpos : 0 < 256 ^ l.length := by positivity
    rw [beNat_cons, List.length_cons, beBytes, beBytes_add_mul, ih, Nat.add_mul_div_right _ _ hpos,
      Nat.div_eq_of_lt (beNat_lt l)]
    simp

/-- The bytes that spell a field are those it was read from. -/
theorem beBytes_fieldAt_take {w n : Nat} (hw : w = 8 * n) {p : List Byte} {i : Nat} (h : i + n ≤ p.length) :
    beBytes n (fieldAt w n p i).toNat = (p.drop i).take n := by
  have hlen : ((p.drop i).take n).length = n := by simp; omega
  have hlt := beNat_lt ((p.drop i).take n)
  have hpow : 256 ^ n = 2 ^ w := by rw [hw, show 256 = 2 ^ 8 from rfl, pow_mul]
  have hbytes := beBytes_beNat ((p.drop i).take n)
  rw [hlen] at hbytes hlt
  rw [fieldAt, BitVec.toNat_ofNat, ← hpow, Nat.mod_eq_of_lt hlt, hbytes]

theorem beBytes_fieldAt {w n : Nat} (hw : w = 8 * n) {p : List Byte} {i : Nat} (h : i + n ≤ p.length) :
    beBytes n (fieldAt w n p i).toNat = (List.range n).map fun j => byteAt p (i + j) := by
  rw [beBytes_fieldAt_take hw h]
  refine List.ext_getElem (by simp; omega) fun j hj _ => ?_
  have hlt : i + j < p.length := by simp at hj; omega
  simp [byteAt, hlt]

@[simp] theorem ratesAt_length (p : List Byte) (n i : Nat) : (ratesAt p n i).length = n := by
  induction n generalizing i with
  | zero => rfl
  | succ n ih => rw [ratesAt, List.length_cons, ih]

theorem take_append_drop_add (p : List Byte) (i n : Nat) : (p.drop i).take n ++ p.drop (i + n) = p.drop i := by
  rw [← List.drop_drop, List.take_append_drop]

/-- Rate records that fill the rest of a payload are spelled by it. -/
theorem flatMap_ratesAt {p : List Byte} {n i : Nat} (h : p.length = i + 9 * n) :
    (ratesAt p n i).flatMap rateBytes = p.drop i := by
  induction n generalizing i with
  | zero => exact (List.drop_eq_nil_of_le (by omega)).symm
  | succ n ih =>
    rw [ratesAt, List.flatMap_cons, ih (by omega)]
    simp only [rateBytes, beBytes_fieldAt_take (show 24 = 8 * 3 from rfl) (show i + 2 + 3 ≤ p.length by omega),
      beBytes_fieldAt_take (show 32 = 8 * 4 from rfl) (show i + 5 + 4 ≤ p.length by omega)]
    have hprice : (p.drop (i + 5)).take 4 ++ p.drop (i + 9) = p.drop (i + 5) :=
      take_append_drop_add p (i + 5) 4
    have hstep : (p.drop (i + 2)).take 3 ++ p.drop (i + 5) = p.drop (i + 2) :=
      take_append_drop_add p (i + 2) 3
    rw [List.append_assoc, hprice, List.append_assoc, hstep, List.drop_eq_getElem_cons (show i < p.length by omega),
      List.drop_eq_getElem_cons (show i + 1 < p.length by omega)]
    simp [byteAt, show i < p.length by omega, show i + 1 < p.length by omega]

/-- What a taken frame names: a request, whose payload is the frame's where the length is right; a UCMD that is none; or
nothing (R195, R212). -/
theorem requestOf_cases (f : Frame) (kind : Byte) (p : List Byte) :
    (∃ i k q, requestOf f kind p = .request i ∧ payloadOf i = some (f, k, q) ∧ k.code = kind ∧
      (p.length = k.len → q = p)) ∨
    (requestOf f kind p = .badCommand ∧ kind = 0x82 ∧ 2 < (byteAt p 1).toNat) ∨
    (requestOf f kind p = .unknown ∧ kind ∉ Machine.requestKinds) := by
  unfold requestOf
  split
  case h_9 hkind =>
    refine .inl ⟨_, _, _, rfl, rfl, BitVec.eq_of_toNat_eq hkind.symm, fun hlen => ?_⟩
    simp only [kTwrite, ratesAt_length] at hlen
    simp only [flatMap_ratesAt hlen, ratesAt_length,
      beBytes_fieldAt (show 16 = 8 * 2 from rfl) (show 2 + 2 ≤ p.length by omega)]
    refine Eq.trans ?_ (List.take_append_drop 5 p)
    congr 1
    have htake : p.take 5 = (List.range 5).map (byteAt p) := by
      rw [← map_byteAt (List.length_take_of_le (show 5 ≤ p.length by omega))]
      refine List.map_congr_left fun j hj => ?_
      have hj : j < 5 := List.mem_range.mp hj
      simp [byteAt, hj]
    rw [htake]
    simp [List.range_succ]
  case h_44 hkind =>
    have hcode : kUcmd.code = kind := BitVec.eq_of_toNat_eq hkind.symm
    split
    case h_4 hnot0 hnot1 hnot2 =>
      have h0 : (byteAt p 1).toNat ≠ 0 := hnot0
      have h1 : (byteAt p 1).toNat ≠ 1 := hnot1
      have h2 : (byteAt p 1).toNat ≠ 2 := hnot2
      exact .inr (.inl ⟨rfl, hcode.symm, by omega⟩)
    all_goals
      rename_i hcommand
      refine .inl ⟨_, _, _, rfl, rfl, hcode, fun hlen => Eq.trans ?_ (map_byteAt hlen)⟩
      have hbyte : BitVec.ofNat 8 (byteAt p 1).toNat = byteAt p 1 := by simp
      rw [hcommand] at hbyte
      exact congrArg (fun b => [byteAt p 0, b]) hbyte
  case h_53 =>
    refine .inr (.inr ⟨rfl, fun hmem => ?_⟩)
    have hnat := List.mem_map_of_mem (f := BitVec.toNat) hmem
    simp_all [Machine.requestKinds]
  all_goals
    rename_i hkind
    refine .inl ⟨_, _, _, rfl, rfl, BitVec.eq_of_toNat_eq hkind.symm, fun hlen => (Eq.trans ?_ (map_byteAt hlen))⟩
    simp only [beBytes_fieldAt, hlen, kAdmit, kRefresh, kDetach, kVread, kPurge, kPset, kPdel, kPread, kTopen, kTcommit,
      kTread, kUsage, kAread, kSettle, kCollect, kUaread, kXfetch, kXanswer, kXfail, kLconf, kLenable, kLdisable,
        kLmeasure, kLloss, kLhold, kLrelease, kLdrill, kLread, kRconf, kRpin, kRunpin, kHready, kHdone, kRread, kLookup,
          kNavconf, kFixpost, kNread, kZset, kZread, kRmute, kRrelease, kUread, kStart, kStop, kDset, kClock, kIdent,
      kNfetch, kResync, Nat.reduceMul, Nat.reduceAdd, Nat.reduceLeDiff] <;> rfl

/-! ### Judging a transaction (R193) -/

/-- The bytes of a frame, in the order they are sent. -/
theorem frameBytes_append (kind tag : Byte) (p l : List Byte) :
    frameBytes 0xA5 kind tag p ++ l = 0xA5 :: kind :: tag :: BitVec.ofNat 8 p.length :: (p ++
      (beBytes 2 (crc16 (kind :: tag :: BitVec.ofNat 8 p.length :: p)).toNat ++ l)) := by
  simp [frameBytes]

/-- A whole frame with any number of bytes FFh behind it passes every check of R193 but that of its tag. -/
theorem judge_frame (busy : Fin 16 → Bool) (kind : Byte) (tag : Fin 16) {p : List Byte} (hp : p.length ≤ 120) (m : Nat) :
    judge busy (frameBytes 0xA5 kind (BitVec.ofNat 8 tag.val) p ++ List.replicate m 0xFF) =
      if busy tag && kind != kResync.code then .discard .clash else .taken tag kind p := by
  have hlen : p.length % 256 = p.length := by omega
  have htag : tag.val % 256 = tag.val := by omega
  have hfield (l : List Byte) (w n : Nat) : fieldAt w n (p ++ l) p.length = fieldAt w n l 0 := by
    rw [fieldAt_append_of_le le_rfl, Nat.sub_self]
  rw [frameBytes_append]
  simp [judge, hlen, htag, hfield, fieldAt_append_zero, Nat.not_lt.mpr hp]
  omega

theorem payload_length {i : Instr} {f : Frame} {k : RequestKind} {p : List Byte} (h : payloadOf i = some (f, k, p)) :
    p.length = k.len := by
  cases i <;> simp only [payloadOf, Option.some.injEq, Prod.mk.injEq, reduceCtorEq] at h
  all_goals obtain ⟨rfl, rfl, rfl⟩ := h
  case twrite g plan flags factor records =>
    simp [kTwrite]
    omega
  all_goals simp [kAdmit, kRefresh, kDetach, kVread, kPurge, kPset, kPdel, kPread, kTopen, kTcommit, kTread, kUsage,
    kAread, kSettle, kCollect, kUaread, kXfetch, kXanswer, kXfail, kLconf, kLenable, kLdisable, kLmeasure, kLloss,
      kLhold, kLrelease, kLdrill, kLread, kRconf, kRpin, kRunpin, kHready, kHdone, kRread, kLookup, kNavconf, kFixpost,
        kNread, kZset, kZread, kRmute, kRrelease, kUcmd, kUread, kStart, kStop, kDset, kClock, kIdent, kNfetch, kResync]

/-- The transaction of a well-formed request is judged taken, with its kind and its payload. -/
theorem judge_transaction {i : Instr} {f : Frame} {k : RequestKind} {p bs : List Byte} {busy : Fin 16 → Bool}
    (h : payloadOf i = some (f, k, p)) (hwell : wellFormed i = true) (hbs : transactionOf i = some bs)
    (hfree : busy f.tag = false ∨ k.code = 0x96) :
    judge busy bs = .taken f.tag k.code p ∧ bs.length = f.clocked ∧ f.len = k.len ∧ k.len ≤ 120 := by
  simp only [wellFormed, h, frameFits, Bool.and_eq_true, beq_iff_eq, decide_eq_true_eq] at hwell
  obtain ⟨⟨hlen, hshort⟩, hclocked⟩ := hwell
  have hp := payload_length h
  simp only [transactionOf, h, Option.some.injEq] at hbs
  subst hbs
  refine ⟨?_, ?_, hlen, hshort⟩
  · rw [judge_frame busy k.code f.tag (hp.le.trans hshort), if_neg]
    rcases hfree with hfree | hfree
    · simp [hfree]
    · simp [hfree, kResync]
  · have hframe : (frameBytes 0xA5#8 k.code (BitVec.ofNat 8 f.tag.val) p).length = p.length + 6 := by
      simp [frameBytes]
    simp [hframe]
    omega

/-- Settles O60. -/
theorem decodeEncode : Obligations.DecodeEncode := by
  intro i f k p bs busy h hwell hbs hfree
  obtain ⟨hjudge, hclocked, hlen, hshort⟩ := judge_transaction h hwell hbs hfree
  have hframe : (⟨f.tag, p.length, bs.length⟩ : Frame) = f := by
    rw [payload_length h, hclocked, ← hlen]
  simp only [commandOf, hjudge, hframe, requestOf_payloadOf h hshort]

end Sys2Proof
end

section
/-! PROOFS. The checks of the request port, and what a taken frame runs (chapter 9). -/

namespace Sys2Proof.Machine

theorem requestTurnedAway : Claims.RequestTurnedAway := by
  intro i f k p s h
  refine ⟨fun hcut => ?_, fun hlen hclocked hbusy hkind => ?_, fun hlen hclocked hfree hother => ?_⟩
  · have hcut : cutShort f = true := by
      simpa [cutShort] using hcut
    rcases workOf_of_payloadOf h with ⟨body, hbody⟩ | ⟨rfl, rfl⟩
    · rw [exec_of_workOf hbody, request, if_pos hcut]
    · simp only [exec, execResync, resync, hcut, if_true]
  · have hwhole : cutShort f = false := by
      simp [cutShort]
      omega
    rcases workOf_of_payloadOf h with ⟨body, hbody⟩ | ⟨rfl, rfl⟩
    · simp only [exec_of_workOf hbody, request, hwhole, hbusy, Bool.false_eq_true, if_false, if_true]
    · exact absurd rfl hkind
  · have hwhole : cutShort f = false := by
      simp [cutShort]
      omega
    rcases workOf_of_payloadOf h with ⟨body, hbody⟩ | ⟨rfl, rfl⟩
    · simp only [exec_of_workOf hbody, request, hwhole, hfree, Bool.false_eq_true, if_false, if_pos hother]
      rfl
    · simp only [exec, execResync, resync, hwhole, Bool.false_eq_true, if_false, if_pos hother]
      rfl

/-! ### The checks of R193 -/

/-- Whether a transaction fails the Frame check of R193 by its lengths or by what stands behind its frame. -/
abbrev frameBad (bs : List Byte) : Prop :=
  bs.length < 6 ∨ 120 < (byteAt bs 3).toNat ∨ bs.length < (byteAt bs 3).toNat + 6 ∨
    ∃ b ∈ bs.drop ((byteAt bs 3).toNat + 6), b ≠ 0xFF#8

/-- Whether the CRC of a transaction is that of the bytes it covers. -/
abbrev crcGood (bs : List Byte) : Prop :=
  crc16 (slice 1 ((byteAt bs 3).toNat + 3) bs) = fieldAt 16 2 bs ((byteAt bs 3).toNat + 4)

/-- The judging of a transaction that carries a request, check by check. -/
theorem judge_eq (busy : Fin 16 → Bool) {bs : List Byte} (h : ∃ b ∈ bs, b ≠ 0xFF#8) :
    judge busy bs =
      if byteAt bs 0 ≠ 0xA5#8 then .discard .sync
      else open Classical in if frameBad bs then .discard .frame
      else if ¬ crcGood bs then .discard .crc
      else if h : (byteAt bs 2).toNat < 16 then
        if busy ⟨(byteAt bs 2).toNat, h⟩ && byteAt bs 1 != kResync.code then .discard .clash
        else .taken ⟨(byteAt bs 2).toNat, h⟩ (byteAt bs 1) (slice 4 (byteAt bs 3).toNat bs)
      else .discard .frame := by
  have hsome : bs.all (· == 0xFF#8) = false := by
    obtain ⟨b, hb, hne⟩ := h
    simp only [List.all_eq_false]
    exact ⟨b, hb, by simpa using hne⟩
  have hbad : (bs.length < 6 || (byteAt bs 3).toNat > 120 || bs.length < (byteAt bs 3).toNat + 6 ||
      (bs.drop ((byteAt bs 3).toNat + 6)).any (· != 0xFF#8)) = true ↔ frameBad bs := by
    simp only [Bool.or_eq_true, decide_eq_true_eq, List.any_eq_true, bne_iff_ne, or_assoc]
  simp only [judge, hsome, Bool.false_eq_true, if_false]
  by_cases hb : frameBad bs
  · rw [if_pos hb, if_pos (hbad.mpr hb)]
  · rw [if_neg hb, if_neg (mt hbad.mp hb)]
    rfl

theorem frameChecks : Claims.FrameChecks := by
  intro bs s hsome u n badFrame goodCrc
  have hexec : exec (.frameDiscard bs) s = execFrameDiscard bs s := rfl
  rw [hexec, execFrameDiscard, judge_eq _ hsome]
  have htaken {tag : Fin 16} (htag : (byteAt bs 2).toNat = tag.val) :
      ∃ h : (byteAt bs 2).toNat < 16, (⟨(byteAt bs 2).toNat, h⟩ : Fin 16) = tag := ⟨by omega, Fin.ext htag⟩
  refine ⟨fun hsync => ?_, fun hsync hbad => ?_, fun hsync hframe hcrc => ?_, fun hsync hframe hcrc htag => ?_,
    fun tag hsync hframe hcrc htag => ⟨fun hbusy hkind => ?_, fun hfree => ?_⟩⟩
  · rw [if_pos hsync]
    rfl
  · rw [if_neg (not_not.mpr hsync), if_pos hbad]
    rfl
  · rw [if_neg (not_not.mpr hsync), if_neg hframe, if_pos hcrc]
    rfl
  · rw [if_neg (not_not.mpr hsync), if_neg hframe, if_neg (not_not.mpr hcrc), dif_neg (by omega)]
    rfl
  · obtain ⟨hlt, htag⟩ := htaken htag
    rw [if_neg (not_not.mpr hsync), if_neg hframe, if_neg (not_not.mpr hcrc), dif_pos hlt, htag,
      if_pos (by simpa [show (settleOut bs.length s).tagBusy tag = true from hbusy, kResync] using hkind)]
    rfl
  · obtain ⟨hlt, htag⟩ := htaken htag
    have hlen : (slice 4 n bs).length = n := by
      simp only [badFrame, not_or] at hframe
      simp only [slice, List.length_take, List.length_drop]
      omega
    rw [if_neg (not_not.mpr hsync), if_neg hframe, if_neg (not_not.mpr hcrc), dif_pos hlt, htag, if_neg]
    · show takeFrame ⟨tag, (slice 4 n bs).length, bs.length⟩ (byteAt bs 1) (slice 4 n bs) s = _
      rw [hlen]
    · rcases hfree with hfree | hfree
      · simp [show (settleOut bs.length s).tagBusy tag = false from hfree]
      · simp [hfree, kResync]

/-! ### What a taken frame runs (R195, R212, R213) -/

theorem takeFrame_request {f : Frame} {kind : Byte} {p : List Byte} {i : Instr} {k : RequestKind} {q : List Byte}
    (h : requestOf f kind p = .request i) (hp : payloadOf i = some (f, k, q)) (s : State) : takeFrame f kind p s = exec i s := by
  rw [takeFrame, h]
  exact runRequest_eq_exec (by rw [hp]; rfl) s

/-- Every request has a kind of R212. -/
theorem code_mem_requestKinds {i : Instr} {f : Frame} {k : RequestKind} {q : List Byte} (h : payloadOf i = some (f, k, q)) :
    k.code ∈ requestKinds := by
  cases i <;> simp only [payloadOf, Option.some.injEq, Prod.mk.injEq, reduceCtorEq] at h
  all_goals
    obtain ⟨-, rfl, -⟩ := h
    simp only [requestKinds, kTwrite]
    decide

/-- A frame of a kind that names no request, and a UCMD of another command, that reach the end of the checks. -/
theorem takeFrame_turned (f : Frame) (kind : Byte) (p : List Byte) (s : State) (hlen : f.len ≤ 120)
    (hclocked : f.len + 6 ≤ f.clocked) (hfree : (settleOut f.clocked s).tagBusy f.tag = false) :
    (kind ∉ requestKinds → takeFrame f kind p s = .next (pushAnswer kind f.tag [0x22] (arrive f s))) ∧
    (kind = 0x82#8 → 2 < (byteAt p 1).toNat → f.len = 2 →
      takeFrame f kind p s = .next (pushAnswer 0x82 f.tag [0x20] (arrive f s))) := by
  have hmem : (0x82 : Byte) ∈ requestKinds := by decide
  refine ⟨fun hkind => ?_, fun hkind hcommand htwo => ?_⟩
  · rcases requestOf_cases f kind p with ⟨i, k, q, -, hp, rfl, -⟩ | ⟨-, rfl, -⟩ | ⟨hnone, -⟩
    · exact absurd (code_mem_requestKinds hp) hkind
    · exact absurd hmem hkind
    · rw [takeFrame, hnone]
      exact congrArg _ (request_taken (k := ⟨kind, f.len⟩) _ ⟨rfl, hlen, hclocked, hfree⟩)
  · have hbad : requestOf f kind p = .badCommand := by
      subst hkind
      simp only [requestOf, BitVec.reduceToNat]
      split
      case h_4 => rfl
      all_goals omega
    rw [takeFrame, hbad]
    exact congrArg _ (request_taken (k := kUcmd) _ ⟨htwo, hlen, hclocked, hfree⟩)

theorem unknownKind : Claims.UnknownKind := by
  intro tag n kind p s hlen hclocked hfree
  obtain ⟨hunknown, hcommand⟩ := takeFrame_turned ⟨tag, p.length, n⟩ kind p s hlen hclocked hfree
  exact ⟨hunknown, fun hkind htwo hbad => hcommand hkind hbad htwo⟩

theorem frameTaken : Claims.FrameTaken := by
  refine ⟨fun f kind p s => ⟨fun hkind hcommand => ?_, fun hlen hclocked hfree => takeFrame_turned f kind p s hlen hclocked hfree⟩,
    fun i f k p bs s h hwell hbs hfree => ?_⟩
  · rcases requestOf_cases f kind p with ⟨i, k, q, hi, hp, hcode, hq⟩ | ⟨-, hucmd, hbad⟩ | ⟨-, hnone⟩
    · exact ⟨i, k, q, hp, hcode, fun hlen => hq hlen, takeFrame_request hi hp s⟩
    · have := hcommand hucmd
      omega
    · exact absurd hkind hnone
  · have hlength : bs.length = f.clocked := (judge_transaction (busy := fun _ => false) h hwell hbs (.inl rfl)).2.1
    obtain ⟨hjudge, -, hlen, hshort⟩ := judge_transaction (busy := (settleOut f.clocked s).tagBusy) h hwell hbs hfree
    have hframe : (⟨f.tag, p.length, f.clocked⟩ : Frame) = f := by
      rw [payload_length h, ← hlen]
    simp only [exec, execFrameDiscard, hlength, hjudge, hframe]
    exact takeFrame_request (requestOf_payloadOf h hshort) h s

/-- Settles O3. -/
theorem portChecks : Obligations.PortChecks := ⟨requestTurnedAway, frameChecks, unknownKind, frameTaken⟩

end Sys2Proof.Machine
end

section
/-! PROOFS. Ship time, the identity of the part, and its time base (chapter 9). -/

namespace Sys2Proof.Machine

theorem shipTime : Claims.ShipTime := by
  refine ⟨fun f time s ht => ?_, fun s => ⟨_, rfl, rfl, ?_⟩⟩
  · rw [exec_taken rfl ht]
    simp only [doClock, deliver_replyWith, arrive_shipTime]
    rfl
  · have hlt := s.rqp.shipTime.isLt
    simp only [State.withRqp, BitVec.toNat_add, BitVec.reduceToNat]
    split <;> omega

/-- The exchanges of IDENT, counted as the entries whose exchange satisfies `p`. -/
theorem exchangesIn_eq (s : State) (p : Exchange → Bool) :
    s.exchangesIn p = (s.qxu.entries.filter fun e => e.2.ex.any p).length := by
  unfold State.exchangesIn tcount
  congr 2
  funext e
  dsimp only
  cases e.2.ex <;> rfl

/-- The identity and the capacities of R207, as they are sent. -/
theorem identity_bytes : num 2 Config.vendorCode = [0x4D, 0x6E] ∧ num 2 Config.partCode = [0x1C, 0xFC] := ⟨rfl, rfl⟩

theorem capacityBytes_eq : capacityBytes = [0x10, 0x00, 0x12, 0x00, 64, 16, 64, 4, 32, 32, 16, 16, 128] := rfl

/-- The fields of IDENT, with the identity and the capacities of R207 as they are sent. -/
theorem identBytes_eq (s : State) :
    s.identBytes =
      [0x4D, 0x6E, 0x1C, 0xFC, Config.revision, 0x10, 0x00, 0x12, 0x00, 64, 16, 64, 4, 32, 32, 16, 16, 128,
          modeByte s.rqp.mode, if s.rdc.probe.isSome then 1 else 0] ++
        num 2 s.rqp.dSync ++ num 2 s.rqp.dFrame ++ num 2 s.rqp.dCrc ++ num 2 s.rqp.dClash ++
        num 1 (tcount id s.rqp.busy) ++ num 1 s.rqp.notices.length ++
        [if s.rqp.overflow then 1 else 0, if s.alert then 0 else 1] ++ num 2 s.chu.freeAccounts ++
        num 1 (s.exchangesIn fun _ => true) ++ num 1 (s.exchangesIn fun x => !x.sent) ++
        num 1 (s.exchangesIn fun x => x.sent) ++ num 2 s.qxu.deferred.length ++ num 4 s.rqp.shipTime.toNat := by
  unfold State.identBytes
  rewrite [identity_bytes.1, identity_bytes.2, capacityBytes_eq]
  simp only [flag, levelByte, List.append_assoc, List.cons_append, List.nil_append]

theorem identify : Claims.Identify := by
  intro f clear s ht flag exchanges
  rw [exec_taken rfl ht]
  have halert : (arrive f s).alert = s.alert := by simp [State.alert, alertMasked, State.settings]
  have hcount (p : Exchange → Bool) : (arrive f s).exchangesIn p = exchanges p := by
    rw [exchangesIn_eq, arrive_qxu]
  have hmode : modeByte s.rqp.mode = (match s.rqp.mode with | .config => 0 | .service => 1) := by
    cases s.rqp.mode <;> rfl
  rw [doIdent, deliver_replyWith, identBytes_eq]
  simp only [halert, hcount, hmode, arrive_mode, arrive_rdc, arrive_dSync, arrive_dFrame, arrive_dCrc, arrive_dClash,
    arrive_notices, arrive_overflow, arrive_chu, arrive_qxu, arrive_shipTime,
    tcount, id, num, flagOf, kIdent, flag] <;> rfl

/-! ### What is due on an empty queue (log entry 4) -/

theorem atZero_iff (t : Option Nat) : atZero t = true ↔ t = some 0 := by simp [atZero]

theorem linkDue_some {i : Link} {s : State} {c : Instr} (h : linkDue i (s.link i) = some c) : Due s c := by
  unfold linkDue at h
  split at h
  next hstale =>
    obtain rfl := Option.some.inj h
    exact (atZero_iff _).mp hstale
  next =>
    split at h
    next hhold =>
      obtain rfl := Option.some.inj h
      exact (atZero_iff _).mp hhold
    next =>
      split at h
      next hdrill =>
        obtain rfl := Option.some.inj h
        obtain ⟨d, hd, hzero⟩ := Option.map_eq_some_iff.mp ((atZero_iff _).mp hdrill)
        exact ⟨d, hd, hzero⟩
      next => exact absurd h (by simp)

theorem linkDue_none {i : Link} {l : LinkRec} (h : linkDue i l = none) :
    l.stale ≠ some 0 ∧ l.hold ≠ some 0 ∧ ∀ d, l.drill = some d → d.timer ≠ 0 := by
  unfold linkDue at h
  simp only [atZero_iff] at h
  split at h
  · exact absurd h (by simp)
  next hstale =>
    split at h
    · exact absurd h (by simp)
    next hhold =>
      split at h
      · exact absurd h (by simp)
      next hdrill => exact ⟨hstale, hhold, fun d hd hzero => hdrill (by rw [hd, ← hzero]; rfl)⟩

theorem pathDue_some {r : Nat} {k : TrafficClass} {s : State} {c : Instr} (h : pathDue r k (s.path r k) = some c) : Due s c := by
  unfold pathDue at h
  split at h
  next a b hstate =>
    obtain rfl := Option.some.inj h
    exact ⟨a, b, hstate⟩
  next a b hstate =>
    obtain rfl := Option.some.inj h
    exact ⟨a, b, hstate⟩
  next a b hstate =>
    obtain rfl := Option.some.inj h
    exact ⟨a, b, hstate⟩
  all_goals exact absurd h (by simp)

theorem pathDue_none {r : Nat} {k : TrafficClass} {p : Path} (h : pathDue r k p = none) (a b : Link) :
    p.state ≠ .preparing a b 0 ∧ p.state ≠ .bicast a b 0 ∧ p.state ≠ .releasing a b 0 := by
  refine ⟨fun hs => ?_, fun hs => ?_, fun hs => ?_⟩ <;> simp [pathDue, hs] at h

theorem radioDue_some {s : State} {c : Instr} (h : radioDue s.rdc = some c) : Due s c := by
  unfold radioDue at h
  split at h
  next hdeadline =>
    obtain rfl := Option.some.inj h
    exact (atZero_iff _).mp hdeadline
  next =>
    split at h
    next hpoll =>
      obtain rfl := Option.some.inj h
      exact (atZero_iff _).mp hpoll
    next => exact absurd h (by simp)

theorem visitorDue_some {i : Nat} {s : State} {c : Instr} (h : visitorDue (i, s.slot i) = some c) : Due s c := by
  unfold visitorDue at h
  split at h
  next v hv =>
    have hv : s.visitor i = some v := hv
    have hquota : s.quota i = v.quota := by simp [State.quota, hv]
    split at h
    next hretire =>
      obtain rfl := Option.some.inj h
      exact ⟨v, hv, (atZero_iff _).mp hretire⟩
    next =>
      split at h
      next hexpiry =>
        obtain rfl := Option.some.inj h
        obtain ⟨q, hq, hzero⟩ := Option.bind_eq_some_iff.mp ((atZero_iff _).mp hexpiry)
        exact ⟨q, hquota.trans hq, hzero⟩
      next =>
        split at h
        next hretry =>
          obtain rfl := Option.some.inj h
          obtain ⟨q, hq, hzero⟩ := Option.bind_eq_some_iff.mp ((atZero_iff _).mp hretry)
          exact ⟨q, hquota.trans hq, hzero⟩
        next => exact absurd h (by simp)
  next => exact absurd h (by simp)

theorem exchangeDue_some {i : Nat} {s : State} {c : Instr} (h : exchangeDue (i, s.entry i) = some c) : Due s c := by
  unfold exchangeDue at h
  split at h
  next x hx =>
    split at h
    next hzero =>
      obtain rfl := Option.some.inj h
      exact ⟨x, hx, hzero⟩
    next => exact absurd h (by simp)
  next => exact absurd h (by simp)

/-- What is found due is due. -/
theorem due_sound {s : State} {c : Instr} (hcanon : Canonical s) (h : s.due = some c) : Due s c := by
  obtain ⟨-, hslots, -, -, -, hentries, hroutes, -, -⟩ := hcanon
  unfold State.due at h
  split at h
  next c' hlink =>
    obtain rfl := Option.some.inj h
    obtain ⟨i, -, hi⟩ := List.exists_of_findSome?_eq_some hlink
    exact linkDue_some hi
  next =>
  split at h
  next c' hroute =>
    obtain rfl := Option.some.inj h
    obtain ⟨⟨r, x⟩, hmem, hr⟩ := List.exists_of_findSome?_eq_some hroute
    obtain ⟨k, -, hk⟩ := List.exists_of_findSome?_eq_some hr
    have hx : s.route r = x := tget_of_mem hroutes hmem
    subst hx
    exact pathDue_some hk
  next =>
  split at h
  next c' hradio =>
    obtain rfl := Option.some.inj h
    exact radioDue_some hradio
  next =>
  split at h
  next hstale =>
    obtain rfl := Option.some.inj h
    exact (atZero_iff _).mp hstale
  next =>
  split at h
  next c' hvisitor =>
    obtain rfl := Option.some.inj h
    obtain ⟨⟨i, x⟩, hmem, hi⟩ := List.exists_of_findSome?_eq_some hvisitor
    have hx : s.slot i = x := tget_of_mem hslots hmem
    subst hx
    exact visitorDue_some hi
  next =>
  split at h
  next c' hexchange =>
    obtain rfl := Option.some.inj h
    obtain ⟨⟨i, x⟩, hmem, hi⟩ := List.exists_of_findSome?_eq_some hexchange
    have hx : s.entry i = x := tget_of_mem hentries hmem
    subst hx
    exact exchangeDue_some hi
  next =>
  split at h
  next hfifo =>
    obtain rfl := Option.some.inj h
    show s.zne.fifo ≠ []
    intro hnil
    simp [hnil] at hfifo
  next =>
  split at h
  next hpurge =>
    obtain rfl := Option.some.inj h
    exact hpurge
  next => exact absurd h (by simp)

theorem path_not_due {s : State} {r : Nat} {k : TrafficClass}
    (h : s.rte.routes.findSome? routeDue = none) : pathDue r k (s.path r k) = none := by
  by_cases hr : s.route r = routeReset
  · have hp : s.path r k = cget routeReset.paths k := by rw [State.path, hr]
    rw [hp]
    cases k <;> rfl
  · have hroute := List.findSome?_eq_none_iff.mp h _ (mem_of_tget_ne hr)
    exact List.findSome?_eq_none_iff.mp hroute k (by cases k <;> simp [classes])

theorem visitorDue_none {i : Nat} {e : Slot} (h : visitorDue (i, e) = none) (v : Visitor) (hv : e.visitor = some v) :
    v.retire ≠ some 0 ∧ ∀ q, v.quota = some q → q.expiry ≠ some 0 ∧ q.retry ≠ some 0 := by
  unfold visitorDue at h
  simp only [hv, atZero_iff] at h
  split at h
  · exact absurd h (by simp)
  next hretire =>
    split at h
    · exact absurd h (by simp)
    next hexpiry =>
      split at h
      · exact absurd h (by simp)
      next hretry =>
        exact ⟨hretire, fun q hq => ⟨fun hzero => hexpiry (by simp [hq, hzero]), fun hzero => hretry (by simp [hq, hzero])⟩⟩

/-- A visitor's timer that stands at 0 is found. -/
theorem visitor_not_due {s : State} {i : Nat} {v : Visitor} (h : s.vrg.slots.findSome? visitorDue = none)
    (hv : s.visitor i = some v) : v.retire ≠ some 0 ∧ ∀ q, v.quota = some q → q.expiry ≠ some 0 ∧ q.retry ≠ some 0 := by
  have hne : s.slot i ≠ slotReset := fun heq => by
    rw [State.visitor, heq] at hv
    exact absurd hv (by simp [slotReset])
  exact visitorDue_none (List.findSome?_eq_none_iff.mp h _ (mem_of_tget_ne hne)) v hv

/-- An answer timer that stands at 0 is found. -/
theorem exchange_not_due {s : State} {i : Nat} {x : Exchange} (h : s.qxu.entries.findSome? exchangeDue = none)
    (hx : (s.entry i).ex = some x) : x.timer ≠ 0 := by
  have hne : s.entry i ≠ xentryReset := fun heq => by simp [heq, xentryReset] at hx
  have hnone := List.findSome?_eq_none_iff.mp h _ (mem_of_tget_ne hne)
  intro hzero
  have hex : (tget xentryReset s.qxu.entries i).ex = some x := hx
  simp [exchangeDue, hex, hzero] at hnone

theorem quota_of {s : State} {i : Nat} {q : Quota} (h : s.quota i = some q) :
    ∃ v, s.visitor i = some v ∧ v.quota = some q := by
  simpa [State.quota, Option.bind_eq_some_iff] using h

/-- Where nothing is found due, nothing is. -/
theorem due_complete {s : State} (h : s.due = none) (c : Instr) : ¬ Due s c := by
  unfold State.due at h
  split at h
  · exact absurd h (by simp)
  next hlink =>
  split at h
  · exact absurd h (by simp)
  next hroute =>
  split at h
  · exact absurd h (by simp)
  next hradio =>
  split at h
  · exact absurd h (by simp)
  next hstale =>
  split at h
  · exact absurd h (by simp)
  next hvisitor =>
  split at h
  · exact absurd h (by simp)
  next hexchange =>
  split at h
  · exact absurd h (by simp)
  next hfifo =>
  split at h
  · exact absurd h (by simp)
  next hpurge =>
  have hlinks (i : Link) := linkDue_none (List.findSome?_eq_none_iff.mp hlink i (by fin_cases i <;> simp [allLinks]))
  have hpaths (r : Nat) (k : TrafficClass) := pathDue_none (path_not_due (k := k) (r := r) hroute)
  rw [atZero_iff] at hstale
  cases c with
  | staleTimerExpiry i => exact (hlinks i).1
  | holdTimerExpiry i => exact (hlinks i).2.1
  | drillTimerExpiry i => exact fun ⟨d, hd, hzero⟩ => (hlinks i).2.2 d hd hzero
  | prepareTimerExpiry r k => exact fun ⟨a, b, hs⟩ => (hpaths r k a b).1 hs
  | bicastTimerExpiry r k => exact fun ⟨a, b, hs⟩ => (hpaths r k a b).2.1 hs
  | releaseTimerExpiry r k => exact fun ⟨a, b, hs⟩ => (hpaths r k a b).2.2 hs
  | muteDeadlineExpiry =>
    intro (hzero : s.rdc.deadline = some 0)
    simp [radioDue, atZero, hzero] at hradio
  | pollTimerExpiry =>
    intro (hzero : s.rdc.poll = some 0)
    simp only [radioDue, atZero, hzero] at hradio
    split at hradio <;> simp at hradio
  | positionStaleTimerExpiry => exact hstale
  | retireTimerExpiry i => exact fun ⟨v, hv, hzero⟩ => (visitor_not_due hvisitor hv).1 hzero
  | grantExpiry i =>
    intro ⟨q, hq, hzero⟩
    obtain ⟨v, hv, hvq⟩ := quota_of hq
    exact ((visitor_not_due hvisitor hv).2 q hvq).1 hzero
  | retryWaitExpiry i =>
    intro ⟨q, hq, hzero⟩
    obtain ⟨v, hv, hvq⟩ := quota_of hq
    exact ((visitor_not_due hvisitor hv).2 q hvq).2 hzero
  | answerTimerExpiry i => exact fun ⟨x, hx, hzero⟩ => exchange_not_due hexchange hx hzero
  | fixEvaluation =>
    intro (hne : s.zne.fifo ≠ [])
    simp [hne] at hfifo
  | purgeWalkStep => exact hpurge
  | _ => exact id

theorem idleStep : Claims.IdleStep := by
  intro s hcanon hempty
  have hstep : step s = .next (idle s) := by rw [step, hempty]
  rw [hstep, idle]
  cases hdue : s.due with
  | some c => exact ⟨fun _ => ⟨c, due_sound hcanon hdue, by simp [hempty]⟩, fun hno => absurd ⟨c, due_sound hcanon hdue⟩ hno⟩
  | none => exact ⟨fun ⟨c, hc⟩ => absurd hc (due_complete hdue c), fun _ => rfl⟩

/-! ### One tick -/

/-- The path state of R123 after one tick of its fast timer, and where `second` is set of its slow ones. -/
def pathTicked (second : Prop) [Decidable second] (p : PathState) : PathState :=
  match p with
  | .preparing cur n m => .preparing cur n (if second then m - 1 else m)
  | .bicast cur n m => .bicast cur n (m - 1)
  | .releasing cur x m => .releasing cur x (if second then m - 1 else m)
  | .steady cur => .steady cur
  | .stranded => .stranded

theorem pathTick_eq (p : Path) : pathTick p = { p with state := pathTicked False p.state } := by
  cases p with
  | mk prefs pin st reason => cases st <;> rfl

theorem pathSecond_pathTick_eq (p : Path) : pathSecond (pathTick p) = { p with state := pathTicked True p.state } := by
  cases p with
  | mk prefs pin st reason => cases st <;> rfl

theorem mapPaths_path (g : Path → Path) (r : Route) (k : TrafficClass) : cget (mapPaths g r).paths k = g (cget r.paths k) := by
  cases k <;> rfl

/-! Each timer's part of the three counts. -/

theorem tickHundredth_link (s : State) (i : Link) : (tickHundredth s).link i = linkTick (s.link i) := qget_qmap ..

theorem tickHundredth_route (s : State) (r : Nat) : (tickHundredth s).route r = mapPaths pathTick (s.route r) :=
  tget_tmap _ _ _ _ rfl

theorem tickSecond_link (s : State) (i : Link) : (tickSecond s).link i = linkSecond (s.link i) := qget_qmap ..

theorem tickSecond_route (s : State) (r : Nat) : (tickSecond s).route r = mapPaths pathSecond (s.route r) :=
  tget_tmap _ _ _ _ rfl

theorem tickSecond_slot (s : State) (i : Nat) : (tickSecond s).slot i = mapVisitor visitorSecond (s.slot i) :=
  tget_tmap _ _ _ _ rfl

theorem tickSecond_entry (s : State) (i : Nat) : (tickSecond s).entry i = exchangeSecond (s.entry i) :=
  tget_tmap _ _ _ _ rfl

theorem tickMinute_slot (s : State) (i : Nat) : (tickMinute s).slot i = mapVisitor visitorMinute (s.slot i) :=
  tget_tmap _ _ _ _ rfl

/-- What a tick is: the count of 10 ms, on each hundredth that of a second, and on each sixtieth of those that of a minute. -/
theorem tick_cases (s : State) :
    (s.base.hundredths + 1 < 100 ∧ tick s = (tickHundredth s).withBase { s.base with hundredths := s.base.hundredths + 1 }) ∨
    (100 ≤ s.base.hundredths + 1 ∧ s.base.seconds + 1 < 60 ∧
      tick s = (tickSecond (tickHundredth s)).withBase ⟨0, s.base.seconds + 1⟩) ∨
    (100 ≤ s.base.hundredths + 1 ∧ 60 ≤ s.base.seconds + 1 ∧
      tick s = (tickMinute (tickSecond (tickHundredth s))).withBase ⟨0, 0⟩) := by
  unfold tick
  dsimp only
  split
  next h => exact .inl ⟨h, rfl⟩
  next h =>
    split
    next hm => exact .inr (.inl ⟨not_lt.mp h, hm, rfl⟩)
    next hm => exact .inr (.inr ⟨not_lt.mp h, not_lt.mp hm, rfl⟩)

/-- The routes, links and exchanges after a tick that ends a second are as the count of a second leaves them. -/
theorem path_second (s : State) (r : Nat) (k : TrafficClass) :
    (tickSecond (tickHundredth s)).path r k = { s.path r k with state := pathTicked True (s.path r k).state } := by
  simp only [State.path, tickSecond_route, tickHundredth_route, mapPaths_path, pathSecond_pathTick_eq]

theorem path_hundredth (s : State) (r : Nat) (k : TrafficClass) :
    (tickHundredth s).path r k = { s.path r k with state := pathTicked False (s.path r k).state } := by
  simp only [State.path, tickHundredth_route, mapPaths_path, pathTick_eq]

/-- What the counts of a second and a minute leave alone. -/
theorem tickHundredth_rest (s : State) : (tickHundredth s).rqp = s.rqp ∧ (tickHundredth s).chu = s.chu := ⟨rfl, rfl⟩

theorem tickSecond_rest (s : State) : (tickSecond s).rqp = s.rqp ∧ (tickSecond s).chu = s.chu := by
  simp [tickSecond, State.setPos]

theorem second_rqp (s : State) : (tickSecond (tickHundredth s)).rqp = s.rqp :=
  (tickSecond_rest _).1.trans (tickHundredth_rest s).1

theorem second_chu (s : State) : (tickSecond (tickHundredth s)).chu = s.chu :=
  (tickSecond_rest _).2.trans (tickHundredth_rest s).2

/-- The three times of a route, which no count moves. -/
def Route.times (r : Route) : Nat × Nat × Nat := (r.bicast, r.prepare, r.release)

theorem times_hundredth (s : State) (r : Nat) : ((tickHundredth s).route r).times = (s.route r).times := by
  rw [tickHundredth_route]
  rfl

theorem times_second (s : State) (r : Nat) : ((tickSecond (tickHundredth s)).route r).times = (s.route r).times := by
  rw [tickSecond_route, tickHundredth_route]
  rfl

theorem link_second (s : State) (i : Link) : (tickSecond (tickHundredth s)).link i = linkSecond (linkTick (s.link i)) := by
  rw [tickSecond_link, tickHundredth_link]

theorem slot_minute (s : State) (i : Nat) : (tickMinute (tickSecond (tickHundredth s))).slot i =
    mapVisitor visitorMinute (mapVisitor visitorSecond (s.slot i)) := by
  rw [tickMinute_slot, tickSecond_slot]
  rfl

theorem tickCounts : Claims.TickCounts := by
  intro s t second minute tenMs eachSecond eachMinute
  obtain ⟨hlt, heq⟩ | ⟨hsec, hlt, heq⟩ | ⟨hsec, hmin, heq⟩ := tick_cases s
  · have hno : ¬ second := not_le.mpr hlt
    have hnom : ¬ minute := fun h => hno h.1
    have ht : t = _ := heq
    rw [ht]
    simp only [eachSecond, eachMinute, hno, hnom, if_false]
    refine ⟨rfl, (List.append_nil _).symm, fun i => ?_, fun r k => ?_, fun r => ?_, fun i => ?_, fun i => ?_,
      rfl, rfl, rfl, rfl, rfl, rfl⟩
    · refine (tickHundredth_link s i).trans ?_
      simp [linkTick, countDown, tenMs]
    · refine (path_hundredth s r k).trans ?_
      cases h : (s.path r k).state <;> simp [pathTicked]
    · simpa [Route.times] using times_hundredth s r
    · show s.slot i = _
      simp [State.visitor]
    · show s.entry i = _
      simp
  · have hyes : second := hsec
    have hnom : ¬ minute := fun h => absurd h.2 (not_le.mpr hlt)
    have ht : t = _ := heq
    rw [ht]
    simp only [eachSecond, eachMinute, hyes, hnom, if_true, if_false]
    refine ⟨rfl, rfl, fun i => ?_, fun r k => ?_, fun r => ?_, fun i => ?_, fun i => ?_,
      rfl, rfl, rfl, rfl, second_chu s, second_rqp s⟩
    · exact link_second s i
    · refine (path_second s r k).trans ?_
      cases h : (s.path r k).state <;> simp [pathTicked]
    · simpa [Route.times] using times_second s r
    · exact tickSecond_slot (tickHundredth s) i
    · exact tickSecond_entry (tickHundredth s) i
  · have hyes : second := hsec
    have hyem : minute := ⟨hsec, hmin⟩
    have ht : t = _ := heq
    rw [ht]
    simp only [eachSecond, eachMinute, hyes, hyem, if_true]
    refine ⟨rfl, rfl, fun i => ?_, fun r k => ?_, fun r => ?_, fun i => ?_, fun i => ?_,
      rfl, rfl, rfl, rfl, second_chu s, second_rqp s⟩
    · exact link_second s i
    · refine (path_second s r k).trans ?_
      cases h : (s.path r k).state <;> simp [pathTicked]
    · have ht : ((tickMinute (tickSecond (tickHundredth s))).route r).times = (s.route r).times := times_second s r
      simpa [Route.times] using ht
    · refine (slot_minute s i).trans ?_
      simp only [mapVisitor, State.visitor, Option.map_map, Function.comp_def, visitorMinute, visitorSecond, countDown]
    · exact tickSecond_entry (tickHundredth s) i

/-- Settles O6. -/
theorem shipTimeAndIdentity : Obligations.ShipTimeAndIdentity := ⟨shipTime, identify, idleStep, tickCounts⟩

end Sys2Proof.Machine
end

section
/-! PROOFS. The fields of an answer at their places, and what is given and kept between two states. -/

namespace Sys2Proof

/-! ### Fields at their places -/

theorem slice_append_skip {x y : List Byte} {i n : Nat} (h : x.length ≤ i) : Machine.slice i n (x ++ y) = Machine.slice (i - x.length) n y := by
  rw [Machine.slice, List.drop_append, List.drop_of_length_le h, List.nil_append]
  rfl

theorem slice_append_exact {x y : List Byte} {n : Nat} (h : x.length = n) : Machine.slice 0 n (x ++ y) = x := by
  rw [Machine.slice, List.drop_zero, ← h, List.take_left']
  rfl

theorem slice_all {x : List Byte} {n : Nat} (h : x.length = n) : Machine.slice 0 n x = x := by
  rw [Machine.slice, List.drop_zero, ← h, List.take_length]

theorem slice_cons_skip {a : Byte} {x : List Byte} {i n : Nat} (h : 0 < i) :
    Machine.slice i n (a :: x) = Machine.slice (i - 1) n x := by
  obtain ⟨j, rfl⟩ := Nat.exists_eq_succ_of_ne_zero h.ne'
  rfl

namespace Machine

@[simp] theorem num_length (n v : Nat) : (num n v).length = n := beBytes_length n v

@[simp] theorem sidBytes_length (d : Digits) : (sidBytes d).length = 8 := num_length 8 _

@[simp] theorem hncBytes_length (d : Digits) : (hncBytes d).length = 3 := num_length 3 _

@[simp] theorem bucketBytes_length (b : Bucket) : (bucketBytes b).length = 30 := by simp [bucketBytes]

@[simp] theorem bucketsBytes_length (q : Quad Bucket) : (bucketsBytes q).length = 120 := by simp [bucketsBytes]

/-! ### Notices given, and the port kept -/

variable {s t u : State}

theorem gives_nil (h : t.rqp.notices = s.rqp.notices) (ho : t.rqp.overflow = s.rqp.overflow) : Gives s t [] := by
  intro _
  exact ⟨by rw [h, List.append_nil], ho⟩

theorem Gives.trans {x y : List Notice} (hst : Gives s t x) (htu : Gives t u y) : Gives s u (x ++ y) := by
  intro hroom
  rw [List.length_append] at hroom
  obtain ⟨hn, ho⟩ := hst (by omega)
  obtain ⟨hn', ho'⟩ := htu (by rw [hn, List.length_append]; omega)
  exact ⟨by rw [hn', hn, List.append_assoc], ho'.trans ho⟩

theorem gives_giveNotice (k : NoticeKind) (x : Subject) (d v1 v2 v3 v4 v5 : Byte) (s : State) :
    Gives s (giveNotice k x d v1 v2 v3 v4 v5 s) [⟨k, x, d, v1, v2, v3, v4, v5, s.rqp.shipTime⟩] := by
  intro hroom
  have hlt : s.rqp.notices.length < Config.noticeCapacity := by
    rw [List.length_singleton] at hroom
    exact Nat.lt_of_succ_le hroom
  rw [giveNotice, if_pos hlt]
  exact ⟨rfl, rfl⟩

/-- What a state gives depends on its queue and its mark alone. -/
theorem Gives.congr {s' t' : State} {x : List Notice} (h : Gives s t x) (hs : s'.rqp.notices = s.rqp.notices)
    (hso : s'.rqp.overflow = s.rqp.overflow) (ht : t'.rqp.notices = t.rqp.notices) (hto : t'.rqp.overflow = t.rqp.overflow) :
    Gives s' t' x := by
  intro hroom
  rw [hs] at hroom
  obtain ⟨hn, ho⟩ := h hroom
  exact ⟨by rw [ht, hn, hs], by rw [hto, ho, hso]⟩

theorem portKept_of_rqp (h : t.rqp = s.rqp) : PortKept s t := by
  rw [PortKept, h]

theorem PortKept.trans (hst : PortKept s t) (htu : PortKept t u) : PortKept s u := by
  rw [PortKept, htu, hst]

/-- A notice is given beside the blocks. -/
theorem giveNotice_withChu (k : NoticeKind) (x : Subject) (d v1 v2 v3 v4 v5 : Byte) (s : State) (c : Chu) :
    giveNotice k x d v1 v2 v3 v4 v5 (s.withChu c) = (giveNotice k x d v1 v2 v3 v4 v5 s).withChu c := by
  have hrqp : (s.withChu c).rqp = s.rqp := rfl
  simp only [giveNotice, hrqp]
  split <;> rfl

end Machine
end Sys2Proof
end

section
/-! PROOFS. SETTLE, COLLECT and the supply of accounts (chapter 3). -/

namespace Sys2Proof.Machine

theorem qset_qget_self {α : Type} (q : Quad α) (i : Fin 4) : qset q i (qget q i) = q := by
  fin_cases i <;> rfl

/-! ### The supply of accounts (R66) -/

theorem accountSupply : Claims.AccountSupply := by
  intro s n low
  refine ⟨fun hlow => if_pos hlow, fun hnot => if_neg hnot, ?_⟩
  unfold accountFreed
  dsimp only
  congr 2
  by_cases h : s.settings.lowWater < s.chu.freeAccounts + 1 <;> simp only [h, decide_true, decide_false, Bool.or_true, Bool.or_false, if_true, if_false]

/-! ### SETTLE (R63) -/

theorem settled_eq (a : Account) :
    settled a = { a with
      buckets := quadOf ⟨0, 0, 0, 0, 0⟩, settles := a.settles + 1,
      saturated := if a.unreported = 281474976710655 then a.saturated else false } := by
  unfold settled
  congr 1
  by_cases h : a.unreported = 281474976710655 <;> simp [h, Config.counterMax]

theorem settle : Claims.Settle := by
  intro f i s ht refused
  have hwork : exec (.settle f i) s = .next (deliver kSettle f.tag (doSettle i (arrive f s))) := exec_taken rfl ht
  have hrefused {r : ResultCode} (h : doSettle i (arrive f s) = reply r (arrive f s)) : refused (resultByte r) :=
    hwork.trans (by rw [h]; rfl)
  refine ⟨fun hhigh => hrefused (r := .badArg) (if_pos hhigh), fun hlow hnone => hrefused (r := .notFound) ?_,
    fun a hlow ha => ⟨fun hdep => hrefused (r := .state) ?_, fun hact => hwork.trans ?_⟩⟩
  · simp only [doSettle, if_neg (not_lt.mpr hlow), arrive_account, hnone]
  · simp only [doSettle, if_neg (not_lt.mpr hlow), arrive_account, ha, hdep, if_true]
  · have hdone : doSettle i (arrive f s) =
        replyWith .ok (settleBytes i.toNat a) ((arrive f s).setAccount i.toNat (some (settled a))) := by
      simp [doSettle, if_neg (not_lt.mpr hlow), ha, hact]
    rw [hdone, deliver_replyWith, settled_eq, settleBytes, BitVec.toNat_add]
    rfl

/-! ### COLLECT (R61, R64) -/

/-- A DEPARTING entry that refers to the account, found in a canonical table. -/
theorem departingOn_iff {s : State} (h : Canonical s) (a : Nat) :
    s.departingOn a = true ↔ ∃ j v, s.visitor j = some v ∧ v.state = .departing ∧ (s.slot j).account = some a := by
  obtain ⟨-, hslots, -⟩ := h
  unfold State.departingOn
  rw [List.any_eq_true]
  constructor
  · rintro ⟨⟨j, e⟩, hmem, he⟩
    have hj : s.slot j = e := tget_of_mem hslots hmem
    subst hj
    split at he
    next v hv => exact ⟨j, v, hv, by simpa using he⟩
    next => exact absurd he (by simp)
  · rintro ⟨j, v, hv, hstate, hacc⟩
    have hne : s.slot j ≠ slotReset := fun heq => by simp [State.visitor, heq, slotReset] at hv
    have hvis : (s.slot j).visitor = some v := hv
    refine ⟨_, mem_of_tget_ne hne, ?_⟩
    show (match (s.slot j).visitor with
      | some v => v.state == .departing && (s.slot j).account == some a
      | none => false) = true
    simp [hvis, hstate, hacc]

/-- The account a close-out leaves, committed: SATURATED set and told where a counter stopped (R60). -/
theorem commitAccount_eq (i : Nat) (a : Account) (hit : Bool) (s : State) :
    commitAccount i a hit s =
      ((if hit && !a.saturated then giveNotice .account (.account i) 1 0 0 0 0 0 else id) s).setAccount i
        (some { a with saturated := a.saturated || hit }) := by
  unfold commitAccount
  dsimp only
  split
  · rw [State.setAccount, giveNotice_withChu]
    simp [State.setAccount]
  · rfl

@[simp] theorem closeOutAccount_marks (rates : Option (PerClass Rate)) (online : Bool) (z : TariffZone) (a : Account) :
    (closeOutAccount rates online z a).1.saturated = a.saturated ∧
      (closeOutAccount rates online z a).1.unrepMark = a.unrepMark := by
  cases online <;> exact ⟨rfl, rfl⟩

/-- The close-out of an account that has no remainder and no carry left, its counters within their limits: it stands. -/
theorem closeOutAccount_settled (rates : Option (PerClass Rate)) (online : Bool) (z : TariffZone) (a : Account)
    (hr : a.remainder = ⟨0, 0, 0⟩) (hc : a.carry = ⟨0, 0, 0⟩) (hb : (qget a.buckets z).charge ≤ 281474976710655)
    (hu : a.unreported ≤ 281474976710655) : closeOutAccount rates online z a = (a, 0, false) := by
  have hbucket : qset a.buckets z { qget a.buckets z with charge := min Config.counterMax (qget a.buckets z).charge } =
      a.buckets := by
    have hmin : min Config.counterMax (qget a.buckets z).charge = (qget a.buckets z).charge := Nat.min_eq_right hb
    rw [hmin]
    exact qset_qget_self ..
  have hpass {n : Nat} (h : n ≤ 281474976710655) : passes n 0 = false := by simpa [passes, Config.counterMax] using h
  have hmin : min Config.counterMax a.unreported = a.unreported := Nat.min_eq_right hu
  cases online <;>
    simp only [closeOutAccount, hr, hc, closeOutClass, lt_self_iff_false, if_false, Nat.add_zero, satAdd, hbucket,
      hpass hb, hpass hu, hmin, Bool.or_self, if_true, Bool.false_eq_true]
  all_goals
    obtain ⟨⟩ := a
    simp only at hr hc
    rw [hr, hc]

/-- The account COLLECT answers: closed out, with its marks after that (R61). -/
def collected (p : Option Partner) (rates : Option (PerClass Rate)) (z : TariffZone) (a : Account) : Account :=
  let out := closeOutAccount rates (isOnline p) z a
  { out.1 with saturated := a.saturated || out.2.2, unrepMark := a.unrepMark || (isOnline p && decide (0 < out.2.1)) }

theorem updAccount_some {s : State} {i : Nat} {a : Account} (g : Account → Account) (h : s.account i = some a) :
    s.updAccount i g = s.setAccount i (some (g a)) := by
  simp [State.updAccount, h]

theorem isOnline_eq (p : Option Partner) : isOnline p = p.any fun r => decide (r.charging = .online) := by
  cases p with
  | none => rfl
  | some r => cases h : r.charging <;> simp [isOnline, h]

/-- What the close-out of COLLECT leaves: the account as it is answered, with every other account, and the notice
SATURATED where a counter stopped. -/
theorem collectClose_leaves {s : State} {i : Nat} {a : Account} (ha : s.account i = some a) :
    let p := (s.partnerByHnc a.hnc).bind s.partner
    let rates := p.map fun r => qget (s.plan r.plan).rates s.tariffInForce
    let out := closeOutAccount rates (isOnline p) s.tariffInForce a
    let u := collectClose i a s
    u = ((if out.2.2 && !a.saturated then giveNotice .account (.account i) 1 0 0 0 0 0 else id) s).withChu u.chu ∧
    u.chu = { s.chu with accounts := u.chu.accounts } ∧
    u.account i = some (collected p rates s.tariffInForce a) ∧ ∀ j, j ≠ i → u.account j = s.account j := by
  intro p rates out u
  have hclose : closeOut i p s = (commitAccount i out.1 out.2.2 s, out.2.1) := by
    simp [closeOut, ha, out, rates]
  have hmarks : out.1.saturated = a.saturated ∧ out.1.unrepMark = a.unrepMark := closeOutAccount_marks ..
  have hcommit := commitAccount_eq i out.1 out.2.2 s
  rw [hmarks.1] at hcommit
  have hnotice : ((if (out.2.2 && !a.saturated) = true then giveNotice .account (.account i) 1 0 0 0 0 0 else id) s).chu = s.chu := by
    split
    · exact giveNotice_chu ..
    · rfl
  have hu : u = markUnreported i p out.2.1 (commitAccount i out.1 out.2.2 s) := by
    show collectClose i a s = _
    rw [collectClose]
    simp only [p] at hclose
    rw [hclose]
  rw [hcommit] at hu
  generalize (if (out.2.2 && !a.saturated) = true then giveNotice .account (.account i) 1 0 0 0 0 0 else id) s = told at hu hnotice
  have hothers (j : Nat) : told.account j = s.account j := by simp [State.account, hnotice]
  unfold markUnreported at hu
  split at hu
  next hcharge =>
    rw [updAccount_some _ (State.setAccount_account_self ..)] at hu
    rw [hu]
    refine ⟨rfl, by simp [State.setAccount, hnotice], ?_, fun j hj => ?_⟩
    · have hmark : (isOnline p && decide (0 < out.2.1)) = true := by simpa using hcharge
      rw [State.setAccount_account_self]
      show _ = some { out.1 with
        saturated := a.saturated || out.2.2, unrepMark := a.unrepMark || (isOnline p && decide (0 < out.2.1)) }
      rw [hmark, Bool.or_true]
    · rw [State.setAccount_account, if_neg (Ne.symm hj), State.setAccount_account, if_neg (Ne.symm hj), hothers]
  next hnone =>
    rw [hu]
    refine ⟨rfl, by simp [State.setAccount, hnotice], ?_, fun j hj => ?_⟩
    · have hmark : (isOnline p && decide (0 < out.2.1)) = false := by
        simpa only [Bool.and_eq_false_iff, not_and_or, Bool.not_eq_true, decide_eq_false_iff_not] using hnone
      rw [State.setAccount_account_self]
      show _ = some { out.1 with
        saturated := a.saturated || out.2.2, unrepMark := a.unrepMark || (isOnline p && decide (0 < out.2.1)) }
      rw [hmark, Bool.or_false, ← hmarks.2]
    · rw [State.setAccount_account, if_neg (Ne.symm hj), hothers]

theorem chu_eq {x y : Chu} (h1 : x.partners = y.partners) (h2 : x.plans = y.plans) (h3 : x.accounts = y.accounts)
    (h4 : x.freeAccounts = y.freeAccounts) (h5 : x.armed = y.armed) (h6 : x.emergency = y.emergency)
    (h7 : x.unattributed = y.unattributed) : x = y := by
  cases x
  cases y
  simp_all

/-- What the freeing of an account leaves (R66). -/
theorem accountFreed_leaves (u : State) (i : Nat) :
    let t := accountFreed (u.setAccount i none)
    t.account i = none ∧ (∀ j, j ≠ i → t.account j = u.account j) ∧ t = u.withChu t.chu ∧
      t.chu.partners = u.chu.partners ∧ t.chu.plans = u.chu.plans ∧ t.chu.freeAccounts = u.chu.freeAccounts + 1 ∧
      t.chu.armed = (u.chu.armed || decide (u.settings.lowWater < u.chu.freeAccounts + 1)) ∧
      t.chu.emergency = u.chu.emergency ∧ t.chu.unattributed = u.chu.unattributed := by
  have hothers (j : Nat) (hj : j ≠ i) : (u.setAccount i none).account j = u.account j := by
    rw [State.setAccount_account, if_neg (Ne.symm hj)]
  exact ⟨State.setAccount_account_self u i none, hothers, rfl, rfl, rfl, rfl, rfl, rfl, rfl⟩

/-- The fields of a COLLECT answer at their places (R225). -/
theorem collectBytes_fields (i : Nat) (y : Account) :
    let p := resultByte .ok :: collectBytes i y
    p.length = 147 ∧ byteAt p 0 = 0 ∧ slice 1 2 p = beBytes 2 i ∧
      byteAt p 3 = BitVec.ofNat 8
        ((if y.saturated then 1 else 0) + (if y.late then 2 else 0) + (if y.unrepMark then 4 else 0)) ∧
      slice 4 2 p = beBytes 2 y.settles.toNat ∧ slice 6 8 p = sidBytes y.sid ∧ slice 14 3 p = hncBytes y.hnc ∧
      slice 17 4 p = beBytes 4 y.opened.toNat ∧ slice 21 6 p = beBytes 6 y.unreported ∧
      slice 27 120 p = bucketsBytes y.buckets := by
  have hmarks : marksByte y = BitVec.ofNat 8
      ((if y.saturated then 1 else 0) + (if y.late then 2 else 0) + (if y.unrepMark then 4 else 0)) := by
    unfold marksByte
    cases y.saturated <;> cases y.late <;> cases y.unrepMark <;> rfl
  rw [← hmarks]
  have hok : resultByte .ok = 0#8 := rfl
  simp [collectBytes, slice_cons_skip, slice_append_skip, slice_append_exact, slice_all, byteAt_append_of_le, num, hok]

theorem collect : Claims.Collect := by
  intro f i s ht refused busy collects hcanon
  have hwork : exec (.collect f i) s = .next (deliver kCollect f.tag (doCollect i (arrive f s))) := exec_taken rfl ht
  have hrefused {r : ResultCode} (h : doCollect i (arrive f s) = reply r (arrive f s)) : refused (resultByte r) :=
    hwork.trans (by rw [h]; rfl)
  have hbusy : (arrive f s).departingOn i.toNat = true ↔ busy := by
    rw [State.departingOn, arrive_vrg]
    exact departingOn_iff hcanon i.toNat
  refine ⟨fun hhigh => hrefused (r := .badArg) (if_pos hhigh), fun hlow hnone => hrefused (r := .notFound) ?_,
    fun a hlow ha => ?_⟩
  · simp only [doCollect, if_neg (not_lt.mpr hlow), arrive_account, hnone]
  have hcollects (hdep : a.departed = true) (hfree : ¬ busy) :
      let p := (s.partnerByHnc a.hnc).bind s.partner
      let rates := p.map fun r => qget (s.plan r.plan).rates s.tariffInForce
      let out := closeOutAccount rates (isOnline p) s.tariffInForce a
      collects (collected p rates s.tariffInForce a) (out.2.2 && !a.saturated) := by
    intro p rates out
    obtain ⟨htold, hchu, haccount, hothers⟩ := collectClose_leaves (s := arrive f s) (i := i.toNat) (a := a)
      ((arrive_account ..).trans ha)
    simp only [arrive_partnerByHnc, arrive_tariffInForce, arrive_chu, arrive_account, arrive_partner, arrive_plan] at htold hchu haccount hothers
    have hdone : doCollect i (arrive f s) =
        replyWith .ok (collectBytes i.toNat (collected p rates s.tariffInForce a))
          (accountFreed ((collectClose i.toNat a (arrive f s)).setAccount i.toNat none)) := by
      have hnot : (arrive f s).departingOn i.toNat = false := by
        rw [← Bool.not_eq_true, hbusy]
        exact hfree
      simp only [doCollect, if_neg (not_lt.mpr hlow), arrive_account, ha, hdep, hnot, haccount, Bool.not_true,
        Bool.false_eq_true, if_false, Option.getD_some]
      rfl
    obtain ⟨hlength, hfields⟩ := collectBytes_fields i.toNat (collected p rates s.tariffInForce a)
    obtain ⟨h0, h1, h3, h4, h6, h14, h17, h21, h27⟩ := hfields
    obtain ⟨hgone, hrest, hframe, hpartners, hplans, hfreed, harmed, hemergency, hunattributed⟩ :=
      accountFreed_leaves (collectClose i.toNat a (arrive f s)) i.toNat
    have hsettings : (collectClose i.toNat a (arrive f s)).settings = s.settings := by
      rw [htold, State.settings]
      split <;> simp [State.settings]
    rw [hsettings] at harmed
    refine ⟨accountFreed ((collectClose i.toNat a (arrive f s)).setAccount i.toNat none), _,
      hwork.trans (by rw [hdone, deliver_replyWith]; rfl), hlength, h0, h1, h3, h4, h6, h14, h17, h21, h27,
      hgone, fun j hj => (hrest j hj).trans (hothers j hj), ?_, ?_⟩
    · generalize accountFreed ((collectClose i.toNat a (arrive f s)).setAccount i.toNat none) = t at *
      rw [hchu] at hpartners hplans hfreed harmed hemergency hunattributed
      exact chu_eq hpartners hplans rfl hfreed harmed hemergency hunattributed
    · rw [hframe, htold]
      rfl
  refine ⟨fun hact => hrefused (r := .state) ?_, fun hdep hb => hrefused (r := .busy) ?_,
    fun hdep hfree hr hc hbuckets hu => ?_, fun hdep hfree => ?_⟩
  · simp only [doCollect, if_neg (not_lt.mpr hlow), arrive_account, ha, hact]
    rfl
  · simp only [doCollect, if_neg (not_lt.mpr hlow), arrive_account, ha, hdep, hbusy.mpr hb]
    rfl
  · have h := hcollects hdep hfree
    simp only [collected, closeOutAccount_settled _ _ _ a hr hc (hbuckets _) hu] at h
    simpa using h
  · have h := hcollects hdep hfree
    simp only [collected, isOnline_eq] at h
    exact h

/-- Settles O29. -/
theorem settleAndCollect : Obligations.SettleAndCollect := ⟨settle, collect, accountSupply⟩

end Sys2Proof.Machine
end

section
/-! PROOFS. The choice of a link, XFETCH and the owed EXCHANGE notice (chapter 4). -/

namespace Sys2Proof.Machine

/-! ### The link of an exchange (R80) -/

theorem exchangeLink : Claims.ExchangeLink := by
  intro x s e
  refine ⟨fun l => ?_, fun hfirst => ?_, fun hsecond hall => ?_, fun hsecond a l b he hl ha => ?_⟩
  · rw [State.eligible, Bool.and_eq_true]
    cases h : (s.link l).state <;> simp [usable, State.permitInForce, inSet]
  · simp [State.chooseLink, hfirst, e]
  · have hnone : e.find? (fun l => some l != x.link1) = none := by
      rw [List.find?_eq_none]
      intro l hl
      simp [hall l hl]
    show (if x.second = true then (match e.find? (fun l => some l != x.link1) with
      | some l => some l
      | none => e.head?) else e.head?) = e.head?
    simp [hnone]
  · have hfind : e.find? (fun l => some l != x.link1) = some l := by
      rw [he, List.find?_append, List.find?_eq_none.mpr fun m hm => by simp [ha m hm], Option.none_or,
        List.find?_cons_of_pos (by simpa using Ne.symm hl)]
    show (if x.second = true then (match e.find? (fun l => some l != x.link1) with
      | some l => some l
      | none => e.head?) else e.head?) = some l
    simp [hsecond, hfind]

/-! ### The TO_SEND exchange nearest the head -/

theorem toSend_iff (s : State) (i : Nat) : s.toSend i = true ↔ ∃ x, (s.entry i).ex = some x ∧ x.sent = false := by
  unfold State.toSend
  cases h : (s.entry i).ex <;> simp

theorem find_toSend {s : State} {before : List Nat} {i : Nat} {behind : List Nat}
    (horder : s.qxu.order = before ++ i :: behind) (hbefore : ∀ j ∈ before, s.toSend j = false) (hi : s.toSend i = true) :
    s.qxu.order.find? s.toSend = some i := by
  rw [horder, List.find?_append, List.find?_eq_none.mpr fun j hj => by simp [hbefore j hj], Option.none_or,
    List.find?_cons_of_pos hi]

theorem arrive_toSend (f : Frame) (s : State) : (arrive f s).toSend = s.toSend := by
  funext i
  simp [State.toSend]

theorem arrive_chooseLink (f : Frame) (s : State) (x : Exchange) : (arrive f s).chooseLink x = s.chooseLink x := by
  have heligible : (arrive f s).eligible = s.eligible := funext fun l => arrive_eligible ..
  simp [State.chooseLink, heligible]

/-- The fields of an XFETCH answer at their places (R226). -/
theorem exchangeBytes_fields (i : Nat) (use : Byte) (x : Exchange) (l : Link) (hnc : Digits) :
    let p := resultByte .ok :: exchangeBytes i use x l hnc
    p.length = 30 ∧ byteAt p 0 = 0 ∧ slice 1 2 p = beBytes 2 (i * 256 + use.toNat) ∧
      byteAt p 3 = xkindByte x.kind ∧ byteAt p 4 = (if x.second then 2 else 1) ∧ byteAt p 5 = linkByte l ∧
      slice 6 2 p = beBytes 2 (x.slot * 16 + x.gen.toNat) ∧ slice 8 8 p = sidBytes x.sid ∧ slice 16 3 p = hncBytes hnc ∧
      byteAt p 19 = (if x.kind = .authorize then serviceByte x.cls else 0xFF) ∧
      slice 20 6 p = beBytes 6 (if x.kind = .authorize then 0 else x.reported.getD 0) ∧
      slice 26 4 p = beBytes 4 (if x.kind = .quota then x.request else 0) := by
  have hok : resultByte .ok = 0#8 := rfl
  simp [exchangeBytes, slice_cons_skip, slice_append_skip, slice_append_exact, slice_all, byteAt_append_of_le, num, hok,
    refNat, handleNat]

theorem fetchExchange_claim : Claims.FetchExchange := by
  intro f s ht waits
  have hwork : exec (.xfetch f) s = .next (deliver kXfetch f.tag (doXfetch (arrive f s))) := exec_taken rfl ht
  have hnot {j : Nat} (h : ¬ waits j) : s.toSend j = false := by
    rw [← Bool.not_eq_true, toSend_iff]
    exact h
  have hfind : (arrive f s).qxu.order.find? (arrive f s).toSend = s.qxu.order.find? s.toSend := by
    rw [arrive_toSend, arrive_qxu]
  refine ⟨fun hnone => ?_, fun before i behind x horder hbefore hx hsent => ?_⟩
  · have hfree : s.qxu.order.find? s.toSend = none := List.find?_eq_none.mpr fun j hj => by simp [hnot (hnone j hj)]
    rw [hwork, doXfetch, hfind, hfree]
    rfl
  have hfound : s.qxu.order.find? s.toSend = some i :=
    find_toSend horder (fun j hj => hnot (hbefore j hj)) ((toSend_iff s i).mpr ⟨x, hx, hsent⟩)
  refine ⟨fun hlink => ?_, fun l hlink => ?_⟩
  · rw [hwork, doXfetch, hfind, hfound]
    simp only [arrive_entry, hx, arrive_chooseLink, hlink, arrive_qxu]
    rfl
  let y := fetched x l ((arrive f s).unreportedOf x.account)
  have hdone : doXfetch (arrive f s) =
      replyWith .ok (exchangeBytes i (s.entry i).use y l ((arrive f s).partnerHnc x.slot))
        ((arrive f s).setEntry i { s.entry i with ex := some y }) := by
    rw [doXfetch, hfind, hfound]
    simp only [arrive_entry, hx, arrive_chooseLink, hlink]
    rfl
  have hcharge (a : Account) (ha : s.account x.account = some a) : (arrive f s).unreportedOf x.account = a.unreported := by
    simp [State.unreportedOf, ha]
  obtain ⟨hlength, h0, h1, h3, h4, h5, h6, h8, h16, h19, h20, h26⟩ :=
    exchangeBytes_fields i (s.entry i).use y l ((arrive f s).partnerHnc x.slot)
  refine ⟨_, y, hwork.trans (by rw [hdone, deliver_replyWith]; rfl), rfl, fun hfirst => ?_, fun hsecond => ?_, fun hk => ?_,
    fun hk a ha => ?_, hlength, h0, h1, ?_, h4, h5, h6, h8, fun v q r hv hq hr => ?_, fun hk => ⟨?_, ?_⟩,
    fun hk => ⟨?_, fun a ha => ?_⟩, ?_⟩
  · simp [y, fetched, hfirst]
  · simp [y, fetched, hsecond]
  · simp [y, fetched, hk]
  · simp [y, fetched, hk, hcharge a ha]
  · rw [h3]
    show xkindByte x.kind = _
    cases x.kind <;> rfl
  · rw [h16]
    simp [State.partnerHnc, hv, hq, hr]
  · rw [h19]
    exact if_pos hk
  · rw [h20, if_pos (show y.kind = .authorize from hk)]
    rfl
  · rw [h19]
    exact if_neg hk
  · rw [h20, if_neg (show ¬ y.kind = .authorize from hk)]
    simp [y, fetched, hk, hcharge a ha]
  · rw [h26]
    show beBytes 4 (if x.kind = .quota then x.request else 0) = _
    split
    · rfl
    · rfl

/-! ### The owed EXCHANGE notice (R79) -/

theorem owedNotice : Claims.OwedNotice := by
  intro s sent clear
  have hnot {m : Nat} (h : sent m) : s.toSend m = false := by
    rw [← Bool.not_eq_true, toSend_iff]
    rintro ⟨x, hx, hwaits⟩
    simp [h x hx] at hwaits
  refine ⟨fun hclear => by simp [giveOwed, hclear], fun howed hall => ?_, fun howed before i after x horder hbefore hx hsent => ?_⟩
  · have hnone : s.qxu.order.find? s.toSend = none := List.find?_eq_none.mpr fun m hm => by simp [hnot (hall m hm)]
    simp [giveOwed, howed, hnone, clear]
  · have hfound : s.qxu.order.find? s.toSend = some i :=
      find_toSend horder (fun m hm => hnot (hbefore m hm)) ((toSend_iff s i).mpr ⟨x, hx, hsent⟩)
    have hentry : (clear.entry i) = s.entry i := rfl
    simp only [giveOwed, howed, if_true, hfound]
    show exchangeNotice i clear = _
    simp only [exchangeNotice, hentry, hx]

/-- Settles O30. -/
theorem fetchExchange : Obligations.FetchExchange := ⟨exchangeLink, fetchExchange_claim, owedNotice⟩

end Sys2Proof.Machine
end

section
/-! PROOFS. What the operations of chapters 3 to 6 do to the port: they give notices behind those that stand there, and
leave the rest of it as it was. -/

namespace Sys2Proof.Machine

/-- The port is the one given but for notices, and new ones stand behind those it held (R198). -/
structure Told (q : Rqp) (s : State) : Prop where
  kept : s.rqp = { q with notices := s.rqp.notices, overflow := s.rqp.overflow }
  behind : ∃ new, s.rqp.notices = q.notices ++ new

variable {q : Rqp} {s : State}

theorem told_self (s : State) : Told s.rqp s := ⟨rfl, [], (List.append_nil _).symm⟩

theorem Told.portKept {s t : State} (h : Told s.rqp t) : PortKept s t := h.kept

theorem Told.noticesKept {s t : State} (h : Told s.rqp t) : NoticesKept s t := h.behind

/-- What leaves the port alone tells nothing. -/
theorem told_of_rqp {t : State} (ht : t.rqp = s.rqp) (h : Told q s) : Told q t := by
  obtain ⟨hkept, hbehind⟩ := h
  rw [← ht] at hkept hbehind
  exact ⟨hkept, hbehind⟩

theorem told_withVrg (b : Vrg) (h : Told q s) : Told q (s.withVrg b) := ⟨h.kept, h.behind⟩

theorem told_withChu (b : Chu) (h : Told q s) : Told q (s.withChu b) := ⟨h.kept, h.behind⟩

theorem told_withQxu (b : Qxu) (h : Told q s) : Told q (s.withQxu b) := ⟨h.kept, h.behind⟩

theorem told_setSlot (i : Nat) (e : Slot) (h : Told q s) : Told q (s.setSlot i e) := ⟨h.kept, h.behind⟩

theorem told_setPartner (i : Nat) (e : Option Partner) (h : Told q s) : Told q (s.setPartner i e) := ⟨h.kept, h.behind⟩

theorem told_setAccount (i : Nat) (e : Option Account) (h : Told q s) : Told q (s.setAccount i e) := ⟨h.kept, h.behind⟩

theorem told_setEntry (i : Nat) (e : XEntry) (h : Told q s) : Told q (s.setEntry i e) := ⟨h.kept, h.behind⟩

theorem told_setLink (i : Link) (l : LinkRec) (h : Told q s) : Told q (s.setLink i l) := ⟨h.kept, h.behind⟩

theorem told_setPath (r : Nat) (c : TrafficClass) (p : Path) (h : Told q s) : Told q (s.setPath r c p) :=
  ⟨h.kept, h.behind⟩

theorem told_updVisitor (i : Nat) (g : Visitor → Visitor) (h : Told q s) : Told q (s.updVisitor i g) :=
  told_of_rqp (by simp) h

theorem told_updQuota (i : Nat) (g : Quota → Quota) (h : Told q s) : Told q (s.updQuota i g) :=
  told_of_rqp (by simp) h

theorem told_giveNotice (k : NoticeKind) (j : Subject) (d v1 v2 v3 v4 v5 : Byte) (h : Told q s) :
    Told q (giveNotice k j d v1 v2 v3 v4 v5 s) := by
  obtain ⟨hkept, new, hnew⟩ := h
  unfold giveNotice
  split
  · exact ⟨by rw [hkept]; rfl, new ++ [⟨k, j, d, v1, v2, v3, v4, v5, s.rqp.shipTime⟩], by simp [hnew]⟩
  · exact ⟨by rw [hkept]; rfl, new, by simpa using hnew⟩

/-- A fold over any list tells in its steps. -/
theorem told_foldl {β : Type} {f : State → β → State} (hf : ∀ {s} b, Told q s → Told q (f s b)) (l : List β) {s : State}
    (h : Told q s) : Told q (l.foldl f s) := by
  induction l generalizing s with
  | nil => exact h
  | cons b l ih => exact ih (hf b h)

/-- So does a fold that counts beside the state. -/
theorem told_foldl_fst {β γ : Type} {f : State × γ → β → State × γ} (hf : ∀ a b, Told q a.1 → Told q (f a b).1) (l : List β)
    {a : State × γ} (h : Told q a.1) : Told q (l.foldl f a).1 := by
  induction l generalizing a with
  | nil => exact h
  | cons b l ih => exact ih (hf a b h)

/-! ### Accounts, partners and plans -/

theorem told_accountTaken (h : Told q s) : Told q (accountTaken s) := by
  unfold accountTaken
  extract_lets n b s1
  have h1 : Told q s1 := told_withChu _ h
  split
  · exact told_giveNotice _ _ _ _ _ _ _ _ (told_withChu _ h1)
  · exact h1

theorem told_commitAccount (i : Nat) (a : Account) (hit : Bool) (h : Told q s) : Told q (commitAccount i a hit s) := by
  unfold commitAccount
  extract_lets s1
  have h1 : Told q s1 := told_setAccount _ _ h
  split
  · exact told_giveNotice _ _ _ _ _ _ _ _ h1
  · exact h1

theorem told_updAccount (i : Nat) (g : Account → Account) (h : Told q s) : Told q (s.updAccount i g) := by
  unfold State.updAccount
  split
  · exact told_setAccount _ _ h
  · exact h

theorem told_closeOut (i : Nat) (p : Option Partner) (h : Told q s) : Told q (closeOut i p s).1 := by
  unfold closeOut
  split
  · exact told_commitAccount _ _ _ h
  · exact h

theorem told_takeAccount (i : Nat) (sid hnc : Digits) (h : Told q s) : Told q (takeAccount i sid hnc s) := by
  unfold takeAccount
  split
  · exact told_setAccount _ _ h
  · exact told_accountTaken (told_setAccount _ _ h)

theorem told_updVisitors (p : Option Nat) (g : Nat → Nat) (h : Told q s) : Told q (s.updVisitors p g) := by
  unfold State.updVisitors
  repeat' split
  all_goals simp only [h, told_setPartner]

/-! ### Exchanges and the gate -/

theorem told_exchangeNotice (i : Nat) (h : Told q s) : Told q (exchangeNotice i s) := by
  unfold exchangeNotice
  split
  · exact told_giveNotice _ _ _ _ _ _ _ _ h
  · exact h

theorem told_noticeToSend (i : Nat) (h : Told q s) : Told q (noticeToSend i s) := by
  unfold noticeToSend
  split
  · exact told_exchangeNotice _ h
  · exact told_withQxu _ h

theorem told_giveOwed (h : Told q s) : Told q (giveOwed s) := by
  unfold giveOwed
  extract_lets b s1
  have h1 : Told q s1 := told_withQxu _ h
  repeat' split
  all_goals simp only [h, h1, told_exchangeNotice]

theorem told_createExchange (i slot : Nat) (k : XKind) (h : Told q s) : Told q (createExchange i slot k s) :=
  told_noticeToSend _ (told_updVisitor _ _ (told_withQxu _ (told_setEntry _ _ h)))

theorem told_requestExchange (slot : Nat) (k : XKind) (h : Told q s) : Told q (requestExchange slot k s) := by
  unfold requestExchange
  split
  · exact told_createExchange _ _ _ h
  · exact told_updVisitor _ _ (told_withQxu _ h)

theorem told_serveDeferred (i : Nat) (h : Told q s) : Told q (serveDeferred i s) := by
  unfold serveDeferred
  split
  · exact told_createExchange _ _ _ (told_withQxu _ h)
  · exact h

theorem told_freeEntry (i : Nat) (h : Told q s) : Told q (freeEntry i s) := by
  unfold freeEntry
  split
  · exact told_serveDeferred _ (told_updVisitor _ _ (told_withQxu _ (told_setEntry _ _ h)))
  · exact h

theorem told_leaveDeferred (slot : Nat) (h : Told q s) : Told q (leaveDeferred slot s) :=
  told_updVisitor _ _ (told_withQxu _ h)

theorem told_shutGate (slot : Nat) (c : Byte) (h : Told q s) : Told q (shutGate slot c s) := by
  unfold shutGate
  extract_lets s1
  have h1 : Told q s1 := told_updQuota _ _ h
  repeat' split
  all_goals simp only [h, h1, told_giveNotice]

theorem told_gateEvaluation (slot : Nat) (h : Told q s) : Told q (gateEvaluation slot s) := by
  unfold gateEvaluation
  repeat' split
  all_goals simp only [h, told_updQuota, told_requestExchange, told_shutGate]

theorem told_reorderCheck (slot : Nat) (h : Told q s) : Told q (reorderCheck slot s) := by
  unfold reorderCheck
  repeat' split
  all_goals simp only [h, told_requestExchange]

theorem told_becameActive (slot : Nat) (h : Told q s) : Told q (becameActive slot s) := by
  unfold becameActive
  repeat' split
  all_goals simp only [h, told_gateEvaluation, told_requestExchange]

theorem told_stopQuota (slot : Nat) (h : Told q s) : Told q (stopQuota slot s) := told_updQuota _ _ h

/-! ### The visitor register -/

theorem told_activity (slot : Nat) (h : Told q s) : Told q (activity slot s) := told_updVisitor _ _ (told_withVrg _ h)

theorem told_suspend (slot : Nat) (h : Told q s) : Told q (suspend slot s) := told_updVisitor _ _ h

theorem told_activate (slot : Nat) (h : Told q s) : Told q (activate slot s) := told_updVisitor _ _ h

theorem told_becomeFree (slot : Nat) (h : Told q s) : Told q (becomeFree slot s) := by
  unfold becomeFree
  split
  · exact told_updVisitors _ _ (told_setSlot _ _ h)
  · exact h

theorem told_retireSteps (slot : Nat) (r : RetireReason) (h : Told q s) : Told q (retireSteps slot r s) := by
  unfold retireSteps
  extract_lets e s1 s2 s3 b s4 s5
  have h2 : Told q s2 := by
    have h1 : Told q s1 := told_setSlot _ _ h
    unfold s2
    split
    · exact told_freeEntry _ h1
    · exact h1
  have h5 : Told q s5 := told_stopQuota _ (told_updVisitor _ _ (told_withVrg _ (told_leaveDeferred _ h2)))
  split
  · split
    · exact h5
    · exact told_updAccount _ _ (told_closeOut _ _ h5)
  · exact h5

theorem told_departOrFree (slot : Nat) (h : Told q s) : Told q (departOrFree slot s) := by
  unfold departOrFree
  extract_lets s1
  have h1 : Told q s1 := told_updVisitor _ _ h
  repeat' split
  all_goals simp only [h, h1, told_requestExchange, told_freeEntry, told_becomeFree]

theorem told_retire (slot : Nat) (r : RetireReason) (h : Told q s) : Told q (retire slot r s) := by
  unfold retire
  extract_lets s1
  have h1 : Told q s1 := told_departOrFree _ (told_retireSteps _ _ h)
  split
  · exact told_giveNotice _ _ _ _ _ _ _ _ h1
  · exact h1

theorem told_evict (slot : Nat) (h : Told q s) : Told q (evict slot s) := by
  unfold evict
  extract_lets s1 s2 s3
  have h1 : Told q s1 := told_retireSteps _ _ h
  have h2 : Told q s2 := by
    unfold s2
    split
    · exact told_updAccount _ _ h1
    · exact h1
  have h3 : Told q s3 := by
    unfold s3
    split
    · exact told_freeEntry _ (told_becomeFree _ h2)
    · exact told_becomeFree _ h2
  exact told_giveNotice _ _ _ _ _ _ _ _ h3

theorem told_startOfMuting (h : Told q s) : Told q (startOfMuting s).1 := by
  refine told_foldl_fst (fun a i ha => ?_) _ h
  split <;> simp only [told_suspend, told_retire, ha]

theorem told_authorizationAdmit (slot : Nat) (b : Byte) (h : Told q s) : Told q (authorizationAdmit slot b s) := by
  unfold authorizationAdmit
  split
  · refine told_giveNotice _ _ _ _ _ _ _ _ ?_
    split
    · exact told_becameActive _ (told_activate _ h)
    · exact told_gateEvaluation _ (told_suspend _ h)
  · exact h

theorem told_finalAfterQuota (slot : Nat) (h : Told q s) : Told q (finalAfterQuota slot s) := by
  unfold finalAfterQuota finalReportingEnd
  split
  · exact told_becomeFree _ h
  · exact told_becomeFree _ h
  · exact told_requestExchange _ _ h

theorem told_refuseQuota (slot : Nat) (c : Byte) (h : Told q s) : Told q (refuseQuota slot c s) :=
  told_shutGate _ _ (told_updQuota _ _ h)

theorem told_applySecondFailure (x : Exchange) (h : Told q s) : Told q (applySecondFailure x s) := by
  unfold applySecondFailure finalReportingEnd
  repeat' split
  all_goals simp only [h, told_authorizationAdmit, told_retire, told_finalAfterQuota, told_refuseQuota, told_becomeFree,
    told_updAccount]

theorem told_requeue (i : Nat) (x : Exchange) (h : Told q s) : Told q (requeue i x s) :=
  told_noticeToSend _ (told_updVisitor _ _ (told_withQxu _ (told_setEntry _ _ h)))

theorem told_failExchange (i : Nat) (h : Told q s) : Told q (failExchange i s) := by
  unfold failExchange
  repeat' split
  all_goals simp only [h, told_applySecondFailure, told_freeEntry, told_requeue]

theorem told_linksLeave (lost : Link → Bool) (h : Told q s) : Told q (linksLeave lost s) := by
  refine told_foldl (fun i h => ?_) _ h
  repeat' split
  all_goals simp only [h, told_failExchange]

/-! ### Paths and links -/

theorem told_movePath (r : Nat) (c : TrafficClass) (st : PathState) (m : Option MoveReason) (d : Byte) (a b : Option Link)
    (h : Told q s) : Told q (movePath r c st m d a b s) := told_giveNotice _ _ _ _ _ _ _ _ (told_setPath _ _ _ h)

theorem told_startPreparing (r : Nat) (c : TrafficClass) (a b : Link) (m : MoveReason) (h : Told q s) :
    Told q (startPreparing r c a b m s) := told_movePath _ _ _ _ _ _ _ h

theorem told_hardSwitch (r : Nat) (c : TrafficClass) (t : Option Link) (m : Option MoveReason) (h : Told q s) :
    Told q (hardSwitch r c t m s) := by
  cases t <;> exact told_movePath _ _ _ _ _ _ _ h

theorem told_enterReleasing (r : Nat) (c : TrafficClass) (a b : Link) (h : Told q s) : Told q (enterReleasing r c a b s) :=
  told_movePath _ _ _ _ _ _ _ h

theorem told_reselectSteady (r : Nat) (c : TrafficClass) (a : Link) (m : MoveReason) (h : Told q s) :
    Told q (reselectSteady r c a m s) := by
  unfold reselectSteady
  repeat' split
  all_goals simp only [h, told_startPreparing, told_hardSwitch]

theorem told_enterSteady (r : Nat) (c : TrafficClass) (a : Link) (h : Told q s) : Told q (enterSteady r c a s) :=
  told_reselectSteady _ _ _ _ (told_setPath _ _ _ h)

theorem told_abandon (r : Nat) (c : TrafficClass) (a b : Link) (h : Told q s) : Told q (abandon r c a b s) :=
  told_enterSteady _ _ _ (told_movePath _ _ _ _ _ _ _ h)

theorem told_reselect (r : Nat) (c : TrafficClass) (m : MoveReason) (h : Told q s) : Told q (reselect r c m s) := by
  unfold reselect
  dsimp only
  repeat' split
  all_goals simp only [h, told_reselectSteady, told_startPreparing, told_hardSwitch, told_abandon, told_enterReleasing]

theorem told_reselectRoute (r : Nat) (m : MoveReason) (h : Told q s) : Told q (reselectRoute r m s) :=
  told_foldl (fun _ h => told_reselect _ _ _ h) _ h

theorem told_reselectAll (m : MoveReason) (h : Told q s) : Told q (reselectAll m s) :=
  told_foldl (fun _ h => told_reselectRoute _ _ h) _ h

theorem told_changeLink (i : Link) (l : LinkRec) (c : LinkCause) (h : Told q s) : Told q (changeLink i l c s) := by
  unfold changeLink
  extract_lets old l' s1 s2
  have h1 : Told q s1 := told_giveNotice _ _ _ _ _ _ _ _ (told_setLink _ _ h)
  refine told_reselectAll _ ?_
  unfold s2
  repeat' split
  all_goals simp only [h1, told_linksLeave, told_giveOwed]

end Sys2Proof.Machine
end

section
/-! PROOFS. The credit of a visitor: asking for an exchange, the reorder check and the gate (chapter 4). -/

namespace Sys2Proof.Machine

variable {s t u : State}

/-! ### Asking for an exchange -/

/-- The lowest free entry of the table, or none is free. -/
theorem lowest_free_or_full (s : State) :
    (∃ j < 64, (s.entry j).ex = none ∧ ∀ m < j, (s.entry m).ex.isSome) ∨ ∀ j < 64, (s.entry j).ex.isSome := by
  by_cases hfull : ∀ j < 64, (s.entry j).ex.isSome
  · exact .inr hfull
  · push Not at hfull
    have hsome : ∃ j, j < 64 ∧ ¬ (s.entry j).ex.isSome := by simpa using hfull
    have hlow := Nat.find_spec hsome
    refine .inl ⟨Nat.find hsome, hlow.1, by simpa using hlow.2, fun m hm => ?_⟩
    have hnot := Nat.find_min hsome hm
    by_contra hfree
    exact hnot ⟨hm.trans hlow.1, hfree⟩

theorem firstIndex_free {j : Nat} (hj : j < 64) (hfree : (s.entry j).ex = none) (hbelow : ∀ m < j, (s.entry m).ex.isSome) :
    firstIndex xentryReset (fun e => e.ex.isNone) s.qxu.entries Config.exchanges 0 = some j := by
  refine firstIndex_eq_some hj ?_ fun m hm => ?_
  · show (s.entry j).ex.isNone = true
    simp [hfree]
  · show (s.entry m).ex.isNone = false
    have h := hbelow m hm
    cases hx : (s.entry m).ex <;> simp_all

/-- A visitor that has been asked an exchange for has one, or waits for one. -/
theorem QuotaAsked.hasExchange {i : Nat} {v w : Visitor} {told : List Notice} (h : QuotaAsked s t i v w told) :
    w.xref.isSome ∨ w.deferred = true := by
  obtain ⟨hfree, hfull⟩ := h
  obtain ⟨j, hj, hex, hbelow⟩ | hall := lowest_free_or_full s
  · obtain ⟨hxref, -⟩ := hfree j hj hex hbelow
    exact .inl (by rw [hxref]; rfl)
  · exact .inr (hfull hall).2.1

/-- What two states agree on where an exchange asked for in the one is the exchange asked for in the other. -/
structure AsksAlike (s s' : State) (i : Nat) : Prop where
  qxu : s'.qxu = s.qxu
  gen : (s'.slot i).gen = (s.slot i).gen
  sid : (s'.slot i).sid = (s.slot i).sid
  account : (s'.slot i).account = (s.slot i).account
  settings : s'.rqp.settings = s.rqp.settings
  shipTime : s'.rqp.shipTime = s.rqp.shipTime
  request : ∀ p, (s'.partner p).map (·.request) = (s.partner p).map (·.request)
  eligible : ∀ l, s'.eligible l = s.eligible l

theorem AsksAlike.refl (s : State) (i : Nat) : AsksAlike s s i := ⟨rfl, rfl, rfl, rfl, rfl, rfl, fun _ => rfl, fun _ => rfl⟩

/-- An exchange asked for stays asked for where the visitor's other fields move and where notices stand before its own. -/
theorem QuotaAsked.transfer {s' t' : State} {i : Nat} {v v' w w' : Visitor} {told : List Notice}
    (h : QuotaAsked s' t' i v' w' []) (hs : AsksAlike s s' i) (htold : Gives s s' told)
    (hcls : v.cls = v'.cls) (hpartner : v.partner = v'.partner) (hxref : v.xref = v'.xref)
    (hw : w.xref = w'.xref) (hd : w.deferred = w'.deferred)
    (hqxu : t.qxu = t'.qxu) (htail : Gives t' t []) :
    QuotaAsked s t i v w told := by
  have hentry (j : Nat) : s'.entry j = s.entry j := by rw [State.entry, State.entry, hs.qxu]
  have hentry' (j : Nat) : t.entry j = t'.entry j := by rw [State.entry, State.entry, hqxu]
  have hsettings : s'.settings = s.settings := hs.settings
  have hgives {x : List Notice} (hx : Gives s' t' x) : Gives s t (told ++ x) :=
    by simpa using (htold.trans hx).trans htail
  have hrequest : ((v'.partner.bind s'.partner).map (·.request)).getD 0 =
      ((v.partner.bind s.partner).map (·.request)).getD 0 := by
    rw [hpartner]
    cases v'.partner with
    | none => rfl
    | some p => exact congrArg (Option.getD · 0) (hs.request p)
  obtain ⟨hfree, hfull⟩ := h
  refine ⟨fun j hj hex hbelow => ?_, fun hall => ?_⟩
  · rw [← hentry] at hex
    obtain ⟨h1, h2, h3, h4, h5, h6, h7, h8⟩ := hfree j hj hex fun m hm => by rw [hentry]; exact hbelow m hm
    rw [hentry] at h1
    refine ⟨hw.trans h1, hd.trans h2, ?_, fun m hm => ?_, ?_, ?_, fun hlinked => ?_, fun hnot => ?_⟩
    · rw [hentry', h3, hentry, hs.gen, hs.account, hs.sid, hcls, hrequest, hsettings]
    · rw [hentry', h4 m hm, hentry]
    · rw [hqxu, h5, hs.qxu]
    · rw [hqxu, h6, hs.qxu]
    · obtain ⟨howed, hg⟩ := h7 (by simpa [State.settings, hs.settings, hs.eligible] using hlinked)
      rw [hentry, hs.shipTime] at hg
      exact ⟨by rw [hqxu, howed, hs.qxu], hgives hg⟩
    · obtain ⟨howed, hg⟩ := h8 (by simpa [State.settings, hs.settings, hs.eligible] using hnot)
      exact ⟨by rw [hqxu, howed], by simpa using hgives hg⟩
  · obtain ⟨h1, h2, h3, h4, a, b, h5, h6, h7, h8⟩ := hfull fun j hj => by rw [hentry]; exact hall j hj
    rw [hs.qxu] at h3 h5
    refine ⟨hw.trans (h1.trans hxref.symm), hd.trans h2, ?_, by simpa using hgives h4, a, b, h5, ?_, h7, h8⟩
    · rw [hqxu]
      exact h3
    · rw [hqxu]
      exact h6

/-! ### The gate (R70, R71) -/

theorem updQuota_of {i : Nat} {v : Visitor} {q : Quota} (g : Quota → Quota) (hv : s.visitor i = some v)
    (hq : v.quota = some q) :
    s.updQuota i g = s.setSlot i { s.slot i with visitor := some { v with quota := some (g q) } } := by
  rw [State.updQuota, updVisitor_of_visitor _ hv, hq]
  rfl

theorem setSlot_slot_other {i j : Nat} {e : Slot} (h : j ≠ i) : (s.setSlot i e).slot j = s.slot j := by
  rw [State.setSlot_slot, if_neg (Ne.symm h)]

/-- A gate that is written where no exchange is asked for, and no notice is due (R70). -/
theorem creditSettled_write {i : Nat} {v : Visitor} {q : Quota} {asks : Prop} {g : Gate} (hv : s.visitor i = some v)
    (hq : v.quota = some q) (hg : gateAfter v q = g) (hasks : ¬ asks)
    (hsilent : q.retry = none → g = .shut → q.gate = .shut) :
    CreditSettled s (s.updQuota i fun q => { q with gate := g }) i v q asks [] := by
  subst hg
  rw [updQuota_of _ hv hq]
  refine ⟨_, State.setSlot_slot_self .., rfl, fun h => absurd h hasks, fun _ => ⟨rfl, rfl, rfl, fun hshuts => ?_, fun _ => ?_⟩⟩
  · obtain ⟨hretry, hshut, hne⟩ := hshuts
    exact absurd (hsilent hretry hshut) hne
  · exact gives_nil rfl rfl

/-- A visitor that has no exchange, none of the sort to be had, and no credit: its gate shuts, with its notice where it was
not SHUT (R70 case 5, R71). -/
theorem creditSettled_shut {i : Nat} {v : Visitor} {q : Quota} {asks : Prop} (hv : s.visitor i = some v)
    (hq : v.quota = some q) (hg : gateAfter v q = .shut) (hretry : q.retry = none) (hasks : ¬ asks) :
    CreditSettled s (shutGate i 0 s) i v q asks [] := by
  have hquota : s.quota i = some q := by rw [State.quota, hv]; exact hq
  have hset : s.updQuota i (fun q => { q with gate := .shut }) =
      s.setSlot i { s.slot i with visitor := some { v with quota := some { q with gate := .shut } } } := updQuota_of _ hv hq
  simp only [shutGate, hquota, hset]
  by_cases hwas : q.gate = .shut
  · rw [if_pos hwas]
    refine ⟨_, State.setSlot_slot_self .., by rw [hg], fun h => absurd h hasks, fun _ => ⟨rfl, rfl, rfl, fun hshuts => ?_, fun _ => ?_⟩⟩
    · exact absurd hwas hshuts.2.2
    · exact gives_nil rfl rfl
  · rw [if_neg hwas]
    have hslot (d : Byte) : (giveNotice .visitor (.slot i) 6 d 0 0 0 0
        (s.setSlot i { s.slot i with visitor := some { v with quota := some { q with gate := .shut } } })).slot i =
        { s.slot i with visitor := some { v with quota := some { q with gate := .shut } } } := by
      rw [State.slot, giveNotice_vrg]
      exact State.setSlot_slot_self ..
    refine ⟨_, hslot 0, by rw [hg], fun h => absurd h hasks, fun _ => ⟨rfl, rfl, giveNotice_qxu .., fun _ => ?_, fun hnot => ?_⟩⟩
    · exact gives_giveNotice .visitor (.slot i) 6 0 0 0 0 0
        (s.setSlot i { s.slot i with visitor := some { v with quota := some { q with gate := .shut } } })
    · exact absurd ⟨hretry, hg, hwas⟩ hnot

/-- What the gate evaluation asks an exchange for (R70 case 4). -/
def GateAsks (v : Visitor) (q : Quota) : Prop :=
  v.xref = none ∧ v.deferred = false ∧ q.final = false ∧ q.retry = none ∧ q.remaining ≤ 0

theorem hasExchange_iff (v : Visitor) : hasExchange v = true ↔ v.xref.isSome ∨ v.deferred = true := by
  simp [hasExchange]

theorem hasExchange_eq_false (v : Visitor) : hasExchange v = false ↔ v.xref = none ∧ v.deferred = false := by
  simp [hasExchange]

/-- The gate evaluation of a present visitor with a quota part (R70), whatever it finds. -/
theorem gateEvaluation_settles {i : Nat} {v : Visitor} {q : Quota} (hv : s.visitor i = some v) (hp : v.state ≠ .departing)
    (hq : v.quota = some q) :
    CreditSettled s (gateEvaluation i s) i v q (GateAsks v q) [] ∧ ∀ j, j ≠ i → (gateEvaluation i s).slot j = s.slot j := by
  have hpresent : present v = true := by simpa [present] using hp
  have hwrite (g : Gate) (j : Nat) (hj : j ≠ i) : (s.updQuota i fun q => { q with gate := g }).slot j = s.slot j := by
    rw [updQuota_of _ hv hq, setSlot_slot_other hj]
  simp only [gateEvaluation, hv, hq, hpresent, Bool.not_true, Bool.false_eq_true, if_false]
  split
  next hretry =>
    refine ⟨creditSettled_write hv hq (by simp [gateAfter, hretry]) (fun h => by simp [h.2.2.2.1] at hretry) fun hn => ?_,
      hwrite _⟩
    simp [hn] at hretry
  next hretry =>
  have hretry : q.retry = none := by simpa using hretry
  split
  next hcredit =>
    exact ⟨creditSettled_write hv hq (gateAfter_opened hretry hcredit) (fun h => absurd hcredit (not_lt.mpr h.2.2.2.2))
      (fun _ h => by cases h), hwrite _⟩
  next hcredit =>
  split
  next hhas =>
    refine ⟨creditSettled_write hv hq ?_ (fun h => ?_) (fun _ h => by cases h), hwrite _⟩
    · obtain h | h := (hasExchange_iff v).mp hhas <;> simp [gateAfter, hretry, hcredit, h]
    · rw [(hasExchange_eq_false v).mpr ⟨h.1, h.2.1⟩] at hhas
      cases hhas
  next hhas =>
  have hnone := (hasExchange_eq_false v).mp (by simpa using hhas)
  split
  next hfinal =>
    have hfinal : q.final = false := by simpa using hfinal
    obtain ⟨w, hslot, hw, hothers, hasked⟩ := requestExchange_quota hv
    have hvis : (requestExchange i .quota s).visitor i = some w := by rw [State.visitor, hslot]
    have hwq : w.quota = some q := by rw [hw]; exact hq
    rw [updQuota_of _ hvis hwq]
    refine ⟨⟨{ w with quota := some { q with gate := .waiting } }, ?_, ?_, fun _ => ?_, fun hnot => ?_⟩, fun j hj => ?_⟩
    · rw [State.setSlot_slot_self, hslot]
    · have hg : gateAfter v q = .waiting := by simp [gateAfter, hretry, hcredit, hfinal]
      rw [hg, hw]
    · exact hasked.transfer (AsksAlike.refl s i) (gives_nil rfl rfl) rfl rfl rfl rfl rfl rfl (gives_nil rfl rfl)
    · exact absurd ⟨hnone.1, hnone.2, hfinal, hretry, not_lt.mp hcredit⟩ hnot
    · rw [setSlot_slot_other hj, hothers j hj]
  next hfinal =>
    have hfinal : q.final = true := by simpa using hfinal
    refine ⟨creditSettled_shut hv hq ?_ hretry fun h => ?_, fun j hj => ?_⟩
    · simp [gateAfter, hretry, hcredit, hfinal, hnone.1, hnone.2]
    · rw [h.2.2.1] at hfinal
      cases hfinal
    · have hquota : s.quota i = some q := by rw [State.quota, hv]; exact hq
      simp only [shutGate, hquota]
      split
      · exact hwrite _ j hj
      · rw [State.slot, giveNotice_vrg]
        exact hwrite _ j hj

/-- A visitor that an exchange is asked for first, and whose gate is evaluated then (R69, R72, R73). -/
theorem askThenGate_settles {i : Nat} {v : Visitor} {q : Quota} {early : Prop} [Decidable early] (hv : s.visitor i = some v)
    (hp : v.state ≠ .departing) (hq : v.quota = some q) (hearly : early → v.xref = none ∧ v.deferred = false ∧ q.final = false) :
    let t := gateEvaluation i (if early then requestExchange i .quota s else s)
    CreditSettled s t i v q (early ∨ GateAsks v q) [] ∧ ∀ j, j ≠ i → t.slot j = s.slot j := by
  intro t
  by_cases h : early
  · obtain ⟨hxref, hdeferred, hfinal⟩ := hearly h
    have ht : t = gateEvaluation i (requestExchange i .quota s) := congrArg (gateEvaluation i) (if_pos h)
    obtain ⟨w, hslot, hw, hothers, hasked⟩ := requestExchange_quota hv
    have hvis : (requestExchange i .quota s).visitor i = some w := by rw [State.visitor, hslot]
    have hwq : w.quota = some q := by rw [hw]; exact hq
    have hws : w.state ≠ .departing := by rw [hw]; exact hp
    have hhas := hasked.hasExchange
    obtain ⟨⟨w', hslot', hw', -, hgate⟩, hothers'⟩ := gateEvaluation_settles hvis hws hwq
    have hnot : ¬ GateAsks w q := by
      rintro ⟨h1, h2, -⟩
      simp [h1, h2] at hhas
    obtain ⟨hx, hd, hqxu, -, hsilent⟩ := hgate hnot
    have hafter : gateAfter w q = gateAfter v q := by
      have hwaits : w.xref.isSome ∨ w.deferred = true ∨ q.final = false := .inr (.inr hfinal)
      have hwaits' : v.xref.isSome ∨ v.deferred = true ∨ q.final = false := .inr (.inr hfinal)
      simp only [gateAfter, hwaits, hwaits', if_true]
    have hgives : Gives (requestExchange i .quota s) t [] := by
      rw [ht]
      refine hsilent fun ⟨hretry, hshut, _⟩ => ?_
      have hwaits : w.xref.isSome ∨ w.deferred = true ∨ q.final = false := .inr (.inr hfinal)
      simp only [gateAfter, hretry, hwaits, if_true, Option.isSome_none, Bool.false_eq_true, if_false] at hshut
      split at hshut <;> cases hshut
    have hqxu' : t.qxu = (requestExchange i .quota s).qxu := by rw [ht]; exact hqxu
    refine ⟨⟨w', ?_, ?_, fun _ => ?_, fun hno => absurd (.inl h) hno⟩, fun j hj => ?_⟩
    · rw [ht, hslot', hslot]
    · rw [hafter] at hw'
      rw [hw', hx, hd, hw]
    · exact hasked.transfer (AsksAlike.refl s i) (gives_nil rfl rfl) rfl rfl rfl hx hd hqxu' hgives
    · rw [ht, hothers' j hj, hothers j hj]
  · have ht : t = gateEvaluation i s := congrArg (gateEvaluation i) (if_neg h)
    rw [ht]
    obtain ⟨⟨w, hslot, hw, hasks, hnone⟩, hothers⟩ := gateEvaluation_settles hv hp hq
    exact ⟨⟨w, hslot, hw, fun hor => hasks (hor.resolve_left h), fun hno => hnone fun ha => hno (.inr ha)⟩, hothers⟩

/-- Credit settled on a state that another has led to is credit settled on that one: where the two ask alike, the
visitor's other fields are set before or behind it, and notices stand before its own. -/
theorem CreditSettled.transfer {s' t' : State} {i : Nat} {v v' : Visitor} {q : Quota} {asks asks' : Prop} {told : List Notice}
    {g : Visitor → Visitor} (h : CreditSettled s' t' i v' q asks' []) (hs : AsksAlike s s' i)
    (hreason : (s'.slot i).reason = (s.slot i).reason) (htold : Gives s s' told)
    (hcls : v.cls = v'.cls) (hpartner : v.partner = v'.partner) (hxref : v.xref = v'.xref) (hdeferred : v.deferred = v'.deferred)
    (hg : ∀ a b c, g { v' with quota := a, xref := b, deferred := c } = { v with quota := a, xref := b, deferred := c })
    (hasks : asks ↔ asks') (hslot : t.slot i = { t'.slot i with visitor := (t'.slot i).visitor.map g })
    (hqxu : t.qxu = t'.qxu) (hn : t.rqp.notices = t'.rqp.notices) (ho : t.rqp.overflow = t'.rqp.overflow) :
    CreditSettled s t i v q asks told := by
  have hafter : gateAfter v q = gateAfter v' q := by rw [gateAfter, gateAfter, hxref, hdeferred]
  have hgives {x : List Notice} (hx : Gives s' t' x) : Gives s t (told ++ x) := (htold.trans hx).congr rfl rfl hn ho
  obtain ⟨w, hw, hfields, hasked, hnot⟩ := h
  have hgw : g w = { v with quota := some { q with gate := gateAfter v' q }, xref := w.xref, deferred := w.deferred } := by
    rw [← hg, ← hfields]
  rw [CreditSettled, hafter]
  refine ⟨g w, ?_, ?_, fun ha => ?_, fun hna => ?_⟩
  · rw [hslot, hw]
    show { s'.slot i with visitor := some (g w) } = ({ s.slot i with visitor := some (g w) } : Slot)
    simp only [hs.gen, hs.sid, hs.account, hreason]
  · rw [hgw]
  · exact (hasked (hasks.mp ha)).transfer hs htold hcls hpartner hxref (by rw [hgw]) (by rw [hgw]) hqxu (gives_nil hn ho)
  · obtain ⟨h1, h2, h3, h4, h5⟩ := hnot fun ha => hna (hasks.mpr ha)
    refine ⟨?_, ?_, by rw [hqxu, h3, hs.qxu], fun hshuts => ?_, fun hsilent => ?_⟩
    · rw [hgw, hxref, ← h1]
    · rw [hgw, hdeferred, ← h2]
    · have hx := hgives (h4 hshuts)
      rwa [hs.shipTime] at hx
    · simpa using hgives (h5 hsilent)

/-! ### The expiry of a grant and of a retry wait (R74, R75) -/

/-- Credit settled after the quota part was written alone. -/
theorem CreditSettled.of_updQuota {i : Nat} {v : Visitor} {q : Quota} {g : Quota → Quota} {asks asks' : Prop}
    (hv : s.visitor i = some v) (hq : v.quota = some q)
    (h : CreditSettled (s.updQuota i g) t i { v with quota := some (g q) } (g q) asks' []) (hasks : asks ↔ asks') :
    CreditSettled s t i v (g q) asks [] := by
  rw [updQuota_of g hv hq] at h
  refine h.transfer (g := id) ⟨rfl, ?_, ?_, ?_, rfl, rfl, fun _ => rfl, fun _ => rfl⟩ ?_ (gives_nil rfl rfl) rfl rfl rfl rfl
    (fun _ _ _ => rfl) hasks (by simp) rfl rfl rfl
  all_goals simp only [State.setSlot_slot_self]

theorem visitor_updQuota_self {i : Nat} {v : Visitor} {q : Quota} (g : Quota → Quota) (hv : s.visitor i = some v)
    (hq : v.quota = some q) : (s.updQuota i g).visitor i = some { v with quota := some (g q) } := by
  rw [updQuota_of g hv hq, State.visitor, State.setSlot_slot_self]

theorem slot_updQuota_other {i j : Nat} (g : Quota → Quota) (hj : j ≠ i) : (s.updQuota i g).slot j = s.slot j := by
  unfold State.updQuota State.updVisitor
  split
  · exact setSlot_slot_other hj
  · rfl

/-- What the visitor register holds beside its slots. -/
def desk (s : State) : List Nat × Option Purge := (s.vrg.activity, s.vrg.purge)

theorem vrg_of_desk (h : desk t = desk s) : t.vrg = { s.vrg with slots := t.vrg.slots } := by
  obtain ⟨ha, hp⟩ := Prod.mk.inj h
  simp only [← ha, ← hp]

theorem desk_of_vrg (h : t.vrg = s.vrg) : desk t = desk s := by rw [desk, h]; rfl

@[simp] theorem desk_setSlot (i : Nat) (e : Slot) : desk (s.setSlot i e) = desk s := rfl

@[simp] theorem desk_withQxu (q : Qxu) : desk (s.withQxu q) = desk s := rfl

@[simp] theorem desk_withChu (c : Chu) : desk (s.withChu c) = desk s := rfl

@[simp] theorem desk_setEntry (i : Nat) (e : XEntry) : desk (s.setEntry i e) = desk s := rfl

@[simp] theorem desk_updVisitor (i : Nat) (g : Visitor → Visitor) : desk (s.updVisitor i g) = desk s := by
  unfold State.updVisitor
  split <;> rfl

@[simp] theorem desk_updQuota (i : Nat) (g : Quota → Quota) : desk (s.updQuota i g) = desk s := desk_updVisitor ..

@[simp] theorem desk_giveNotice (k : NoticeKind) (x : Subject) (d v1 v2 v3 v4 v5 : Byte) :
    desk (giveNotice k x d v1 v2 v3 v4 v5 s) = desk s := desk_of_vrg (giveNotice_vrg ..)

@[simp] theorem desk_noticeToSend (i : Nat) : desk (noticeToSend i s) = desk s := desk_of_vrg (noticeToSend_vrg ..)

@[simp] theorem desk_createExchange (i slot : Nat) (k : XKind) : desk (createExchange i slot k s) = desk s := by
  simp [createExchange]

@[simp] theorem desk_requestExchange (slot : Nat) (k : XKind) : desk (requestExchange slot k s) = desk s := by
  unfold requestExchange
  split <;> simp

@[simp] theorem desk_serveDeferred (i : Nat) : desk (serveDeferred i s) = desk s := by
  unfold serveDeferred
  split <;> simp

@[simp] theorem desk_freeEntry (i : Nat) : desk (freeEntry i s) = desk s := by
  unfold freeEntry
  split <;> simp

@[simp] theorem desk_leaveDeferred (slot : Nat) : desk (leaveDeferred slot s) = desk s := by
  simp [leaveDeferred]

@[simp] theorem desk_shutGate (slot : Nat) (c : Byte) : desk (shutGate slot c s) = desk s := by
  unfold shutGate
  dsimp only
  repeat' split
  all_goals simp

@[simp] theorem desk_gateEvaluation (slot : Nat) : desk (gateEvaluation slot s) = desk s := by
  unfold gateEvaluation
  repeat' split
  all_goals simp

@[simp] theorem desk_reorderCheck (slot : Nat) : desk (reorderCheck slot s) = desk s := by
  unfold reorderCheck
  repeat' split
  all_goals simp

/-- What stands outside the visitor side stands with the stage it is served on. -/
theorem outside_of_stage (h : stage t = stage s) (hp : t.pending = s.pending) : OutsideVisitors s t := by
  obtain ⟨h1, h2, h3, h4, h5, -, -⟩ := stage_eq h
  exact ⟨h1, h2, h3, h4, h5, hp⟩

/-- Settles O34. -/
theorem quotaTimers : Obligations.QuotaTimers := by
  intro i v q s hv hq hstate unasked rest
  have hp : v.state ≠ .departing := by
    rintro h
    simp [h] at hstate
  have hrest {t : State} (hothers : ∀ j, j ≠ i → t.slot j = s.slot j) (hdesk : desk t = desk s) (hchu : t.chu = s.chu)
      (hstage : stage t = stage s) (hpending : t.pending = s.pending) (htold : Told s.rqp t) : rest t :=
    ⟨hothers, vrg_of_desk hdesk, hchu, outside_of_stage hstage hpending, htold.portKept⟩
  refine ⟨fun hnone => ?_, fun hnone => ?_, fun n hn => ?_, fun n hn => ?_⟩
  · show Host.Outcome.next (grantPasses i s) = _
    simp [grantPasses, hv, hq, hnone]
  · show Host.Outcome.next (retryPasses i s) = _
    simp [retryPasses, hv, hq, hnone]
  · have hforfeit : forfeit q = { q with expiry := none, remaining := if 0 < q.remaining then 0 else q.remaining } := by
      unfold forfeit
      congr 1
      split <;> omega
    have hdone : grantPasses i s = gateEvaluation i (s.updQuota i forfeit) := by
      rcases hstate with h | h <;> simp [grantPasses, hv, hq, hn, h]
    obtain ⟨hsettled, hothers⟩ := gateEvaluation_settles (visitor_updQuota_self forfeit hv hq) hp rfl
    refine ⟨grantPasses i s, rfl, hrest (fun j hj => ?_) ?_ ?_ ?_ ?_ ?_, ?_⟩
    · rw [hdone, hothers j hj, slot_updQuota_other _ hj]
    · simp [hdone]
    · simp [hdone]
    · simp [hdone]
    · simp [hdone]
    · rw [hdone]
      exact told_gateEvaluation _ (told_updQuota _ _ (told_self s))
    · rw [← hforfeit, hdone]
      refine hsettled.of_updQuota hv hq ?_
      simp only [GateAsks, forfeit, unasked, and_assoc]
      exact and_congr_right fun _ => and_congr_right fun _ => and_congr_right fun _ =>
        ⟨fun h => ⟨h, by omega⟩, fun h => h.1⟩
  · have hdone : retryPasses i s = gateEvaluation i (askAfterWait i (s.updQuota i fun q => { q with retry := none })) := by
      rcases hstate with h | h <;> simp [retryPasses, hv, hq, hn, h]
    have hvis := visitor_updQuota_self (fun q => { q with retry := none }) hv hq
    have hask : askAfterWait i (s.updQuota i fun q => { q with retry := none }) =
        if (!q.final && !hasExchange v) = true then requestExchange i .quota (s.updQuota i fun q => { q with retry := none })
          else s.updQuota i fun q => { q with retry := none } := by
      simp only [askAfterWait, hvis, Option.any_some]
      rfl
    have hunasked : (!q.final && !hasExchange v) = true ↔ unasked := by
      simp only [Bool.and_eq_true, Bool.not_eq_true', hasExchange_eq_false, unasked]
      tauto
    rw [hask] at hdone
    obtain ⟨hsettled, hothers⟩ := askThenGate_settles (early := (!q.final && !hasExchange v) = true) hvis hp rfl hunasked.mp
    refine ⟨retryPasses i s, rfl, hrest (fun j hj => ?_) ?_ ?_ ?_ ?_ ?_, ?_⟩
    · rw [hdone, hothers j hj, slot_updQuota_other _ hj]
    · rw [hdone]
      split <;> simp
    · rw [hdone]
      split <;> simp
    · rw [hdone]
      split <;> simp
    · rw [hdone]
      split <;> simp
    · rw [hdone]
      have hquota := told_updQuota i (fun q => { q with retry := none }) (told_self s)
      split
      · exact told_gateEvaluation _ (told_requestExchange _ _ hquota)
      · exact told_gateEvaluation _ hquota
    · rw [hdone]
      refine hsettled.of_updQuota hv hq ?_
      rw [hunasked]
      simp only [GateAsks, unasked]
      tauto

end Sys2Proof.Machine
end

section
/-! PROOFS. The posts of USAGE (chapter 3). -/

namespace Sys2Proof.Machine

variable {s t u : State} {f : Frame}

/-! ### What a post does to an account -/

/-- A commit of the record `y` over the record `x` of an account: what it leaves, and the notice SATURATED (R58). -/
theorem commitAccount_leaves {i : Nat} {x y : Account} {hit : Bool} (hy : y.saturated = x.saturated) :
    let t := commitAccount i y hit s
    t.account i = some { y with saturated := x.saturated || hit } ∧ (∀ j, j ≠ i → t.account j = s.account j) ∧
      t.chu = { s.chu with accounts := t.chu.accounts } ∧
      Gives s t (if hit = true ∧ x.saturated = false then [⟨.account, .account i, 1, 0, 0, 0, 0, 0, s.rqp.shipTime⟩] else []) := by
  intro t
  have ht : t = ((if hit && !x.saturated then giveNotice .account (.account i) 1 0 0 0 0 0 else id) s).setAccount i
      (some { y with saturated := x.saturated || hit }) := by
    show commitAccount i y hit s = _
    rw [commitAccount_eq, hy]
  have hwhen : (hit && !x.saturated) = true ↔ hit = true ∧ x.saturated = false := by simp
  rw [ht]
  by_cases h : hit = true ∧ x.saturated = false
  · rw [if_pos (hwhen.mpr h), if_pos h]
    refine ⟨State.setAccount_account_self .., fun j hj => ?_, by simp [State.setAccount], ?_⟩
    · rw [State.setAccount_account, if_neg (Ne.symm hj), State.account, giveNotice_chu]
      rfl
    · exact gives_giveNotice .account (.account i) 1 0 0 0 0 0 s
  · rw [if_neg (fun hb => h (hwhen.mp hb)), if_neg h]
    refine ⟨State.setAccount_account_self .., fun j hj => ?_, rfl, gives_nil rfl rfl⟩
    rw [State.setAccount_account, if_neg (Ne.symm hj)]
    rfl

theorem rateAccount_saturated {r : Option RateInputs} {online : Bool} {z : TariffZone} {c : TrafficClass} {up hit : Bool}
    {n charge : Nat} {x y : Account} (h : rateAccount r online z c up n x = (y, charge, hit)) :
    y.saturated = x.saturated := by
  cases r with
  | none =>
    obtain ⟨rfl, -⟩ := Prod.mk.inj h
    rfl
  | some r =>
    rw [rateAccount_some] at h
    obtain ⟨rfl, -⟩ := Prod.mk.inj h
    rfl

/-- The rating of a post of an account that is there. -/
theorem ratePost_some {a : Nat} {p : Option Partner} {c : TrafficClass} {up hit : Bool} {n charge : Nat} {l : Link}
    {x y : Account} (ha : s.account a = some x)
    (hr : rateAccount (s.rateInputs p c l) (isOnline p) s.tariffInForce c up n x = (y, charge, hit)) :
    ratePost a p c up n l s = (commitAccount a y hit s, charge) := by
  simp [ratePost, ha, hr]

theorem isOnline_some (r : Partner) : isOnline (some r) = decide (r.charging = .online) := isOnline_eq (some r)

/-! ### Which post a USAGE is (R47–R51) -/

theorem exec_usage_posted {f : Frame} {h : BitVec 16} {c : TrafficClass} {dir : Byte} {n : BitVec 24} {l : Link}
    (ht : Takes f kUsage s) (hpos : 0 < n.toNat) (hmax : n.toNat ≤ 1048575) (hdir : c = .data → dir.toNat < 2) :
    exec (.usage f h (classByte c) dir n (linkByte l)) s =
      .next (deliver kUsage f.tag (post h c (dir == 0) n.toNat l (arrive f s))) := by
  have hfits : directionFits c dir = true := by
    cases c
    · rfl
    · simpa [directionFits] using hdir rfl
    · rfl
  rw [exec_taken rfl ht]
  simp only [doUsage, classOf_classByte, linkOf_linkByte, hfits, Bool.not_true, Bool.false_eq_true, false_or,
    if_neg (not_lt.mpr hmax), if_neg hpos.ne']
  rfl

theorem gen_of_live {h : BitVec 16} (hl : s.live h = true) : (s.slot (h.toNat / 16)).gen = handleGen h := by
  rw [State.live, Bool.and_eq_true, beq_iff_eq] at hl
  exact hl.2

/-- The post of a live visitor that has an account. -/
theorem post_of_live {h : BitVec 16} {c : TrafficClass} {up : Bool} {n : Nat} {l : Link} {v : Visitor} {a : Nat}
    (hl : s.live h = true) (hv : s.visitor (h.toNat / 16) = some v) (hcls : v.cls ≠ .emergency)
    (ha : (s.slot (h.toNat / 16)).account = some a) :
    post h c up n l s = if v.state = .departing then postDeparting (h.toNat / 16) a (v.partner.bind s.partner) c up n l s
      else postLive (h.toNat / 16) a (v.partner.bind s.partner) c up n l s := by
  have hgen : ¬ (s.slot (handleSlot h)).gen ≠ handleGen h := not_not.mpr (gen_of_live hl)
  have hv' : s.visitor (handleSlot h) = some v := hv
  have ha' : (s.slot (handleSlot h)).account = some a := ha
  rw [post]
  simp only [if_neg hgen, hv', ha', if_neg hcls]
  rfl

/-! ### An activity (R4, R5) -/

/-- A visitor with an activity: the ship time, and the idle limit where it is ACTIVE. -/
def active (d : Settings) (time : BitVec 32) (v : Visitor) : Visitor :=
  { v with
    lastActivity := time
    retire := if v.state = .active then idleLimit d v.cls else v.retire }

theorem activity_eq {i : Nat} {v : Visitor} (hv : s.visitor i = some v) :
    activity i s = (s.withVrg { s.vrg with activity := s.vrg.activity.filter (· != i) ++ [i] }).setSlot i
      { s.slot i with visitor := some (active s.settings s.rqp.shipTime v) } := by
  have h : (s.withVrg { s.vrg with activity := s.vrg.activity.filter (· != i) ++ [i] }).visitor i = some v := hv
  rw [activity, updVisitor_of_visitor _ h]
  rfl

/-- What an activity moves, and what it leaves. -/
theorem activity_leaves {i : Nat} {v : Visitor} (hv : s.visitor i = some v) :
    (activity i s).slot i = { s.slot i with visitor := some (active s.settings s.rqp.shipTime v) } ∧
      (∀ j, j ≠ i → (activity i s).slot j = s.slot j) ∧
      (activity i s).vrg.activity = s.vrg.activity.filter (· != i) ++ [i] ∧ (activity i s).vrg.purge = s.vrg.purge := by
  rw [activity_eq hv]
  exact ⟨State.setSlot_slot_self .., fun j hj => setSlot_slot_other hj, rfl, rfl⟩

/-! ### LIVE posts (R48) -/

/-- The inputs of a rating through a partner. -/
theorem rateInputs_some (r : Partner) (c : TrafficClass) (l : Link) :
    (arrive f s).rateInputs (some r) c l = some ⟨planRate (s.plan r.plan) s.tariffInForce c, (s.link l).cfg.cost,
      qualityFactor (s.link l) (s.plan r.plan).factor⟩ := by
  simp [State.rateInputs, planRate]

/-- Settles O24. -/
theorem usageLive : Obligations.UsageLive := by
  intro f h c dir n l v a p x y r charge hit s ht i hlive hv hcls hstate ha hx hp hr hoff hquota hpos hmax hdir hrate
  have hlive' : (arrive f s).live h = true := (arrive_live ..).trans hlive
  have hv' : (arrive f s).visitor i = some v := (arrive_visitor ..).trans hv
  have hpartner : v.partner.bind (arrive f s).partner = some r := by
    rw [hp]
    exact (arrive_partner ..).trans hr
  have honline : isOnline (some r) = false := by simp [isOnline_some, hoff]
  have hrated : ratePost a (some r) c (dir == 0) n.toNat l (arrive f s) = (commitAccount a y hit (arrive f s), charge) := by
    refine ratePost_some ((arrive_account ..).trans hx) ?_
    rw [rateInputs_some, honline, arrive_tariffInForce]
    exact hrate
  obtain ⟨haccount, hothers, hchu, hgives⟩ := commitAccount_leaves (s := arrive f s) (i := a) (hit := hit)
    (rateAccount_saturated hrate)
  let w := commitAccount a y hit (arrive f s)
  have hwslot (j : Nat) : w.slot j = s.slot j := by
    rw [State.slot, commitAccount_vrg, arrive_vrg]
    rfl
  have hwv : w.visitor i = some v := by
    rw [State.visitor, State.slot, commitAccount_vrg]
    exact hv'
  obtain ⟨hslot, hslots, hact, hpurge⟩ := activity_leaves hwv
  have hquota' : (activity i w).quota i = none := by rw [State.quota, State.visitor, hslot]; exact hquota
  have hdone : post h c (dir == 0) n.toNat l (arrive f s) = usageReply .ok .live charge none (activity i w) := by
    rw [post_of_live hlive' hv' hcls (by rw [arrive_slot]; exact ha), if_neg hstate, hpartner, postLive, hrated]
    have hhand : handCharge i (some r) charge w = w := by simp [handCharge, honline]
    show usageReply .ok .live charge (((activity i (handCharge i (some r) charge w)).quota i).map (·.gate))
      (activity i (handCharge i (some r) charge w)) = _
    rw [hhand, hquota']
    rfl
  refine ⟨activity i w, ?_, ?_, fun j hj => ?_, ?_, ?_, fun j hj => ?_, ?_, ?_, ?_, ?_, ?_, ?_⟩
  · rw [exec_usage_posted ht hpos hmax hdir, hdone]
    rfl
  · rw [State.account, activity_chu]
    exact haccount
  · rw [State.account, activity_chu]
    exact (hothers j hj).trans (arrive_account ..)
  · rw [activity_chu, ← arrive_chu f s]
    exact hchu
  · rw [hslot, hwslot]
    simp only [w, State.settings, commitAccount_rqp_settings, commitAccount_rqp_shipTime, arrive_settings, arrive_shipTime]
    rfl
  · rw [hslots j hj, hwslot]
  · rw [hact, commitAccount_vrg, arrive_vrg]
  · rw [hpurge, commitAccount_vrg, arrive_vrg]
  · rw [activity_qxu, commitAccount_qxu, arrive_qxu]
  · exact outside_of_stage (by simp [stage, w]) (by simp [w])
  · exact (told_activity _ (told_commitAccount _ _ _ (told_self _))).portKept
  · rw [arrive_shipTime] at hgives
    exact Gives.congr hgives (arrive_notices ..).symm (arrive_overflow ..).symm (by rw [activity_rqp]) (by rw [activity_rqp])

/-! ### Credit written, checked for reorder, and the gate (R69, R72, R84) -/

/-- The condition under which an exchange is asked for once credit was written: at or below the reorder level with the gate
OPEN, or with none left and no retry wait. -/
def CreditAsks (s : State) (v : Visitor) (q : Quota) : Prop :=
  v.xref = none ∧ v.deferred = false ∧ q.final = false ∧
    ((v.state = .active ∧ q.gate = .opened ∧ 0 < q.remaining ∧ q.remaining ≤ reorderAt s v q) ∨
      (q.retry = none ∧ q.remaining ≤ 0))

theorem reorderLevel_eq (s : State) (v : Visitor) (q : Quota) : (s.reorderLevel v q : Int) = reorderAt s v q := rfl

theorem reorderThenGate_settles {i : Nat} {v : Visitor} {q : Quota} (hv : s.visitor i = some v) (hp : v.state ≠ .departing)
    (hq : v.quota = some q) :
    CreditSettled s (gateEvaluation i (reorderCheck i s)) i v q (CreditAsks s v q) [] ∧
      ∀ j, j ≠ i → (gateEvaluation i (reorderCheck i s)).slot j = s.slot j := by
  have hcheck : reorderCheck i s = if v.state = .active ∧ q.gate = .opened ∧ !hasExchange v ∧ !q.final ∧ 0 < q.remaining ∧
      q.remaining ≤ s.reorderLevel v q then requestExchange i .quota s else s := by
    simp only [reorderCheck, hv, hq]
  rw [hcheck]
  have hearly (h : v.state = .active ∧ q.gate = .opened ∧ (!hasExchange v) = true ∧ (!q.final) = true ∧ 0 < q.remaining ∧
      q.remaining ≤ s.reorderLevel v q) : v.xref = none ∧ v.deferred = false ∧ q.final = false := by
    obtain ⟨-, -, hnone, hfinal, -⟩ := h
    obtain ⟨h1, h2⟩ := (hasExchange_eq_false v).mp (by simpa using hnone)
    exact ⟨h1, h2, by simpa using hfinal⟩
  obtain ⟨⟨w, hslot, hw, hasked, hnot⟩, hothers⟩ := askThenGate_settles hv hp hq hearly
  have hiff : CreditAsks s v q ↔ (v.state = .active ∧ q.gate = .opened ∧ (!hasExchange v) = true ∧ (!q.final) = true ∧
      0 < q.remaining ∧ q.remaining ≤ s.reorderLevel v q) ∨ GateAsks v q := by
    rw [Bool.not_eq_true', Bool.not_eq_true', hasExchange_eq_false, CreditAsks, GateAsks, ← reorderLevel_eq]
    constructor
    · rintro ⟨h1, h2, h3, ⟨h4, h5, h6, h7⟩ | ⟨h4, h5⟩⟩
      · exact .inl ⟨h4, h5, ⟨h1, h2⟩, h3, h6, h7⟩
      · exact .inr ⟨h1, h2, h3, h4, h5⟩
    · rintro (⟨h4, h5, ⟨h1, h2⟩, h3, h6, h7⟩ | ⟨h1, h2, h3, h4, h5⟩)
      · exact ⟨h1, h2, h3, .inl ⟨h4, h5, h6, h7⟩⟩
      · exact ⟨h1, h2, h3, .inr ⟨h4, h5⟩⟩
  exact ⟨⟨w, hslot, hw, fun h => hasked (hiff.mp h), fun h => hnot fun ho => h (hiff.mpr ho)⟩, hothers⟩

/-! ### LIVE posts of an ONLINE visitor -/

/-- Settles O25. -/
theorem usageOnline : Obligations.UsageOnline := by
  intro f h c dir n l v q a p x y r charge hit s ht i hlive hv hcls hstate ha hx hp hr hon hquota hpos hmax hdir hrate hcharge
    left after
  have hlive' : (arrive f s).live h = true := (arrive_live ..).trans hlive
  have hv' : (arrive f s).visitor i = some v := (arrive_visitor ..).trans hv
  have hpartner : v.partner.bind (arrive f s).partner = some r := by
    rw [hp]
    exact (arrive_partner ..).trans hr
  have honline : isOnline (some r) = true := by simp [isOnline_some, hon]
  have hrated : ratePost a (some r) c (dir == 0) n.toNat l (arrive f s) = (commitAccount a y hit (arrive f s), charge) := by
    refine ratePost_some ((arrive_account ..).trans hx) ?_
    rw [rateInputs_some, honline, arrive_tariffInForce]
    exact hrate
  obtain ⟨haccount, hothers, hchu, hgives⟩ := commitAccount_leaves (s := arrive f s) (i := a) (hit := hit)
    (rateAccount_saturated hrate)
  let w := commitAccount a y hit (arrive f s)
  have hwslot (j : Nat) : w.slot j = s.slot j := by
    rw [State.slot, commitAccount_vrg, arrive_vrg]
    rfl
  have hwv : w.visitor i = some v := by
    rw [State.visitor, hwslot]
    exact hv
  let taken (q : Quota) : Quota := { q with remaining := max Config.remainingMin (q.remaining - charge) }
  let u := w.updQuota i taken
  have huv : u.visitor i = some { v with quota := some after } := visitor_updQuota_self taken hwv hquota
  obtain ⟨hsettled, hslots⟩ := reorderThenGate_settles (s := u) huv hstate rfl
  let t := gateEvaluation i (reorderCheck i u)
  have hhand : handCharge i (some r) charge w = t := by
    rw [handCharge, if_pos ⟨honline, hcharge⟩, quotaCharge]
    have hpresent : present { v with quota := some after } = true := by simpa [present] using hstate
    show (match u.visitor i with
      | some v => if present v then gateEvaluation i (reorderCheck i u) else u
      | none => u) = t
    simp only [huv, hpresent, if_true]
    rfl
  have htell : Told (arrive f s).rqp t := by
    have hu : Told (arrive f s).rqp u := told_updQuota _ _ (told_commitAccount _ _ _ (told_self _))
    exact told_gateEvaluation _ (told_reorderCheck _ hu)
  have hsettings : t.settings = s.settings := by simp [t, u, w, State.settings]
  have htime : t.rqp.shipTime = s.rqp.shipTime := by simp [t, u, w]
  have hafter : gateAfter { v with quota := some after } after = gateAfter v after := rfl
  obtain ⟨z, hz, hzfields, -⟩ := id hsettled
  have htv : t.visitor i = some z := by rw [State.visitor, hz]
  obtain ⟨hslot, hslots', hact, hpurge⟩ := activity_leaves htv
  rw [hsettings, htime] at hslot
  have hgate : ((activity i t).quota i).map (·.gate) = some (gateAfter v after) := by
    have hq : (activity i t).visitor i = some (active s.settings s.rqp.shipTime z) := by rw [State.visitor, hslot]
    rw [State.quota, hq, hzfields]
    rfl
  have hdone : post h c (dir == 0) n.toNat l (arrive f s) =
      usageReply .ok .live charge (some (gateAfter v after)) (activity i t) := by
    rw [post_of_live hlive' hv' hcls (by rw [arrive_slot]; exact ha), if_neg hstate, hpartner, postLive, hrated]
    show usageReply .ok .live charge (((activity i (handCharge i (some r) charge w)).quota i).map (·.gate))
      (activity i (handCharge i (some r) charge w)) = _
    rw [hhand, hgate]
  have huslot (j : Nat) (hj : j ≠ i) : u.slot j = s.slot j := (slot_updQuota_other taken hj).trans (hwslot j)
  have hui : u.slot i = { s.slot i with visitor := some { v with quota := some after } } := by
    have h := updQuota_of taken hwv hquota
    rw [show u = _ from h, State.setSlot_slot_self, hwslot]
    rfl
  have hdesk : desk t = desk s := by
    have h : desk t = desk w := by simp [t, u]
    rw [h]
    exact desk_of_vrg (by rw [commitAccount_vrg, arrive_vrg])
  have hchuw : w.chu = { s.chu with accounts := w.chu.accounts } := by
    rw [← arrive_chu f s]
    exact hchu
  have htchu : t.chu = w.chu := by simp [t, u]
  have hpart (j : Nat) : u.partner j = s.partner j := by
    have h : u.chu.partners = s.chu.partners := by
      rw [show u.chu = w.chu from State.updQuota_chu .., hchuw]
    rw [State.partner, h]
    rfl
  refine ⟨activity i t, ?_, ?_, fun j hj => ?_, ?_, fun j hj => ?_, ?_, ?_, ?_, ?_, ?_⟩
  · rw [exec_usage_posted ht hpos hmax hdir, hdone]
    rfl
  · rw [State.account, activity_chu, htchu]
    exact haccount
  · rw [State.account, activity_chu, htchu]
    exact (hothers j hj).trans (arrive_account ..)
  · refine hsettled.transfer (g := active s.settings s.rqp.shipTime) ⟨?_, ?_, ?_, ?_, ?_, ?_, fun j => ?_, fun j => ?_⟩ ?_ ?_
      rfl rfl rfl rfl (fun _ _ _ => rfl) ?_ ?_ ?_ ?_ ?_
    · simp [u, w]
    · rw [hui]
    · rw [hui]
    · rw [hui]
    · simp [u, w]
    · simp [u, w]
    · rw [hpart]
    · simp [u, w, State.eligible, State.permitInForce, State.zoneInForce, State.link, State.zone]
    · rw [hui]
    · rw [arrive_shipTime] at hgives
      exact Gives.congr hgives (arrive_notices ..).symm (arrive_overflow ..).symm (by rw [State.updQuota_rqp])
        (by rw [State.updQuota_rqp])
    · have hpartners : u.partner = s.partner := funext hpart
      have hreorder : reorderAt u { v with quota := some after } after = reorderAt s v q := by
        rw [reorderAt, reorderAt, hpartners]
      rw [CreditAsks, hreorder]
    · rw [hslot, hz]
      rfl
    · rw [activity_qxu]
    · rw [activity_rqp]
    · rw [activity_rqp]
  · rw [hslots' j hj, hslots j hj, huslot j hj]
  · rw [hact, (Prod.mk.inj hdesk).1]
  · rw [hpurge, (Prod.mk.inj hdesk).2]
  · rw [activity_chu, htchu]
    exact hchuw
  · exact outside_of_stage (by simp [stage, t, u, w]) (by simp [t, u, w])
  · exact (told_activity _ htell).portKept

end Sys2Proof.Machine
end

section
/-! PROOFS. The posts of USAGE that are not LIVE (chapter 3). -/

namespace Sys2Proof.Machine

variable {s t u : State} {f : Frame}

/-! ### The refusals, the empty post, and a post that nothing attributes (R47, R51) -/

/-- The arguments that USAGE refuses (R47). -/
def badPost (cls dir : Byte) (n : BitVec 24) (link : Byte) : Prop :=
  2 < cls.toNat ∨ (cls = 1 ∧ 1 < dir.toNat) ∨ 1048575 < n.toNat ∨ 3 < link.toNat

theorem classByte_eq_one (c : TrafficClass) : classByte c = 1 ↔ c = .data := by
  cases c <;> simp [classByte]

theorem classByte_eq_zero (c : TrafficClass) : classByte c = 0 ↔ c = .voice := by
  cases c <;> simp [classByte]

theorem classByte_eq_two (c : TrafficClass) : classByte c = 2 ↔ c = .message := by
  cases c <;> simp [classByte]

theorem doUsage_bad {h : BitVec 16} {cls dir : Byte} {n : BitVec 24} {link : Byte} (hbad : badPost cls dir n link) :
    doUsage h cls dir n link s = reply .badArg s := by
  rcases classOf_cases cls with ⟨c, rfl⟩ | ⟨-, hnone⟩
  · cases hl : linkOf link with
    | none => simp [doUsage, hl]
    | some l =>
      have hlow : ¬ 3 < link.toNat := fun h => by rw [linkOf_eq_none.mpr h] at hl; cases hl
      have hcls : ¬ 2 < (classByte c).toNat := fun h => absurd (classOf_eq_none.mpr h) (by simp)
      have hrefused : (!directionFits c dir) = true ∨ 1048575 < n.toNat := by
        obtain h | ⟨h1, h2⟩ | h | h := hbad
        · exact absurd h hcls
        · obtain rfl := (classByte_eq_one c).mp h1
          exact .inl (by simpa [directionFits] using h2)
        · exact .inr h
        · exact absurd h hlow
      simp only [doUsage, classOf_classByte, hl, if_pos hrefused]
  · simp [doUsage, hnone]

theorem not_badPost {cls dir : Byte} {n : BitVec 24} {link : Byte} (h : ¬ badPost cls dir n link) :
    ∃ c l, cls = classByte c ∧ link = linkByte l ∧ n.toNat ≤ 1048575 ∧ (c = .data → dir.toNat < 2) := by
  unfold badPost at h
  push Not at h
  obtain ⟨hcls, hdir, hn, hlink⟩ := h
  rcases classOf_cases cls with ⟨c, rfl⟩ | ⟨habove, -⟩
  · obtain ⟨l, rfl⟩ : ∃ l, link = linkByte l := by
      cases hl : linkOf link with
      | none => exact absurd (linkOf_eq_none.mp hl) (not_lt.mpr hlink)
      | some l => exact ⟨l, linkOf_eq_some.mp hl⟩
    exact ⟨c, l, rfl, rfl, hn, fun hc => Nat.lt_succ_of_le (hdir ((classByte_eq_one c).mpr hc))⟩
  · exact absurd habove (not_lt.mpr hcls)

/-- The device's counters after a post: the one of its class and direction takes the amount up to the limit. -/
theorem addDevice_counters (c : TrafficClass) (up : Bool) (n : Nat) (v : Volumes) :
    addDevice c up n v =
      { seconds := if c = .voice then min 281474976710655 (v.seconds + n) else v.seconds
        up := if c = .data ∧ up = true then min 281474976710655 (v.up + n) else v.up
        down := if c = .data ∧ up = false then min 281474976710655 (v.down + n) else v.down
        messages := if c = .message then min 281474976710655 (v.messages + n) else v.messages } := by
  cases c <;> cases up <;> simp [addDevice, satAdd, Config.counterMax]

theorem dir_up (dir : Byte) : (dir == 0) = true ↔ dir = 0 := beq_iff_eq

theorem dir_down {dir : Byte} {c : TrafficClass} (hdir : c = .data → dir.toNat < 2) :
    c = .data ∧ (dir == 0) = false ↔ c = .data ∧ dir = 1 := by
  refine and_congr_right fun hc => ?_
  have h := hdir hc
  rw [beq_eq_false_iff_ne, ← BitVec.toNat_inj, Ne, ← BitVec.toNat_inj]
  simp
  omega

theorem lateAccount_eq_none (i : Nat) (hnone : ∀ a x, (s.slot i).account = some a → s.account a = some x →
    x.departed = false ∨ (s.slot i).sid ≠ some x.sid) : s.lateAccount i = none := by
  unfold State.lateAccount
  split
  next a ha =>
    split
    next x hx =>
      rw [if_neg]
      rw [Bool.and_eq_true, beq_iff_eq]
      rintro ⟨h1, h2⟩
      obtain h | h := hnone a x ha hx
      · rw [h] at h1
        cases h1
      · exact h h2
    next => rfl
  next => rfl

theorem usageUnattributed : Claims.UsageUnattributed := by
  intro f h cls dir n link s ht bad zero u i nobody
  have hwork : exec (.usage f h cls dir n link) s = .next (deliver kUsage f.tag (doUsage h cls dir n link (arrive f s))) :=
    exec_taken rfl ht
  refine ⟨fun hbad => ?_, fun hok hzero => ?_, fun hok hpos hnobody => ?_⟩
  · rw [hwork, doUsage_bad hbad]
    rfl
  · obtain ⟨c, l, rfl, rfl, hmax, hdir⟩ := not_badPost hok
    have hfits : ¬ ((!directionFits c dir) = true ∨ 1048575 < n.toNat) := by
      rintro (hd | hn)
      · have hd : directionFits c dir = false := by simpa using hd
        simp only [directionFits, Bool.or_eq_false_iff, bne_eq_false_iff_eq, decide_eq_false_iff_not] at hd
        exact hd.2 (hdir hd.1)
      · omega
    rw [hwork]
    simp only [doUsage, classOf_classByte, linkOf_linkByte, if_neg hfits, if_pos hzero]
    rfl
  · obtain ⟨c, l, rfl, rfl, hmax, hdir⟩ := not_badPost hok
    have hdone : post h c (dir == 0) n.toNat l (arrive f s) = postNone c (dir == 0) n.toNat (arrive f s) := by
      rw [post]
      obtain hgen | ⟨hv, hnone⟩ := hnobody
      · have hne : ((arrive f s).slot (handleSlot h)).gen ≠ handleGen h := by
          rw [arrive_slot, Ne, gen_eq_handleGen_iff]
          exact hgen
        rw [if_pos hne]
      · have hv' : (arrive f s).visitor (handleSlot h) = none := (arrive_visitor ..).trans hv
        have hlate : (arrive f s).lateAccount (handleSlot h) = none := by
          refine lateAccount_eq_none _ fun a x ha hx => ?_
          rw [arrive_slot] at ha ⊢
          exact hnone a x ha ((arrive_account ..).symm.trans hx)
        simp only [hv', hlate]
        split <;> rfl
    have hcounters := addDevice_counters c (dir == 0) n.toNat u
    simp only [dir_up, dir_down hdir] at hcounters
    refine ⟨addDevice c (dir == 0) n.toNat u, ?_, ?_, ?_, ?_, ?_⟩
    · rw [exec_usage_posted ht hpos hmax hdir, hdone, postNone, arrive_chu]
      rfl
    all_goals simp only [hcounters, classByte_eq_zero, classByte_eq_one, classByte_eq_two]

/-! ### EMERGENCY posts (R50) -/

theorem usageEmergency : Claims.UsageEmergency := by
  intro f h c dir n l v s ht i top e hlive hv hcls hpos hmax hdir
  have hv' : (arrive f s).visitor i = some v := (arrive_visitor ..).trans hv
  have hdone : post h c (dir == 0) n.toNat l (arrive f s) = postEmergency i c (dir == 0) n.toNat (arrive f s) := by
    have hgen : ¬ ((arrive f s).slot (handleSlot h)).gen ≠ handleGen h :=
      not_not.mpr (gen_of_live ((arrive_live ..).trans hlive))
    rw [post, if_neg hgen]
    have hv'' : (arrive f s).visitor (handleSlot h) = some v := hv'
    simp only [hv'', if_pos hcls]
    rfl
  let u := (arrive f s).withChu { s.chu with emergency := addDevice c (dir == 0) n.toNat e }
  have huv : u.visitor i = some v := hv'
  obtain ⟨hslot, hslots, hact, hpurge⟩ := activity_leaves huv
  have huslot (j : Nat) : u.slot j = s.slot j := arrive_slot ..
  have hcounters := addDevice_counters c (dir == 0) n.toNat e
  simp only [dir_up, dir_down hdir] at hcounters
  refine ⟨activity i u, ?_, ?_, ?_, fun j hj => ?_, ?_, ?_, ?_, ?_⟩
  · rw [exec_usage_posted ht hpos hmax hdir, hdone, postEmergency, arrive_chu]
    rfl
  · rw [activity_chu]
    show { s.chu with emergency := addDevice c (dir == 0) n.toNat e } = _
    rw [hcounters]
  · rw [hact]
    simp [u]
  · rw [hslots j hj, huslot]
  · rw [hslot, huslot]
    have hsettings : u.settings = s.settings := by simp [u, State.settings]
    have htime : u.rqp.shipTime = s.rqp.shipTime := by simp [u]
    rw [hsettings, htime, active, hcls]
  · simp [u]
  · exact outside_of_stage (by simp [stage, u]) (by simp [u])
  · simp [u]

/-! ### LATE posts through a FREE slot (R49) -/

theorem bucket_eq {x y : Bucket} (h0 : x.charge = y.charge) (h1 : x.seconds = y.seconds) (h2 : x.up = y.up)
    (h3 : x.down = y.down) (h4 : x.messages = y.messages) : x = y := by
  cases x
  cases y
  simp_all

/-- The UNREPORTED mark of an account where a charge of an ONLINE partner is left (R57). -/
theorem markUnreported_leaves {a charge : Nat} {p : Option Partner} {b : Account} (hb : s.account a = some b) :
    let t := markUnreported a p charge s
    t.account a = some { b with unrepMark := b.unrepMark || (isOnline p && decide (0 < charge)) } ∧
      (∀ j, j ≠ a → t.account j = s.account j) ∧ t.chu = { s.chu with accounts := t.chu.accounts } ∧
      t = s.withChu t.chu := by
  intro t
  by_cases h : isOnline p ∧ 0 < charge
  · have ht : t = s.setAccount a (some { b with unrepMark := true }) := by
      show markUnreported a p charge s = _
      rw [markUnreported, if_pos h, updAccount_some _ hb]
    rw [ht]
    refine ⟨?_, fun j hj => ?_, rfl, rfl⟩
    · rw [State.setAccount_account_self]
      simp [h.1, h.2]
    · rw [State.setAccount_account, if_neg (Ne.symm hj)]
  · have ht : t = s := if_neg h
    have hmark : (isOnline p && decide (0 < charge)) = false := by
      simpa only [Bool.and_eq_false_iff, not_and_or, Bool.not_eq_true, decide_eq_false_iff_not] using h
    rw [ht, hmark, Bool.or_false]
    exact ⟨hb, fun _ _ => rfl, rfl, rfl⟩

theorem chu_accounts_trans {c d e : Chu} (h1 : d = { c with accounts := d.accounts }) (h2 : e = { d with accounts := e.accounts }) :
    e = { c with accounts := e.accounts } := by
  rw [h2, h1]

/-- The post through a FREE slot whose last account is still DEPARTED with its SID. -/
theorem post_of_free {h : BitVec 16} {c : TrafficClass} {up : Bool} {n : Nat} {l : Link} {a : Nat} {x : Account}
    (hv : s.visitor (h.toNat / 16) = none) (hgen : (s.slot (h.toNat / 16)).gen.toNat = h.toNat % 16)
    (ha : (s.slot (h.toNat / 16)).account = some a) (hx : s.account a = some x) (hdep : x.departed = true)
    (hsid : (s.slot (h.toNat / 16)).sid = some x.sid) :
    post h c up n l s = postFree a ((s.partnerByHnc x.hnc).bind s.partner) c up n l s := by
  have hlate : s.lateAccount (handleSlot h) = some (a, x) := by
    have ha' : (s.slot (handleSlot h)).account = some a := ha
    have hsid' : (s.slot (handleSlot h)).sid = some x.sid := hsid
    simp [State.lateAccount, ha', hx, hdep, hsid']
  have hg : ¬ (s.slot (handleSlot h)).gen ≠ handleGen h := not_not.mpr ((gen_eq_handleGen_iff _ _).mpr hgen)
  have hv' : s.visitor (handleSlot h) = none := hv
  rw [post, if_neg hg]
  simp only [hv', hlate]

/-- A LATE post's rating: LATE is set, and the account rated and committed. -/
theorem lateRated {a : Nat} {p : Option Partner} {c : TrafficClass} {up hit : Bool} {n charge : Nat} {l : Link} {x y : Account}
    (hx : s.account a = some x)
    (hr : rateAccount (s.rateInputs p c l) (isOnline p) s.tariffInForce c up n { x with late := true } = (y, charge, hit)) :
    ratePost a p c up n l (s.updAccount a fun r => { r with late := true }) =
      (commitAccount a y hit (s.setAccount a (some { x with late := true })), charge) := by
  rw [updAccount_some _ hx]
  exact ratePost_some (State.setAccount_account_self ..) hr

theorem usageLate : Claims.UsageLate := by
  intro f h c dir n l a x s ht i z w m fits hv hgen ha hx hdep hsid hnone hpos hmax hdir hsec hup hdown hmsg
  let y : Account := { x with late := true, buckets := qset x.buckets z (addVolume c (dir == 0) n.toNat w) }
  have hhit : passes (volumeOf w c (dir == 0)) n.toNat = false := by
    have hfits : volumeOf w c (dir == 0) + n.toNat ≤ 281474976710655 := by
      cases c <;> cases dir == 0
      exacts [hsec, hsec, hdown, hup, hmsg, hmsg]
    exact decide_eq_false (not_lt.mpr hfits)
  have hrate : rateAccount ((arrive f s).rateInputs none c l) (isOnline none) (arrive f s).tariffInForce c (dir == 0) n.toNat
      { x with late := true } = (y, 0, false) := by
    rw [arrive_tariffInForce]
    show (y, 0, passes (volumeOf w c (dir == 0)) n.toNat) = _
    rw [hhit]
  have hrated := lateRated (s := arrive f s) (p := none) (l := l) ((arrive_account ..).trans hx) hrate
  have hcommit : commitAccount a y false ((arrive f s).setAccount a (some { x with late := true })) =
      ((arrive f s).setAccount a (some { x with late := true })).setAccount a (some y) := by
    rw [commitAccount_eq, Bool.or_false]
    rfl
  let t := ((arrive f s).setAccount a (some { x with late := true })).setAccount a (some y)
  have hdone : post h c (dir == 0) n.toNat l (arrive f s) = usageReply .ok .late 0 none t := by
    rw [post_of_free ((arrive_visitor ..).trans hv) (by rw [arrive_slot]; exact hgen) (by rw [arrive_slot]; exact ha)
      ((arrive_account ..).trans hx) hdep (by rw [arrive_slot]; exact hsid), arrive_partnerByHnc, hnone, Option.bind_none,
      postFree, hrated, hcommit]
    rfl
  refine ⟨t, ?_, rfl, ?_, fun j hj => ?_, ?_⟩
  · rw [exec_usage_posted ht hpos hmax hdir, hdone]
    rfl
  · rw [← arrive_chu f s]
    rfl
  · rw [State.setAccount_account, if_neg (Ne.symm hj), State.setAccount_account, if_neg (Ne.symm hj), arrive_account]
  · rw [State.setAccount_account_self]
    have hvolume : addVolume c (dir == 0) n.toNat w =
        { charge := w.charge
          seconds := if c = .voice then w.seconds + m else w.seconds
          up := if c = .data ∧ dir = 0 then w.up + m else w.up
          down := if c = .data ∧ dir = 1 then w.down + m else w.down
          messages := if c = .message then w.messages + m else w.messages } := by
      have hmin {k : Nat} (h : fits k) : min 281474976710655 (k + n.toNat) = k + n.toNat := Nat.min_eq_right h
      obtain ⟨h1, h2, h3, h4⟩ := addVolume_counters c (dir == 0) n.toNat w
      simp only [hmin hsec, hmin hup, hmin hdown, hmin hmsg, dir_up,
        Bool.not_eq_true', dir_down hdir] at h1 h2 h3 h4
      exact bucket_eq (addVolume_charge ..) h1 h2 h3 h4
    rw [← hvolume]

theorem usageLateRated : Claims.UsageLateRated := by
  intro f h c dir n l a p x y r charge hit s ht i online hv hgen ha hx hdep hsid hp hr hpos hmax hdir hrate
  have hpartner : ((arrive f s).partnerByHnc x.hnc).bind (arrive f s).partner = some r := by
    rw [arrive_partnerByHnc, hp]
    exact (arrive_partner ..).trans hr
  have hrate' : rateAccount ((arrive f s).rateInputs (some r) c l) (isOnline (some r)) (arrive f s).tariffInForce c (dir == 0)
      n.toNat { x with late := true } = (y, charge, hit) := by
    rw [rateInputs_some, arrive_tariffInForce, isOnline_some]
    exact hrate
  have hrated := lateRated ((arrive_account ..).trans hx) hrate'
  obtain ⟨haccount, hothers, hchu, hgives⟩ := commitAccount_leaves
    (s := (arrive f s).setAccount a (some { x with late := true })) (i := a) (hit := hit) (rateAccount_saturated hrate)
  let w := commitAccount a y hit ((arrive f s).setAccount a (some { x with late := true }))
  let t := markUnreported a (some r) charge w
  have hdone : post h c (dir == 0) n.toNat l (arrive f s) = usageReply .ok .late charge none t := by
    rw [post_of_free ((arrive_visitor ..).trans hv) (by rw [arrive_slot]; exact hgen) (by rw [arrive_slot]; exact ha)
      ((arrive_account ..).trans hx) hdep (by rw [arrive_slot]; exact hsid), hpartner, postFree, hrated]
  obtain ⟨htaccount, htothers, htchu, htframe⟩ := markUnreported_leaves (p := some r) (charge := charge) haccount
  have hframe : t = w.withChu t.chu := htframe
  have hset (j : Nat) (hj : j ≠ a) : ((arrive f s).setAccount a (some { x with late := true })).account j = s.account j := by
    rw [State.setAccount_account, if_neg (Ne.symm hj), arrive_account]
  have hstart : ((arrive f s).setAccount a (some { x with late := true })).chu = { s.chu with accounts :=
      ((arrive f s).setAccount a (some { x with late := true })).chu.accounts } := by
    rw [← arrive_chu f s]
    rfl
  rw [isOnline_some] at htaccount
  refine ⟨t, ?_, htaccount, fun j hj => ?_, ?_, ?_, ?_, ?_, ?_, ?_⟩
  · rw [exec_usage_posted ht hpos hmax hdir, hdone]
    rfl
  · rw [htothers j hj, hothers j hj, hset j hj]
  · exact chu_accounts_trans (chu_accounts_trans hstart hchu) htchu
  · rw [hframe]
    simp [w]
  · rw [hframe]
    simp [w]
  · exact outside_of_stage (by rw [hframe]; simp [stage, w]) (by rw [hframe]; simp [w])
  · have htold : Told (arrive f s).rqp w := told_commitAccount _ _ _ (told_setAccount _ _ (told_self _))
    exact (told_of_rqp (by rw [hframe]; rfl) htold).portKept
  · have hgives' : Gives (arrive f s) w
        (if hit = true ∧ x.saturated = false then [⟨.account, .account a, 1, 0, 0, 0, 0, 0, s.rqp.shipTime⟩] else []) := by
      rw [← arrive_shipTime (f := f) (s := s)]
      exact hgives
    exact Gives.congr hgives' (arrive_notices ..).symm (arrive_overflow ..).symm (by rw [hframe]; rfl) (by rw [hframe]; rfl)

/-! ### LATE posts of a DEPARTING entry (R48) -/

theorem usageDeparting : Claims.UsageDeparting := by
  intro f h c dir n l v q a p x y r charge hit s ht i online handed hlive hv hcls hstate hquota ha hx hp hr hpos hmax hdir
    hrate
  have hlive' : (arrive f s).live h = true := (arrive_live ..).trans hlive
  have hv' : (arrive f s).visitor i = some v := (arrive_visitor ..).trans hv
  have hpartner : v.partner.bind (arrive f s).partner = some r := by
    rw [hp]
    exact (arrive_partner ..).trans hr
  have hrate' : rateAccount ((arrive f s).rateInputs (some r) c l) (isOnline (some r)) (arrive f s).tariffInForce c (dir == 0)
      n.toNat { x with late := true } = (y, charge, hit) := by
    rw [rateInputs_some, arrive_tariffInForce, isOnline_some]
    exact hrate
  have hrated := lateRated ((arrive_account ..).trans hx) hrate'
  obtain ⟨haccount, hothers, hchu, -⟩ := commitAccount_leaves
    (s := (arrive f s).setAccount a (some { x with late := true })) (i := a) (hit := hit) (rateAccount_saturated hrate)
  let w := commitAccount a y hit ((arrive f s).setAccount a (some { x with late := true }))
  have hwslot (j : Nat) : w.slot j = s.slot j := by
    rw [State.slot, commitAccount_vrg]
    exact arrive_slot ..
  have hwv : w.visitor i = some v := by
    rw [State.visitor, hwslot]
    exact hv
  let taken (q : Quota) : Quota := { q with remaining := max Config.remainingMin (q.remaining - charge) }
  let u := if isOnline (some r) ∧ 0 < charge then w.updQuota i taken else w
  have hwhen : (isOnline (some r) ∧ 0 < charge) ↔ handed = true := by
    simp [handed, online, isOnline_some]
  have hhand : handCharge i (some r) charge w = u := by
    unfold handCharge
    by_cases hc : isOnline (some r) ∧ 0 < charge
    · have huv := visitor_updQuota_self taken hwv hquota
      have hpresent : present { v with quota := some (taken q) } = false := by simp [present, hstate]
      rw [if_pos hc, show u = _ from if_pos hc]
      show (match (w.updQuota i taken).visitor i with
        | some v => if present v then gateEvaluation i (reorderCheck i (w.updQuota i taken)) else w.updQuota i taken
        | none => w.updQuota i taken) = w.updQuota i taken
      simp only [huv, hpresent]
      rfl
    · rw [if_neg hc, show u = _ from if_neg hc]
  have hslot : u.slot i = { s.slot i with visitor := some { v with quota := some { q with
      remaining := if handed then max (-549755813888) (q.remaining - charge) else q.remaining } } } := by
    by_cases hc : isOnline (some r) ∧ 0 < charge
    · rw [show u = _ from if_pos hc, updQuota_of taken hwv hquota, State.setSlot_slot_self, hwslot, if_pos (hwhen.mp hc)]
      rfl
    · have hvis : (s.slot i).visitor = some v := hv
      rw [show u = _ from if_neg hc, hwslot, if_neg (mt hwhen.mpr hc), ← hquota, ← hvis]
  have hslots (j : Nat) (hj : j ≠ i) : u.slot j = s.slot j := by
    unfold u
    split
    · rw [slot_updQuota_other _ hj, hwslot]
    · exact hwslot j
  have huframe : u = w.withVrg u.vrg := by
    unfold u
    split
    · rw [updQuota_of taken hwv hquota]
      rfl
    · rfl
  have hdesk : desk u = desk s := by
    have h : desk u = desk w := by
      unfold u
      split <;> simp
    rw [h]
    exact desk_of_vrg (by rw [commitAccount_vrg]; exact arrive_vrg ..)
  have hqxu : u.qxu = s.qxu := by
    rw [huframe]
    simp [w]
  have huv : u.visitor i = some { v with quota := some { q with
      remaining := if handed then max (-549755813888) (q.remaining - charge) else q.remaining } } := by
    rw [State.visitor, hslot]
  have hgate : (u.quota i).map (·.gate) = some q.gate := by
    rw [State.quota, huv]
    rfl
  have hfinal : u.finalFetched i = s.finalFetched i := by
    have hentry (j : Nat) : u.entry j = s.entry j := by rw [State.entry, hqxu]; rfl
    unfold State.finalFetched
    rw [huv, hv]
    simp only [Option.bind_some, hentry]
  let t := if s.finalFetched i then markUnreported a (some r) charge u else u
  have hdone : post h c (dir == 0) n.toNat l (arrive f s) =
      usageReply .ok .late charge (if handed then some q.gate else none) t := by
    rw [post_of_live hlive' hv' hcls (by rw [arrive_slot]; exact ha), if_pos hstate, hpartner, postDeparting, hrated]
    show usageReply .ok .late charge
      (if isOnline (some r) ∧ 0 < charge then ((handCharge i (some r) charge w).quota i).map (·.gate) else none)
      (if (handCharge i (some r) charge w).finalFetched i then
        markUnreported a (some r) charge (handCharge i (some r) charge w) else handCharge i (some r) charge w) = _
    rw [hhand, hgate, hfinal]
    simp only [hwhen]
    rfl
  have huaccount : u.account a = some { y with saturated := x.saturated || hit } := by
    rw [huframe]
    exact haccount
  have huothers (j : Nat) (hj : j ≠ a) : u.account j = s.account j := by
    rw [huframe]
    refine (hothers j hj).trans ?_
    rw [State.setAccount_account, if_neg (Ne.symm hj), arrive_account]
  have huchu : u.chu = { s.chu with accounts := u.chu.accounts } := by
    have hstart : ((arrive f s).setAccount a (some { x with late := true })).chu = { s.chu with accounts :=
        ((arrive f s).setAccount a (some { x with late := true })).chu.accounts } := by
      rw [← arrive_chu f s]
      rfl
    rw [huframe]
    exact chu_accounts_trans hstart hchu
  obtain ⟨hmaccount, hmothers, hmchu, hmframe⟩ := markUnreported_leaves (p := some r) (charge := charge) huaccount
  have htaccount : t.account a = some { y with
      saturated := x.saturated || hit, unrepMark := y.unrepMark || (handed && s.finalFetched i) } := by
    unfold t
    cases hf : s.finalFetched i with
    | true =>
      rw [if_pos rfl, hmaccount, isOnline_some, Bool.and_true]
    | false =>
      rw [if_neg Bool.false_ne_true, Bool.and_false, Bool.or_false]
      exact huaccount
  have htothers (j : Nat) (hj : j ≠ a) : t.account j = s.account j := by
    unfold t
    split
    · exact (hmothers j hj).trans (huothers j hj)
    · exact huothers j hj
  have htchu : t.chu = { s.chu with accounts := t.chu.accounts } := by
    unfold t
    split
    · exact chu_accounts_trans huchu hmchu
    · exact huchu
  have htframe : t = u.withChu t.chu := by
    unfold t
    split
    · exact hmframe
    · rfl
  have htslot (j : Nat) : t.slot j = u.slot j := by
    rw [htframe]
    rfl
  refine ⟨t, ?_, htaccount, htothers, htchu, ?_, fun j hj => ?_, ?_, ?_, ?_, ?_⟩
  · rw [exec_usage_posted ht hpos hmax hdir, hdone]
    cases handed <;> rfl
  · rw [htslot, hslot]
  · rw [htslot, hslots j hj]
  · refine vrg_of_desk (Eq.trans ?_ hdesk)
    rw [htframe]
    rfl
  · rw [htframe]
    exact hqxu
  · exact outside_of_stage (by rw [htframe, huframe]; simp [stage, w]) (by rw [htframe, huframe]; simp [w])
  · have htold : Told (arrive f s).rqp w := told_commitAccount _ _ _ (told_setAccount _ _ (told_self _))
    exact (told_of_rqp (by rw [htframe, huframe]; rfl) htold).portKept

/-- Settles O26. -/
theorem usageElsewhere : Obligations.UsageElsewhere :=
  ⟨usageUnattributed, usageEmergency, usageLate, usageLateRated, usageDeparting⟩

end Sys2Proof.Machine
end

section
/-! PROOFS. XANSWER with GRANT and DENY, and the failure of an exchange (chapter 4). -/

namespace Sys2Proof.Machine

variable {s t u : State} {f : Frame}

/-! ### The exchange a reference names (R82) -/

theorem use_eq_refUse_iff (u : Byte) (ref : BitVec 16) : u = refUse ref ↔ u.toNat = ref.toNat % 256 := by
  rw [← BitVec.toNat_inj, refUse, BitVec.toNat_ofNat]
  simp

theorem arrive_sentExchange (f : Frame) (s : State) (ref : BitVec 16) : (arrive f s).sentExchange ref = s.sentExchange ref := by
  simp [State.sentExchange]

theorem sentExchange_eq_none {ref : BitVec 16} (h : ∀ x, (s.entry (ref.toNat / 256)).ex = some x →
    (s.entry (ref.toNat / 256)).use.toNat ≠ ref.toNat % 256 ∨ x.sent = false) : s.sentExchange ref = none := by
  unfold State.sentExchange
  split
  next x hx =>
    rw [if_neg]
    rintro ⟨huse, hsent⟩
    obtain hother | hunsent := h x hx
    · exact hother ((use_eq_refUse_iff _ _).mp huse)
    · rw [hunsent] at hsent
      cases hsent
  next => rfl

theorem sentExchange_eq_some {ref : BitVec 16} {x : Exchange} (hx : (s.entry (ref.toNat / 256)).ex = some x)
    (huse : (s.entry (ref.toNat / 256)).use.toNat = ref.toNat % 256) (hsent : x.sent = true) :
    s.sentExchange ref = some x := by
  have hx' : (s.entry (refEntry ref)).ex = some x := hx
  have huse' : (s.entry (refEntry ref)).use = refUse ref := (use_eq_refUse_iff _ _).mpr huse
  simp [State.sentExchange, hx', huse', hsent]

/-! ### The checks of XANSWER (R82) -/

theorem shoreResultOf_eq_some {b : Byte} {r : ShoreResult} (h : shoreResultOf b = some r) : b = shoreResultByte r := by
  have coded (n : Nat) (hn : b.toNat = n) : b = BitVec.ofNat 8 n := by simp [← hn]
  unfold shoreResultOf at h
  split at h
  next hb => cases h; exact coded 0 hb
  next hb => cases h; exact coded 1 hb
  next hb => cases h; exact coded 2 hb
  next hb => cases h; exact coded 3 hb
  next hb => cases h; exact coded 4 hb
  next => cases h

theorem shoreResultOf_eq_none {b : Byte} : shoreResultOf b = none ↔ 4 < b.toNat := by
  constructor
  · intro h
    by_contra hlow
    have hle : b.toNat ≤ 4 := not_lt.mp hlow
    interval_cases hb : b.toNat <;> simp [shoreResultOf, hb] at h
  · intro h
    unfold shoreResultOf
    split
    case h_6 => rfl
    all_goals omega

/-- Whether a result belongs to a kind, with a GRANT's values in range (R82). -/
theorem answerFits_iff (k : XKind) (r : ShoreResult) (units validity : Nat) :
    answerFits k r units validity = true ↔ match k with
      | .authorize => shoreResultByte r = 0 ∨ shoreResultByte r = 1
      | .quota => shoreResultByte r = 3 ∨ (shoreResultByte r = 2 ∧ 1 ≤ units ∧ units ≤ 2147483647 ∧ validity ≤ 1440)
      | .final => shoreResultByte r = 4 := by
  cases k <;> cases r <;> simp [answerFits, shoreResultByte, Nat.succ_le_iff, and_assoc]

theorem answerJudged : Claims.AnswerJudged := by
  intro f ref result units validity final s ht i answers bad
  have hwork : exec (.xanswer f ref result units validity final) s =
      .next (deliver kXanswer f.tag (doXanswer ref result units validity final (arrive f s))) := exec_taken rfl ht
  have hrefused {r : ResultCode} (h : doXanswer ref result units validity final (arrive f s) = reply r (arrive f s)) :
      answers [resultByte r] (arrive f s) := hwork.trans (by rw [h]; rfl)
  have hresult (hok : ¬ bad) : ∃ r, shoreResultOf result = some r := by
    cases hr : shoreResultOf result with
    | none => exact absurd (.inr (shoreResultOf_eq_none.mp hr)) hok
    | some r => exact ⟨r, rfl⟩
  have hentry (hok : ¬ bad) : ¬ 63 < refEntry ref := fun h => hok (.inl h)
  refine ⟨fun hbad => hrefused (r := .badArg) ?_, fun hok hstale => hrefused (r := .stale) ?_, fun x hok hx huse hsent => ?_⟩
  · rw [doXanswer]
    cases hr : shoreResultOf result with
    | none => rfl
    | some r =>
      have hlow : ¬ 4 < result.toNat := fun h => by rw [shoreResultOf_eq_none.mpr h] at hr; cases hr
      exact if_pos (hbad.resolve_right hlow)
  · obtain ⟨r, hr⟩ := hresult hok
    simp only [doXanswer, hr, if_neg (hentry hok), arrive_sentExchange, sentExchange_eq_none hstale]
  intro fits
  refine ⟨fun hmisfit => hrefused (r := .badArg) ?_, fun r hfits hr => ?_⟩
  · obtain ⟨r, hr⟩ := hresult hok
    have hno : ¬ answerFits x.kind r units.toNat validity.toNat = true := by
      rw [answerFits_iff, ← shoreResultOf_eq_some hr]
      exact hmisfit
    simp only [doXanswer, hr, if_neg (hentry hok), arrive_sentExchange, sentExchange_eq_some hx huse hsent, if_neg hno]
  · have hyes : answerFits x.kind r units.toNat validity.toNat = true := by
      rw [answerFits_iff, ← shoreResultOf_eq_some hr]
      exact hfits
    have hbyte := shoreResultOf_eq_some hr
    refine hwork.trans ?_
    simp only [doXanswer, hr, if_neg (hentry hok), arrive_sentExchange, sentExchange_eq_some hx huse hsent, if_pos hyes,
      deliver_replyWith, ← hbyte]
    rfl

/-! ### GRANT and DENY (R84, R85) -/

theorem lowerUnreported_some {a : Nat} {x : Account} {n : Nat} (hx : s.account a = some x) :
    lowerUnreported a (some n) s = s.setAccount a (some { x with unreported := x.unreported - n }) := by
  rw [lowerUnreported, updAccount_some _ hx]
  rfl

theorem departing_eq_false {i : Nat} {v : Visitor} (hv : s.visitor i = some v) (hp : v.state ≠ .departing) :
    s.departing i = false := by
  rw [← Bool.not_eq_true, departing_iff hv]
  exact hp

theorem gives_giveNotice_of_rqp {z : State} (h : z.rqp = s.rqp) (k : NoticeKind) (x : Subject) (d v1 v2 v3 v4 v5 : Byte) :
    Gives s (giveNotice k x d v1 v2 v3 v4 v5 z) [⟨k, x, d, v1, v2, v3, v4, v5, s.rqp.shipTime⟩] := by
  have hgives := gives_giveNotice k x d v1 v2 v3 v4 v5 z
  unfold Gives at hgives ⊢
  rw [h] at hgives
  exact hgives

/-- The gate shut with a cause, and its notice where it was not SHUT (R71). -/
theorem shutGate_eq {i : Nat} {v : Visitor} {q : Quota} (c : Byte) (hv : s.visitor i = some v) (hq : v.quota = some q) :
    shutGate i c s = (if q.gate = .shut then id else giveNotice .visitor (.slot i) 6 c 0 0 0 0)
      (s.setSlot i { s.slot i with visitor := some { v with quota := some { q with gate := .shut } } }) := by
  have hquota : s.quota i = some q := by rw [State.quota, hv]; exact hq
  simp only [shutGate, hquota, updQuota_of _ hv hq]
  split <;> rfl

/-- A quota refused, by DENY or by a second failure: the retry wait is loaded and the gate shut with its cause (R85, R91). -/
theorem refuseQuota_leaves {i p : Nat} {v : Visitor} {q : Quota} {r : Partner} (c : Byte) (hv : s.visitor i = some v)
    (hq : v.quota = some q) (hp : v.partner = some p) (hr : s.partner p = some r) :
    let t := refuseQuota i c s
    t.slot i = { s.slot i with visitor := some { v with
        quota := some { q with retry := some r.retryWait, gate := .shut } } } ∧
      (∀ j, j ≠ i → t.slot j = s.slot j) ∧ t.chu = s.chu ∧ t.qxu = s.qxu ∧
      Gives s t (if q.gate = .shut then [] else [⟨.visitor, .slot i, 6, c, 0, 0, 0, 0, s.rqp.shipTime⟩]) := by
  intro t
  have hwait : ((((s.visitor i).bind (·.partner)).bind s.partner).map (·.retryWait)).getD 0 = r.retryWait := by
    rw [hv, Option.bind_some, hp, Option.bind_some, hr]
    rfl
  let wait (q : Quota) : Quota := { q with retry := some r.retryWait }
  have ht : t = (if q.gate = .shut then id else giveNotice .visitor (.slot i) 6 c 0 0 0 0)
      ((s.updQuota i wait).setSlot i { (s.updQuota i wait).slot i with
        visitor := some { v with quota := some { wait q with gate := .shut } } }) := by
    show refuseQuota i c s = _
    rw [refuseQuota]
    simp only [hwait]
    exact shutGate_eq c (visitor_updQuota_self wait hv hq) rfl
  have huslot : (s.updQuota i wait).slot i = { s.slot i with visitor := some { v with quota := some (wait q) } } := by
    rw [updQuota_of wait hv hq, State.setSlot_slot_self]
  rw [huslot] at ht
  have hnotice (z : State) : ((if q.gate = .shut then id else giveNotice .visitor (.slot i) 6 c 0 0 0 0) z).vrg = z.vrg := by
    split
    · rfl
    · exact giveNotice_vrg ..
  refine ⟨?_, fun j hj => ?_, ?_, ?_, ?_⟩
  · rw [ht, State.slot, hnotice]
    exact State.setSlot_slot_self ..
  · rw [ht, State.slot, hnotice]
    exact (setSlot_slot_other hj).trans (slot_updQuota_other wait hj)
  · rw [ht]
    split <;> simp
  · rw [ht]
    split <;> simp
  · rw [ht]
    split
    · exact gives_nil (by simp) (by simp)
    · exact gives_giveNotice_of_rqp (z := (s.updQuota i wait).setSlot i _) (State.updQuota_rqp ..) _ _ _ _ _ _ _ _

/-- What the credit operations on a slot leave beside it: the other slots, and every block but the exchange unit and the
notices. -/
theorem reorderThenGate_rest (i : Nat) (s : State) :
    (gateEvaluation i (reorderCheck i s)).chu = s.chu ∧ desk (gateEvaluation i (reorderCheck i s)) = desk s ∧
      OutsideVisitors s (gateEvaluation i (reorderCheck i s)) :=
  ⟨by simp, by simp, outside_of_stage (by simp [stage]) (by simp)⟩

theorem grantAndDeny : Claims.GrantAndDeny := by
  intro x v q p r a n s hv hp hq hvp hr ha hrep
  let w := s.setAccount x.account (some { a with unreported := a.unreported - n })
  have hlower : lowerUnreported x.account x.reported s = w := by rw [hrep]; exact lowerUnreported_some ha
  have hwv : w.visitor x.slot = some v := hv
  have hnot : w.departing x.slot = false := departing_eq_false hwv hp
  have hother (j : Nat) (hj : j ≠ x.account) : w.account j = s.account j := by
    rw [State.setAccount_account, if_neg (Ne.symm hj)]
  constructor
  · intro units validity final left after t
    let credit (q : Quota) : Quota :=
      { q with
        remaining := min Config.remainingMax (q.remaining + units)
        lastGrant := units
        expiry := if validity = 0 then none else some validity
        final := final }
    let u := w.updQuota x.slot credit
    have huv : u.visitor x.slot = some { v with quota := some after } := visitor_updQuota_self credit hwv hq
    have htdef : t = gateEvaluation x.slot (reorderCheck x.slot u) := by
      show applyGrant x units validity final s = _
      rw [applyGrant, hlower]
      exact if_neg (by simp [hnot])
    obtain ⟨hsettled, hslots⟩ := reorderThenGate_settles huv hp rfl
    obtain ⟨hchu, hdesk, houtside⟩ := reorderThenGate_rest x.slot u
    rw [← htdef] at hsettled hslots hchu hdesk houtside
    have huslot : u.slot x.slot = { s.slot x.slot with visitor := some { v with quota := some after } } := by
      rw [show u = _ from updQuota_of credit hwv hq, State.setSlot_slot_self]
      rfl
    have huchu : u.chu = w.chu := State.updQuota_chu ..
    refine ⟨?_, ?_, fun j hj => ?_, ?_, fun j hj => ?_, ?_, ?_, ?_⟩
    · have hgate : ({ v with quota := some after } : Visitor).quota = some after := rfl
      refine hsettled.transfer (g := id) ⟨?_, ?_, ?_, ?_, ?_, ?_, fun j => ?_, fun j => ?_⟩ ?_
        (gives_nil (by simp [u, w]) (by simp [u, w])) rfl rfl rfl rfl (fun _ _ _ => rfl) ?_ (by simp) rfl rfl rfl
      · simp [u, w]
      · rw [huslot]
      · rw [huslot]
      · rw [huslot]
      · simp [u, w]
      · simp [u, w]
      · rw [State.partner, huchu]
        rfl
      · simp [u, w, State.eligible, State.permitInForce, State.zoneInForce, State.link, State.zone]
      · rw [huslot]
      · have hpartners : u.partner = s.partner := by
          funext j
          rw [State.partner, huchu]
          rfl
        have hreorder : reorderAt u { v with quota := some after } after = reorderAt s v after := by
          rw [reorderAt, reorderAt, hpartners]
        rw [CreditAsks, hreorder]
    · rw [State.account, hchu, huchu]
      exact State.setAccount_account_self ..
    · rw [State.account, hchu, huchu]
      exact hother j hj
    · rw [hchu, huchu]
      rfl
    · rw [hslots j hj]
      exact slot_updQuota_other credit hj
    · exact vrg_of_desk (hdesk.trans (desk_updQuota (s := w) ..))
    · rw [htdef]
      exact outside_of_stage (by simp [stage, u, w]) (by simp [u, w])
    · rw [htdef]
      exact (told_gateEvaluation _ (told_reorderCheck _ (told_updQuota _ _ (told_setAccount _ _ (told_self s))))).portKept
  · intro units validity final t
    have htdef : t = refuseQuota x.slot 1 w := by
      show applyDeny x s = _
      rw [applyDeny, hlower]
      exact if_neg (by simp [hnot])
    obtain ⟨hslot, hslots, hchu, hqxu, hgives⟩ := refuseQuota_leaves 1 hwv hq hvp hr
    rw [← htdef] at hslot hslots hchu hqxu hgives
    refine ⟨?_, ?_, hqxu, hgives, hslots, ?_⟩
    · rw [State.quota, State.visitor, hslot]
      rfl
    · rw [State.account, hchu]
      exact State.setAccount_account_self ..
    · rw [htdef]
      exact outside_of_stage (by simp [stage, w]) (by simp [w])

/-- Settles O31. -/
theorem answerTaken : Obligations.AnswerTaken := ⟨answerJudged, grantAndDeny⟩

end Sys2Proof.Machine
end

section
/-! PROOFS. The failure of an exchange, its end, and the outcomes of its answer (chapter 4). -/

namespace Sys2Proof.Machine

variable {s t u : State} {f : Frame}

/-! ### The notice of an exchange that is TO_SEND (R79) -/

/-- What the notice of a TO_SEND exchange moves: the notices, or the flag that one is owed. -/
theorem noticeToSend_leaves {i : Nat} {x : Exchange} (hx : (s.entry i).ex = some x) :
    let t := noticeToSend i s
    t.qxu = { s.qxu with owed := t.qxu.owed } ∧
      (s.anyControlEligible = true → t.qxu.owed = s.qxu.owed ∧ Gives s t
        [⟨.exchange, .exchange i, 1, xkindByte x.kind, if x.second then 2 else 1, (s.entry i).use, 0, 0, s.rqp.shipTime⟩]) ∧
      (s.anyControlEligible = false → t.qxu.owed = true ∧ t.rqp = s.rqp) := by
  intro t
  have ht : t = _ := noticeToSend_eq hx
  cases h : s.anyControlEligible with
  | true =>
    rw [h, if_pos rfl] at ht
    have hqxu : t.qxu = s.qxu := by rw [ht]; exact giveNotice_qxu ..
    refine ⟨by rw [hqxu], fun _ => ⟨by rw [hqxu], ?_⟩, nofun⟩
    rw [ht]
    exact gives_giveNotice _ _ _ _ _ _ _ _ s
  | false =>
    rw [h, if_neg Bool.false_ne_true] at ht
    rw [ht]
    exact ⟨rfl, nofun, fun _ => ⟨rfl, rfl⟩⟩

/-! ### An exchange re-queued (R90) -/

/-- What the re-queueing of an exchange does before its notice. -/
def requeued (i : Nat) (x : Exchange) (v : Visitor) (s : State) : State :=
  (s.setSlot x.slot { s.slot x.slot with visitor := some { v with xref := some ⟨i, (s.entry i).use + 1⟩ } }).withQxu
    { s.qxu with
      entries := tset xentryReset s.qxu.entries i
        ⟨(s.entry i).use + 1, some { x with sent := false, second := true, timer := s.settings.timeout }⟩
      order := s.qxu.order.filter (· != i) ++ [i] }

theorem requeue_eq {i : Nat} {x : Exchange} {v : Visitor} (hv : s.visitor x.slot = some v) :
    requeue i x s = noticeToSend i (requeued i x v s) := by
  have hv' : (s.slot x.slot).visitor = some v := hv
  simp only [requeue, State.updVisitor]
  simp [hv']
  rfl

theorem requeued_entry (i : Nat) (x : Exchange) (v : Visitor) (s : State) (j : Nat) :
    (requeued i x v s).entry j =
      if i = j then ⟨(s.entry i).use + 1, some { x with sent := false, second := true, timer := s.settings.timeout }⟩
      else s.entry j := tget_tset ..

theorem exchangeFails_second {i : Nat} {x : Exchange} {v : Visitor} (hx : (s.entry i).ex = some x)
    (hv : s.visitor x.slot = some v) (hfirst : x.second = false) :
    let t := failExchange i s
    t.entry i = ⟨(s.entry i).use + 1, some { x with sent := false, second := true, timer := s.settings.timeout }⟩ ∧
      (∀ j, j ≠ i → t.entry j = s.entry j) ∧ t.qxu.order = s.qxu.order.filter (· != i) ++ [i] ∧
      t.qxu.deferred = s.qxu.deferred ∧
      t.slot x.slot = { s.slot x.slot with visitor := some { v with xref := some ⟨i, (s.entry i).use + 1⟩ } } ∧
      (∀ j, j ≠ x.slot → t.slot j = s.slot j) ∧ t.chu = s.chu ∧ OutsideVisitors s t ∧ PortKept s t ∧
      (s.anyControlEligible = true → t.qxu.owed = s.qxu.owed ∧ Gives s t
        [⟨.exchange, .exchange i, 1, xkindByte x.kind, 2, (s.entry i).use + 1, 0, 0, s.rqp.shipTime⟩]) ∧
      (s.anyControlEligible = false → t.qxu.owed = true ∧ t.rqp = s.rqp) := by
  intro t
  let u := requeued i x v s
  have ht : t = noticeToSend i u := by
    show failExchange i s = _
    rw [failExchange]
    simp only [hx, hfirst, Bool.false_eq_true, if_false]
    exact requeue_eq hv
  have huentry (j : Nat) : u.entry j = _ := requeued_entry i x v s j
  have hui : u.entry i = _ := (huentry i).trans (if_pos rfl)
  obtain ⟨hqxu, hlinked, hnone⟩ := noticeToSend_leaves (s := u) (i := i) (congrArg XEntry.ex hui)
  rw [← ht] at hqxu hlinked hnone
  have hentry (j : Nat) : t.entry j = u.entry j := by
    rw [State.entry, hqxu]
    rfl
  have hslot (j : Nat) : t.slot j = u.slot j := by
    rw [ht, State.slot, noticeToSend_vrg]
    rfl
  have heligible : u.anyControlEligible = s.anyControlEligible := rfl
  rw [heligible] at hlinked hnone
  refine ⟨(hentry i).trans hui, fun j hj => ?_, ?_, ?_, ?_, fun j hj => ?_, ?_, ?_, ?_, ?_, hnone⟩
  · rw [hentry, huentry, if_neg (Ne.symm hj)]
  · rw [hqxu]
    rfl
  · rw [hqxu]
    rfl
  · rw [hslot]
    exact State.setSlot_slot_self ..
  · rw [hslot]
    exact setSlot_slot_other hj
  · rw [ht, noticeToSend_chu]
    rfl
  · rw [ht]
    exact outside_of_stage (by simp [stage, u, requeued]) (by simp [u, requeued])
  · rw [ht]
    exact (told_noticeToSend _ (told_of_rqp (s := s) (t := u) rfl (told_self s))).portKept
  · rw [hui] at hlinked
    exact hlinked

/-- Settles O33. -/
theorem exchangeFails : Obligations.ExchangeFails := by
  refine ⟨fun f ref s ht => ?_, fun i s => rfl, fun i x v s hx hv => ⟨fun hsecond => ?_, fun hfirst =>
    exchangeFails_second hx hv hfirst⟩⟩
  · intro i answers
    have hwork : exec (.xfail f ref) s = .next (deliver kXfail f.tag (doXfail ref (arrive f s))) := exec_taken rfl ht
    refine ⟨fun hhigh => hwork.trans ?_, fun hlow hstale => hwork.trans ?_, fun x hlow hx huse hsent => hwork.trans ?_⟩
    · have hrefused : doXfail ref (arrive f s) = reply .badArg (arrive f s) := if_pos hhigh
      rw [hrefused]
      rfl
    · have hlow' : ¬ 63 < refEntry ref := not_lt.mpr hlow
      simp only [doXfail, if_neg hlow', arrive_sentExchange, sentExchange_eq_none hstale]
      rfl
    · have hlow' : ¬ 63 < refEntry ref := not_lt.mpr hlow
      simp only [doXfail, if_neg hlow', arrive_sentExchange, sentExchange_eq_some hx huse hsent]
      rfl
  · simp only [failExchange, hx, hsecond, if_true]

end Sys2Proof.Machine
end

section
/-! PROOFS. The end of an exchange and the outcomes handed to the visitor register (chapter 4). -/

namespace Sys2Proof.Machine

variable {s t u : State} {f : Frame}

/-! ### A record written twice -/

theorem terase_terase {α : Type} (t : Table α) (i : Nat) : terase (terase t i) i = terase t i := by
  induction t with
  | nil => rfl
  | cons e t ih =>
    obtain ⟨k, v⟩ := e
    by_cases hk : k = i <;> simp [terase, hk, ih]

theorem terase_tinsert {α : Type} (t : Table α) (i : Nat) (v : α) : terase (tinsert t i v) i = terase t i := by
  induction t with
  | nil => simp [tinsert, terase]
  | cons e t ih =>
    obtain ⟨k, w⟩ := e
    by_cases hlt : i < k
    · simp [tinsert, hlt, terase]
    · by_cases hk : k = i <;> simp [tinsert, hlt, terase, hk, ih]

theorem tset_tset {α : Type} [DecidableEq α] (d : α) (t : Table α) (i : Nat) (v w : α) :
    tset d (tset d t i v) i w = tset d t i w := by
  have herase : terase (tset d t i v) i = terase t i := by
    unfold tset
    split
    · exact terase_terase ..
    · rw [terase_tinsert, terase_terase]
  rw [tset, herase]
  rfl

theorem setSlot_setSlot (s : State) (i : Nat) (a b : Slot) : (s.setSlot i a).setSlot i b = s.setSlot i b := by
  have hslots := tset_tset slotReset s.vrg.slots i a b
  simp only [State.setSlot, State.withVrg_vrg, hslots]
  rfl

/-! ### An exchange that ends (R92, R97) -/

/-- What the end of an exchange does before the deferred list is served. -/
def freed (i : Nat) (x : Exchange) (s : State) : State :=
  ((s.setEntry i ⟨(s.entry i).use, none⟩).withQxu
    { s.qxu with entries := tset xentryReset s.qxu.entries i ⟨(s.entry i).use, none⟩
                 order := s.qxu.order.filter (· != i) }).updVisitor x.slot fun v => { v with xref := none }

theorem freeEntry_eq {i : Nat} {x : Exchange} (hx : (s.entry i).ex = some x) :
    freeEntry i s = serveDeferred i (freed i x s) := by
  simp only [freeEntry, hx]
  rfl

theorem freed_qxu (i : Nat) (x : Exchange) (s : State) : (freed i x s).qxu = { s.qxu with
    entries := tset xentryReset s.qxu.entries i ⟨(s.entry i).use, none⟩
    order := s.qxu.order.filter (· != i) } := by
  simp [freed]

theorem freed_slot_other {i j : Nat} {x : Exchange} (hj : j ≠ x.slot) : (freed i x s).slot j = s.slot j := by
  unfold freed State.updVisitor
  split
  · exact setSlot_slot_other hj
  · rfl

theorem freed_slot {i : Nat} {x : Exchange} {v : Visitor} (hv : s.visitor x.slot = some v) :
    (freed i x s).slot x.slot = { s.slot x.slot with visitor := some { v with xref := none } } := by
  have hv' : ((s.setEntry i ⟨(s.entry i).use, none⟩).withQxu
    { s.qxu with entries := tset xentryReset s.qxu.entries i ⟨(s.entry i).use, none⟩
                 order := s.qxu.order.filter (· != i) }).visitor x.slot = some v := hv
  rw [freed, updVisitor_of_visitor _ hv', State.setSlot_slot_self]
  rfl

theorem freed_entry (i : Nat) (x : Exchange) (s : State) (j : Nat) :
    (freed i x s).entry j = if i = j then ⟨(s.entry i).use, none⟩ else s.entry j := by
  rw [State.entry, freed_qxu]
  exact tget_tset ..

theorem freed_rqp (i : Nat) (x : Exchange) (s : State) : (freed i x s).rqp = s.rqp := by
  simp [freed]

theorem freed_chu (i : Nat) (x : Exchange) (s : State) : (freed i x s).chu = s.chu := by
  simp [freed]

/-- With nobody on the deferred list the freed entry is served to nobody. -/
theorem freeEntry_of_nobody {i : Nat} {x : Exchange} (hx : (s.entry i).ex = some x) (hnobody : s.qxu.deferred = []) :
    freeEntry i s = freed i x s := by
  rw [freeEntry_eq hx, serveDeferred, freed_qxu]
  simp only [hnobody]

theorem exchangeEnds : Claims.ExchangeEnds := by
  intro i x v s hx hnobody hv
  rw [freeEntry_of_nobody hx hnobody]
  refine ⟨?_, fun j hj => ?_, ?_, freed_slot hv, fun j hj => freed_slot_other hj, freed_chu .., freed_rqp .., ?_⟩
  · rw [freed_entry, if_pos rfl]
  · rw [freed_entry, if_neg (Ne.symm hj)]
  · rw [freed_qxu]
  · exact outside_of_stage (by simp [freed]) (by simp [freed])

/-- What the creation of an exchange in an entry leaves (R77, R78, R97), its notice apart. -/
theorem createExchange_leaves {i j : Nat} {v : Visitor} (k : XKind) (hv : s.visitor i = some v) :
    let t := createExchange j i k s
    t.slot i = { s.slot i with visitor := some { v with xref := some ⟨j, (s.entry j).use + 1⟩, deferred := false } } ∧
      (∀ m, m ≠ i → t.slot m = s.slot m) ∧ t.entry j = ⟨(s.entry j).use + 1, some (s.newExchange i k)⟩ ∧
      (∀ m, m ≠ j → t.entry m = s.entry m) ∧ t.qxu.order = s.qxu.order ++ [j] ∧ t.qxu.deferred = s.qxu.deferred ∧
      t.chu = s.chu := by
  intro t
  have ht : t = noticeToSend j _ := createExchange_eq k hv
  generalize hz : (s.setSlot i { s.slot i with
      visitor := some { v with xref := some ⟨j, (s.entry j).use + 1⟩, deferred := false } }).withQxu
    { s.qxu with
      entries := tset xentryReset s.qxu.entries j ⟨(s.entry j).use + 1, some (s.newExchange i k)⟩
      order := s.qxu.order ++ [j] } = z at ht
  have hentry (m : Nat) : z.entry m = if j = m then ⟨(s.entry j).use + 1, some (s.newExchange i k)⟩ else s.entry m := by
    rw [← hz]
    exact tget_tset ..
  obtain ⟨hqxu, -⟩ := noticeToSend_leaves (s := z) (i := j) (congrArg XEntry.ex ((hentry j).trans (if_pos rfl)))
  rw [← ht] at hqxu
  have hslot (m : Nat) : t.slot m = z.slot m := by
    rw [ht, State.slot, noticeToSend_vrg]
    rfl
  have htentry (m : Nat) : t.entry m = z.entry m := by
    rw [State.entry, hqxu]
    rfl
  refine ⟨?_, fun m hm => ?_, ?_, fun m hm => ?_, ?_, ?_, ?_⟩
  · rw [hslot, ← hz]
    exact State.setSlot_slot_self ..
  · rw [hslot, ← hz]
    exact setSlot_slot_other hm
  · rw [htentry, hentry, if_pos rfl]
  · rw [htentry, hentry, if_neg (Ne.symm hm)]
  · rw [hqxu, ← hz]
    rfl
  · rw [hqxu, ← hz]
    rfl
  · rw [ht, noticeToSend_chu, ← hz]
    rfl

/-- An exchange asked for where an entry is free takes the lowest (R78 case 1). -/
theorem requestExchange_of_free {j : Nat} (i : Nat) (k : XKind) (hj : j < 64) (hfree : (s.entry j).ex = none)
    (hbelow : ∀ m < j, (s.entry m).ex.isSome) : requestExchange i k s = createExchange j i k s := by
  simp only [requestExchange, firstIndex_free hj hfree hbelow]

theorem deferredServed : Claims.DeferredServed := by
  intro i x w rest v s hx hdeferred hv hne
  let z := (freed i x s).withQxu { (freed i x s).qxu with deferred := rest }
  have hzslot : z.slot w.slot = s.slot w.slot := freed_slot_other hne
  have hzv : z.visitor w.slot = some v := by
    rw [State.visitor, hzslot]
    exact hv
  have hzentry : z.entry i = ⟨(s.entry i).use, none⟩ := (freed_entry i x s i).trans (if_pos rfl)
  have hdone : freeEntry i s = createExchange i w.slot w.kind z := by
    have hlist : (freed i x s).qxu.deferred = w :: rest := by
      rw [freed_qxu]
      exact hdeferred
    rw [freeEntry_eq hx, serveDeferred]
    simp only [hlist]
    rfl
  obtain ⟨hslot, -, hentry, -, horder, hrest, -⟩ := createExchange_leaves (j := i) w.kind hzv
  have hsettings : z.settings = s.settings := congrArg Rqp.settings (freed_rqp i x s)
  have hpartner (p : Nat) : z.partner p = s.partner p := by
    rw [State.partner, show z.chu = s.chu from freed_chu i x s]
    rfl
  rw [hdone]
  rw [hzentry] at hentry hslot
  refine ⟨_, _, hentry, rfl, rfl, ?_, rfl, rfl, ?_, fun p r hp hr => ?_, hrest, ?_, rfl, ?_⟩
  · show (z.slot w.slot).gen = _
    rw [hzslot]
  · show z.settings.timeout = _
    rw [hsettings]
  · have hv' : (s.slot w.slot).visitor = some v := hv
    show (((((z.slot w.slot).visitor.bind (·.partner)).bind z.partner).map (·.request)).getD 0) = _
    rw [hzslot, hv', Option.bind_some, hp, Option.bind_some, hpartner, hr]
    rfl
  · rw [State.visitor, hslot]
  · rw [horder, show z.qxu.order = s.qxu.order.filter (· != i) by rw [show z.qxu.order = (freed i x s).qxu.order from rfl, freed_qxu]]

/-! ### Authorization (R15) -/

theorem unitServing_iff (s : State) (k : Nat) : s.unitServing k = true ↔ (s.unit k).state = .serving := by
  simp [State.unitServing]

theorem gateEvaluation_of_noQuota {i : Nat} {v : Visitor} (hv : s.visitor i = some v) (hq : v.quota = none) :
    gateEvaluation i s = s := by
  simp [gateEvaluation, hv, hq]

theorem becameActive_of_noQuota {i : Nat} {v : Visitor} (hv : s.visitor i = some v) (hq : v.quota = none) :
    becameActive i s = s := by
  simp [becameActive, hv, hq]

/-- The visitor whose authorization stands: ACTIVE where its unit is SERVING and SUSPENDED otherwise (R15). -/
def authorized (s : State) (v : Visitor) : Visitor :=
  { v with
    state := if (s.unit v.unit).state = .serving then .active else .suspended
    retire := if (s.unit v.unit).state = .serving then idleLimit s.settings v.cls else some s.settings.muteHold }

theorem activate_eq {i : Nat} {v : Visitor} (hv : s.visitor i = some v) (hon : (s.unit v.unit).state = .serving) :
    activate i s = s.setSlot i { s.slot i with visitor := some (authorized s v) } := by
  rw [activate, updVisitor_of_visitor _ hv, authorized, if_pos hon, if_pos hon]

theorem suspend_eq {i : Nat} {v : Visitor} (hv : s.visitor i = some v) (hoff : (s.unit v.unit).state ≠ .serving) :
    suspend i s = s.setSlot i { s.slot i with visitor := some (authorized s v) } := by
  rw [suspend, updVisitor_of_visitor _ hv, authorized, if_neg hoff, if_neg hoff]

/-- What an authorization does before its notice. -/
def authorizes (i : Nat) (v : Visitor) (s : State) : State :=
  let u := s.setSlot i { s.slot i with visitor := some (authorized s v) }
  if (s.unit v.unit).state = .serving then becameActive i u else gateEvaluation i u

theorem authorizationAdmit_eq {i : Nat} {v : Visitor} (b : Byte) (hv : s.visitor i = some v) :
    authorizationAdmit i b s =
      giveNotice .visitor (.slot i) 3 b ((authorizes i v s).slotStateByte i) 0 0 0 (authorizes i v s) := by
  have hu : (if s.unitServing v.unit then becameActive i (activate i s) else gateEvaluation i (suspend i s)) =
      authorizes i v s := by
    rw [authorizes]
    by_cases hon : (s.unit v.unit).state = .serving
    · rw [if_pos ((unitServing_iff s v.unit).mpr hon), if_pos hon, activate_eq hv hon]
    · rw [if_neg (mt (unitServing_iff s v.unit).mp hon), if_neg hon, suspend_eq hv hon]
  simp only [authorizationAdmit, hv, hu]

theorem slotStateByte_of {i : Nat} {v : Visitor} (hv : s.visitor i = some v) :
    s.slotStateByte i = visitorStateByte (some v.state) := by
  rw [State.slotStateByte, hv]
  rfl

theorem authorized_claim : Claims.Authorized := by
  intro x v units validity final s hv hq on w admitted
  have hwv : (s.setSlot x.slot { s.slot x.slot with visitor := some (authorized s v) }).visitor x.slot = some (authorized s v) := by
    rw [State.visitor, State.setSlot_slot_self]
  have hu : authorizes x.slot v s = s.setSlot x.slot { s.slot x.slot with visitor := some (authorized s v) } := by
    simp only [authorizes]
    split
    · exact becameActive_of_noQuota hwv hq
    · exact gateEvaluation_of_noQuota hwv hq
  have hstate : visitorStateByte (some (authorized s v).state) = if on then 2 else 3 := by
    by_cases hon : on
    · rw [authorized, if_pos hon, if_pos hon, if_pos hon]
      rfl
    · rw [authorized, if_neg hon, if_neg hon, if_neg hon]
      rfl
  have hadmit (b : Byte) : admitted b (authorizationAdmit x.slot b s) := by
    show authorizationAdmit x.slot b s = _
    rw [authorizationAdmit_eq b hv, hu, slotStateByte_of hwv, hstate]
    rfl
  refine ⟨hadmit 0, fun hk p r hp hr hopen => ?_⟩
  have hdone : applySecondFailure x s = authorizationAdmit x.slot 1 s := by
    simp [applySecondFailure, hk, hv, hp, hr, hopen]
  rw [hdone]
  exact hadmit 1

/-! ### A visitor that leaves (R3, R31) -/

/-- What the freeing of an entry leaves: the slot keeps all but its visitor, and the partner has a visitor less. -/
theorem becomeFree_leaves {i p : Nat} {v : Visitor} {r : Partner} (hv : s.visitor i = some v) (hp : v.partner = some p)
    (hr : s.partner p = some r) :
    let t := becomeFree i s
    t.slot i = { s.slot i with visitor := none } ∧ (∀ j, j ≠ i → t.slot j = s.slot j) ∧
      t.partner p = some { r with visitors := r.visitors - 1 } ∧ (∀ j, j ≠ p → t.partner j = s.partner j) ∧
      (∀ j, t.account j = s.account j) ∧ t.chu = { s.chu with partners := t.chu.partners } ∧ t.rqp = s.rqp ∧ t.qxu = s.qxu ∧
      desk t = desk s ∧ OutsideVisitors s t := by
  intro t
  have hr' : (s.setSlot i { s.slot i with visitor := none }).partner p = some r := hr
  have ht : t = (s.setSlot i { s.slot i with visitor := none }).setPartner p (some { r with visitors := r.visitors - 1 }) := by
    show becomeFree i s = _
    simp only [becomeFree, hv, hp, State.updVisitors, hr']
  rw [ht]
  refine ⟨State.setSlot_slot_self .., fun j hj => setSlot_slot_other hj, ?_, fun j hj => ?_, fun _ => rfl, rfl, rfl, rfl, rfl,
    rfl, rfl, rfl, rfl, rfl, rfl⟩
  · rw [State.setPartner_partner_self]
  · rw [State.setPartner_partner, if_neg (Ne.symm hj)]
    rfl

theorem otherOutcomes : Claims.OtherOutcomes := by
  intro x v units validity final p r a s hv hp hr ha
  refine ⟨rfl, fun hk hclosed => ?_, ?_, fun hk => ?_, fun hk hpresent q hq => ?_⟩
  · simp [applySecondFailure, hk, hv, hp, hr, hclosed]
  · intro t
    let w := lowerUnreported x.account x.reported s
    have hw : w = s.setAccount x.account (some { a with unreported := a.unreported - x.reported.getD 0 }) :=
      updAccount_some _ ha
    have hwv : w.visitor x.slot = some v := by rw [hw]; exact hv
    have hwr : w.partner p = some r := by rw [hw]; exact hr
    obtain ⟨hslot, -, hpartner, -, haccount, -, hrqp, hqxu, -, houtside⟩ := becomeFree_leaves hwv hp hwr
    refine ⟨?_, fun n hn => ?_, hpartner, ?_, ?_, ?_⟩
    · refine hslot.trans ?_
      rw [hw]
      rfl
    · refine (haccount x.account).trans ?_
      rw [hw, State.setAccount_account_self, hn]
      rfl
    · refine hrqp.trans ?_
      rw [hw]
      rfl
    · refine hqxu.trans ?_
      rw [hw]
      rfl
    · have hout : OutsideVisitors s (becomeFree x.slot w) := by
        rw [hw] at houtside ⊢
        exact houtside
      exact hout
  · intro t
    let w := s.setAccount x.account (some { a with unrepMark := true })
    have ht : t = becomeFree x.slot w := by
      show applySecondFailure x s = _
      simp only [applySecondFailure, hk, updAccount_some _ ha]
      rfl
    have hwv : w.visitor x.slot = some v := hv
    have hwr : w.partner p = some r := hr
    obtain ⟨hslot, -, -, -, haccount, -, hrqp, hqxu, -, houtside⟩ := becomeFree_leaves hwv hp hwr
    rw [ht]
    refine ⟨hslot, ?_, hrqp, hqxu, houtside⟩
    rw [haccount]
    exact State.setAccount_account_self ..
  · intro t
    have ht : t = refuseQuota x.slot 2 s := by
      show applySecondFailure x s = _
      simp [applySecondFailure, hk, departing_eq_false hv hpresent]
    obtain ⟨hslot, -, hchu, -, hgives⟩ := refuseQuota_leaves 2 hv hq hp hr
    rw [ht]
    refine ⟨?_, ?_, hgives⟩
    · rw [State.quota, State.visitor, hslot]
      rfl
    · rw [State.account, hchu]
      exact ha

/-! ### Authorization with a quota part (R70, R73, R78) -/

/-- The condition of the initial QUOTA exchange and of its reorder (R73). -/
def InitialAsks (s : State) (v : Visitor) (q : Quota) : Prop :=
  v.xref = none ∧ v.deferred = false ∧ q.final = false ∧ q.retry = none ∧ (q.lastGrant = 0 ∨ q.remaining ≤ reorderAt s v q)

/-- A visitor with a quota part that has become ACTIVE (R73): what is asked for, and the gate. -/
theorem becameActive_settles {i : Nat} {v : Visitor} {q : Quota} (hv : s.visitor i = some v) (hp : v.state ≠ .departing)
    (hq : v.quota = some q) :
    CreditSettled s (becameActive i s) i v q (InitialAsks s v q ∨ GateAsks v q) [] ∧
      ∀ j, j ≠ i → (becameActive i s).slot j = s.slot j := by
  have hdone : becameActive i s = gateEvaluation i
      (if !hasExchange v ∧ !q.final ∧ q.retry = none ∧ (q.lastGrant = 0 ∨ q.remaining ≤ s.reorderLevel v q) then
        requestExchange i .quota s else s) := by
    simp only [becameActive, hv, hq]
  have hiff : ((!hasExchange v) = true ∧ (!q.final) = true ∧ q.retry = none ∧
      (q.lastGrant = 0 ∨ q.remaining ≤ s.reorderLevel v q)) ↔ InitialAsks s v q := by
    rw [Bool.not_eq_true', Bool.not_eq_true', hasExchange_eq_false, InitialAsks, ← reorderLevel_eq, and_assoc]
  obtain ⟨⟨w, hslot, hw, hasked, hnot⟩, hothers⟩ := askThenGate_settles hv hp hq fun h => by
    obtain ⟨h1, h2, h3, -⟩ := hiff.mp h
    exact ⟨h1, h2, h3⟩
  rw [← hdone] at hslot hasked hnot hothers
  exact ⟨⟨w, hslot, hw, fun h => hasked (h.imp_left hiff.mpr), fun h => hnot (mt (Or.imp_left hiff.mp) h)⟩, hothers⟩

/-- What an authorization leaves beside its slot and the exchange unit. -/
theorem authorizes_rest (i : Nat) (v : Visitor) (s : State) :
    (authorizes i v s).chu = s.chu ∧ OutsideVisitors s (authorizes i v s) ∧ PortKept s (authorizes i v s) := by
  have hset : Told s.rqp (s.setSlot i { s.slot i with visitor := some (authorized s v) }) := told_setSlot _ _ (told_self s)
  simp only [authorizes]
  split
  · exact ⟨by simp, outside_of_stage (by simp) (by simp), (told_becameActive _ hset).portKept⟩
  · exact ⟨by simp, outside_of_stage (by simp) (by simp), (told_gateEvaluation _ hset).portKept⟩

theorem authorizedOnline : Claims.AuthorizedOnline := by
  intro x v q units validity final j s hv hq hxref hdeferred hretry hfinal hj hfree hbelow on credit w
  let a := authorized s v
  let u := s.setSlot x.slot { s.slot x.slot with visitor := some a }
  let t := authorizes x.slot v s
  have huv : u.visitor x.slot = some a := by rw [State.visitor, State.setSlot_slot_self]
  have hpresent : a.state ≠ .departing := by
    show (if on then VisitorState.active else .suspended) ≠ .departing
    split <;> nofun
  have hgate : gateAfter a q = if credit then .opened else .waiting := by
    by_cases hc : credit
    · rw [if_pos hc]
      exact gateAfter_opened hretry hc
    · have hc' : ¬ 0 < q.remaining := hc
      rw [if_neg hc]
      simp [gateAfter, hretry, hc', hfinal]
  have hsettled : CreditSettled u t x.slot a q ((on ∧ (InitialAsks u a q)) ∨ GateAsks a q) [] ∧
      ∀ m, m ≠ x.slot → t.slot m = u.slot m := by
    by_cases hon : on
    · have ht : t = becameActive x.slot u := if_pos hon
      obtain ⟨⟨z, h1, h2, h3, h4⟩, h5⟩ := becameActive_settles huv hpresent hq
      rw [ht]
      exact ⟨⟨z, h1, h2, fun h => h3 (h.imp_left And.right), fun h => h4 (mt (Or.imp_left fun ha => ⟨hon, ha⟩) h)⟩, h5⟩
    · have ht : t = gateEvaluation x.slot u := if_neg hon
      obtain ⟨⟨z, h1, h2, h3, h4⟩, h5⟩ := gateEvaluation_settles huv hpresent hq
      rw [ht]
      exact ⟨⟨z, h1, h2, fun h => h3 (h.resolve_left fun ha => hon ha.1), fun h => h4 fun ha => h (.inr ha)⟩, h5⟩
  obtain ⟨⟨z, hslot, hz, hasked, -⟩, hslots⟩ := hsettled
  obtain ⟨hchu, houtside, hport⟩ := authorizes_rest x.slot v s
  have htv : t.visitor x.slot = some z := by rw [State.visitor, hslot]
  have hstate : visitorStateByte (some z.state) = if on then 2 else 3 := by
    have hzs : z.state = if on then .active else .suspended := by rw [hz]; rfl
    rw [hzs]
    split <;> rfl
  refine ⟨t, ?_, hchu, fun m hm => ?_, houtside, hport, fun hoff hc => ?_, fun hasks => ?_⟩
  · show authorizationAdmit x.slot 0 s = _
    rw [authorizationAdmit_eq 0 hv, slotStateByte_of htv, hstate]
  · rw [hslots m hm]
    exact setSlot_slot_other hm
  · have ht : t = gateEvaluation x.slot u := if_neg hoff
    have hopened : gateEvaluation x.slot u = u.updQuota x.slot fun q => { q with gate := .opened } := by
      have hp : present a = true := by simpa [present] using hpresent
      have hqa : a.quota = some q := hq
      have hc' : 0 < q.remaining := hc
      simp [gateEvaluation, huv, hqa, hp, hretry, hc']
    rw [ht, hopened, updQuota_of _ huv hq, setSlot_setSlot, State.setSlot_slot_self]
    have hwa : { a with quota := some { q with gate := .opened } } = w := by
      show _ = { a with quota := some { q with gate := if credit then .opened else .waiting } }
      rw [if_pos hc]
    rw [hwa]
  · have ha : (on ∧ InitialAsks u a q) ∨ GateAsks a q := by
      rcases hasks with ⟨hon, hgrant⟩ | ⟨-, hc⟩
      · exact .inl ⟨hon, hxref, hdeferred, hfinal, hretry, .inl hgrant⟩
      · exact .inr ⟨hxref, hdeferred, hfinal, hretry, not_lt.mp hc⟩
    obtain ⟨h1, h2, h3, h4, h5, h6, -⟩ := (hasked ha).1 j hj hfree hbelow
    refine ⟨?_, ⟨_, h3, rfl, rfl, rfl, rfl, rfl, h4, h5, h6⟩⟩
    have huslot : u.slot x.slot = { s.slot x.slot with visitor := some a } := State.setSlot_slot_self ..
    rw [hslot, huslot]
    have hzw : z = { w with xref := some ⟨j, (s.entry j).use + 1⟩ } := by
      rw [hz, h1, h2, hgate, ← hdeferred]
      rfl
    rw [hzw]

/-! ### The end of a DEPARTING visitor's QUOTA exchange (R95) -/

/-- With charge left to report a DEPARTING visitor is given its FINAL exchange, and with none left its entry is FREE (R95). -/
def EndsDeparting (s : State) (x : Exchange) (v : Visitor) (p j : Nat) (r : Partner) (a : Account) (left : Nat) (t : State) :
    Prop :=
  t.account x.account = some { a with unreported := left } ∧ (∀ m, m ≠ x.account → t.account m = s.account m) ∧
    (∀ m, m ≠ x.slot → t.slot m = s.slot m) ∧ OutsideVisitors s t ∧ PortKept s t ∧
    (left = 0 → t.slot x.slot = { s.slot x.slot with visitor := none } ∧ t.qxu = s.qxu ∧ t.rqp = s.rqp ∧
      t.partner p = some { r with visitors := r.visitors - 1 }) ∧
    (0 < left →
      t.slot x.slot = { s.slot x.slot with
        visitor := some { v with xref := some ⟨j, (s.entry j).use + 1⟩, deferred := false } } ∧
      t.chu.partners = s.chu.partners ∧
      ∃ e, t.entry j = ⟨(s.entry j).use + 1, some e⟩ ∧ e.kind = .final ∧ e.slot = x.slot ∧ e.account = x.account ∧
        e.sent = false ∧ e.second = false ∧ (∀ m, m ≠ j → t.entry m = s.entry m) ∧ t.qxu.order = s.qxu.order ++ [j] ∧
        t.qxu.deferred = s.qxu.deferred)

/-- The end of the QUOTA exchange of a DEPARTING visitor whose account has `left` to report. -/
theorem finalAfterQuota_ends {x : Exchange} {v : Visitor} {p j left : Nat} {r : Partner} {a : Account}
    (hv : s.visitor x.slot = some v) (hp : v.partner = some p) (hr : s.partner p = some r)
    (hacc : (s.slot x.slot).account = some x.account) (ha : s.account x.account = some { a with unreported := left })
    (hj : j < 64) (hfree : (s.entry j).ex = none) (hbelow : ∀ m < j, (s.entry m).ex.isSome) :
    EndsDeparting s x v p j r a left (finalAfterQuota x.slot s) := by
  have hleft : ((s.slot x.slot).account.bind s.account).map (·.unreported) = some left := by
    rw [hacc, Option.bind_some, ha]
    rfl
  cases left with
  | zero =>
    have hdone : finalAfterQuota x.slot s = becomeFree x.slot s := by
      simp only [finalAfterQuota, hleft]
      rfl
    obtain ⟨hslot, hslots, hpartner, -, haccount, -, hrqp, hqxu, -, houtside⟩ := becomeFree_leaves hv hp hr
    rw [hdone]
    exact ⟨(haccount _).trans ha, fun m _ => haccount m, hslots, houtside, portKept_of_rqp hrqp,
      fun _ => ⟨hslot, hqxu, hrqp, hpartner⟩, fun h => absurd h (lt_irrefl 0)⟩
  | succ n =>
    have hdone : finalAfterQuota x.slot s = createExchange j x.slot .final s := by
      simp only [finalAfterQuota, hleft]
      exact requestExchange_of_free x.slot .final hj hfree hbelow
    obtain ⟨hslot, hslots, hentry, hentries, horder, hdeferred, hchu⟩ := createExchange_leaves (j := j) .final hv
    rw [← hdone] at hslot hslots hentry hentries horder hdeferred hchu
    have haccount (m : Nat) : (finalAfterQuota x.slot s).account m = s.account m := by rw [State.account, hchu]; rfl
    refine ⟨(haccount _).trans ha, fun m _ => haccount m, hslots, ?_, ?_, fun h => absurd h n.succ_ne_zero, fun _ =>
      ⟨hslot, by rw [hchu], _, hentry, rfl, rfl, ?_, rfl, rfl, hentries, horder, hdeferred⟩⟩
    · exact outside_of_stage (by simp [stage]) (by simp)
    · exact (told_finalAfterQuota _ (told_self s)).portKept
    · show (s.slot x.slot).account.getD 0 = x.account
      rw [hacc]
      rfl

theorem quotaEndsDeparting : Claims.QuotaEndsDeparting := by
  intro x v units validity final p n j r a s hv hstate hxref hp hr hacc ha hk hrep hj hfree hbelow ends
  let w := s.setAccount x.account (some { a with unreported := a.unreported - n })
  have hlower : lowerUnreported x.account x.reported s = w := by rw [hrep]; exact lowerUnreported_some ha
  have hdeparting : w.departing x.slot = true := (departing_iff (s := w) hv).mpr hstate
  have hends : ends (a.unreported - n) (finalAfterQuota x.slot w) := by
    obtain ⟨h1, h2, h3, h4, h5, h6, h7⟩ := finalAfterQuota_ends (s := w) (x := x) (v := v) (p := p) (r := r) (a := a) hv hp hr
      hacc (State.setAccount_account_self ..) hj hfree hbelow
    refine ⟨h1, fun m hm => ?_, h3, h4, h5, h6, h7⟩
    rw [h2 m hm, State.setAccount_account, if_neg (Ne.symm hm)]
  refine ⟨?_, ?_, ?_⟩
  · have hdone : applyAnswer x .grant units validity final s = finalAfterQuota x.slot w := by
      show applyGrant x units validity final s = _
      rw [applyGrant, hlower]
      exact if_pos hdeparting
    rw [hdone]
    exact hends
  · have hdone : applyAnswer x .deny units validity final s = finalAfterQuota x.slot w := by
      show applyDeny x s = _
      rw [applyDeny, hlower]
      exact if_pos hdeparting
    rw [hdone]
    exact hends
  · have hdone : applySecondFailure x s = finalAfterQuota x.slot s := by
      simp [applySecondFailure, hk, (departing_iff hv).mpr hstate]
    rw [hdone]
    exact finalAfterQuota_ends hv hp hr hacc ha hj hfree hbelow

/-- Settles O32. -/
theorem exchangeOutcomes : Obligations.ExchangeOutcomes :=
  ⟨exchangeEnds, deferredServed, authorized_claim, otherOutcomes, authorizedOnline, quotaEndsDeparting⟩

end Sys2Proof.Machine
end

section
/-! PROOFS. O12: ADMIT of a visitor that is present, and REFRESH. -/

namespace Sys2Proof.Machine

variable {f : Frame} {s t : State}

/-- A visitor that is present again at a unit: ACTIVE, with an activity and its idle limit (R8). -/
def returned (s : State) (unit : Nat) (v : Visitor) : Visitor :=
  { v with state := .active, unit := unit, retire := idleLimit s.settings v.cls, lastActivity := s.rqp.shipTime }

/-- The state in which the visitor of a slot is replaced and stands at the tail of the activity order. -/
def moved (i : Nat) (v : Visitor) (s : State) : State :=
  (s.withVrg { s.vrg with activity := s.vrg.activity.filter (· != i) ++ [i] }).setSlot i
    { s.slot i with visitor := some v }

theorem moved_slot (i : Nat) (v : Visitor) (s : State) : (moved i v s).slot i = { s.slot i with visitor := some v } :=
  State.setSlot_slot_self ..

theorem moved_visitor (i : Nat) (v : Visitor) (s : State) : (moved i v s).visitor i = some v := by
  rw [State.visitor, moved_slot]

theorem moved_slot_other {i j : Nat} (v : Visitor) (h : j ≠ i) : (moved i v s).slot j = s.slot j := setSlot_slot_other h

theorem activity_updVisitor {i : Nat} {v : Visitor} (g : Visitor → Visitor) (hv : s.visitor i = some v) :
    activity i (s.updVisitor i g) = moved i (active s.settings s.rqp.shipTime (g v)) s := by
  have hg : (s.setSlot i { s.slot i with visitor := some (g v) }).visitor i = some (g v) := by
    rw [State.visitor, State.setSlot_slot_self]
  rw [updVisitor_of_visitor _ hv, activity_eq hg, State.setSlot_slot_self]
  exact setSlot_setSlot (s.withVrg { s.vrg with activity := s.vrg.activity.filter (· != i) ++ [i] }) i
    { s.slot i with visitor := some (g v) } _

/-- The work of an ADMIT of a visitor that re-attaches in ACTIVE. -/
theorem attach_active {i unit : Nat} {v : Visitor} (hv : s.visitor i = some v) (hst : v.state = .active) :
    attach i unit s = visitorReply .ok i (moved i (returned s unit v) s) := by
  simp only [attach, hv, hst]
  rw [activity_updVisitor _ hv]
  simp only [active, returned, hst, if_true]

theorem attach_suspended {i unit : Nat} {v : Visitor} (hv : s.visitor i = some v) (hst : v.state = .suspended) :
    attach i unit s = visitorReply .ok i (becameActive i (moved i (returned s unit v) s)) := by
  have hset : (s.setSlot i { s.slot i with visitor := some { v with unit := unit } }).visitor i =
      some { v with unit := unit } := by
    rw [State.visitor, State.setSlot_slot_self]
  have hactive : activate i (s.updVisitor i fun v => { v with unit := unit }) = s.updVisitor i fun v =>
      { v with unit := unit, state := .active, retire := idleLimit s.settings v.cls } := by
    rw [updVisitor_of_visitor _ hv, updVisitor_of_visitor _ hv, activate, updVisitor_of_visitor _ hset,
      State.setSlot_slot_self, setSlot_setSlot]
    rfl
  simp only [attach, hv, hst]
  rw [hactive, activity_updVisitor _ hv, active, if_pos rfl]
  rfl

theorem desk_becameActive (i : Nat) (s : State) : desk (becameActive i s) = desk s := by
  simp only [becameActive]
  split
  · split
    · rw [desk_gateEvaluation]
      split
      · exact desk_requestExchange ..
      · rfl
    · rfl
  · rfl

/-- The answer that carries the handle of a slot and the state of its visitor. -/
theorem deliver_visitorReply {i : Nat} {v : Visitor} {u : State} (k : RequestKind) (tag : Fin 16) (r : ResultCode) (e : Slot)
    (hslot : u.slot i = { e with visitor := some v }) :
    deliver k tag (visitorReply r i u) = pushAnswer k.code tag
      ([resultByte r] ++ beBytes 2 (i * 16 + e.gen.toNat) ++ [visitorStateByte (some v.state)]) u := by
  rw [visitorReply, deliver_replyWith, hslot, slotStateByte_of (v := v) (by rw [State.visitor, hslot])]
  rfl

theorem admitPresent : Claims.AdmitPresent := by
  intro f sid cls unit d i v s ht hsid hcls hunit hmode hradio hserving hi hv hpurge handle a
  obtain ⟨k, hk⟩ := Option.ne_none_iff_exists'.mp (mt serviceOf_eq_none.mp (not_lt.mpr hcls))
  have hpartner : s.admitPartner d k = v.partner := by simp [State.admitPartner, hi, hv]
  have hexec : exec (.admitVisitor f sid cls unit) s = .next (deliver kAdmit f.tag (attach i unit.toNat a)) := by
    rw [exec_admit ht ⟨hsid, hk, hunit, hmode, hradio, hserving, hpartner ▸ hpurge⟩, hi]
  have hv' : a.visitor i = some v := (arrive_visitor ..).trans hv
  have hslot : a.slot i = { s.slot i with visitor := some v } := by
    rw [arrive_slot, ← hv]
    rfl
  let w := returned a unit.toNat v
  have hw : w = { v with
      state := .active, unit := unit.toNat, retire := idleLimit s.settings v.cls, lastActivity := s.rqp.shipTime } := by
    simp only [w, returned, a, State.settings, arrive_settings, arrive_shipTime]
  have hmoved : (moved i w a).slot i = { s.slot i with visitor := some w } := by rw [moved_slot, arrive_slot]
  have hothers (j : Nat) (hj : j ≠ i) : (moved i w a).slot j = s.slot j := (moved_slot_other w hj).trans (arrive_slot ..)
  have hdesk : desk (moved i w a) = (s.vrg.activity.filter (· != i) ++ [i], s.vrg.purge) := by
    show (a.vrg.activity.filter (· != i) ++ [i], a.vrg.purge) = _
    rw [arrive_vrg]
  refine ⟨fun hst => ?_, fun hst => ?_, fun hst => ⟨moved i w a, ?_, rfl, by rw [hmoved, hw], hothers, ?_, ?_⟩,
    fun q hst hq => ⟨becameActive i (moved i w a), ?_, ?_, ?_, ?_, fun j hj => ?_, ?_, ?_, ?_⟩⟩
  · simp only [hexec, attach, hv', hst]
    rw [deliver_visitorReply _ _ _ _ hslot, hst]
    rfl
  · simp only [hexec, attach, hv', hst]
    rfl
  · have hdone : attach i unit.toNat a = visitorReply .ok i (moved i w a) := by
      obtain hst | ⟨hst, hq⟩ := hst
      · exact attach_active hv' hst
      · rw [attach_suspended hv' hst, becameActive_of_noQuota (v := w) (moved_visitor ..) hq]
    rw [hexec, hdone, deliver_visitorReply _ _ _ _ hmoved]
    rfl
  · exact congrArg Prod.snd hdesk
  · exact congrArg Prod.fst hdesk
  all_goals obtain ⟨⟨x, hx, hfields, hasked, hnot⟩, hrest⟩ :=
    becameActive_settles (s := moved i w a) (moved_visitor i w a) (by nofun) (q := q) hq
  · have hx' : (becameActive i (moved i w a)).slot i = { s.slot i with visitor := some x } := by rw [hx, hmoved]
    rw [hexec, attach_suspended hv' hst, deliver_visitorReply _ _ _ _ hx', hfields]
    rfl
  · have hpart : (moved i w a).partner = s.partner := funext fun p => arrive_partner ..
    have hreorder : reorderAt (moved i w a) w q = reorderAt s v q := by
      rw [reorderAt, hpart]
      rfl
    refine CreditSettled.transfer (s' := moved i w a) (v' := w) (g := id) ⟨x, hx, hfields, hasked, hnot⟩
      ⟨?_, ?_, ?_, ?_, ?_, ?_, fun j => ?_, fun j => ?_⟩ ?_ ?_ rfl rfl rfl rfl ?_ ?_ ?_ rfl rfl rfl
    · simp [moved, a]
    · rw [hmoved]
    · rw [hmoved]
    · rw [hmoved]
    · simp [moved, a]
    · simp [moved, a]
    · rw [hpart]
    · simp [moved, a, State.eligible, State.permitInForce, State.zoneInForce, State.link, State.zone]
    · rw [hmoved]
    · exact Gives.congr (gives_nil rfl rfl) (arrive_notices ..).symm (arrive_overflow ..).symm rfl rfl
    · intro _ _ _
      rw [hw]
      rfl
    · rw [InitialAsks, GateAsks, hreorder]
      constructor
      · exact .inl
      · rintro (h | ⟨h1, h2, h3, h4, h5⟩)
        · exact h
        · exact ⟨h1, h2, h3, h4, .inr (h5.trans (Int.natCast_nonneg _))⟩
    · simp
  · exact congrArg Prod.snd ((desk_becameActive i (moved i w a)).trans hdesk)
  · exact congrArg Prod.fst ((desk_becameActive i (moved i w a)).trans hdesk)
  · rw [hrest j hj]
    exact hothers j hj
  · simp [moved, a]
  · exact outside_of_stage (by simp [moved, stage, a]) (by simp [moved, a])
  · exact (told_becameActive _ (told_setSlot _ _ (told_withVrg _ (told_self _)))).portKept

/-! ### REFRESH -/

theorem refresh : Claims.Refresh := by
  intro f h u s ht i refused badUnit lost
  have hexec : exec (.refresh f h u) s = .next (deliver kRefresh f.tag (doRefresh h u (arrive f s))) := exec_taken rfl ht
  have hbad : ((newUnitOf u).any fun k => decide (15 < k)) = true ↔ badUnit := by
    by_cases hu : u = 0xFF#8 <;> simp [newUnitOf, badUnit, hu]
  have hlost : ((newUnitOf u).any fun k => !(arrive f s).unitServing k) = true ↔ lost := by
    by_cases hu : u = 0xFF#8 <;> simp [newUnitOf, lost, hu, State.unitServing]
  have hunit (v : Visitor) : (newUnitOf u).getD v.unit = if u = 0xFF#8 then v.unit else u.toNat := by
    by_cases hu : u = 0xFF#8 <;> simp [newUnitOf, hu]
  refine ⟨fun hb => ?_, fun hb hl => ?_, fun v hb hl hv => ⟨fun hst => ?_, fun hst hon => ?_⟩⟩
  · show exec _ _ = _
    rw [hexec, doRefresh, if_pos (hbad.mpr hb)]
    rfl
  · show exec _ _ = _
    rw [hexec, doRefresh, if_neg (mt hbad.mp hb), if_pos (by rw [arrive_live, hl]; rfl)]
    rfl
  · show exec _ _ = _
    have hmap : ((arrive f s).visitor (handleSlot h)).map Visitor.state = some v.state := by
      rw [arrive_visitor]
      exact congrArg (Option.map Visitor.state) hv
    rw [hexec, doRefresh, if_neg (mt hbad.mp hb), if_neg (by rw [arrive_live, hl]; nofun), hmap]
    by_cases hact : v.state = .active
    · rw [if_neg (not_not.mpr (congrArg some hact)), if_pos (hlost.mpr (hst.resolve_left (not_not.mpr hact)))]
      rfl
    · rw [if_pos (by simpa using hact)]
      rfl
  · have hv' : (arrive f s).visitor i = some v := (arrive_visitor ..).trans hv
    let w := active s.settings s.rqp.shipTime { v with unit := if u = 0xFF#8 then v.unit else u.toNat }
    have hdone : doRefresh h u (arrive f s) =
        replyWith .ok [(moved i w (arrive f s)).slotStateByte i] (moved i w (arrive f s)) := by
      rw [doRefresh, if_neg (mt hbad.mp hb), if_neg (by rw [arrive_live, hl]; nofun), if_neg, if_neg (mt hlost.mp hon)]
      · show replyWith .ok _ _ = _
        rw [show handleSlot h = i from rfl, activity_updVisitor _ hv', hunit, State.settings, arrive_settings, arrive_shipTime]
        rfl
      · rw [show handleSlot h = i from rfl, hv']
        exact not_not.mpr (congrArg some hst)
    refine ⟨moved i w (arrive f s), ?_, ?_, ?_, fun j hj => (moved_slot_other _ hj).trans (arrive_slot ..), ?_, ?_⟩
    · rw [hexec, hdone, slotStateByte_of (moved_visitor ..), deliver_replyWith]
      simp only [w, active, hst]
      rfl
    · rfl
    · show (arrive f s).vrg.purge = _
      rw [arrive_vrg]
    · rw [moved_slot, arrive_slot]
      simp only [w, active, hst, if_true]
    · show (arrive f s).vrg.activity.filter (· != i) ++ [i] = _
      rw [arrive_vrg]

/-- Settles O12. -/
theorem presentVisitor : Obligations.PresentVisitor := ⟨admitPresent, refresh⟩

end Sys2Proof.Machine
end

section
/-! PROOFS. O13: what a retirement leaves (R20). -/

namespace Sys2Proof.Machine

variable {s c z t : State} {i a p : Nat} {v w : Visitor} {why : RetireReason}

/-! ### The steps of a retirement before the entry departs or becomes FREE -/

/-- A retirement on its way: the slot carries the reason and the visitor as it is by now, the activity order and the
exchange unit stand as given, and no other slot, partner or plan has moved. -/
structure Retiring (s z : State) (i : Nat) (why : RetireReason) (w : Visitor) (order : List Nat) (x : Qxu) : Prop where
  slot : z.slot i = { s.slot i with reason := some why, visitor := some w }
  others : ∀ j, j ≠ i → z.slot j = s.slot j
  desk : desk z = (order, s.vrg.purge)
  qxu : z.qxu = x
  chu : z.chu = { s.chu with accounts := z.chu.accounts }

theorem Retiring.visitor {order : List Nat} {x : Qxu} (h : Retiring s z i why w order x) : z.visitor i = some w := by
  rw [State.visitor, h.slot]

theorem Retiring.partner {order : List Nat} {x : Qxu} (h : Retiring s z i why w order x) (j : Nat) :
    z.partner j = s.partner j := by
  rw [State.partner, h.chu]
  rfl

theorem Retiring.account {order : List Nat} {x : Qxu} (h : Retiring s z i why w order x) :
    (z.slot i).account = (s.slot i).account := by
  rw [h.slot]

/-- A state that is reached with no notice, and with the accounts and the position as they were. -/
structure Untold (s z : State) : Prop where
  rqp : z.rqp = s.rqp
  chu : z.chu = s.chu
  zne : z.zne = s.zne

theorem Untold.tariff (h : Untold s z) : z.tariffInForce = s.tariffInForce := by
  simp only [State.tariffInForce, State.zoneInForce, State.zone, h.zne]

/-- Steps 2 to 4 of R20, the account apart, with the quota part stopped (R76). -/
def withdraw (i : Nat) (s : State) : State :=
  let s := leaveDeferred i s
  let s := s.withVrg { s.vrg with activity := s.vrg.activity.filter (· != i) }
  stopQuota i (s.updVisitor i fun v => { v with retire := none })

/-- A visitor that has withdrawn: it waits for nothing, its timers are stopped and its gate is SHUT. -/
def withdrawn (v : Visitor) : Visitor :=
  { v with
    deferred := false
    retire := none
    quota := v.quota.map fun q => { q with expiry := none, retry := none, gate := .shut } }

theorem withdraw_eq (hv : s.visitor i = some v) :
    withdraw i s = ((s.withQxu { s.qxu with deferred := s.qxu.deferred.filter fun w => w.slot != i }).withVrg
      { s.vrg with activity := s.vrg.activity.filter (· != i) }).setSlot i
        { s.slot i with visitor := some (withdrawn v) } := by
  have hset (u : State) (e : Slot) (x : Visitor) : (u.setSlot i { e with visitor := some x }).visitor i = some x := by
    rw [State.visitor, State.setSlot_slot_self]
  have hleave : leaveDeferred i s =
      (s.withQxu { s.qxu with deferred := s.qxu.deferred.filter fun w => w.slot != i }).setSlot i
        { s.slot i with visitor := some { v with deferred := false } } := updVisitor_of_visitor (s := s.withQxu _) _ hv
  generalize hb : (s.withQxu { s.qxu with deferred := s.qxu.deferred.filter fun w => w.slot != i }).withVrg
    { s.vrg with activity := s.vrg.activity.filter (· != i) } = b
  have hmove : (leaveDeferred i s).withVrg
      { (leaveDeferred i s).vrg with activity := (leaveDeferred i s).vrg.activity.filter (· != i) } =
      b.setSlot i { s.slot i with visitor := some { v with deferred := false } } := by
    rw [hleave, ← hb]
    rfl
  show stopQuota i (State.updVisitor _ i _) = _
  rw [hmove, updVisitor_of_visitor _ (hset ..), State.setSlot_slot_self, setSlot_setSlot, stopQuota, State.updQuota,
    updVisitor_of_visitor _ (hset ..), State.setSlot_slot_self, setSlot_setSlot]
  rfl

theorem Retiring.withdraw {order : List Nat} {x : Qxu} (h : Retiring s c i why v order x) :
    Retiring s (withdraw i c) i why (withdrawn v) (order.filter (· != i))
      { x with deferred := x.deferred.filter fun w => w.slot != i } := by
  rw [withdraw_eq h.visitor]
  refine ⟨?_, fun j hj => ?_, ?_, ?_, ?_⟩
  · rw [State.setSlot_slot_self, h.slot]
  · exact (setSlot_slot_other hj).trans (h.others j hj)
  · rw [desk_setSlot]
    have hd := h.desk
    show (c.vrg.activity.filter (· != i), c.vrg.purge) = _
    rw [show c.vrg.activity = order from congrArg Prod.fst hd, show c.vrg.purge = s.vrg.purge from congrArg Prod.snd hd]
  · show ({ c.qxu with deferred := _ } : Qxu) = _
    rw [h.qxu]
  · exact h.chu

/-! ### The account (R20 step 4, R60) -/

/-- The account of a visitor that has withdrawn is closed out and DEPARTED; that of an EMERGENCY visitor stands. -/
def closeAccount (i : Nat) (s : State) : State :=
  match s.visitor i, (s.slot i).account with
  | some v, some a =>
    if v.cls = .emergency then s
    else ((closeOut a (v.partner.bind s.partner) s).1).updAccount a fun r => { r with departed := true }
  | _, _ => s

/-- The close-out of an account for a partner. -/
def closing (s : State) (r : Partner) (x : Account) : Account × Nat × Bool :=
  closeOutAccount (some (qget (s.plan r.plan).rates s.tariffInForce)) (decide (r.charging = .online)) s.tariffInForce x

/-- An account that was closed out for a partner and is DEPARTED. -/
def closed (s : State) (r : Partner) (x : Account) : Account :=
  { (closing s r x).1 with departed := true, saturated := x.saturated || (closing s r x).2.2 }

/-- The notice SATURATED of a close-out that stops a counter for the first time. -/
def closingNotices (s : State) (a : Nat) (r : Partner) (x : Account) : List Notice :=
  if (closing s r x).2.2 = true ∧ x.saturated = false then [⟨.account, .account a, 1, 0, 0, 0, 0, 0, s.rqp.shipTime⟩] else []

theorem closeAccount_leaves {x : Account} {r : Partner} (hv : s.visitor i = some v) (hcls : v.cls ≠ .emergency)
    (ha : (s.slot i).account = some a) (hx : s.account a = some x) (hp : v.partner = some p) (hr : s.partner p = some r) :
    let t := closeAccount i s
    t.account a = some (closed s r x) ∧ (∀ j, j ≠ a → t.account j = s.account j) ∧ t.vrg = s.vrg ∧ t.qxu = s.qxu ∧
      t.chu = { s.chu with accounts := t.chu.accounts } ∧ Gives s t (closingNotices s a r x) := by
  intro t
  have hbind : v.partner.bind s.partner = some r := by rw [hp, Option.bind_some, hr]
  have hclose : closeOut a (some r) s = (commitAccount a (closing s r x).1 (closing s r x).2.2 s, (closing s r x).2.1) := by
    simp only [closeOut, hx, closing, Option.map_some, isOnline_some]
  have ht : t = ((if (closing s r x).2.2 && !x.saturated then giveNotice .account (.account a) 1 0 0 0 0 0 else id) s).setAccount a
      (some (closed s r x)) := by
    have hmark : (closing s r x).1.saturated = x.saturated := (closeOutAccount_marks ..).1
    have hcommit := commitAccount_eq a (closing s r x).1 (closing s r x).2.2 s
    rw [hmark] at hcommit
    show closeAccount i s = _
    simp only [closeAccount, hv, ha, if_neg hcls, hbind, hclose]
    rw [hcommit, updAccount_some _ (State.setAccount_account_self ..)]
    have htwice := tset_tset none
      ((if (closing s r x).2.2 && !x.saturated then giveNotice .account (.account a) 1 0 0 0 0 0 else id) s).chu.accounts a
      (some { (closing s r x).1 with saturated := x.saturated || (closing s r x).2.2 }) (some (closed s r x))
    simp only [State.setAccount, State.withChu_chu]
    rw [show ({ (closing s r x).1 with departed := true, saturated := x.saturated || (closing s r x).2.2 } : Account) =
      closed s r x from rfl, htwice]
    rfl
  have hhit : ((closing s r x).2.2 && !x.saturated) = true ↔ (closing s r x).2.2 = true ∧ x.saturated = false := by simp
  rw [ht, closingNotices]
  by_cases hgives : ((closing s r x).2.2 && !x.saturated) = true
  · rw [if_pos hgives, if_pos (hhit.mp hgives)]
    refine ⟨State.setAccount_account_self .., fun j hj => ?_, giveNotice_vrg .., giveNotice_qxu .., ?_,
      gives_giveNotice _ _ _ _ _ _ _ _ _⟩
    · rw [State.setAccount_account, if_neg (Ne.symm hj), State.account, giveNotice_chu]
      rfl
    · simp [State.setAccount]
  · rw [if_neg hgives, if_neg (mt hhit.mpr hgives)]
    refine ⟨State.setAccount_account_self .., fun j hj => ?_, rfl, rfl, rfl, gives_nil rfl rfl⟩
    rw [State.setAccount_account, if_neg (Ne.symm hj)]
    rfl

/-! ### What is done with the exchange (R20 steps 1 and 2) -/

/-- The reason is recorded, and an AUTHORIZE exchange is cancelled. -/
def cancelled (i : Nat) (why : RetireReason) (s : State) : State :=
  let s := s.setSlot i { s.slot i with reason := some why }
  match s.exchangeOf i with
  | some (j, .authorize) => freeEntry j s
  | _ => s

theorem retireSteps_eq (i : Nat) (why : RetireReason) (s : State) :
    retireSteps i why s = closeAccount i (withdraw i (cancelled i why s)) := rfl

theorem exchangeOf_none (hv : s.visitor i = some v) (hx : v.xref = none) : s.exchangeOf i = none := by
  simp [State.exchangeOf, hv, hx]

theorem exchangeOf_some {n : XRef} {y : Exchange} (hv : s.visitor i = some v) (hx : v.xref = some n)
    (hy : (s.entry n.entry).ex = some y) : s.exchangeOf i = some (n.entry, y.kind) := by
  simp [State.exchangeOf, hv, hx, hy]

theorem retiring_reason (hv : s.visitor i = some v) (why : RetireReason) :
    Retiring s (s.setSlot i { s.slot i with reason := some why }) i why v s.vrg.activity s.qxu := by
  refine ⟨?_, fun j hj => setSlot_slot_other hj, rfl, rfl, rfl⟩
  rw [State.setSlot_slot_self, ← hv]
  rfl

/-- Where the visitor has no AUTHORIZE exchange, none is cancelled. -/
theorem retiring_uncancelled (hv : s.visitor i = some v)
    (hno : ∀ n y, v.xref = some n → (s.entry n.entry).ex = some y → y.kind ≠ .authorize) (why : RetireReason) :
    Retiring s (cancelled i why s) i why v s.vrg.activity s.qxu ∧ Untold s (cancelled i why s) := by
  have hr := retiring_reason hv why
  have hdone : cancelled i why s = s.setSlot i { s.slot i with reason := some why } := by
    simp only [cancelled]
    split
    next j hex =>
      obtain hn | ⟨n, hn⟩ := Option.eq_none_or_eq_some v.xref
      · rw [exchangeOf_none hr.visitor hn] at hex
        contradiction
      · simp only [State.exchangeOf, hr.visitor, Option.bind_some, hn] at hex
        obtain ⟨y, hy, hkind⟩ := Option.map_eq_some_iff.mp hex
        exact absurd (congrArg Prod.snd hkind) (hno n y hn hy)
    next => rfl
  rw [hdone]
  exact ⟨hr, rfl, rfl, rfl⟩

theorem retiring_cancelled {n : XRef} {y : Exchange} (hv : s.visitor i = some v) (hn : v.xref = some n)
    (hy : (s.entry n.entry).ex = some y) (hk : y.kind = .authorize) (hi : y.slot = i) (hnobody : s.qxu.deferred = [])
    (why : RetireReason) :
    Retiring s (cancelled i why s) i why { v with xref := none } s.vrg.activity { s.qxu with
      entries := tset xentryReset s.qxu.entries n.entry ⟨(s.entry n.entry).use, none⟩
      order := s.qxu.order.filter (· != n.entry) } ∧ Untold s (cancelled i why s) := by
  have hr := retiring_reason hv why
  generalize hu : s.setSlot i { s.slot i with reason := some why } = u at hr
  have hyu : (u.entry n.entry).ex = some y := by rw [← hu]; exact hy
  have hex : u.exchangeOf i = some (n.entry, .authorize) := hk ▸ exchangeOf_some hr.visitor hn hyu
  have hdone : cancelled i why s = freed n.entry y u := by
    simp only [cancelled, hu, hex]
    exact freeEntry_of_nobody hyu (by rw [hr.qxu, hnobody])
  subst hi
  rw [hdone]
  refine ⟨⟨?_, fun j hj => (freed_slot_other hj).trans (hr.others j hj), ?_, ?_, ?_⟩, ?_, ?_, ?_⟩
  · rw [freed_slot hr.visitor, hr.slot]
  · exact Eq.trans (by simp [freed]) hr.desk
  · rw [freed_qxu, hr.qxu, State.entry, hr.qxu]
    rfl
  · rw [freed_chu]
    exact hr.chu
  · rw [freed_rqp, ← hu]
    rfl
  · rw [freed_chu, ← hu]
    rfl
  · rw [← hu]
    simp [freed]

/-- The account of a retirement is closed out. -/
theorem Retiring.close {x : Account} {r : Partner} {order : List Nat} {q : Qxu} (h : Retiring s z i why w order q)
    (hsame : Untold s z) (hcls : w.cls ≠ .emergency) (ha : (s.slot i).account = some a)
    (hx : s.account a = some x) (hp : w.partner = some p) (hr : s.partner p = some r) :
    let t := closeAccount i z
    Retiring s t i why w order q ∧ t.account a = some (closed s r x) ∧ (∀ j, j ≠ a → t.account j = s.account j) ∧
      Gives s t (closingNotices s a r x) := by
  intro t
  have haccount (j : Nat) : z.account j = s.account j := by rw [State.account, hsame.chu]; rfl
  have hclosing : closing z r x = closing s r x := by rw [closing, closing, State.plan, hsame.chu, hsame.tariff]; rfl
  obtain ⟨h1, h2, h3, h4, h5, h6⟩ := closeAccount_leaves h.visitor hcls (h.account.trans ha) ((haccount a).trans hx) hp
    ((h.partner p).trans hr)
  refine ⟨⟨?_, fun j hj => ?_, ?_, ?_, ?_⟩, ?_, fun j hj => (h2 j hj).trans (haccount j), ?_⟩
  · rw [State.slot, h3]
    exact h.slot
  · rw [State.slot, h3]
    exact h.others j hj
  · rw [desk_of_vrg h3]
    exact h.desk
  · rw [h4, h.qxu]
  · rw [h5, hsame.chu]
  · rw [h1, closed, closed, hclosing]
  · rw [closingNotices, hclosing, hsame.rqp] at h6
    exact Gives.congr h6 (by rw [hsame.rqp]) (by rw [hsame.rqp]) rfl rfl

/-- What steps 1 to 4 of R20 leave of a visitor whose AUTHORIZE exchange, if it has one, is cancelled by now. -/
theorem retireSteps_leaves {x : Account} {r : Partner} {order : List Nat} {q : Qxu}
    (h : Retiring s (cancelled i why s) i why v order q ∧ Untold s (cancelled i why s))
    (hcls : v.cls ≠ .emergency) (ha : (s.slot i).account = some a)
    (hx : s.account a = some x) (hp : v.partner = some p) (hr : s.partner p = some r) :
    let t := retireSteps i why s
    Retiring s t i why (withdrawn v) (order.filter (· != i)) { q with deferred := q.deferred.filter fun w => w.slot != i } ∧
      t.account a = some (closed s r x) ∧ (∀ j, j ≠ a → t.account j = s.account j) ∧ Gives s t (closingNotices s a r x) := by
  obtain ⟨hc, hrqp, hchu, hzne⟩ := h
  rw [retireSteps_eq]
  exact hc.withdraw.close ⟨by simp [withdraw, hrqp], by simp [withdraw, hchu], by simp [withdraw, hzne]⟩ hcls ha hx hp hr

/-! ### The entry departs or becomes FREE (R20 steps 5 to 7) -/

/-- An entry that is FREE again: its slot keeps all but its visitor, with the reason, and its partner has a visitor less. -/
structure Gone (s z t : State) (i p : Nat) (why : RetireReason) (r : Partner) (order : List Nat) (q : Qxu) : Prop where
  slot : t.slot i = { s.slot i with visitor := none, reason := some why }
  others : ∀ j, j ≠ i → t.slot j = s.slot j
  desk : desk t = (order, s.vrg.purge)
  qxu : t.qxu = q
  partner : t.partner p = some { r with visitors := r.visitors - 1 }
  partners : ∀ j, j ≠ p → t.partner j = s.partner j
  account : ∀ j, t.account j = z.account j
  rqp : t.rqp = z.rqp

theorem Gone.stateByte {r : Partner} {order : List Nat} {q : Qxu} (h : Gone s z t i p why r order q) :
    t.slotStateByte i = 0 := by
  rw [State.slotStateByte, State.visitor, h.slot]
  rfl

theorem Retiring.free {r : Partner} {order : List Nat} {q : Qxu} (h : Retiring s z i why w order q)
    (hp : w.partner = some p) (hr : s.partner p = some r) : Gone s z (becomeFree i z) i p why r order q := by
  obtain ⟨h1, h2, h3, h4, h5, -, h7, h8, h9, -⟩ := becomeFree_leaves h.visitor hp ((h.partner p).trans hr)
  refine ⟨?_, fun j hj => (h2 j hj).trans (h.others j hj), h9.trans h.desk, h8.trans h.qxu, h3,
    fun j hj => (h4 j hj).trans (h.partner j), h5, h7⟩
  rw [h1, h.slot]

/-- With nobody on the deferred list, a FREE entry's exchange is cancelled. -/
theorem Gone.cancel {r : Partner} {order : List Nat} {q : Qxu} {j : Nat} {y : Exchange} (h : Gone s z t i p why r order q)
    (hy : (t.entry j).ex = some y) (hi : y.slot = i) (hnobody : q.deferred = []) :
    Gone s z (freeEntry j t) i p why r order { q with
      entries := tset xentryReset q.entries j ⟨(t.entry j).use, none⟩
      order := q.order.filter (· != j) } := by
  have hslot (m : Nat) : (freed j y t).slot m = t.slot m := by
    have hnone : (t.slot i).visitor = none := by rw [h.slot]
    have hvisitor : (((t.setEntry j ⟨(t.entry j).use, none⟩).withQxu
        { t.qxu with entries := tset xentryReset t.qxu.entries j ⟨(t.entry j).use, none⟩
                     order := t.qxu.order.filter (· != j) }).slot y.slot).visitor = none := by rw [hi]; exact hnone
    rw [freed, State.updVisitor, hvisitor]
    rfl
  rw [freeEntry_of_nobody hy (by rw [h.qxu, hnobody])]
  refine ⟨(hslot i).trans h.slot, fun m hm => (hslot m).trans (h.others m hm), ?_, ?_, ?_, fun m hm => ?_, fun m => ?_, ?_⟩
  · exact Eq.trans (by simp [freed]) h.desk
  · rw [freed_qxu, h.qxu]
  · rw [State.partner, freed_chu]
    exact h.partner
  · rw [State.partner, freed_chu]
    exact h.partners m hm
  · rw [State.account, freed_chu]
    exact h.account m
  · rw [freed_rqp]
    exact h.rqp

theorem owesReport_eq {x : Account} {r : Partner} (hv : s.visitor i = some v) (hcls : v.cls ≠ .emergency)
    (ha : (s.slot i).account = some a) (hx : s.account a = some x) (hp : v.partner = some p) (hr : s.partner p = some r) :
    s.owesReport i = true ↔ r.charging = .online ∧ 0 < x.unreported := by
  have hbind : v.partner.bind s.partner = some r := by rw [hp, Option.bind_some, hr]
  simp [State.owesReport, hv, ha, hx, hbind, isOnline_some, hcls]

/-- Nothing outside the visitor side moves in a retirement, and no notice is lost. -/
theorem departed_outside (i : Nat) (why : RetireReason) (s : State) :
    OutsideVisitors s (departOrFree i (retireSteps i why s)) ∧ PortKept s (departOrFree i (retireSteps i why s)) ∧
      NoticesKept s (departOrFree i (retireSteps i why s)) := by
  have htold : Told s.rqp (departOrFree i (retireSteps i why s)) := told_departOrFree _ (told_retireSteps _ _ (told_self s))
  exact ⟨⟨by simp, by simp, by simp, by simp, by simp, by simp⟩, htold.portKept, htold.noticesKept⟩

/-- The notice RETIRED of a retirement. -/
theorem retire_eq {b : Byte} (hb : t.slotStateByte i = b) (ht : departOrFree i (retireSteps i why s) = t) :
    retire i why s = if givesRetired why then giveNotice .visitor (.slot i) 4 (reasonByte why) b 0 0 0 t else t := by
  simp only [retire, ht, hb]

/-- An entry with no exchange and nothing to report becomes FREE. -/
theorem departOrFree_free (howes : ¬ s.owesReport i = true) (hv : s.visitor i = some v) (hx : v.xref = none) :
    departOrFree i s = becomeFree i s := by
  simp only [departOrFree, if_neg howes, exchangeOf_none hv hx]

theorem departOrFree_cancels {n : XRef} {y : Exchange} (howes : ¬ s.owesReport i = true) (hv : s.visitor i = some v)
    (hx : v.xref = some n) (hy : (s.entry n.entry).ex = some y) :
    departOrFree i s = freeEntry n.entry (becomeFree i s) := by
  simp only [departOrFree, if_neg howes, exchangeOf_some hv hx hy]

/-! ### The retirements of R20 -/

theorem retireAtOnce : Claims.RetireAtOnce := by
  intro i a p why v x r s hv hcls ha hx hp hr hxref out hnothing told
  obtain ⟨hz, haccount, haccounts, -⟩ := retireSteps_leaves (why := why)
    (retiring_uncancelled hv (fun n y hn => by rw [hxref] at hn; contradiction) why) hcls ha hx hp hr
  generalize hzz : retireSteps i why s = z at hz haccount haccounts
  have howes : ¬ z.owesReport i = true := by
    rw [owesReport_eq hz.visitor hcls (hz.account.trans ha) haccount hp ((hz.partner p).trans hr)]
    rintro ⟨hon, hpos⟩
    obtain hoff | hzero := hnothing
    · rw [hon] at hoff
      contradiction
    · exact hpos.ne' hzero
  have hgone := hz.free hp hr
  have hdone := departOrFree_free howes hz.visitor hxref
  have hrest := departed_outside i why s
  rw [hzz, hdone] at hrest
  have htold : told = givesRetired why := by cases why <;> rfl
  refine ⟨becomeFree i z, ?_, hgone.slot, hgone.others, congrArg Prod.fst hgone.desk, congrArg Prod.snd hgone.desk,
    (hgone.account a).trans haccount, fun j hj => (hgone.account j).trans (haccounts j hj), hgone.partner, hgone.partners,
    by rw [hgone.qxu], by rw [hgone.qxu], by rw [hgone.qxu], hrest⟩
  rw [htold]
  exact retire_eq hgone.stateByte (by rw [hzz, hdone])

theorem retireOnline : Claims.RetireOnline := by
  intro i a p j why v q x r s hv hcls ha hx hp hr hon hxref hq hj hfree hbelow out hpos
  obtain ⟨hz, haccount, haccounts, -⟩ := retireSteps_leaves (why := why)
    (retiring_uncancelled hv (fun n y hn => by rw [hxref] at hn; contradiction) why) hcls ha hx hp hr
  generalize hzz : retireSteps i why s = z at hz haccount haccounts
  have hout : closing s r x = out := by rw [closing, decide_eq_true hon]
  have howes : z.owesReport i = true := by
    rw [owesReport_eq hz.visitor hcls (hz.account.trans ha) haccount hp ((hz.partner p).trans hr)]
    refine ⟨hon, ?_⟩
    show 0 < (closing s r x).1.unreported
    rw [hout]
    exact hpos
  have hentry (m : Nat) : z.entry m = s.entry m := by
    rw [State.entry, hz.qxu]
    rfl
  let w := { withdrawn v with state := .departing }
  generalize hu : z.setSlot i { z.slot i with visitor := some w } = u
  have hwu : u.visitor i = some w := by rw [← hu, State.visitor, State.setSlot_slot_self]
  have huslot : u.slot i = { s.slot i with reason := some why, visitor := some w } := by
    rw [← hu, State.setSlot_slot_self, hz.slot]
  have huentry (m : Nat) : u.entry m = s.entry m := by
    rw [← hu]
    exact hentry m
  have hdone : departOrFree i z = createExchange j i .final u := by
    simp only [departOrFree, if_pos howes, updVisitor_of_visitor _ hz.visitor]
    rw [show z.setSlot i { z.slot i with visitor := some { withdrawn v with state := .departing } } = u from hu]
    simp only [exchangeOf_none hwu hxref]
    exact requestExchange_of_free i .final hj (by rw [huentry]; exact hfree) fun m hm => by rw [huentry]; exact hbelow m hm
  obtain ⟨h1, h2, h3, h4, h5, h6, h7⟩ := createExchange_leaves (j := j) .final hwu
  rw [← hdone] at h1 h2 h3 h4 h5 h6 h7
  have hrest := departed_outside i why s
  rw [hzz] at hrest
  have huchu : u.chu = z.chu := by rw [← hu]; rfl
  have hdesk : desk (departOrFree i z) = (s.vrg.activity.filter (· != i), s.vrg.purge) := by
    rw [hdone, desk_createExchange, ← hu, desk_setSlot]
    exact hz.desk
  refine ⟨departOrFree i z, u.newExchange i .final, ?_, ?_, fun m hm => ?_, ?_, rfl, rfl, ?_, rfl, rfl, fun m hm => ?_, ?_, ?_, ?_,
    fun m hm => ?_, ?_, congrArg Prod.fst hdesk, hrest⟩
  · refine retire_eq ?_ (by rw [hzz])
    rw [State.slotStateByte, State.visitor, h1]
    rfl
  · rw [h1, huslot, huentry]
    simp only [w, withdrawn, hq]
    rfl
  · rw [h2 m hm, ← hu, setSlot_slot_other hm]
    exact hz.others m hm
  · rw [h3, huentry]
  · show (u.slot i).account.getD 0 = a
    rw [huslot]
    exact congrArg (Option.getD · 0) ha
  · rw [h4 m hm, huentry]
  · rw [h5, ← hu]
    show z.qxu.order ++ _ = _
    rw [hz.qxu]
  · rw [h6, ← hu]
    show z.qxu.deferred = _
    rw [hz.qxu]
  · rw [State.account, h7, huchu, ← hout]
    exact haccount
  · rw [State.account, h7, huchu]
    exact haccounts m hm
  · rw [h7, huchu, hz.chu]

theorem retireAuthorizing : Claims.RetireAuthorizing := by
  intro i a p why v n y x r s hv hcls ha hx hp hr hoff hn hy hk hi hnobody out
  obtain ⟨hz, haccount, haccounts, -⟩ := retireSteps_leaves (why := why)
    (retiring_cancelled hv hn hy hk hi hnobody why) hcls ha hx hp hr
  generalize hzz : retireSteps i why s = z at hz haccount haccounts
  have howes : ¬ z.owesReport i = true := by
    rw [owesReport_eq hz.visitor hcls (hz.account.trans ha) haccount hp ((hz.partner p).trans hr)]
    rintro ⟨hon, -⟩
    rw [hon] at hoff
    contradiction
  have hgone := hz.free hp hr
  have hdone := departOrFree_free howes hz.visitor rfl
  have hrest := departed_outside i why s
  rw [hzz, hdone] at hrest
  have hout : closing s r x = out := by rw [closing, decide_eq_false (by rw [hoff]; nofun)]
  have hentry (m : Nat) : (becomeFree i z).entry m =
      if n.entry = m then ⟨(s.entry n.entry).use, none⟩ else s.entry m := by
    rw [State.entry, hgone.qxu]
    exact tget_tset ..
  refine ⟨becomeFree i z, retire_eq hgone.stateByte (by rw [hzz, hdone]), hgone.slot, hgone.others, ?_, fun m hm => ?_, ?_, ?_,
    ?_, hgone.partner, hrest⟩
  · rw [hentry, if_pos rfl]
  · rw [hentry, if_neg (Ne.symm hm)]
  · rw [hgone.qxu]
  · rw [hgone.qxu]
    show s.qxu.deferred.filter _ = _
    rw [hnobody]
    rfl
  · rw [hgone.account, haccount, closed, hout]

theorem retireWithQuota : Claims.RetireWithQuota := by
  intro i a p why v q n y x r s hv hcls ha hx hp hr hon hq hn hy hk hi hnobody out told
  obtain ⟨hz, haccount, haccounts, -⟩ := retireSteps_leaves (why := why) (retiring_uncancelled hv (fun n' y' hn' hy' => by
    rw [hn, Option.some.injEq] at hn'
    rw [← hn', hy, Option.some.injEq] at hy'
    rw [← hy', hk]
    nofun) why) hcls ha hx hp hr
  generalize hzz : retireSteps i why s = z at hz haccount haccounts
  have hout : closing s r x = out := by rw [closing, decide_eq_true hon]
  have howes : z.owesReport i = true ↔ 0 < out.1.unreported := by
    rw [owesReport_eq hz.visitor hcls (hz.account.trans ha) haccount hp ((hz.partner p).trans hr), ← hout]
    exact ⟨fun h => h.2, fun h => ⟨hon, h⟩⟩
  have hqxu : z.qxu = s.qxu := by
    rw [hz.qxu, hnobody, List.filter_nil, ← hnobody]
  have hyz : (z.entry n.entry).ex = some y := by rw [State.entry, hqxu]; exact hy
  have hrest := departed_outside i why s
  rw [hzz] at hrest
  refine ⟨departOrFree i z, ?_⟩
  by_cases hleft : 0 < out.1.unreported
  · let w := { withdrawn v with state := .departing }
    have hdone : departOrFree i z = z.setSlot i { z.slot i with visitor := some w } := by
      have hwu : (z.setSlot i { z.slot i with visitor := some w }).visitor i = some w := by
        rw [State.visitor, State.setSlot_slot_self]
      simp only [departOrFree, if_pos (howes.mpr hleft), updVisitor_of_visitor _ hz.visitor]
      rw [exchangeOf_some (n := n) (y := y) hwu hn hyz]
    rw [hdone] at hrest ⊢
    refine ⟨?_, fun j hj => ?_, fun j hj => ?_, ?_, hrest.1, hrest.2.1, hrest.2.2, fun _ => ⟨?_, ?_, ?_, ?_⟩,
      fun h => absurd h hleft.ne'⟩
    · rw [← hout]
      exact haccount
    · exact haccounts j hj
    · exact (setSlot_slot_other hj).trans (hz.others j hj)
    · exact congrArg Prod.fst hz.desk
    · refine retire_eq ?_ (by rw [hzz, hdone])
      rw [State.slotStateByte, State.visitor, State.setSlot_slot_self]
      rfl
    · exact hqxu
    · show z.chu.partners = _
      rw [hz.chu]
    · rw [State.setSlot_slot_self, hz.slot]
      simp only [w, withdrawn, hq]
      rfl
  · have hfree := hz.free hp hr
    have hyu : ((becomeFree i z).entry n.entry).ex = some y := by
      rw [State.entry, hfree.qxu, ← hz.qxu]
      exact hyz
    have hgone := hfree.cancel hyu hi (by rw [← hz.qxu, hqxu, hnobody])
    have hdone := departOrFree_cancels (mt howes.mp hleft) hz.visitor hn hyz
    have hentry (m : Nat) : (freeEntry n.entry (becomeFree i z)).entry m =
        if n.entry = m then ⟨(s.entry n.entry).use, none⟩ else s.entry m := by
      have huse : ((becomeFree i z).entry n.entry).use = (s.entry n.entry).use := by
        rw [State.entry, hfree.qxu]
        rfl
      rw [State.entry, hgone.qxu, huse]
      exact tget_tset ..
    rw [hdone] at hrest ⊢
    refine ⟨?_, fun j hj => ?_, hgone.others, congrArg Prod.fst hgone.desk, hrest.1, hrest.2.1, hrest.2.2,
      fun h => absurd h hleft, fun _ => ⟨retire_eq hgone.stateByte (by rw [hzz, hdone]), hgone.slot, hgone.partner, ?_,
        fun m hm => ?_, ?_, ?_⟩⟩
    · rw [hgone.account, haccount, closed, hout]
    · exact (hgone.account j).trans (haccounts j hj)
    · rw [hentry, if_pos rfl]
    · rw [hentry, if_neg (Ne.symm hm)]
    · rw [hgone.qxu]
    · rw [hgone.qxu]
      show s.qxu.deferred.filter _ = _
      rw [hnobody]
      rfl

theorem closeAccount_emergency (hv : s.visitor i = some v) (hcls : v.cls = .emergency) : closeAccount i s = s := by
  cases ha : (s.slot i).account <;> simp [closeAccount, hv, ha, hcls]

theorem owesReport_emergency (hv : s.visitor i = some v) (hcls : v.cls = .emergency) : s.owesReport i = false := by
  cases ha : (s.slot i).account <;> simp [State.owesReport, hv, ha, hcls]

theorem retireEmergency : Claims.RetireEmergency := by
  intro i why v s hv hcls hp hxref
  obtain ⟨hc, hrqp, hchu, -⟩ := retiring_uncancelled hv (fun n y hn => by rw [hxref] at hn; contradiction) why
  have hz := hc.withdraw
  have hzz : retireSteps i why s = withdraw i (cancelled i why s) := by
    rw [retireSteps_eq, closeAccount_emergency hz.visitor hcls]
  have hzrqp : (withdraw i (cancelled i why s)).rqp = s.rqp := by simp [withdraw, hrqp]
  have hzchu : (withdraw i (cancelled i why s)).chu = s.chu := by simp [withdraw, hchu]
  generalize withdraw i (cancelled i why s) = z at hz hzz hzrqp hzchu
  have howes : ¬ z.owesReport i = true := by
    rw [owesReport_emergency hz.visitor hcls]
    nofun
  have hdone : departOrFree i z = z.setSlot i { z.slot i with visitor := none } := by
    have hp' : (withdrawn v).partner = none := hp
    rw [departOrFree_free howes hz.visitor hxref]
    simp only [becomeFree, hz.visitor, hp']
    rfl
  have hrest := departed_outside i why s
  rw [hzz, hdone] at hrest
  refine ⟨_, retire_eq ?_ (by rw [hzz, hdone]), ?_, fun j hj => (setSlot_slot_other hj).trans (hz.others j hj),
    congrArg Prod.fst hz.desk, congrArg Prod.snd hz.desk, hzchu, hz.qxu, hrest.1, hzrqp⟩
  · rw [State.slotStateByte, State.visitor, State.setSlot_slot_self]
    rfl
  · rw [State.setSlot_slot_self, hz.slot]

/-- Settles O13. -/
theorem retirement : Obligations.Retirement :=
  ⟨retireAtOnce, retireOnline, retireAuthorizing, retireWithQuota, retireEmergency⟩

end Sys2Proof.Machine
end

section
/-! PROOFS. O9 and O10: what the admissions into a register with a FREE slot leave (R10–R13). -/

namespace Sys2Proof.Machine

variable {f : Frame} {s b z t : State} {i a p : Nat} {d : Digits} {acc : Option Nat} {v w : Visitor}

/-! ### A slot and an account are taken (R12 steps 1 to 4) -/

/-- A visitor has come aboard: it stands in the slot under the next generation and at the tail of the activity order. -/
structure Aboard (b z : State) (i : Nat) (d : Digits) (acc : Option Nat) (v : Visitor) : Prop where
  slot : z.slot i = ⟨(b.slot i).gen + 1, some d, acc, none, some v⟩
  others : ∀ j, j ≠ i → z.slot j = b.slot j
  desk : desk z = (b.vrg.activity ++ [i], b.vrg.purge)

theorem Aboard.visitor (h : Aboard b z i d acc v) : z.visitor i = some v := by
  rw [State.visitor, h.slot]

theorem Aboard.congr (h : Aboard b z i d acc v) (ht : t.vrg = z.vrg) : Aboard b t i d acc v := by
  obtain ⟨h1, h2, h3⟩ := h
  refine ⟨?_, fun j hj => ?_, (desk_of_vrg ht).trans h3⟩
  · rw [State.slot, ht]
    exact h1
  · rw [State.slot, ht]
    exact h2 j hj

/-- The visitor of the slot changes. -/
theorem Aboard.write (h : Aboard b z i d acc v) (hslot : t.slot i = { z.slot i with visitor := some w })
    (hothers : ∀ j, j ≠ i → t.slot j = z.slot j) (hdesk : Machine.desk t = Machine.desk z) : Aboard b t i d acc w := by
  refine ⟨?_, fun j hj => (hothers j hj).trans (h.others j hj), hdesk.trans h.desk⟩
  rw [hslot, h.slot]

theorem takeSlot_aboard (i : Nat) (d : Digits) (acc : Option Nat) (v : Visitor) (b : State) :
    Aboard b (takeSlot i d acc v b) i d acc v := by
  refine ⟨?_, fun j hj => ?_, rfl⟩
  · exact State.setSlot_slot_self b i ⟨(b.slot i).gen + 1, some d, acc, none, some v⟩
  · exact setSlot_slot_other (s := b) (e := ⟨(b.slot i).gen + 1, some d, acc, none, some v⟩) hj

/-- An entry that is aboard becomes ACTIVE with its idle limit. -/
theorem Aboard.activate (h : Aboard b z i d acc v) :
    Aboard b (activate i z) i d acc { v with state := .active, retire := idleLimit z.settings v.cls } := by
  rw [Machine.activate, updVisitor_of_visitor _ h.visitor]
  exact h.write (State.setSlot_slot_self ..) (fun j hj => setSlot_slot_other hj) (desk_setSlot ..)

/-- An account is taken for a SID and an HNC, and a partner has a visitor more. -/
structure Enrolled (b z : State) (a p : Nat) (d hnc : Digits) : Prop where
  account : z.account a = some (match b.account a with
    | some old => { old with departed := false, hnc := hnc }
    | none => accountOpen d hnc b.rqp.shipTime)
  accounts : ∀ j, j ≠ a → z.account j = b.account j
  partner : z.partner p = (b.partner p).map fun r => { r with visitors := r.visitors + 1 }
  partners : ∀ j, j ≠ p → z.partner j = b.partner j
  plans : z.chu.plans = b.chu.plans

theorem Enrolled.congr {hnc : Digits} (h : Enrolled b z a p d hnc) (ht : t.chu = z.chu) : Enrolled b t a p d hnc := by
  obtain ⟨h1, h2, h3, h4, h5⟩ := h
  refine ⟨?_, fun j hj => ?_, ?_, fun j hj => ?_, by rw [ht, h5]⟩
  · rw [State.account, ht]
    exact h1
  · rw [State.account, ht]
    exact h2 j hj
  · rw [State.partner, ht]
    exact h3
  · rw [State.partner, ht]
    exact h4 j hj

theorem accountTaken_leaves (s : State) :
    (∀ j, (accountTaken s).account j = s.account j) ∧ (∀ j, (accountTaken s).partner j = s.partner j) ∧
      (accountTaken s).chu.plans = s.chu.plans ∧
      ((accountTaken s).rqp.notices.length ≤ s.rqp.notices.length + 1) := by
  obtain ⟨hlow, hnot, -⟩ := accountSupply s
  by_cases h : s.chu.freeAccounts - 1 < s.settings.lowWater ∧ s.chu.armed = true
  · rw [hlow h]
    refine ⟨fun j => ?_, fun j => ?_, ?_, ?_⟩
    · rw [State.account, giveNotice_chu]
      rfl
    · rw [State.partner, giveNotice_chu]
      rfl
    · rw [giveNotice_chu]
      rfl
    · simp only [giveNotice]
      split
      · exact (List.length_append ..).le
      · exact Nat.le_succ _
  · rw [hnot h]
    exact ⟨fun _ => rfl, fun _ => rfl, rfl, Nat.le_succ _⟩

theorem takeAccount_leaves (a : Nat) (d hnc : Digits) (s : State) :
    ((takeAccount a d hnc s).account a = some (match s.account a with
      | some old => { old with departed := false, hnc := hnc }
      | none => accountOpen d hnc s.rqp.shipTime)) ∧
      (∀ j, j ≠ a → (takeAccount a d hnc s).account j = s.account j) ∧
      (∀ j, (takeAccount a d hnc s).partner j = s.partner j) ∧ (takeAccount a d hnc s).chu.plans = s.chu.plans ∧
      (takeAccount a d hnc s).rqp.notices.length ≤ s.rqp.notices.length + 1 := by
  have hothers (x : Option Account) (j : Nat) (hj : j ≠ a) : (s.setAccount a x).account j = s.account j := by
    rw [State.setAccount_account, if_neg (Ne.symm hj)]
  cases ha : s.account a with
  | some old =>
    simp only [takeAccount, ha]
    exact ⟨State.setAccount_account_self .., hothers _, fun _ => rfl, rfl, Nat.le_succ _⟩
  | none =>
    obtain ⟨h1, h2, h3, h4⟩ := accountTaken_leaves (s.setAccount a (some (accountOpen d hnc s.rqp.shipTime)))
    simp only [takeAccount, ha]
    exact ⟨(h1 a).trans (State.setAccount_account_self ..), fun j hj => (h1 j).trans (hothers _ j hj), h2, h3, h4⟩

/-- The slot, the partner's count and the account of a new PASSENGER or CREW visitor are taken (R12). -/
def enrol (i a p : Nat) (d hnc : Digits) (v : Visitor) (s : State) : State :=
  takeAccount a d hnc ((takeSlot i d (some a) v s).updVisitors (some p) (· + 1))

theorem updVisitors_some_leaves (p : Nat) (g : Nat → Nat) (s : State) :
    ((s.updVisitors (some p) g).partner p = (s.partner p).map fun r => { r with visitors := g r.visitors }) ∧
      (∀ j, j ≠ p → (s.updVisitors (some p) g).partner j = s.partner j) ∧
      s.updVisitors (some p) g = s.withChu { s.chu with partners := (s.updVisitors (some p) g).chu.partners } := by
  cases hp : s.partner p with
  | none =>
    have hdone : s.updVisitors (some p) g = s := by simp only [State.updVisitors, hp]
    rw [hdone, hp]
    exact ⟨rfl, fun _ _ => rfl, rfl⟩
  | some r =>
    simp only [State.updVisitors, hp]
    refine ⟨State.setPartner_partner_self .., fun j hj => ?_, rfl⟩
    rw [State.setPartner_partner, if_neg (Ne.symm hj)]

theorem enrol_leaves (i a p : Nat) (d hnc : Digits) (v : Visitor) (b : State) :
    Aboard b (enrol i a p d hnc v b) i d (some a) v ∧ Enrolled b (enrol i a p d hnc v b) a p d hnc ∧
      (enrol i a p d hnc v b).qxu = b.qxu ∧ stage (enrol i a p d hnc v b) = stage b ∧
      (enrol i a p d hnc v b).pending = b.pending ∧ Told b.rqp (enrol i a p d hnc v b) ∧
      (enrol i a p d hnc v b).rqp.notices.length ≤ b.rqp.notices.length + 1 := by
  have haboard := takeSlot_aboard i d (some a) v b
  obtain ⟨h1, h2, h3⟩ := updVisitors_some_leaves p (· + 1) (takeSlot i d (some a) v b)
  generalize hu : (takeSlot i d (some a) v b).updVisitors (some p) (· + 1) = u at h1 h2 h3
  have haccount (j : Nat) : u.account j = b.account j := by
    rw [h3]
    rfl
  have hvrg : u.vrg = (takeSlot i d (some a) v b).vrg := by
    rw [h3]
    rfl
  have hrqp : u.rqp = b.rqp := by
    rw [h3]
    rfl
  obtain ⟨h4, h5, h6, h7, h8⟩ := takeAccount_leaves a d hnc u
  have hz : enrol i a p d hnc v b = takeAccount a d hnc u := by
    rw [← hu]
    rfl
  rw [hz]
  refine ⟨haboard.congr (by rw [takeAccount_vrg, hvrg]), ⟨?_, fun j hj => ?_, ?_, fun j hj => ?_, ?_⟩, ?_, ?_, ?_, ?_, ?_⟩
  · rw [h4, haccount, hrqp]
  · rw [h5 j hj, haccount]
  · rw [h6, h1]
    rfl
  · rw [h6, h2 j hj]
    rfl
  · rw [h7, h3]
    rfl
  · rw [takeAccount_qxu, h3]
    rfl
  · rw [stage_takeAccount, h3]
    rfl
  · rw [takeAccount_pending, h3]
    rfl
  · exact told_takeAccount _ _ _ (told_of_rqp (s := b) (t := u) hrqp (told_self b))
  · rw [← hrqp]
    exact h8

/-! ### The slot and the answer of an admission -/

/-- The lowest FREE slot is the room for a new visitor (R11). -/
theorem roomFor_free (hi : i < 4096) (hfree : s.visitor i = none) (hbelow : ∀ j < i, (s.visitor j).isSome) (k : ServiceClass) :
    s.roomFor k = some (i, s) := by
  have hfirst : firstIndex slotReset (fun e => e.visitor.isNone) s.vrg.slots Config.visitorSlots 0 = some i := by
    refine firstIndex_eq_some hi (Option.isNone_iff_eq_none.mpr hfree) fun j hj => ?_
    obtain ⟨v, hv⟩ := Option.isSome_iff_exists.mp (hbelow j hj)
    exact congrArg Option.isNone hv
  simp only [State.roomFor, hfirst]

theorem arrive_roomFor_free (hi : i < 4096) (hfree : s.visitor i = none) (hbelow : ∀ j < i, (s.visitor j).isSome)
    (k : ServiceClass) : (arrive f s).roomFor k = some (i, arrive f s) :=
  roomFor_free hi ((arrive_visitor ..).trans hfree) (fun j hj => by rw [arrive_visitor]; exact hbelow j hj) k

/-- The state an admission leaves, with its notice ADMITTED. -/
theorem admitted_eq (h : Aboard b z i d acc v) :
    admitted i z = giveNotice .visitor (.slot i) 1 (visitorStateByte (some v.state)) 0 0 0 0 z := by
  rw [admitted, slotStateByte_of h.visitor]

theorem deliver_admitted (h : Aboard b z i d acc v) (tag : Fin 16) (r : ResultCode) :
    deliver kAdmit tag (visitorReply r i (admitted i z)) = pushAnswer 0x10 tag
      ([resultByte r] ++ beBytes 2 (i * 16 + ((b.slot i).gen + 1).toNat) ++ [visitorStateByte (some v.state)])
      (admitted i z) := by
  refine deliver_visitorReply (v := v) _ _ _ ⟨(b.slot i).gen + 1, some d, acc, none, none⟩ ?_
  rw [State.slot, admitted, giveNotice_vrg]
  exact h.slot

/-- No purge bars an admission where none is in flight. -/
theorem notPurged_of_none (h : s.vrg.purge = none) (q : Option Nat) : NotPurged s q := by
  intro x hx
  rw [h] at hx
  contradiction

theorem giveNotice_last (hroom : s.rqp.notices.length < 128) (k : NoticeKind) (x : Subject) (n v1 v2 v3 v4 v5 : Byte) :
    (giveNotice k x n v1 v2 v3 v4 v5 s).rqp.notices.getLast? = some ⟨k, x, n, v1, v2, v3, v4, v5, s.rqp.shipTime⟩ := by
  obtain ⟨hn, -⟩ := gives_giveNotice k x n v1 v2 v3 v4 v5 s hroom
  rw [hn, List.getLast?_concat]

/-! ### The admissions without an exchange (R10–R13) -/

theorem told_admitted {q : Rqp} (i : Nat) (h : Told q z) : Told q (admitted i z) := told_giveNotice _ _ _ _ _ _ _ _ h

/-- A new EMERGENCY visitor is aboard. -/
def emergencyAboard (i : Nat) (d : Digits) (unit : Nat) (s : State) : State :=
  activate i (takeSlot i d none (newVisitor .emergency none s.settings.emergencyRoute unit none s.rqp.shipTime) s)

theorem emergencyAboard_leaves (i : Nat) (d : Digits) (unit : Nat) (u : State) :
    let t := admitted i (emergencyAboard i d unit u)
    t = giveNotice .visitor (.slot i) 1 2 0 0 0 0 (u.withVrg t.vrg) ∧
      Aboard u t i d none
        { state := .active, cls := .emergency, partner := none, route := u.settings.emergencyRoute, unit := unit,
          quota := none, xref := none, deferred := false, retire := idleLimit u.settings .emergency,
          lastActivity := u.rqp.shipTime, admitted := u.rqp.shipTime } ∧
      ∀ tag, deliver kAdmit tag (visitorReply .ok i t) =
        pushAnswer 0x10 tag ([0x00] ++ beBytes 2 (i * 16 + ((u.slot i).gen + 1).toNat) ++ [2]) t := by
  intro t
  have htaken := takeSlot_aboard i d none (newVisitor .emergency none u.settings.emergencyRoute unit none u.rqp.shipTime) u
  have haboard : Aboard u (emergencyAboard i d unit u) i d none _ := htaken.activate
  have hvrg : emergencyAboard i d unit u = u.withVrg (emergencyAboard i d unit u).vrg := by
    rw [emergencyAboard, activate, updVisitor_of_visitor _ htaken.visitor]
    rfl
  have htvrg : t.vrg = (emergencyAboard i d unit u).vrg := giveNotice_vrg ..
  refine ⟨?_, haboard.congr htvrg, fun tag => deliver_admitted haboard tag .ok⟩
  rw [htvrg, ← hvrg]
  exact admitted_eq haboard

theorem admitEmergency_claim : Claims.AdmitEmergency := by
  intro f sid unit d i s ht hsid hunit hmode hradio hserving hpurge hnew hi hfree hbelow
  have hwork := exec_admit (k := .emergency) (cls := 2) ht
    ⟨hsid, rfl, hunit, hmode, hradio, hserving, notPurged_of_none hpurge _⟩
  simp only [hnew, admitEmergency, arrive_roomFor_free hi hfree hbelow, if_true] at hwork
  obtain ⟨htold, haboard, hanswer⟩ := emergencyAboard_leaves i d unit.toNat (arrive f s)
  refine ⟨admitted i (emergencyAboard i d unit.toNat (arrive f s)), ?_, htold, ?_,
    fun j hj => (haboard.others j hj).trans (arrive_slot ..), ?_, ?_⟩
  · rw [hwork, ← arrive_slot f s]
    exact congrArg Host.Outcome.next (hanswer f.tag)
  · rw [haboard.slot, arrive_slot]
    simp only [State.settings, arrive_settings, arrive_shipTime]
  · exact (congrArg Prod.fst haboard.desk).trans (by rw [arrive_vrg])
  · exact (congrArg Prod.snd haboard.desk).trans (by rw [arrive_vrg, hpurge])

/-- What an admission completes to, where a slot is FREE (R12). -/
theorem exec_admit_complete {sid : BitVec 64} {cls unit : Byte} {k : ServiceClass} {r : Partner} (ht : Takes f kAdmit s)
    (h : Admittable sid cls unit d k s) (hk : k ≠ .emergency) (hnew : s.slotBySid d = none) (hp : s.partnerBySid d = some p)
    (hr : s.partner p = some r) (hbar : r.admission ≠ .bar) (ha : s.chooseAccount d = some a) {u : State}
    (hroom : (arrive f s).roomFor k = some (i, u)) :
    exec (.admitVisitor f sid cls unit) s =
      .next (deliver kAdmit f.tag (admitComplete d k unit.toNat p r a i u)) := by
  have hwork := exec_admit ht h
  simp only [hnew, if_neg hk, admitNew, arrive_partnerBySid, arrive_partner, arrive_chooseAccount, hp, hr, if_neg hbar, ha,
    hroom] at hwork
  exact hwork

/-- A new visitor of an OPEN and OFFLINE partner. -/
theorem admitComplete_offline {k : ServiceClass} {unit : Nat} {r : Partner} {u : State} (hopen : r.admission = .opened)
    (hoff : r.charging = .offline) :
    let v := newVisitor k (some p) (if k = .crew then u.settings.crewRoute else r.route) unit none u.rqp.shipTime
    admitComplete d k unit p r a i u = visitorReply .ok i (admitted i (activate i (enrol i a p d r.hnc v u))) := by
  intro v
  have hnotCheck : r.admission ≠ .check := by rw [hopen]; nofun
  have hnotOnline : r.charging ≠ .online := by rw [hoff]; nofun
  have haboard := (enrol_leaves i a p d r.hnc v u).1.activate
  have hidle : becameActive i (activate i (enrol i a p d r.hnc v u)) = activate i (enrol i a p d r.hnc v u) :=
    becameActive_of_noQuota haboard.visitor rfl
  have hdone : admitComplete d k unit p r a i u =
      visitorReply .ok i (admitted i (becameActive i (activate i (enrol i a p d r.hnc v u)))) := by
    simp only [admitComplete, if_neg hnotCheck, if_neg hnotOnline]
    rfl
  rw [hdone, hidle]

/-- What the admission of a new visitor of an OPEN and OFFLINE partner leaves. -/
structure OfflineAboard (u t : State) (i a p unit : Nat) (d : Digits) (k : ServiceClass) (r : Partner) : Prop where
  aboard : Aboard u t i d (some a)
    { state := .active, cls := k, partner := some p, route := if k = .crew then u.settings.crewRoute else r.route,
      unit := unit, quota := none, xref := none, deferred := false, retire := idleLimit u.settings k,
      lastActivity := u.rqp.shipTime, admitted := u.rqp.shipTime }
  enrolled : Enrolled u t a p d r.hnc
  qxu : t.qxu = u.qxu
  stage : stage t = stage u
  pending : t.pending = u.pending
  told : Told u.rqp t
  last : u.rqp.notices.length + 2 ≤ 128 →
    t.rqp.notices.getLast? = some ⟨.visitor, .slot i, 1, 2, 0, 0, 0, 0, u.rqp.shipTime⟩
  answer : ∀ tag, deliver kAdmit tag (admitComplete d k unit p r a i u) =
    pushAnswer 0x10 tag ([0x00] ++ beBytes 2 (i * 16 + ((u.slot i).gen + 1).toNat) ++ [2]) t

theorem admitComplete_aboard {k : ServiceClass} {unit : Nat} {r : Partner} {u : State} (hopen : r.admission = .opened)
    (hoff : r.charging = .offline) : ∃ t, OfflineAboard u t i a p unit d k r := by
  have hdone := admitComplete_offline (u := u) (i := i) (a := a) (p := p) (d := d) (k := k) (unit := unit) hopen hoff
  dsimp only at hdone
  generalize hv : newVisitor k (some p) (if k = .crew then u.settings.crewRoute else r.route) unit none u.rqp.shipTime = v
    at hdone
  obtain ⟨haboard, henrolled, hqxu, hstage, hpending, htold, hnotices⟩ := enrol_leaves i a p d r.hnc v u
  generalize enrol i a p d r.hnc v u = y at hdone haboard henrolled hqxu hstage hpending htold hnotices
  have hactive := haboard.activate
  have hrqp : (activate i y).rqp = y.rqp := by rw [activate, State.updVisitor_rqp]
  have hsettings : y.settings = u.settings := (stage_eq hstage).2.2.2.2.2.2
  have htime : y.rqp.shipTime = u.rqp.shipTime := by rw [htold.kept]
  have ht' := hactive.congr (t := admitted i (activate i y)) (giveNotice_vrg ..)
  rw [← hv, hsettings] at ht'
  refine ⟨admitted i (activate i y), ht', henrolled.congr ?_, ?_, ?_, ?_, told_admitted _ (told_activate _ htold),
    fun hroom => ?_, fun tag => ?_⟩
  · rw [admitted, giveNotice_chu, activate, State.updVisitor_chu]
  · rw [admitted, giveNotice_qxu, activate, State.updVisitor_qxu, hqxu]
  · rw [admitted, stage_giveNotice, activate, stage_updVisitor, hstage]
  · rw [admitted, giveNotice_pending, activate, State.updVisitor_pending, hpending]
  · have hlt : (activate i y).rqp.notices.length < 128 := by
      rw [hrqp]
      omega
    rw [admitted_eq hactive, giveNotice_last hlt, hrqp, htime]
    rfl
  · rw [hdone]
    exact deliver_admitted hactive tag .ok

/-- What stands outside the visitor side as it stood when the request arrived. -/
theorem outside_arrive (h : stage t = stage (arrive f s)) (hp : t.pending = (arrive f s).pending) : OutsideVisitors s t := by
  obtain ⟨h1, h2, h3, h4, h5, h6⟩ := outside_of_stage h hp
  simp only [arrive_lmn, arrive_rte, arrive_zne, arrive_rdc, arrive_base, arrive_pending] at h1 h2 h3 h4 h5 h6
  exact ⟨h1, h2, h3, h4, h5, h6⟩

theorem noticesKept_arrive (h : NoticesKept (arrive f s) t) : NoticesKept s t := by
  obtain ⟨new, hnew⟩ := h
  exact ⟨new, by rw [hnew, arrive_notices]⟩

theorem admitOpenOffline : Claims.AdmitOpenOffline := by
  intro f sid cls unit d k p i a r s ht hsid hcls hk hunit hmode hradio hserving hpurge hnew hp hr hopen hoff ha hi hfree hbelow
  have hwork := exec_admit_complete ht ⟨hsid, hcls, hunit, hmode, hradio, hserving, notPurged_of_none hpurge _⟩ hk hnew hp hr
    (by rw [hopen]; nofun) ha (arrive_roomFor_free hi hfree hbelow k)
  obtain ⟨t, haboard, ⟨h1, h2, h3, h4, h5⟩, hqxu, hstage, hpending, htold, hlast, hanswer⟩ :=
    admitComplete_aboard (u := arrive f s) (i := i) (a := a) (p := p) (d := d) (k := k) (unit := unit.toNat) hopen hoff
  refine ⟨t, ?_, ?_, fun j hj => (haboard.others j hj).trans (arrive_slot ..), ?_, ?_, ?_,
    fun j hj => (h4 j hj).trans (arrive_partner ..), ?_, fun j hj => (h2 j hj).trans (arrive_account ..), ?_,
    ⟨_, rfl, fun hroom => ?_⟩, ?_, outside_arrive hstage hpending, htold.portKept, noticesKept_arrive htold.noticesKept⟩
  · rw [hwork, hanswer, arrive_slot]
  · rw [haboard.slot, arrive_slot]
    simp only [State.settings, arrive_settings, arrive_shipTime]
  · exact (congrArg Prod.fst haboard.desk).trans (by rw [arrive_vrg])
  · exact (congrArg Prod.snd haboard.desk).trans (by rw [arrive_vrg, hpurge])
  · rw [h3, arrive_partner, hr]
    rfl
  · rw [h1, arrive_account, arrive_shipTime] <;> rfl
  · rw [h5, arrive_chu]
  · rw [hlast (by rw [arrive_notices]; exact hroom), arrive_shipTime]
  · rw [hqxu, arrive_qxu]

/-- Settles O10. -/
theorem admitNew_settled : Obligations.AdmitNew := ⟨admitOpenOffline, admitEmergency_claim⟩

end Sys2Proof.Machine
end

section
/-! PROOFS. O9: what an admission that asks for an exchange leaves (R12, R68, R78). -/

namespace Sys2Proof.Machine

variable {f : Frame} {s u y z t : State} {i j a p : Nat} {d : Digits} {acc : Option Nat} {v w : Visitor}

/-- A quota part that has just begun, or none. -/
def FreshQuota (q : Option Quota) : Prop := q = none ∨ ∃ g, q = some (quotaOpen g)

/-- The gate of a visitor that has just begun, with its exchange asked for, stands as it began (R70). -/
theorem gateEvaluation_fresh (hv : s.visitor i = some v) (hq : FreshQuota v.quota) (hx : v.xref.isSome)
    (hp : v.state ≠ .departing) : (∀ j, (gateEvaluation i s).slot j = s.slot j) ∧ (gateEvaluation i s).rqp = s.rqp ∧
      (gateEvaluation i s).qxu = s.qxu := by
  obtain hq | ⟨g, hq⟩ := hq
  · rw [gateEvaluation_of_noQuota hv hq]
    exact ⟨fun _ => rfl, rfl, rfl⟩
  · have hpresent : present v = true := by
      cases hs : v.state <;> simp_all [present]
    have hhas : hasExchange v = true := (hasExchange_iff v).mpr (.inl hx)
    have hgate : gateEvaluation i s = s.updQuota i fun q => { q with gate := (quotaOpen g).gate } := by
      by_cases hg : 0 < (g : Int)
      · have hopen : (quotaOpen g).gate = .opened := if_pos (Int.natCast_pos.mp hg)
        rw [hopen]
        simp only [gateEvaluation, hv, hq, hpresent, Bool.not_true, Bool.false_eq_true, if_false]
        rw [if_neg (by simp [quotaOpen]), if_pos (by exact hg)]
      · have hwait : (quotaOpen g).gate = .waiting := if_neg fun h => hg (Int.natCast_pos.mpr h)
        rw [hwait]
        simp only [gateEvaluation, hv, hq, hpresent, Bool.not_true, Bool.false_eq_true, if_false]
        rw [if_neg (by simp [quotaOpen]), if_neg (by exact hg), if_pos hhas]
    rw [hgate]
    refine ⟨fun j => ?_, State.updQuota_rqp .., State.updQuota_qxu ..⟩
    rw [State.updQuota, updVisitor_of_visitor _ hv, State.setSlot_slot]
    split
    next h =>
      rw [← h]
      have hsame : ({ v with quota := v.quota.map fun q => { q with gate := (quotaOpen g).gate } } : Visitor) = v := by
        rw [hq]
        show ({ v with quota := some (quotaOpen g) } : Visitor) = v
        rw [← hq]
      rw [hsame, ← hv]
      rfl
    next => rfl

/-- An exchange asked for by a visitor that has just come aboard, where the table has room (R12, R78). -/
theorem Aboard.asks (h : Aboard u y i d (some a) v) (hqxu : y.qxu = u.qxu) (k : XKind) (hj : j < 64)
    (hfree : (u.entry j).ex = none) (hbelow : ∀ m < j, (u.entry m).ex.isSome) (hq : FreshQuota v.quota)
    (hp : v.state ≠ .departing) :
    let t := gateEvaluation i (requestExchange i k y)
    Aboard u t i d (some a) { v with xref := some ⟨j, (u.entry j).use + 1⟩, deferred := false } ∧
      t.entry j = ⟨(u.entry j).use + 1, some
        { kind := k, slot := i, gen := (u.slot i).gen + 1, account := a, sent := false,
          second := false, link1 := none, link2 := none, timer := y.settings.timeout, sid := d, cls := v.cls,
          request := ((v.partner.bind y.partner).map (·.request)).getD 0, reported := none }⟩ ∧
      (∀ m, m ≠ j → t.entry m = u.entry m) ∧ t.qxu.order = u.qxu.order ++ [j] ∧ t.qxu.deferred = u.qxu.deferred ∧
      t.chu = y.chu := by
  intro t
  have hentry (m : Nat) : y.entry m = u.entry m := by rw [State.entry, hqxu]; rfl
  have hrequest : requestExchange i k y = createExchange j i k y :=
    requestExchange_of_free i k hj (by rw [hentry]; exact hfree) fun m hm => by rw [hentry]; exact hbelow m hm
  obtain ⟨h1, h2, h3, h4, h5, h6, h7⟩ := createExchange_leaves (j := j) k h.visitor
  rw [hentry] at h1 h3
  have ht : t = gateEvaluation i (createExchange j i k y) := by rw [← hrequest]
  have hasked := h.write h1 h2 (desk_createExchange ..)
  generalize createExchange j i k y = x at ht h1 h2 h3 h4 h5 h6 h7 hasked
  obtain ⟨hslots, -, htqxu⟩ := gateEvaluation_fresh hasked.visitor hq rfl hp
  rw [← ht] at hslots htqxu
  have htentry (m : Nat) : t.entry m = x.entry m := by rw [State.entry, htqxu]; rfl
  refine ⟨hasked.write (w := { v with xref := some ⟨j, (u.entry j).use + 1⟩, deferred := false }) ?_
    (fun m _ => hslots m) (by rw [ht, desk_gateEvaluation]), ?_, fun m hm => ?_, ?_, ?_, ?_⟩
  · rw [hslots, hasked.slot]
  · rw [htentry, h3, State.newExchange, h.slot]
    rfl
  · rw [htentry, h4 m hm, hentry]
  · rw [htqxu, h5, hqxu]
  · rw [htqxu, h6, hqxu]
  · rw [ht, gateEvaluation_chu, h7]

/-- The state after which the exchange of an admission is asked for. -/
def asking (check : Prop) [Decidable check] (i : Nat) (s : State) : State := if check then s else activate i s

theorem asking_rest (check : Prop) [Decidable check] (i : Nat) (s : State) :
    (asking check i s).chu = s.chu ∧ (asking check i s).qxu = s.qxu ∧ stage (asking check i s) = stage s ∧
      (asking check i s).pending = s.pending ∧ ∀ {q : Rqp}, Told q s → Told q (asking check i s) := by
  unfold asking
  split
  · exact ⟨rfl, rfl, rfl, rfl, id⟩
  · exact ⟨by simp [activate], by simp [activate], by simp [activate], by simp [activate], told_activate _⟩

theorem admitComplete_asks {k : ServiceClass} {unit : Nat} {r : Partner}
    (hr : r.admission = .check ∨ (r.admission = .opened ∧ r.charging = .online)) :
    let v := newVisitor k (some p) (if k = .crew then u.settings.crewRoute else r.route) unit
      (if r.charging = .online then some (quotaOpen r.grace) else none) u.rqp.shipTime
    let check := r.admission = .check
    admitComplete d k unit p r a i u = visitorReply (if check then .pending else .ok) i (admitted i (gateEvaluation i
      (requestExchange i (if check then .authorize else .quota) (asking check i (enrol i a p d r.hnc v u))))) := by
  intro v check
  by_cases hc : check
  · simp only [asking, if_pos hc, admitComplete]
    exact if_pos hc
  · obtain hcheck | ⟨-, hon⟩ := hr
    · exact absurd hcheck hc
    · have haboard := (enrol_leaves i a p d r.hnc v u).1.activate
      have hbecame : becameActive i (activate i (enrol i a p d r.hnc v u)) =
          gateEvaluation i (requestExchange i .quota (activate i (enrol i a p d r.hnc v u))) := by
        have hq : v.quota = some (quotaOpen r.grace) := if_pos hon
        simp only [becameActive, haboard.visitor, hq]
        rw [if_pos ⟨rfl, rfl, rfl, .inl rfl⟩]
      simp only [asking, if_neg hc]
      rw [← hbecame]
      exact if_neg hc

/-- Settles O9. -/
theorem admitWithExchange : Obligations.AdmitWithExchange := by
  intro f sid cls unit d k p i a j r s ht hsid hcls hk hunit hmode hradio hserving hpurge hnew hp hr hasks ha hi hfree hbelow
    hj hempty hfull check
  have hpartner : s.admitPartner d k = some p := by rw [admitPartner_new hnew, if_neg hk, hp]
  have hbar : r.admission ≠ .bar := by
    obtain h | ⟨h, -⟩ := hasks <;> rw [h] <;> nofun
  have hwork := exec_admit_complete ht ⟨hsid, hcls, hunit, hmode, hradio, hserving, hpartner ▸ hpurge⟩ hk hnew hp hr hbar ha
    (arrive_roomFor_free hi hfree hbelow k)
  have hdone := admitComplete_asks (u := arrive f s) (i := i) (a := a) (p := p) (d := d) (k := k) (unit := unit.toNat) hasks
  dsimp only at hdone
  rw [hdone] at hwork
  generalize hv : newVisitor k (some p) (if k = .crew then (arrive f s).settings.crewRoute else r.route) unit.toNat
    (if r.charging = .online then some (quotaOpen r.grace) else none) (arrive f s).rqp.shipTime = v at hwork
  obtain ⟨haboard, henrolled, hqxu, hstage, hpending, htold, -⟩ := enrol_leaves i a p d r.hnc v (arrive f s)
  generalize enrol i a p d r.hnc v (arrive f s) = y at hwork haboard henrolled hqxu hstage hpending htold
  have hsettings : y.settings = s.rqp.settings := (stage_eq hstage).2.2.2.2.2.2.trans (arrive_settings ..)
  let w := if check then v else { v with state := .active, retire := idleLimit s.settings v.cls }
  have hasking : Aboard (arrive f s) (asking check i y) i d (some a) w := by
    by_cases hc : check
    · simp only [asking, w, if_pos hc]
      exact haboard
    · simp only [asking, w, if_neg hc]
      have hactive := haboard.activate
      rw [hsettings] at hactive
      exact hactive
  obtain ⟨hchu, hqxu', hstage', hpending', htold'⟩ := asking_rest check i y
  replace htold' := htold' htold
  rw [hqxu] at hqxu'
  rw [hstage] at hstage'
  rw [hpending] at hpending'
  have hw : w = {
      state := if check then .authorizing else .active, cls := k, partner := some p
      route := if k = .crew then s.settings.crewRoute else r.route
      unit := unit.toNat
      quota := if r.charging = .online then
        some ⟨r.grace, 0, none, false, none, if 0 < r.grace then .opened else .waiting⟩ else none
      xref := none, deferred := false
      retire := if check then none else idleLimit s.settings k
      lastActivity := s.rqp.shipTime, admitted := s.rqp.shipTime } := by
    by_cases hc : check <;>
      simp only [w, ← hv, newVisitor, hc, if_true, if_false, quotaOpen, State.settings, arrive_settings, arrive_shipTime]
  have hfresh : FreshQuota w.quota := by
    rw [hw]
    by_cases hon : r.charging = .online
    · exact .inr ⟨r.grace, if_pos hon⟩
    · exact .inl (if_neg hon)
  have hstate : w.state ≠ .departing := by
    rw [hw]
    by_cases hc : check <;> simp [hc]
  obtain ⟨h1, h2, h3, h4, h5, h6⟩ := hasking.asks (j := j) hqxu' (if check then .authorize else .quota) hj
    (by rw [arrive_entry]; exact hempty) (fun m hm => by rw [arrive_entry]; exact hfull m hm) hfresh hstate
  rw [arrive_entry] at h1 h2
  have htold'' : Told (arrive f s).rqp (gateEvaluation i (requestExchange i (if check then .authorize else .quota)
      (asking check i y))) := told_gateEvaluation _ (told_requestExchange _ _ htold')
  have hstage'' : stage (gateEvaluation i (requestExchange i (if check then .authorize else .quota)
      (asking check i y))) = stage (arrive f s) := by
    rw [stage_gateEvaluation, stage_requestExchange, hstage']
  have hpending'' : (gateEvaluation i (requestExchange i (if check then .authorize else .quota)
      (asking check i y))).pending = (arrive f s).pending := by
    rw [gateEvaluation_pending, requestExchange_pending, hpending']
  generalize gateEvaluation i (requestExchange i (if check then .authorize else .quota) (asking check i y)) = z
    at hwork h1 h2 h3 h4 h5 h6 htold'' hstage'' hpending''
  have htvrg : (admitted i z).vrg = z.vrg := giveNotice_vrg ..
  have htqxu : (admitted i z).qxu = z.qxu := giveNotice_qxu ..
  have hentry (m : Nat) : (admitted i z).entry m = z.entry m := by rw [State.entry, htqxu]; rfl
  have ht' := h1.congr htvrg
  obtain ⟨e1, e2, e3, e4, e5⟩ := henrolled.congr (t := admitted i z) (by rw [admitted, giveNotice_chu, h6, hchu])
  refine ⟨admitted i z, { w with xref := some ⟨j, (s.entry j).use + 1⟩, deferred := false }, ?_, ?_, ?_, ?_,
    fun m hm => ?_, ?_, ?_, fun m hm => (ht'.others m hm).trans (arrive_slot ..), ?_, ?_, ?_,
    fun m hm => (e4 m hm).trans (arrive_partner ..), ?_, fun m hm => (e2 m hm).trans (arrive_account ..), ?_, ?_,
    (told_admitted _ htold'').portKept, noticesKept_arrive (told_admitted _ htold'').noticesKept⟩
  · rw [hwork, deliver_admitted h1, arrive_slot, hw]
    by_cases hc : r.admission = .check <;> simp only [check, hc, if_true, if_false] <;> rfl
  · rw [ht'.slot, arrive_slot]
  · rw [hw]
  · have hpart : (asking check i y).partner p = some { r with visitors := r.visitors + 1 } := by
      rw [State.partner, hchu]
      exact henrolled.partner.trans (by rw [arrive_partner, hr]; rfl)
    have hset : (asking check i y).settings = s.rqp.settings :=
      (stage_eq hstage').2.2.2.2.2.2.trans (arrive_settings ..)
    rw [hentry, h2, arrive_slot, hset, hw]
    simp only [Option.bind_some, hpart]
    rfl
  · rw [hentry, h3 m hm, arrive_entry]
  · rw [htqxu, h4, arrive_qxu]
  · rw [htqxu, h5, arrive_qxu]
  · exact (congrArg Prod.fst ht'.desk).trans (by rw [arrive_vrg])
  · exact (congrArg Prod.snd ht'.desk).trans (by rw [arrive_vrg])
  · rw [e3, arrive_partner, hr]
    rfl
  · rw [e1, arrive_account, arrive_shipTime] <;> rfl
  · rw [e5, arrive_chu]
  · exact outside_arrive (by rw [admitted, stage_giveNotice, hstage'']) (by rw [admitted, giveNotice_pending, hpending''])

end Sys2Proof.Machine
end

section
/-! PROOFS. O11: eviction (R11, R21). -/

namespace Sys2Proof.Machine

variable {f : Frame} {s u z t : State} {i j a p : Nat} {d : Digits} {v w : Visitor} {why : RetireReason}

/-! ### The choice (R11) -/

/-- The PASSENGER in a state that stands nearest the head of the activity order. -/
theorem passengerIn_eq_some {st : VisitorState} (h : s.passengerIn st = some i) :
    (∃ v, s.visitor i = some v ∧ v.cls = .passenger ∧ v.state = st) ∧ ∃ x y, s.vrg.activity = x ++ i :: y ∧
      ∀ j ∈ x, ¬ ∃ v, s.visitor j = some v ∧ v.cls = .passenger ∧ v.state = st := by
  obtain ⟨hi, x, y, hsplit, hbefore⟩ := List.find?_eq_some_iff_append.mp h
  refine ⟨?_, x, y, hsplit, fun j hj => ?_⟩
  · cases hv : s.visitor i with
    | none => simp [hv] at hi
    | some v => exact ⟨v, rfl, by simpa [hv] using hi⟩
  · rintro ⟨v, hv, hcls, hst⟩
    simpa [hv, hcls, hst] using hbefore j hj

theorem roomFor_evicts {k : ServiceClass} (hfull : ∀ j < 4096, (s.visitor j).isSome) (hk : k ≠ .passenger)
    (hi : s.evictable = some i) : s.roomFor k = some (i, evict i s) := by
  simp only [State.roomFor, no_free_slot hfull, if_neg hk, hi, Option.map_some]

theorem evictionChoice_claim : Claims.EvictionChoice := by
  intro s i hfull passenger
  refine ⟨roomFor_full hfull (.inl rfl), fun hi => ⟨roomFor_evicts hfull nofun hi, roomFor_evicts hfull nofun hi, ?_⟩,
    fun hnone => ⟨roomFor_full hfull (.inr hnone), roomFor_full hfull (.inr hnone), fun j hj => ⟨?_, ?_⟩⟩⟩
  · cases hs : s.passengerIn .suspended with
    | some m =>
      have hm : m = i := by simpa [State.evictable, hs] using hi
      obtain ⟨hp, x, y, hsplit, hbefore⟩ := passengerIn_eq_some hs
      exact hm ▸ ⟨x, y, hsplit, .inl ⟨hp, hbefore⟩⟩
    | none =>
      have hm : s.passengerIn .active = some i := by simpa [State.evictable, hs] using hi
      obtain ⟨hp, x, y, hsplit, hbefore⟩ := passengerIn_eq_some hm
      refine ⟨x, y, hsplit, .inr ⟨hp, fun j hj => ?_, hbefore⟩⟩
      rintro ⟨v, hv, hcls, hst⟩
      exact (passengerIn_eq_none s .suspended).mp hs j hj v hv hcls hst
  all_goals
    rintro ⟨v, hv, hcls, hst⟩
    obtain ⟨h1, h2⟩ := (evictable_eq_none s).mp hnone j hj v hv hcls
    contradiction

/-! ### What an eviction leaves (R21) -/

/-- The UNREPORTED mark of an eviction, where charge is left to report. -/
def markEvicted (i : Nat) (s : State) : State :=
  match s.owesReport i, (s.slot i).account with
  | true, some a => s.updAccount a fun r => { r with unrepMark := true }
  | _, _ => s

/-- The entry of an eviction becomes FREE, with its exchange cancelled. -/
def freeEvicted (i : Nat) (s : State) : State :=
  match s.exchangeOf i with
  | some (j, _) => freeEntry j (becomeFree i s)
  | none => becomeFree i s

theorem evict_eq (i : Nat) (s : State) :
    evict i s = giveNotice .visitor (.slot i) 5 0 0 0 0 0 (freeEvicted i (markEvicted i (retireSteps i .evicted s))) := by
  unfold evict
  extract_lets s1 s2 s3
  have h2 : s2 = markEvicted i s1 := rfl
  have h3 : s3 = freeEvicted i s2 := by
    unfold s3
    clear_value s2
    rfl
  rw [h3, h2]

/-- The account of a visitor that is evicted, as the eviction leaves it. -/
def evicted (s : State) (r : Partner) (x : Account) : Account :=
  { closed s r x with
    unrepMark := x.unrepMark || (decide (r.charging = .online) && decide (0 < (closing s r x).1.unreported)) }

theorem markEvicted_owing (ho : s.owesReport i = true) (ha : (s.slot i).account = some a) :
    markEvicted i s = s.updAccount a fun r => { r with unrepMark := true } := by
  simp only [markEvicted, ho, ha]

theorem markEvicted_settled (ho : s.owesReport i = false) : markEvicted i s = s := by
  simp only [markEvicted, ho]

theorem Retiring.mark {x : Account} {r : Partner} {order : List Nat} {q : Qxu} (h : Retiring s z i why w order q)
    (hcls : w.cls ≠ .emergency) (ha : (s.slot i).account = some a) (haccount : z.account a = some (closed s r x))
    (haccounts : ∀ j, j ≠ a → z.account j = s.account j) (hp : w.partner = some p) (hr : s.partner p = some r) :
    Retiring s (markEvicted i z) i why w order q ∧ (markEvicted i z).account a = some (evicted s r x) ∧
      (∀ j, j ≠ a → (markEvicted i z).account j = s.account j) ∧ (markEvicted i z).rqp = z.rqp := by
  have hza := h.account.trans ha
  have howes := owesReport_eq h.visitor hcls hza haccount hp ((h.partner p).trans hr)
  have hmark : (closed s r x).unrepMark = x.unrepMark := (closeOutAccount_marks ..).2
  have hleft : (closed s r x).unreported = (closing s r x).1.unreported := rfl
  rw [hleft] at howes
  cases ho : z.owesReport i with
  | true =>
    obtain ⟨hon, hpos⟩ := howes.mp ho
    rw [markEvicted_owing ho hza, updAccount_some _ haccount]
    refine ⟨⟨h.slot, h.others, h.desk, h.qxu, ?_⟩, ?_, fun j hj => ?_, rfl⟩
    · exact congrArg (fun c : Chu => { c with
        accounts := (z.setAccount a (some { closed s r x with unrepMark := true })).chu.accounts }) h.chu
    · rw [State.setAccount_account_self, evicted]
      simp only [hon, hpos, decide_true, Bool.and_true, Bool.or_true]
    · rw [State.setAccount_account, if_neg (Ne.symm hj)]
      exact haccounts j hj
  | false =>
    have hnot : (decide (r.charging = .online) && decide (0 < (closing s r x).1.unreported)) = false := by
      rw [Bool.and_eq_false_iff, decide_eq_false_iff_not, decide_eq_false_iff_not]
      refine not_and_or.mp fun hboth => ?_
      rw [howes.mpr hboth] at ho
      contradiction
    rw [markEvicted_settled ho]
    refine ⟨h, ?_, haccounts, rfl⟩
    rw [haccount, evicted, hnot, Bool.or_false, ← hmark]

/-- An entry that is evicted: its account closed out and marked, its slot FREE, and its exchange gone. -/
structure EvictedFrom (s t : State) (i a p : Nat) (v : Visitor) (x : Account) (r : Partner) : Prop where
  gone : ∃ z q, Gone s z t i p .evicted r (s.vrg.activity.filter (· != i)) q ∧ q.deferred = [] ∧
    z.account a = some (evicted s r x) ∧ (∀ j, j ≠ a → z.account j = s.account j) ∧ Gives s z (closingNotices s a r x)
  cancelled : ∀ n, v.xref = some n →
    t.qxu.entries = tset xentryReset s.qxu.entries n.entry ⟨(s.entry n.entry).use, none⟩ ∧
    t.qxu.order = s.qxu.order.filter (· != n.entry)
  idle : v.xref = none → t.qxu.entries = s.qxu.entries ∧ t.qxu.order = s.qxu.order

/-- The close-out, the mark and the freeing of an eviction, once its AUTHORIZE exchange is cancelled. -/
theorem Retiring.evicts {x : Account} {r : Partner} {order : List Nat} {q : Qxu}
    (h : Retiring s (cancelled i .evicted s) i .evicted w order q ∧ Untold s (cancelled i .evicted s))
    (hcls : w.cls ≠ .emergency) (ha : (s.slot i).account = some a) (hx : s.account a = some x) (hp : w.partner = some p)
    (hr : s.partner p = some r) :
    let z := markEvicted i (retireSteps i .evicted s)
    Retiring s z i .evicted (withdrawn w) (order.filter (· != i))
      { q with deferred := q.deferred.filter fun w => w.slot != i } ∧ z.account a = some (evicted s r x) ∧
      (∀ j, j ≠ a → z.account j = s.account j) ∧ Gives s z (closingNotices s a r x) := by
  obtain ⟨hz, haccount, haccounts, hgives⟩ := retireSteps_leaves h hcls ha hx hp hr
  obtain ⟨hm, hma, hmas, hmr⟩ := hz.mark hcls ha haccount haccounts hp hr
  exact ⟨hm, hma, hmas, Gives.congr hgives rfl rfl (by rw [hmr]) (by rw [hmr])⟩

theorem freeEvicted_none (hv : s.visitor i = some v) (hx : v.xref = none) : freeEvicted i s = becomeFree i s := by
  simp only [freeEvicted, exchangeOf_none hv hx]

theorem freeEvicted_some {n : XRef} {y : Exchange} (hv : s.visitor i = some v) (hx : v.xref = some n)
    (hy : (s.entry n.entry).ex = some y) : freeEvicted i s = freeEntry n.entry (becomeFree i s) := by
  simp only [freeEvicted, exchangeOf_some hv hx hy]

theorem evictedFrom {x : Account} {r : Partner} (hv : s.visitor i = some v) (hcls : v.cls ≠ .emergency)
    (ha : (s.slot i).account = some a) (hx : s.account a = some x) (hp : v.partner = some p) (hr : s.partner p = some r)
    (hwaiting : ∀ w ∈ s.qxu.deferred, w.slot = i) (halone : v.xref.isSome → s.qxu.deferred = [])
    (hown : ∀ n, v.xref = some n → ∃ y, (s.entry n.entry).ex = some y ∧ y.slot = i) :
    EvictedFrom s (freeEvicted i (markEvicted i (retireSteps i .evicted s))) i a p v x r := by
  have hdeferred : s.qxu.deferred.filter (fun w => w.slot != i) = [] := by
    rw [List.filter_eq_nil_iff]
    intro w hw
    simp [hwaiting w hw]
  cases hn : v.xref with
  | none =>
    obtain ⟨hz, haccount, haccounts, hgives⟩ := Retiring.evicts
      (retiring_uncancelled hv (fun n y hn' => by simp [hn] at hn') _) hcls ha hx hp hr
    have hgone := hz.free hp hr
    rw [freeEvicted_none hz.visitor hn]
    refine ⟨⟨_, _, hgone, hdeferred, haccount, haccounts, hgives⟩, fun n hn' => by simp [hn] at hn', fun _ => ⟨by rw [hgone.qxu], by rw [hgone.qxu]⟩⟩
  | some n =>
    obtain ⟨y, hy, hi⟩ := hown n hn
    have hnobody : s.qxu.deferred = [] := halone (by rw [hn]; rfl)
    by_cases hk : y.kind = .authorize
    · obtain ⟨hz, haccount, haccounts, hgives⟩ := Retiring.evicts (retiring_cancelled hv hn hy hk hi hnobody _) hcls ha hx hp hr
      have hgone := hz.free hp hr
      rw [freeEvicted_none hz.visitor rfl]
      refine ⟨⟨_, _, hgone, hdeferred, haccount, haccounts, hgives⟩, fun n' hn' => ?_, fun hn' => by simp [hn] at hn'⟩
      rw [← Option.some.inj (hn.symm.trans hn'), hgone.qxu]
      exact ⟨rfl, rfl⟩
    · obtain ⟨hz, haccount, haccounts, hgives⟩ := Retiring.evicts (retiring_uncancelled hv (fun n' y' hn' hy' => by
        rw [hn, Option.some.injEq] at hn'
        rw [← hn', hy, Option.some.injEq] at hy'
        rwa [← hy']) _) hcls ha hx hp hr
      generalize markEvicted i (retireSteps i .evicted s) = z at hz haccount haccounts hgives
      have hzentry : z.entry n.entry = s.entry n.entry := by
        rw [State.entry, hz.qxu]
        rfl
      have hfree := hz.free hp hr
      have hentry : (becomeFree i z).entry n.entry = s.entry n.entry := by
        rw [State.entry, hfree.qxu]
        rfl
      have hgone := hfree.cancel (j := n.entry) (by rw [hentry]; exact hy) hi hdeferred
      rw [hentry] at hgone
      rw [freeEvicted_some hz.visitor hn (by rw [hzentry]; exact hy)]
      refine ⟨⟨_, _, hgone, hdeferred, haccount, haccounts, hgives⟩, fun n' hn' => ?_, fun hn' => by simp [hn] at hn'⟩
      rw [← Option.some.inj (hn.symm.trans hn'), hgone.qxu]
      exact ⟨rfl, rfl⟩

/-- An eviction moves nothing outside the visitor side and nothing of the port but the notices. -/
theorem freeEvicted_rest (i : Nat) (s : State) :
    OutsideVisitors s (freeEvicted i (markEvicted i (retireSteps i .evicted s))) ∧
      PortKept s (freeEvicted i (markEvicted i (retireSteps i .evicted s))) := by
  have hstage (u : State) : stage (becomeFree i u) = stage u := by
    unfold becomeFree
    split
    · simp
    · rfl
  have hpending (u : State) : (becomeFree i u).pending = u.pending := by
    unfold becomeFree
    split
    · simp
    · rfl
  have hall (u : State) : stage (freeEvicted i (markEvicted i u)) = stage u ∧
      (freeEvicted i (markEvicted i u)).pending = u.pending ∧
      ∀ {q : Rqp}, Told q u → Told q (freeEvicted i (markEvicted i u)) := by
    have hmark : stage (markEvicted i u) = stage u ∧ (markEvicted i u).pending = u.pending ∧
        ∀ {q : Rqp}, Told q u → Told q (markEvicted i u) := by
      unfold markEvicted
      split
      · exact ⟨by simp, by simp, told_updAccount _ _⟩
      · exact ⟨rfl, rfl, id⟩
    obtain ⟨h1, h2, h3⟩ := hmark
    unfold freeEvicted
    split
    · exact ⟨by rw [stage_freeEntry, hstage, h1], by rw [freeEntry_pending, hpending, h2],
        fun h => told_freeEntry _ (told_becomeFree _ (h3 h))⟩
    · exact ⟨by rw [hstage, h1], by rw [hpending, h2], fun h => told_becomeFree _ (h3 h)⟩
  obtain ⟨h1, h2, h3⟩ := hall (retireSteps i .evicted s)
  exact ⟨outside_of_stage (by rw [h1]; simp [stage]) (by rw [h2, retireSteps_pending]),
    (h3 (told_retireSteps _ _ (told_self s))).portKept⟩

theorem evicted_claim : Claims.Evicted := by
  intro i a p v x r s hv hcls ha hx hp hr hwaiting halone hown online out
  have hrest := freeEvicted_rest i s
  obtain ⟨⟨z, q, hgone, hq, haccount, haccounts, hgives⟩, hcancelled, hidle⟩ :=
    evictedFrom hv (by rw [hcls]; nofun) ha hx hp hr hwaiting halone hown
  have hdone := evict_eq i s
  generalize freeEvicted i (markEvicted i (retireSteps i .evicted s)) = t at hdone hrest hgone hcancelled hidle
  refine ⟨t, hdone, hgone.slot, hgone.others, congrArg Prod.fst hgone.desk, congrArg Prod.snd hgone.desk,
    (hgone.account a).trans haccount, fun j hj => (hgone.account j).trans (haccounts j hj), hgone.partner, hgone.partners,
    fun n hn => ?_, hidle, by rw [hgone.qxu, hq], Gives.congr hgives rfl rfl (by rw [hgone.rqp]) (by rw [hgone.rqp]),
    hrest⟩
  obtain ⟨hentries, horder⟩ := hcancelled n hn
  have hentry (m : Nat) : t.entry m = if n.entry = m then ⟨(s.entry n.entry).use, none⟩ else s.entry m := by
    rw [State.entry, hentries]
    exact tget_tset ..
  exact ⟨(hentry _).trans (if_pos rfl), fun m hm => (hentry m).trans (if_neg (Ne.symm hm)), horder⟩

/-! ### The generation of a slot and the purge in an eviction -/

/-- The generations of the slots and the purge. -/
def berths (s : State) : (Nat → BitVec 4) × Option Purge := (fun j => (s.slot j).gen, s.vrg.purge)

theorem berths_gen (s : State) (j : Nat) : (berths s).1 j = (s.slot j).gen := rfl

theorem berths_purge (s : State) : (berths s).2 = s.vrg.purge := rfl

theorem berths_of_vrg (h : t.vrg = s.vrg) : berths t = berths s := by
  simp only [berths, State.slot, h]

theorem berths_setSlot {e : Slot} (h : e.gen = (s.slot i).gen) : berths (s.setSlot i e) = berths s := by
  refine Prod.ext (funext fun j => ?_) rfl
  show ((s.setSlot i e).slot j).gen = (s.slot j).gen
  rw [State.setSlot_slot]
  split
  next hij => rw [h, hij]
  next => rfl

@[simp] theorem berths_updVisitor (i : Nat) (g : Visitor → Visitor) : berths (s.updVisitor i g) = berths s := by
  unfold State.updVisitor
  split
  · exact berths_setSlot rfl
  · rfl

@[simp] theorem berths_createExchange (i slot : Nat) (k : XKind) : berths (createExchange i slot k s) = berths s := by
  simp only [createExchange, berths_of_vrg (noticeToSend_vrg ..), berths_updVisitor]
  rfl

@[simp] theorem berths_freeEntry (i : Nat) : berths (freeEntry i s) = berths s := by
  unfold freeEntry
  split
  · simp only [serveDeferred]
    split
    · rw [berths_createExchange]
      exact berths_updVisitor ..
    · exact berths_updVisitor ..
  · rfl

theorem berths_becomeFree (i : Nat) : berths (becomeFree i s) = berths s := by
  unfold becomeFree
  split
  · exact (berths_of_vrg (State.updVisitors_vrg ..)).trans (berths_setSlot rfl)
  · rfl

theorem berths_retireSteps (i : Nat) (why : RetireReason) : berths (retireSteps i why s) = berths s := by
  have hcancelled : berths (cancelled i why s) = berths s := by
    simp only [cancelled]
    split
    · rw [berths_freeEntry]
      exact berths_setSlot rfl
    · exact berths_setSlot rfl
  have hwithdraw (u : State) : berths (withdraw i u) = berths u := by
    simp only [withdraw, stopQuota, State.updQuota, berths_updVisitor]
    exact berths_updVisitor (s := u.withQxu _) ..
  have hclose (u : State) : berths (closeAccount i u) = berths u := by
    unfold closeAccount
    split
    · split
      · rfl
      · exact berths_of_vrg (by simp)
    · rfl
  rw [retireSteps_eq, hclose, hwithdraw, hcancelled]

theorem berths_evict (i : Nat) (s : State) : berths (evict i s) = berths s := by
  have hmark (u : State) : berths (markEvicted i u) = berths u := by
    unfold markEvicted
    split
    · exact berths_of_vrg (State.updAccount_vrg ..)
    · rfl
  have hfree (u : State) : berths (freeEvicted i u) = berths u := by
    unfold freeEvicted
    split
    · rw [berths_freeEntry, berths_becomeFree]
    · exact berths_becomeFree ..
  rw [evict_eq, berths_of_vrg (giveNotice_vrg ..), hfree, hmark, berths_retireSteps]

/-! ### The admissions that evict -/

theorem arrive_roomFor_evicts {k : ServiceClass} (hfull : ∀ j < 4096, (s.visitor j).isSome) (hk : k ≠ .passenger)
    (hi : s.evictable = some i) : (arrive f s).roomFor k = some (i, evict i (arrive f s)) :=
  roomFor_evicts (fun j hj => by rw [arrive_visitor]; exact hfull j hj) hk (by rw [arrive_evictable, hi])

theorem evict_gen (i : Nat) (s : State) (j : Nat) : ((evict i s).slot j).gen = (s.slot j).gen := by
  rw [← berths_gen, berths_evict, berths_gen]

theorem evict_purge (i : Nat) (s : State) : (evict i s).vrg.purge = s.vrg.purge := by
  rw [← berths_purge, berths_evict, berths_purge]

/-- What the admissions that evict use of an eviction. -/
theorem evict_arrive (hu : u = evict i (arrive f s)) :
    (u.slot i).gen = (s.slot i).gen ∧ u.settings = s.settings ∧ u.rqp.shipTime = s.rqp.shipTime ∧
      u.vrg.purge = s.vrg.purge ∧ stage u = stage (arrive f s) ∧ u.pending = (arrive f s).pending ∧
      PortKept (arrive f s) u := by
  have htold : Told (arrive f s).rqp u := hu ▸ told_evict i (told_self (arrive f s))
  have hstage : stage u = stage (arrive f s) := hu ▸ stage_evict i
  have hpending : u.pending = (arrive f s).pending := hu ▸ evict_pending i (arrive f s)
  have hgen : (u.slot i).gen = (s.slot i).gen := by rw [hu, evict_gen, arrive_slot]
  have hpurge : u.vrg.purge = s.vrg.purge := by rw [hu, evict_purge, arrive_vrg]
  have htime : u.rqp.shipTime = s.rqp.shipTime := by rw [hu, evict_rqp_shipTime, arrive_shipTime]
  have hsettings : u.settings = s.settings := (stage_eq hstage).2.2.2.2.2.2.trans (arrive_settings ..)
  exact ⟨hgen, hsettings, htime, hpurge, hstage, hpending, htold.portKept⟩

theorem emergencyEvicts : Claims.EmergencyEvicts := by
  intro f sid unit d i s ht hsid hunit hmode hradio hserving hpurge hnew hfull hi u
  have hpartner : s.admitPartner d .emergency = none := by rw [admitPartner_new hnew, if_pos rfl]
  have hwork := exec_admit (k := .emergency) (cls := 2) ht
    ⟨hsid, rfl, hunit, hmode, hradio, hserving, hpartner ▸ hpurge⟩
  have hroom : (arrive f s).roomFor .emergency = some (i, u) := arrive_roomFor_evicts hfull nofun hi
  simp only [hnew, admitEmergency, hroom, if_true] at hwork
  obtain ⟨hgen, hsettings, htime, hvrg, -, -, -⟩ := evict_arrive (u := u) (i := i) (f := f) (s := s) rfl
  clear_value u
  obtain ⟨htold, haboard, hanswer⟩ := emergencyAboard_leaves i d unit.toNat u
  refine ⟨admitted i (emergencyAboard i d unit.toNat u), ?_, htold, ?_, haboard.others, congrArg Prod.fst haboard.desk,
    (congrArg Prod.snd haboard.desk).trans hvrg⟩
  · rw [hwork, ← hgen]
    exact congrArg Host.Outcome.next (hanswer f.tag)
  · rw [haboard.slot, hgen, hsettings, htime]

theorem crewEvicts : Claims.CrewEvicts := by
  intro f sid unit d p i a r s ht hsid hunit hmode hradio hserving hpurge hnew hp hr hopen hoff ha hfull hi u
  have hpartner : s.admitPartner d .crew = some p := by rw [admitPartner_new hnew, if_neg nofun, hp]
  have hroom : (arrive f s).roomFor .crew = some (i, u) := arrive_roomFor_evicts hfull nofun hi
  have hwork := exec_admit_complete (cls := 1) (k := .crew) ht ⟨hsid, rfl, hunit, hmode, hradio, hserving, hpartner ▸ hpurge⟩
    nofun hnew hp hr (by rw [hopen]; nofun) ha hroom
  obtain ⟨hgen, hsettings, htime, -, hustage, hupending, hkept⟩ := evict_arrive (u := u) (i := i) (f := f) (s := s) rfl
  clear_value u
  obtain ⟨t, haboard, ⟨h1, h2, h3, h4, -⟩, hqxu, hstage, hpending, htold, -, hanswer⟩ :=
    admitComplete_aboard (u := u) (i := i) (a := a) (p := p) (d := d) (k := .crew) (unit := unit.toNat) hopen hoff
  refine ⟨t, ?_, ?_, haboard.others, congrArg Prod.fst haboard.desk, ?_, h2, h3, h4, hqxu,
    outside_arrive (hstage.trans hustage) (hpending.trans hupending), hkept.trans htold.portKept, htold.noticesKept⟩
  · rw [hwork, ← hgen]
    exact congrArg Host.Outcome.next (hanswer f.tag)
  · rw [haboard.slot, hgen, hsettings, htime, if_pos rfl]
  · rw [h1, htime] <;> rfl

/-- Settles O11. -/
theorem evictionChoice : Obligations.EvictionChoice := ⟨evictionChoice_claim, evicted_claim, emergencyEvicts, crewEvicts⟩

end Sys2Proof.Machine
end

section
/-! PROOFS. O43: the selection of a path and its reselection (R129–R133). -/

namespace Sys2Proof.Machine

variable {f : Frame} {s t : State} {r : Nat} {c : TrafficClass} {p : Path}

/-! ### Selection (R129, R130) -/

theorem eligible_iff (s : State) (l : Link) : s.eligible l = true ↔
    ((s.link l).state = .up ∨ (s.link l).state = .degraded) ∧ (s.zone s.zne.pos.zone).permit.getLsbD l.val = true := by
  have husable (st : LinkState) : usable st = true ↔ st = .up ∨ st = .degraded := by
    cases st <;> simp [usable]
  rw [State.eligible, Bool.and_eq_true, husable]
  rfl

/-- The first link of a list that is in a state and eligible is the one before which there is none. -/
theorem firstIn_eq_some {st : LinkState} {pre post : List Link} {l : Link} (hl : (s.link l).state = st ∧ s.eligible l = true)
    (hpre : ∀ k ∈ pre, ¬ ((s.link k).state = st ∧ s.eligible k = true)) : s.firstIn st (pre ++ l :: post) = some l := by
  refine List.find?_eq_some_iff_append.mpr ⟨by simpa using hl, pre, post, rfl, fun k hk => ?_⟩
  rw [Bool.not_eq_true', ← Bool.not_eq_true, Bool.and_eq_true, beq_iff_eq]
  exact hpre k hk

theorem firstIn_eq_none {st : LinkState} {ls : List Link} (h : ∀ k ∈ ls, ¬ ((s.link k).state = st ∧ s.eligible k = true)) :
    s.firstIn st ls = none := by
  rw [State.firstIn, List.find?_eq_none]
  intro k hk
  simpa using h k hk

/-- A pin that is absent or not eligible leaves the choice to the preference list. -/
theorem preferred_unpinned (hpin : ∀ l, p.pin = some l → s.eligible l = false) :
    s.preferred p = match s.firstIn .up p.prefs with
      | some l => some l
      | none => s.firstIn .degraded p.prefs := by
  have hnone : p.pin.filter s.eligible = none := by
    cases hl : p.pin with
    | none => rfl
    | some l => simp [Option.filter, hpin l hl]
  simp only [State.preferred, hnone] <;> rfl

theorem selectionRule : Claims.SelectionRule := by
  intro p s
  refine ⟨fun l => eligible_iff s l, fun l hpin hl => ?_, fun hpin => ⟨fun pre l post hprefs hl hpre => ?_, fun hup =>
    ⟨fun pre l post hprefs hl hpre => ?_, fun hdeg => ⟨fun l hcur hl => ?_, fun hcur => ?_⟩⟩⟩⟩
  · simp [State.selection, State.preferred, hpin, Option.filter, hl]
  · have hfirst : s.firstIn .up p.prefs = some l := hprefs ▸ firstIn_eq_some hl hpre
    simp [State.selection, preferred_unpinned hpin, hfirst]
  · have hfirst : s.firstIn .degraded p.prefs = some l := hprefs ▸ firstIn_eq_some hl hpre
    simp [State.selection, preferred_unpinned hpin, firstIn_eq_none hup, hfirst]
  · simp [State.selection, preferred_unpinned hpin, firstIn_eq_none hup, firstIn_eq_none hdeg, hcur, Option.filter, hl]
  · have hnone : (currentOf p.state).filter s.eligible = none := by
      cases hl : currentOf p.state with
      | none => rfl
      | some l => simp [Option.filter, hcur l hl]
    simp [State.selection, preferred_unpinned hpin, firstIn_eq_none hup, firstIn_eq_none hdeg, hnone]

/-- With nothing selected the current link is not eligible. -/
theorem eligible_current_of_none {cur : Link} (hsel : s.selection p = none) (hcur : currentOf p.state = some cur) :
    s.eligible cur = false := by
  unfold State.selection at hsel
  split at hsel
  · contradiction
  · rw [hcur] at hsel
    simpa [Option.filter] using hsel

/-- The selection rests on the links, the permit mask, the pin, the list and the current link alone. -/
theorem selection_congr {q : Path} (hlink : ∀ l, t.link l = s.link l) (hpermit : t.permitInForce = s.permitInForce)
    (hpin : q.pin = p.pin) (hprefs : q.prefs = p.prefs) (hcur : currentOf q.state = currentOf p.state) :
    t.selection q = s.selection p := by
  have heligible : t.eligible = s.eligible := funext fun l => by rw [State.eligible, State.eligible, hlink, hpermit]
  simp only [State.selection, State.preferred, State.firstIn, hlink, heligible, hpin, hprefs, hcur]

/-! ### The outcomes of a reselection (R133) -/

theorem movePath_eq (r : Nat) (c : TrafficClass) (st : PathState) (why : Option MoveReason) (n : Byte) (a b : Option Link)
    (s : State) : movePath r c st why n a b s = movedPath r c st why n a b s := by
  rw [movePath, handoverNotice, path_setPath_self]
  rfl

theorem cset_cset {α : Type} (t : PerClass α) (c : TrafficClass) (a b : α) : cset (cset t c a) c b = cset t c b := by
  cases c <;> rfl

theorem setPath_setPath (s : State) (r : Nat) (c : TrafficClass) (a b : Path) :
    (s.setPath r c a).setPath r c b = s.setPath r c b := by
  have hroute (x : Route) : (s.setRoute r x).route r = x := by
    rw [State.setRoute_route, if_pos rfl]
  have htwice (x y : Route) : (s.setRoute r x).setRoute r y = s.setRoute r y := by
    have h := tset_tset routeReset s.rte.routes r x y
    simp only [State.setRoute, State.withRte_rte, h]
    rfl
  rw [State.setPath, State.setPath, hroute, htwice, State.setPath]
  simp only [cset_cset]

theorem giveNotice_setPath (k : NoticeKind) (x : Subject) (n v1 v2 v3 v4 v5 : Byte) (s : State) (r : Nat) (c : TrafficClass)
    (p : Path) : (giveNotice k x n v1 v2 v3 v4 v5 s).setPath r c p = giveNotice k x n v1 v2 v3 v4 v5 (s.setPath r c p) := by
  unfold giveNotice
  rw [State.setPath_rqp]
  split <;> rfl

theorem movedPath_path (r : Nat) (c : TrafficClass) (st : PathState) (why : Option MoveReason) (n : Byte) (a b : Option Link)
    (s : State) : (movedPath r c st why n a b s).path r c = { s.path r c with state := st, reason := why } := by
  rw [movedPath, State.path, State.route, giveNotice_rte]
  exact path_setPath_self ..

/-- The entry into STEADY of a path that has moved there reselects it with reason PREFERENCE (R131). -/
theorem enterSteady_movedPath (r : Nat) (c : TrafficClass) (cur : Link) (why : Option MoveReason) (n : Byte)
    (a b : Option Link) (s : State) :
    enterSteady r c cur (movedPath r c (.steady cur) why n a b s) =
      reselect r c .preference (movedPath r c (.steady cur) why n a b s) := by
  have hset : (movedPath r c (.steady cur) why n a b s).setPath r c
      { (movedPath r c (.steady cur) why n a b s).path r c with state := .steady cur } =
      movedPath r c (.steady cur) why n a b s := by
    rw [movedPath_path, movedPath, giveNotice_setPath, setPath_setPath]
  rw [enterSteady, hset]
  simp only [reselect, movedPath_path]

theorem abandon_eq (r : Nat) (c : TrafficClass) (cur next : Link) (s : State) :
    abandon r c cur next s =
      reselect r c .preference (movedPath r c (.steady cur) (s.path r c).reason 2 (some cur) (some next) s) := by
  rw [abandon, movePath_eq, enterSteady_movedPath]

/-- A path that enters STEADY on its selection stays there. -/
theorem reselect_movedPath_selected {cur : Link} (hsel : s.selection (s.path r c) = some cur)
    (hcur : currentOf (s.path r c).state = some cur) (m : MoveReason) (why : Option MoveReason) (n : Byte) (a b : Option Link) :
    reselect r c m (movedPath r c (.steady cur) why n a b s) = movedPath r c (.steady cur) why n a b s := by
  have hlmn : (movedPath r c (.steady cur) why n a b s).lmn = s.lmn := by
    rw [movedPath, giveNotice_lmn, State.setPath_lmn]
  have hzne : (movedPath r c (.steady cur) why n a b s).zne = s.zne := by
    rw [movedPath, giveNotice_zne, State.setPath_zne]
  have hselection : (movedPath r c (.steady cur) why n a b s).selection { s.path r c with state := .steady cur, reason := why } =
      some cur := by
    rw [← hsel]
    refine selection_congr (fun l => ?_) ?_ rfl rfl hcur.symm
    · rw [State.link, hlmn]
      rfl
    · rw [State.permitInForce, State.zoneInForce, State.zone, hzne]
      rfl
  simp only [reselect, movedPath_path, reselectSteady, hselection, if_true]

theorem startPreparing_eq (r : Nat) (c : TrafficClass) (cur l : Link) (why : MoveReason) (s : State) :
    startPreparing r c cur l why s =
      movedPath r c (.preparing cur l (s.route r).prepare) (some why) 1 (some cur) (some l) s := movePath_eq ..

theorem hardSwitch_some {old : Option Link} (hcur : currentOf (s.path r c).state = old) (l : Link) (why : Option MoveReason) :
    hardSwitch r c (some l) why s = movedPath r c (.steady l) why 5 old (some l) s := by
  rw [hardSwitch, hcur]
  exact movePath_eq ..

theorem hardSwitch_none {old : Option Link} (hcur : currentOf (s.path r c).state = old) (why : Option MoveReason) :
    hardSwitch r c none why s = movedPath r c .stranded why 6 old none s := by
  rw [hardSwitch, hcur]
  exact movePath_eq ..

theorem enterReleasing_eq (r : Nat) (c : TrafficClass) (cur l : Link) (s : State) : enterReleasing r c cur l s =
    movedPath r c (.releasing l cur (s.route r).release) (s.path r c).reason 3 (some cur) (some l) s := movePath_eq ..

/-! ### The reselection of a path by its state (R132) -/

theorem eligible_of_filter {o : Option Link} {l : Link} (h : o.filter s.eligible = some l) : s.eligible l = true :=
  (Option.filter_eq_some_iff.mp h).2

theorem eligible_of_firstIn {st : LinkState} {ls : List Link} {l : Link} (h : s.firstIn st ls = some l) :
    s.eligible l = true := by
  have hl := List.find?_some h
  rw [Bool.and_eq_true] at hl
  exact hl.2

/-- A selection names a link that is eligible. -/
theorem eligible_of_selection {l : Link} (h : s.selection p = some l) : s.eligible l = true := by
  have hpreferred {k : Link} (hk : s.preferred p = some k) : s.eligible k = true := by
    unfold State.preferred at hk
    split at hk
    next hpin => exact eligible_of_filter (Option.some.inj hk ▸ hpin)
    next =>
      split at hk
      next hup => exact eligible_of_firstIn (Option.some.inj hk ▸ hup)
      next => exact eligible_of_firstIn hk
  unfold State.selection at h
  split at h
  next hk => exact hpreferred (Option.some.inj h ▸ hk)
  next => exact eligible_of_filter h

/-- A hard switch to the selection, or to none (R133). -/
theorem hardSwitch_selection {old : Option Link} (hcur : currentOf (s.path r c).state = old) (why : Option MoveReason) :
    (∀ l, s.selection (s.path r c) = some l →
      hardSwitch r c (s.selection (s.path r c)) why s = movedPath r c (.steady l) why 5 old (some l) s) ∧
    (s.selection (s.path r c) = none →
      hardSwitch r c (s.selection (s.path r c)) why s = movedPath r c .stranded why 6 old none s) := by
  refine ⟨fun l h => ?_, fun h => ?_⟩
  · rw [h]
    exact hardSwitch_some hcur ..
  · rw [h]
    exact hardSwitch_none hcur ..

theorem reselect_steady {cur : Link} (hst : (s.path r c).state = .steady cur) (why : MoveReason) :
    reselect r c why s = reselectSteady r c cur why s := by
  simp only [reselect, hst]

theorem reselect_preparing {cur n : Link} {m : Nat} (hst : (s.path r c).state = .preparing cur n m) (why : MoveReason) :
    reselect r c why s =
      if s.selection (s.path r c) = some n then s
      else if s.selection (s.path r c) = some cur then abandon r c cur n s
      else match s.selection (s.path r c) with
        | some l => if s.eligible cur then startPreparing r c cur l why s else hardSwitch r c (some l) (some why) s
        | none => hardSwitch r c none (some why) s := by
  simp only [reselect, hst] <;> rfl

theorem reselect_bicast {cur n : Link} {m : Nat} (hst : (s.path r c).state = .bicast cur n m) (why : MoveReason) :
    reselect r c why s =
      if s.eligible n = false then
        (if s.eligible cur then abandon r c cur n s else hardSwitch r c (s.selection (s.path r c)) (some why) s)
      else if s.eligible cur = false then enterReleasing r c cur n s else s := by
  simp only [reselect, hst, Bool.not_eq_true']

theorem reselect_releasing {cur x : Link} {m : Nat} (hst : (s.path r c).state = .releasing cur x m) (why : MoveReason) :
    reselect r c why s =
      if s.eligible cur then s else hardSwitch r c (s.selection (s.path r c)) (some why) s := by
  simp only [reselect, hst]

theorem reselectionTable : Claims.ReselectionTable := by
  intro r c why s p sel e t prepare switch strand
  refine ⟨fun cur hst => ?_, fun hst => ?_, fun cur n m hst => ?_, fun cur n m hst => ?_, fun cur x m hst => ?_⟩
  · have hst' : (s.path r c).state = .steady cur := hst
    have hcur : currentOf (s.path r c).state = some cur := by rw [hst']; rfl
    have ht : t = reselectSteady r c cur why s := reselect_steady hst' why
    refine ⟨fun hsel => ?_, fun l hsel hne hel => ?_, fun l hsel hel => ?_, fun hsel => ?_⟩
    all_goals
      rw [ht, reselectSteady, show s.selection (s.path r c) = _ from hsel]
      simp only
    · rfl
    · rw [if_neg hne, if_pos hel, startPreparing_eq]
    · have hne : l ≠ cur := fun h => hel (h ▸ eligible_of_selection hsel)
      rw [if_neg hne, if_neg hel, hardSwitch_some hcur]
    · rw [eligible_current_of_none hsel hcur, if_neg Bool.false_ne_true, hardSwitch_none hcur]
  · have hst' : (s.path r c).state = .stranded := hst
    have hcur : currentOf (s.path r c).state = none := by rw [hst']; rfl
    refine ⟨fun hsel => ?_, fun l hsel => ?_⟩
    all_goals
      show reselect r c why s = _
      have hsel' : s.selection (s.path r c) = _ := hsel
      simp only [reselect, hst', hsel']
    exact hardSwitch_some hcur ..
  · have hst' : (s.path r c).state = .preparing cur n m := hst
    have hcur : currentOf (s.path r c).state = some cur := by rw [hst']; rfl
    have ht : t = _ := reselect_preparing hst' why
    refine ⟨fun hsel => ?_, fun hsel hne => ?_, fun l hsel hn hc => ⟨fun hel => ?_, fun hel => ?_⟩, fun hsel => ?_⟩
    all_goals
      have hsel' : s.selection (s.path r c) = _ := hsel
      rw [ht, hsel']
    · rw [if_pos rfl]
    · rw [if_neg (by simpa using hne), if_pos rfl, abandon_eq]
      exact reselect_movedPath_selected hsel' hcur ..
    · rw [if_neg (by simpa using hn), if_neg (by simpa using hc)]
      exact (if_pos hel).trans (startPreparing_eq ..)
    · rw [if_neg (by simpa using hn), if_neg (by simpa using hc)]
      exact (if_neg hel).trans (hardSwitch_some hcur ..)
    · rw [if_neg nofun, if_neg nofun]
      exact hardSwitch_none hcur ..
  · have hst' : (s.path r c).state = .bicast cur n m := hst
    have hcur : currentOf (s.path r c).state = some cur := by rw [hst']; rfl
    have ht : t = _ := reselect_bicast hst' why
    have hswitch := hardSwitch_selection hcur (some why)
    refine ⟨fun hn hc => ?_, fun hn hc => ⟨fun l hsel => ?_, fun hsel => ?_⟩, fun hn hc => ?_, fun hn hc => ?_⟩
    · rw [ht, if_pos (Bool.not_eq_true _ |>.mp hn), if_pos hc, abandon_eq]
    · rw [ht, if_pos (Bool.not_eq_true _ |>.mp hn), if_neg hc]
      exact hswitch.1 l hsel
    · rw [ht, if_pos (Bool.not_eq_true _ |>.mp hn), if_neg hc]
      exact hswitch.2 hsel
    · rw [ht, if_neg (Bool.not_eq_false _ |>.mpr hn), if_pos (Bool.not_eq_true _ |>.mp hc), enterReleasing_eq]
    · rw [ht, if_neg (Bool.not_eq_false _ |>.mpr hn), if_neg (Bool.not_eq_false _ |>.mpr hc)]
  · have hst' : (s.path r c).state = .releasing cur x m := hst
    have hcur : currentOf (s.path r c).state = some cur := by rw [hst']; rfl
    have ht : t = _ := reselect_releasing hst' why
    have hswitch := hardSwitch_selection hcur (some why)
    refine ⟨fun hc => ?_, fun hc => ⟨fun l hsel => ?_, fun hsel => ?_⟩⟩
    · rw [ht, if_pos hc]
    · rw [ht, if_neg hc]
      exact hswitch.1 l hsel
    · rw [ht, if_neg hc]
      exact hswitch.2 hsel

/-! ### The reach of a reselection (R131, R142, R143) -/

theorem RoutesKept.refl (s : State) : RoutesKept s s := fun _ => ⟨rfl, rfl, rfl, fun _ => ⟨rfl, rfl⟩⟩

theorem RoutesKept.trans {u : State} (h : RoutesKept s t) (h' : RoutesKept t u) : RoutesKept s u := by
  intro r
  obtain ⟨a1, a2, a3, a4⟩ := h r
  obtain ⟨b1, b2, b3, b4⟩ := h' r
  exact ⟨b1.trans a1, b2.trans a2, b3.trans a3, fun c => ⟨(b4 c).1.trans (a4 c).1, (b4 c).2.trans (a4 c).2⟩⟩

theorem routesKept_of_rte (h : t.rte = s.rte) : RoutesKept s t := by
  intro r
  have hroute : t.route r = s.route r := by rw [State.route, h]; rfl
  have hpath (c : TrafficClass) : t.path r c = s.path r c := by rw [State.path, hroute]; rfl
  exact ⟨by rw [hroute], by rw [hroute], by rw [hroute], fun c => ⟨by rw [hpath], by rw [hpath]⟩⟩

/-- A path whose state and reason move keeps its route's settings. -/
theorem routesKept_setPath {q : Path} (hprefs : q.prefs = (s.path r c).prefs) (hpin : q.pin = (s.path r c).pin) :
    RoutesKept s (s.setPath r c q) := by
  intro r'
  by_cases hr : r = r'
  · subst hr
    have hroute : (s.setPath r c q).route r = { s.route r with paths := cset (s.route r).paths c q } := by
      rw [State.setPath, State.setRoute_route, if_pos rfl]
    refine ⟨by rw [hroute], by rw [hroute], by rw [hroute], fun c' => ?_⟩
    rw [State.setPath_path]
    split
    next h => exact h.2 ▸ ⟨hprefs, hpin⟩
    next => exact ⟨rfl, rfl⟩
  · have hroute : (s.setPath r c q).route r' = s.route r' := by
      rw [State.setPath, State.setRoute_route, if_neg hr]
    have hpath (c' : TrafficClass) : (s.setPath r c q).path r' c' = s.path r' c' := by rw [State.path, hroute]; rfl
    exact ⟨by rw [hroute], by rw [hroute], by rw [hroute], fun c' => ⟨by rw [hpath], by rw [hpath]⟩⟩

theorem routesKept_movedPath {st : PathState} {why : Option MoveReason} {n : Byte} {a b : Option Link} : RoutesKept s (movedPath r c st why n a b s) :=
  (routesKept_setPath (q := { s.path r c with state := st, reason := why }) rfl rfl).trans
    (routesKept_of_rte (giveNotice_rte ..))

theorem routesKept_hardSwitch {o : Option Link} {why : Option MoveReason} :
    RoutesKept s (hardSwitch r c o why s) := by
  cases o with
  | some l => exact hardSwitch_some rfl l why ▸ routesKept_movedPath
  | none => exact hardSwitch_none rfl why ▸ routesKept_movedPath

theorem routesKept_reselectSteady {cur : Link} {why : MoveReason} :
    RoutesKept s (reselectSteady r c cur why s) := by
  unfold reselectSteady
  split
  · split
    · exact .refl s
    · split
      · exact startPreparing_eq .. ▸ routesKept_movedPath
      · exact routesKept_hardSwitch
  · split
    · exact .refl s
    · exact routesKept_hardSwitch

theorem routesKept_enterSteady {cur : Link} : RoutesKept s (enterSteady r c cur s) :=
  (routesKept_setPath (q := { s.path r c with state := .steady cur }) rfl rfl).trans (routesKept_reselectSteady)

theorem routesKept_abandon {cur n : Link} : RoutesKept s (abandon r c cur n s) :=
  (movePath_eq .. ▸ routesKept_movedPath).trans (routesKept_enterSteady)

theorem routesKept_reselect {why : MoveReason} : RoutesKept s (reselect r c why s) := by
  simp only [reselect]
  split
  next => exact routesKept_reselectSteady
  next =>
    split
    · exact routesKept_hardSwitch
    · exact .refl s
  next =>
    split
    · exact .refl s
    · split
      · exact routesKept_abandon
      · split
        · split
          · exact startPreparing_eq .. ▸ routesKept_movedPath
          · exact routesKept_hardSwitch
        · exact routesKept_hardSwitch
  next =>
    split
    · split
      · exact routesKept_abandon
      · exact routesKept_hardSwitch
    · split
      · exact enterReleasing_eq .. ▸ routesKept_movedPath
      · exact .refl s
  next =>
    split
    · exact .refl s
    · exact routesKept_hardSwitch

theorem routesKept_foldl {α : Type} {g : State → α → State} (hg : ∀ u x, RoutesKept u (g u x)) (xs : List α) (s : State) :
    RoutesKept s (xs.foldl g s) := by
  induction xs generalizing s with
  | nil => exact .refl s
  | cons x xs ih => exact (hg s x).trans (ih _)

theorem routesKept_reselectAll (why : MoveReason) (s : State) : RoutesKept s (reselectAll why s) :=
  routesKept_foldl (fun u _ => routesKept_foldl (fun _ _ => routesKept_reselect) _ u) _ s

theorem outsideRoutes_reselectAll (why : MoveReason) (s : State) : OutsideRoutes s (reselectAll why s) := by
  refine ⟨?_, ?_, ?_, ?_, ?_, ?_, ?_, ?_⟩ <;> simp

theorem reselectionFrame : Claims.ReselectionFrame := by
  intro why s
  have htold : Told s.rqp (reselectAll why s) := told_reselectAll _ (told_self s)
  refine ⟨?_, outsideRoutes_reselectAll why s, htold.portKept, htold.noticesKept, routesKept_reselectAll why s⟩
  rw [List.foldl_flatMap]
  rfl

/-- Settles O43. -/
theorem selection_settled : Obligations.Selection := ⟨selectionRule, reselectionTable, reselectionFrame⟩

end Sys2Proof.Machine
end

section
/-! PROOFS. O44, O45 and O46: the route requests, the steps of a handover, and LOOKUP (chapter 6). -/

namespace Sys2Proof.Machine

variable {f : Frame} {s t : State} {r : Nat} {c : TrafficClass} {l cur next : Link} {m : Nat}

theorem linkOf_of_toNat {b : Byte} (h : b.toNat = l.val) : linkOf b = some l := by
  rw [linkOf_eq_some]
  apply BitVec.eq_of_toNat_eq
  rw [h, linkByte, BitVec.toNat_ofNat]
  omega

/-! ### RCONF, RPIN and RUNPIN (R125–R127) -/

theorem configureRoute : Claims.ConfigureRoute := by
  intro f x s ht
  have hexec : exec (.rconf f x) s = .next (deliver kRconf f.tag (doRconf x (arrive f s))) := exec_taken rfl ht
  refine ⟨fun hbad => ?_, fun a b c hroute ha hb hc => ?_⟩
  · have hdone : doRconf x (arrive f s) = reply .badArg (arrive f s) := by
      unfold doRconf
      split
      next ha hb hc =>
        have hroute : 31 < x.route.toNat := by simpa [ha, hb, hc] using hbad
        exact if_pos hroute
      next => rfl
    rw [hexec, hdone]
    rfl
  · intro i o w inRange
    have hrouted : routeOf o x a b c = (w, !decide inRange) := by
      rw [← decide_not]
      simp only [routeOf, clampNat, Nat.zero_max, inRange, w, not_and_or, Bool.decide_or, ne_eq, Bool.or_assoc]
      rfl
    have hdone : doRconf x (arrive f s) = reply (okOrClamped (!decide inRange))
        (reselectRoute i .preference ((arrive f s).setRoute i w)) := by
      have hroute' : ¬ 31 < x.route.toNat := not_lt.mpr hroute
      simp only [doRconf, ha, hb, hc, if_neg hroute', arrive_route]
      rw [show routeOf (s.route x.route.toNat) x a b c = _ from hrouted]
    rw [hexec, hdone]
    by_cases hr : inRange
    · rw [decide_eq_true hr, if_pos hr]
      rfl
    · rw [decide_eq_false hr, if_neg hr]
      rfl

theorem pinPath_claim : Claims.PinPath := by
  intro f route cls link s
  have hpin : Takes f kRpin s → exec (.rpin f route cls link) s =
      .next (deliver kRpin f.tag (doRpin route cls link (arrive f s))) := fun ht => exec_taken rfl ht
  have hunpin : Takes f kRunpin s → exec (.runpin f route cls) s =
      .next (deliver kRunpin f.tag (doRunpin route cls (arrive f s))) := fun ht => exec_taken rfl ht
  refine ⟨fun ht hbad => ?_, fun ht hbad => ?_, fun c hroute hc => ?_⟩
  · have hdone : doRpin route cls link (arrive f s) = reply .badArg (arrive f s) := by
      unfold doRpin
      split
      next c l hc hl =>
        rw [← classOf_eq_none, ← linkOf_eq_none, hc, hl] at hbad
        exact if_pos (hbad.resolve_right (by simp))
      next => rfl
    rw [hpin ht, hdone]
    rfl
  · have hdone : doRunpin route cls (arrive f s) = reply .badArg (arrive f s) := by
      unfold doRunpin
      split
      next c hc =>
        rw [← classOf_eq_none, hc] at hbad
        exact if_pos (hbad.resolve_right nofun)
      next => rfl
    rw [hunpin ht, hdone]
    rfl
  · intro r pinned shown
    have hroute' : ¬ 31 < route.toNat := not_lt.mpr hroute
    have hpath : (arrive f s).path route.toNat c = s.path r c := arrive_path ..
    refine ⟨fun l ht hl => ?_, fun ht => ?_⟩
    · rw [hpin ht]
      simp only [doRpin, hc, linkOf_of_toNat hl, if_neg hroute', pinPath, hpath]
      rfl
    · rw [hunpin ht]
      simp only [doRunpin, hc, if_neg hroute', pinPath, hpath]
      rfl

/-- Settles O44. -/
theorem routeRequests : Obligations.RouteRequests := ⟨configureRoute, pinPath_claim⟩

/-! ### HREADY and HDONE (R134, R137) -/

theorem confirmReady_refused (h : ∀ cur m, (s.path r c).state ≠ .preparing cur l m) : confirmReady r c l s = reply .state s := by
  unfold confirmReady
  split
  next cur next m hst =>
    refine if_neg fun hnext => ?_
    exact h cur m (hnext ▸ hst)
  all_goals rfl

theorem confirmReady_taken (h : (s.path r c).state = .preparing cur l m) :
    confirmReady r c l s = replyWith .ok [pathStateByte ((readyPath r c cur l s).path r c).state] (readyPath r c cur l s) := by
  simp only [confirmReady, h, if_true]

theorem confirmDone_refused (h : ∀ cur m, (s.path r c).state ≠ .releasing cur l m) : confirmDone r c l s = reply .state s := by
  unfold confirmDone
  split
  next cur next m hst =>
    refine if_neg fun hnext => ?_
    exact h cur m (hnext ▸ hst)
  all_goals rfl

theorem confirmDone_taken (h : (s.path r c).state = .releasing cur l m) :
    confirmDone r c l s = replyWith .ok [pathStateByte ((enterSteady r c cur s).path r c).state] (enterSteady r c cur s) := by
  simp only [confirmDone, h, if_true]

theorem enterSteady_eq (r : Nat) (c : TrafficClass) (cur : Link) (s : State) : enterSteady r c cur s =
    reselect r c .preference (s.setPath r c { s.path r c with state := .steady cur }) := by
  have hst : ((s.setPath r c { s.path r c with state := .steady cur }).path r c).state = .steady cur := by
    rw [path_setPath_self]
  rw [reselect_steady hst]
  rfl

theorem hostConfirms : Claims.HostConfirms := by
  intro f route cls link s
  have hready : Takes f kHready s → exec (.hready f route cls link) s =
      .next (deliver kHready f.tag (doHready route cls link (arrive f s))) := fun ht => exec_taken rfl ht
  have hdone : Takes f kHdone s → exec (.hdone f route cls link) s =
      .next (deliver kHdone f.tag (doHdone route cls link (arrive f s))) := fun ht => exec_taken rfl ht
  refine ⟨fun hbad => ?_, fun c l hroute hc hl => ?_⟩
  · have hroute {c : TrafficClass} {l : Link} (hc : classOf cls = some c) (hl : linkOf link = some l) : 31 < route.toNat := by
      rw [← classOf_eq_none, ← linkOf_eq_none, hc, hl] at hbad
      exact hbad.resolve_right (by simp)
    refine ⟨fun ht => ?_, fun ht => ?_⟩
    · have hrefused : doHready route cls link (arrive f s) = reply .badArg (arrive f s) := by
        unfold doHready
        split
        next c l hc hl => exact if_pos (hroute hc hl)
        next => rfl
      rw [hready ht, hrefused]
      rfl
    · have hrefused : doHdone route cls link (arrive f s) = reply .badArg (arrive f s) := by
        unfold doHdone
        split
        next c l hc hl => exact if_pos (hroute hc hl)
        next => rfl
      rw [hdone ht, hrefused]
      rfl
  · intro r p
    have hroute' : ¬ 31 < route.toNat := not_lt.mpr hroute
    have hpath : (arrive f s).path r c = p := arrive_path ..
    have hroutes : (arrive f s).route r = s.route r := arrive_route ..
    refine ⟨fun ht => ⟨fun hnot => ?_, fun cur m hst => ⟨fun hrel => ?_, fun hel hbi => ?_⟩⟩,
      fun ht => ⟨fun hnot => ?_, fun cur m hst => ?_⟩⟩
    any_goals
      have hwork : doHready route cls link (arrive f s) = confirmReady r c l (arrive f s) := by
        simp only [doHready, hc, linkOf_of_toNat hl, if_neg hroute'] <;> rfl
      rw [hready ht, hwork]
    any_goals
      have hwork : doHdone route cls link (arrive f s) = confirmDone r c l (arrive f s) := by
        simp only [doHdone, hc, linkOf_of_toNat hl, if_neg hroute'] <;> rfl
      rw [hdone ht, hwork]
    · rw [confirmReady_refused (by rw [hpath]; exact hnot)]
      rfl
    · have hmoved : readyPath r c cur l (arrive f s) =
          movedPath r c (.releasing l cur (s.route r).release) p.reason 3 (some cur) (some l) (arrive f s) := by
        rw [readyPath, if_pos, enterReleasing_eq, hroutes, hpath]
        rw [hroutes, arrive_eligible, Bool.not_eq_true']
        exact hrel
      rw [confirmReady_taken (hpath ▸ hst), hmoved, movedPath_path]
      rfl
    · have hmoved : readyPath r c cur l (arrive f s) =
          (arrive f s).setPath r c { p with state := .bicast cur l (s.route r).bicast } := by
        rw [readyPath, if_neg, hroutes, hpath]
        rw [hroutes, arrive_eligible, hel]
        simpa using hbi
      rw [confirmReady_taken (hpath ▸ hst), hmoved, path_setPath_self]
      rfl
    · rw [confirmDone_refused (by rw [hpath]; exact hnot)]
      rfl
    · intro t
      have hmoved : enterSteady r c cur (arrive f s) = t := by rw [enterSteady_eq, hpath]
      rw [confirmDone_taken (hpath ▸ hst), hmoved]
      rfl

/-! ### The timers of a path (R135, R136, R138) -/

theorem preparePasses_eq (h : (s.path r c).state = .preparing cur next m) :
    preparePasses r c s = if s.eligible cur then abandon r c cur next s
      else if s.eligible next then
        reselectSteady r c next .preference (hardSwitch r c (some next) (s.path r c).reason s)
      else hardSwitch r c none (s.path r c).reason s := by
  simp only [preparePasses, h]

theorem pathTimers : Claims.PathTimers := by
  intro r c s p e
  refine ⟨fun hnot => ?_, fun hnot => ?_, fun hnot => ?_, fun cur n m => ⟨fun hst => ⟨fun hc => ?_, fun hc hn => ?_,
    fun hc hn => ?_⟩, fun hst => ?_, fun hst => ?_⟩⟩
  · show Host.Outcome.next (preparePasses r c s) = _
    unfold preparePasses
    split
    next cur n m hst => exact absurd hst (hnot cur n m)
    all_goals rfl
  · show Host.Outcome.next (bicastPasses r c s) = _
    unfold bicastPasses
    split
    next cur n m hst => exact absurd hst (hnot cur n m)
    all_goals rfl
  · show Host.Outcome.next (releasePasses r c s) = _
    unfold releasePasses
    split
    next cur n m hst => exact absurd hst (hnot cur n m)
    all_goals rfl
  · show Host.Outcome.next (preparePasses r c s) = _
    rw [preparePasses_eq hst, if_pos hc, abandon_eq]
  · have hcur : currentOf (s.path r c).state = some cur := by rw [show (s.path r c).state = _ from hst]; rfl
    show Host.Outcome.next (preparePasses r c s) = _
    rw [preparePasses_eq hst, if_neg hc, if_pos hn, hardSwitch_some hcur, reselect_steady (cur := n) (by rw [movedPath_path])]
  · have hcur : currentOf (s.path r c).state = some cur := by rw [show (s.path r c).state = _ from hst]; rfl
    show Host.Outcome.next (preparePasses r c s) = _
    rw [preparePasses_eq hst, if_neg hc, if_neg hn, hardSwitch_none hcur]
  · have hdone : bicastPasses r c s = enterReleasing r c cur n s := by
      simp only [bicastPasses, show (s.path r c).state = _ from hst]
    show Host.Outcome.next (bicastPasses r c s) = _
    rw [hdone, enterReleasing_eq]
  · have hdone : releasePasses r c s =
        enterSteady r c cur (movePath r c (.steady cur) (s.path r c).reason 4 (some n) (some cur) s) := by
      simp only [releasePasses, show (s.path r c).state = _ from hst]
    show Host.Outcome.next (releasePasses r c s) = _
    rw [hdone, movePath_eq, enterSteady_movedPath]

/-- Settles O45. -/
theorem handoverSteps : Obligations.HandoverSteps := ⟨hostConfirms, pathTimers⟩

/-! ### LOOKUP (R139–R141) -/

/-- The answer bytes of a verdict (R219). -/
def verdictBytes (s : State) (v : Visitor) (c : TrafficClass) (verdict reason : Byte) (ls : List Link) : List Byte :=
  [verdict, reason] ++ num 1 v.route ++ [pathStateByte (s.path v.route c).state] ++ num 1 s.tariffInForce.val ++
    num 1 ls.length ++ s.namedBytes ls 0 ++ s.namedBytes ls 1

theorem lookupBytes_hold {v : Visitor} {n : Byte} (h : s.verdict v c = .hold n) :
    s.lookupBytes v c = verdictBytes s v c 1 n [] := by
  simp only [State.lookupBytes, h] <;> rfl

theorem lookupBytes_block {v : Visitor} {n : Byte} (h : s.verdict v c = .block n) :
    s.lookupBytes v c = verdictBytes s v c 2 n [] := by
  simp only [State.lookupBytes, h] <;> rfl

theorem lookupBytes_pass {v : Visitor} {ls : List Link} (h : s.verdict v c = .pass ls) :
    s.lookupBytes v c = verdictBytes s v c 0 0 ls := by
  simp only [State.lookupBytes, h] <;> rfl

/-- Up to two links in the form of R219. -/
theorem verdictBytes_eq (s : State) (v : Visitor) (c : TrafficClass) (verdict reason : Byte) {ls : List Link}
    (hlen : ls.length ≤ 2) : verdictBytes s v c verdict reason ls =
      [verdict, reason, BitVec.ofNat 8 v.route, pathStateByte (s.path v.route c).state,
          BitVec.ofNat 8 s.tariffInForce.val, BitVec.ofNat 8 ls.length] ++
        ((ls.flatMap fun l : Link => [BitVec.ofNat 8 l.val, linkStateByte (s.link l).state]) ++
          [0xFF, 0xFF, 0xFF, 0xFF]).take 4 := by
  match ls, hlen with
  | [], _ => simp [verdictBytes, num_one, State.namedBytes, absent, List.replicate]
  | [a], _ => simp [verdictBytes, num_one, State.namedBytes, absent, List.replicate, linkByte]
  | [a, b], _ => simp [verdictBytes, num_one, State.namedBytes, linkByte]

theorem namedLinks_length (st : PathState) : (namedLinks st).length ≤ 2 := by
  cases st <;> simp [namedLinks]

theorem doLookup_live {h : BitVec 16} {cls : Byte} {v : Visitor} (hc : classOf cls = some c)
    (hv : s.visitor (handleSlot h) = some v) (hgen : (s.slot (handleSlot h)).gen = handleGen h) :
    doLookup h cls s = replyWith .ok (s.lookupBytes v c) s := by
  have hlive : s.live h = true := by
    have hsome : (s.slot (handleSlot h)).visitor = some v := hv
    simp [State.live, hsome, hgen]
  simp only [doLookup, hc, hlive, if_true, hv]

theorem doLookup_dead {h : BitVec 16} {cls : Byte} (hc : classOf cls = some c)
    (hdead : s.visitor (handleSlot h) = none ∨ (s.slot (handleSlot h)).gen ≠ handleGen h) :
    doLookup h cls s = reply .stale s := by
  have hlive : s.live h = false := by
    rw [State.live, Bool.and_eq_false_iff]
    refine hdead.imp (fun hnone => ?_) fun hgen => by simpa using hgen
    have hnone' : (s.slot (handleSlot h)).visitor = none := hnone
    rw [hnone']
    rfl
  simp only [doLookup, hc, hlive, Bool.false_eq_true, if_false]

/-- The verdict on the data gate and the path of an ACTIVE visitor that is not an EMERGENCY visitor asking for DATA. -/
theorem verdict_active {v : Visitor} (hst : v.state = .active) (hcls : ¬ (v.cls = .emergency ∧ c = .data)) :
    s.verdict v c = match gateFor v c with
      | some .waiting => .hold 5
      | some .shut => .block 6
      | some .opened | none => s.pathVerdict (s.path v.route c) := by
  simp only [State.verdict, hst, if_neg hcls] <;> rfl

/-- Settles O46. -/
theorem lookup : Obligations.Lookup := by
  intro f handle cls s ht e i
  have he : e = .next (deliver kLookup f.tag (doLookup handle cls (arrive f s))) := exec_taken rfl ht
  refine ⟨fun hcls => ?_, fun c hc => ⟨fun hdead => ?_, fun v hv hgen => ?_⟩⟩
  · rw [he]
    simp only [doLookup, classOf_eq_none.mpr hcls]
    rfl
  · rw [he, doLookup_dead hc]
    · rfl
    · rw [arrive_visitor, arrive_slot]
      exact hdead.imp_right (mt (gen_eq_handleGen_iff _ _).mp)
  · intro p named out
    have hwork : doLookup handle cls (arrive f s) =
        replyWith .ok ((arrive f s).lookupBytes v c) (arrive f s) :=
      doLookup_live hc ((arrive_visitor ..).trans hv) (by rw [arrive_slot]; exact (gen_eq_handleGen_iff _ _).mpr hgen)
    have hnamed : (namedLinks p.state).filter (arrive f s).eligible = named := by
      have heligible : (arrive f s).eligible = s.eligible := funext (arrive_eligible f s)
      rw [heligible]
      simp only [named]
      cases p.state <;> rfl
    have hout {verdict reason : Byte} {ls : List Link} (hlen : ls.length ≤ 2)
        (hbytes : (arrive f s).lookupBytes v c = verdictBytes (arrive f s) v c verdict reason ls) : out verdict reason ls := by
      show e = _
      rw [he, hwork, deliver_replyWith, hbytes, verdictBytes_eq _ _ _ _ _ hlen]
      simp only [arrive_path, arrive_tariffInForce, arrive_link]
      rfl
    have hhold {n : Byte} (h : (arrive f s).verdict v c = .hold n) : out 1 n [] :=
      hout (Nat.zero_le _) (lookupBytes_hold h)
    have hblock {n : Byte} (h : (arrive f s).verdict v c = .block n) : out 2 n [] :=
      hout (Nat.zero_le _) (lookupBytes_block h)
    refine ⟨fun hst => hhold ?_, fun hst => hhold ?_, fun hst => hblock ?_, fun hst => ⟨fun hem hdata => hblock ?_,
      fun hno => ⟨fun hdata q hq => ⟨fun hg => hhold ?_, fun hg => hblock ?_⟩, fun hgate => ⟨fun hnone => hhold ?_,
        fun hsome => ?_⟩⟩⟩⟩
    · simp only [State.verdict, hst]
    · simp only [State.verdict, hst]
    · simp only [State.verdict, hst]
    · simp only [State.verdict, hst, if_pos (And.intro hem hdata)]
    · rw [verdict_active hst hno, gateFor, if_pos hdata, hq, Option.map_some, hg]
    · rw [verdict_active hst hno, gateFor, if_pos hdata, hq, Option.map_some, hg]
    all_goals
      have hpath : (arrive f s).verdict v c = (arrive f s).pathVerdict p := by
        rw [verdict_active hst hno, gateFor, arrive_path]
        by_cases hdata : c = .data
        · rw [if_pos hdata]
          cases hq : v.quota with
          | none => rfl
          | some q => rw [Option.map_some, hgate hdata q hq]
        · rw [if_neg hdata]
    · rw [hpath, State.pathVerdict, hnamed, hnone]
    · refine hout ?_ (lookupBytes_pass (hpath.trans ?_))
      · rw [← hnamed]
        exact (List.length_filter_le ..).trans (namedLinks_length _)
      · rw [State.pathVerdict, hnamed]
        cases hn : named with
        | nil => exact absurd hn hsome
        | cons a as => rfl

end Sys2Proof.Machine
end

section
/-! PROOFS. O51: LREAD, RREAD, NREAD, ZREAD and UREAD. -/

namespace Sys2Proof.Machine

variable {f : Frame} {s : State}

/-! ### The fields of the reads -/

theorem snum_eq (n : Nat) (v : Int) : snum n v = beBytes n (v % 256 ^ n).toNat := by
  rw [snum, Nat.cast_pow]
  rfl

theorem num_eq (n v : Nat) : num n v = beBytes n v := rfl

theorem flag_eq (b : Bool) : flag b = [if b = true then (1 : Byte) else 0] := rfl

theorem optNum_eq (n : Nat) (v : Option Nat) : optNum n v = match v with
    | some m => beBytes n m
    | none => List.replicate n (0xFF : Byte) := by
  cases v <;> rfl

theorem optByte_eq (v : Option Byte) : optByte v = v.getD 0xFF := by
  cases v <;> rfl

theorem resultByte_ok : resultByte .ok = 0x00 := rfl

theorem monitorBytes_eq (m : MonitorState) : monitorBytes m =
    [if m.fault = true then (1 : Byte) else 0, BitVec.ofNat 8 m.count, if m.seen = true then (1 : Byte) else 0] := by
  rw [monitorBytes, num_one]
  rfl

theorem drillBytes_eq (d : Option Drill) : drillBytes d = match d with
    | some d => monitorByte d.monitor :: beBytes 2 d.timer
    | none => List.replicate 3 0xFF := by
  cases d <;> rfl

theorem measurementBytes_eq (m : Option Measurement) : measurementBytes m = match m with
    | some m => beBytes 4 m.delay ++ beBytes 2 ((m.loss : Int) % 256 ^ 2).toNat ++ beBytes 2 (m.level % 256 ^ 2).toNat ++
        beBytes 4 m.time.toNat
    | none => List.replicate 12 0xFF := by
  cases m with
  | none => rfl
  | some m => simp only [measurementBytes, num_eq, snum_eq]

theorem readLink (link clear : Byte) (i : Link) (ht : Takes f kLread s) (hi : link.toNat = i.val) :
    exec (.lread f link clear) s = .next (pushAnswer 0x58 f.tag (resultByte .ok :: linkBytes (s.link i))
      (if clear[0] then (arrive f s).setLink i (clearSeen (s.link i)) else arrive f s)) := by
  have hexec : exec (.lread f link clear) s = .next (deliver kLread f.tag (doLread link clear (arrive f s))) :=
    exec_taken rfl ht
  rw [hexec]
  simp only [doLread, linkOf_of_toNat hi, deliver_replyWith, arrive_link, flagOf]
  rfl

theorem optLink_eq (l : Option Link) : optLink l = (l.map fun k : Link => BitVec.ofNat 8 k.val).getD 0xFF := by
  cases l <;> rfl

/-- The timers of a path by its state. -/
theorem pathTimers_eq (st : PathState) : optNum 1 (prepareOf st) ++ (optNum 2 (bicastOf st) ++ optNum 1 (releaseOf st)) =
    match st with
      | .preparing _ _ m => beBytes 1 m ++ [0xFF, 0xFF, 0xFF]
      | .bicast _ _ m => [0xFF] ++ beBytes 2 m ++ [0xFF]
      | .releasing _ _ m => [0xFF, 0xFF, 0xFF] ++ beBytes 1 m
      | .steady _ | .stranded => [0xFF, 0xFF, 0xFF, 0xFF] := by
  cases st <;> rfl

theorem fixBytes_eq (x : Option Fix) : fixBytes x = match x with
    | some x => (match x.source with
        | .nav q => [0, q]
        | .host => [1, 0xFF]) ++ beBytes 3 (x.east % 256 ^ 3).toNat ++ beBytes 3 (x.north % 256 ^ 3).toNat ++
          beBytes 1 x.quality ++ [if x.noisy = true then (1 : Byte) else 0]
    | none => List.replicate 10 0xFF := by
  cases x with
  | none => rfl
  | some x => simp only [fixBytes, num_eq, snum_eq, flag_eq] <;> rfl

theorem navEnabled_eq (r : Receiver) : navEnabled r = decide (r ≠ .disabled) := by
  cases r <;> rfl

theorem permitByte_eq (m : LinkSet) : [m.setWidth 8] = beBytes 1 m.toNat := by
  rw [← num_eq, num_one]
  congr 1
  exact BitVec.eq_of_toNat_eq (by simp)

theorem geometryBytes_eq (i : Nat) (z : Zone) : geometryBytes i z =
    if i = 31 then 1 :: List.replicate 11 0
    else [if z.enabled = true then (1 : Byte) else 0] ++ beBytes 3 (z.east % 256 ^ 3).toNat ++
      beBytes 3 (z.north % 256 ^ 3).toNat ++ beBytes 3 z.radius ++ beBytes 2 z.hysteresis := by
  simp only [geometryBytes, num_eq, snum_eq, flag_eq] <;> rfl

theorem statusBytes_eq (x : Option UnitStatus) : statusBytes x = match x with
    | some x => [if x.radiating = true then (1 : Byte) else 0, if x.fault = true then (1 : Byte) else 0] ++
        beBytes 4 x.time.toNat
    | none => List.replicate 6 0xFF := by
  cases x <;> rfl

theorem unitOnBus_eq (s : State) (u : Nat) : s.unitOnBus u = s.rdc.onBus.any fun y => decide (y.1 = u) := by
  rw [State.unitOnBus]
  cases s.rdc.onBus with
  | none => rfl
  | some y => exact Bool.eq_iff_iff.mpr (by simp)

theorem readRoute (route : Byte) (ht : Takes f kRread s) (hroute : route.toNat ≤ 31) :
    exec (.rread f route) s =
      .next (pushAnswer 0x65 f.tag (resultByte .ok :: routeBytes (s.route route.toNat)) (arrive f s)) := by
  have hexec : exec (.rread f route) s = .next (deliver kRread f.tag (doRread route (arrive f s))) := exec_taken rfl ht
  rw [hexec, doRread, if_neg (not_lt.mpr hroute), deliver_replyWith, arrive_route]
  rfl

theorem readNav (ht : Takes f kNread s) :
    exec (.nread f) s = .next (pushAnswer 0x72 f.tag (resultByte .ok :: navBytes s.zne) (arrive f s)) := by
  have hexec : exec (.nread f) s = .next (deliver kNread f.tag (doNread (arrive f s))) := exec_taken rfl ht
  rw [hexec, doNread, deliver_replyWith, arrive_zne]
  rfl

theorem readZone (zone : Byte) (ht : Takes f kZread s) (hzone : zone.toNat ≤ 31) :
    exec (.zread f zone) s = .next (pushAnswer 0x74 f.tag (resultByte .ok :: s.zoneBytes zone.toNat) (arrive f s)) := by
  have hexec : exec (.zread f zone) s = .next (deliver kZread f.tag (doZread zone (arrive f s))) := exec_taken rfl ht
  have hbytes : (arrive f s).zoneBytes zone.toNat = s.zoneBytes zone.toNat := by
    simp only [State.zoneBytes, State.entryCount, arrive_zone, arrive_zne]
  rw [hexec, doZread, if_neg (not_lt.mpr hzone), deliver_replyWith, hbytes]
  rfl

theorem readUnit (unit : Byte) (ht : Takes f kUread s) (hunit : unit.toNat ≤ 15) :
    exec (.uread f unit) s = .next (pushAnswer 0x83 f.tag (resultByte .ok :: s.unitBytes unit.toNat) (arrive f s)) := by
  have hexec : exec (.uread f unit) s = .next (deliver kUread f.tag (doUread unit (arrive f s))) := exec_taken rfl ht
  have hbytes : (arrive f s).unitBytes unit.toNat = s.unitBytes unit.toNat := by
    simp only [State.unitBytes, State.unitOnBus, arrive_unit, arrive_rdc, arrive_effectivePolicy]
  rw [hexec, doUread, if_neg (not_lt.mpr hunit), deliver_replyWith, hbytes]
  rfl

/-- Settles O51. -/
theorem readBlocks : Obligations.ReadBlocks := by
  intro f s opt bit code signed
  refine ⟨fun link clear ht => ⟨fun hbad => ?_, fun i hi => ?_⟩, fun route ht => ⟨fun hbad => ?_, fun hroute => ?_⟩,
    fun ht => ?_, fun zone ht => ⟨fun hbad => ?_, fun hzone => ?_⟩, fun unit ht => ⟨fun hbad => ?_, fun hunit => ?_⟩⟩
  · have hexec : exec (.lread f link clear) s = .next (deliver kLread f.tag (doLread link clear (arrive f s))) :=
      exec_taken rfl ht
    rw [hexec, doLread, linkOf_eq_none.mpr hbad] <;> rfl
  · intro l c mon
    rw [readLink link clear i ht hi]
    simp only [linkBytes, linkConfigBytes, monitorBytes_eq, drillBytes_eq, measurementBytes_eq, num_eq, snum_eq, optNum_eq,
      resultByte_ok, List.append_assoc, List.cons_append, List.nil_append, mon, signed, opt, l, c, bit] <;> rfl
  · have hexec : exec (.rread f route) s = .next (deliver kRread f.tag (doRread route (arrive f s))) := exec_taken rfl ht
    rw [hexec, doRread, if_pos hbad] <;> rfl
  · intro r link path
    rw [readRoute route ht hroute]
    simp only [routeBytes, pathBytes, prefsBytes, optLink_eq, optByte_eq, num_eq, resultByte_ok, List.append_assoc,
      pathTimers_eq, List.cons_append, List.nil_append, path, link, code, r] <;> rfl
  · intro n p
    rw [readNav ht]
    simp only [navBytes, navEnabled_eq, fixBytes_eq, num_eq, flag_eq, optNum_eq, optByte_eq, resultByte_ok,
      List.append_assoc, List.cons_append, List.nil_append, bit, code, opt, signed, n, p] <;> rfl
  · have hexec : exec (.zread f zone) s = .next (deliver kZread f.tag (doZread zone (arrive f s))) := exec_taken rfl ht
    rw [hexec, doZread, if_pos hbad] <;> rfl
  · intro i z geometry
    rw [readZone zone ht hzone]
    simp only [State.zoneBytes, State.entryCount, geometryBytes_eq, permitByte_eq, num_eq, flag_eq, resultByte_ok,
      List.append_assoc, List.cons_append, List.nil_append, bit, signed, geometry, i, z] <;> rfl
  · have hexec : exec (.uread f unit) s = .next (deliver kUread f.tag (doUread unit (arrive f s))) := exec_taken rfl ht
    rw [hexec, doUread, if_pos hbad] <;> rfl
  · intro u
    rw [readUnit unit ht hunit]
    simp only [State.unitBytes, unitOnBus_eq, statusBytes_eq, num_eq, flag_eq, optNum_eq, optByte_eq, resultByte_ok,
      List.append_assoc, List.cons_append, List.nil_append, bit, code, opt, u] <;> rfl

end Sys2Proof.Machine
end

section
/-! PROOFS. The visitor side does not look at the notice queue: two states that differ in their notices alone are taken
by each operation to two such states. -/

namespace Sys2Proof.Machine

/-- A state with other notices. -/
def heard (n : List Notice) (o : Bool) (s : State) : State := s.withRqp { s.rqp with notices := n, overflow := o }

/-- Two states that differ in their notices alone. -/
def UpToNotices (s t : State) : Prop := ∃ n o, t = heard n o s

variable {s t u : State} {n : List Notice} {o : Bool}

theorem UpToNotices.refl (s : State) : UpToNotices s s := ⟨s.rqp.notices, s.rqp.overflow, rfl⟩

theorem UpToNotices.trans (h : UpToNotices s t) (h' : UpToNotices t u) : UpToNotices s u := by
  obtain ⟨n, o, rfl⟩ := h
  obtain ⟨n', o', rfl⟩ := h'
  exact ⟨n', o', rfl⟩

theorem UpToNotices.symm (h : UpToNotices s t) : UpToNotices t s := by
  obtain ⟨n, o, rfl⟩ := h
  exact ⟨s.rqp.notices, s.rqp.overflow, rfl⟩

theorem UpToNotices.vrg (h : UpToNotices s t) : t.vrg = s.vrg := by
  obtain ⟨n, o, rfl⟩ := h
  rfl

theorem UpToNotices.chu (h : UpToNotices s t) : t.chu = s.chu := by
  obtain ⟨n, o, rfl⟩ := h
  rfl

theorem UpToNotices.qxu (h : UpToNotices s t) : t.qxu = s.qxu := by
  obtain ⟨n, o, rfl⟩ := h
  rfl

/-! ### What is read beside the notices -/

@[simp] theorem heard_slot (i : Nat) : (heard n o s).slot i = s.slot i := rfl
@[simp] theorem heard_visitor (i : Nat) : (heard n o s).visitor i = s.visitor i := rfl
@[simp] theorem heard_quota (i : Nat) : (heard n o s).quota i = s.quota i := rfl
@[simp] theorem heard_entry (i : Nat) : (heard n o s).entry i = s.entry i := rfl
@[simp] theorem heard_account (i : Nat) : (heard n o s).account i = s.account i := rfl
@[simp] theorem heard_partner (i : Nat) : (heard n o s).partner i = s.partner i := rfl
@[simp] theorem heard_qxu : (heard n o s).qxu = s.qxu := rfl
@[simp] theorem heard_exchangeOf (i : Nat) : (heard n o s).exchangeOf i = s.exchangeOf i := rfl
@[simp] theorem heard_owesReport (i : Nat) : (heard n o s).owesReport i = s.owesReport i := rfl

/-! ### The operations of the state -/

theorem upTo_giveNotice (k : NoticeKind) (x : Subject) (d v1 v2 v3 v4 v5 : Byte) (h : UpToNotices s t) :
    UpToNotices (giveNotice k x d v1 v2 v3 v4 v5 s) (giveNotice k x d v1 v2 v3 v4 v5 t) := by
  have hself (u : State) : UpToNotices u (giveNotice k x d v1 v2 v3 v4 v5 u) := by
    unfold giveNotice
    split
    · exact ⟨_, u.rqp.overflow, rfl⟩
    · exact ⟨u.rqp.notices, true, rfl⟩
  exact (hself s).symm.trans (h.trans (hself t))

theorem upTo_updVisitor (i : Nat) (g : Visitor → Visitor) (h : UpToNotices s t) :
    UpToNotices (s.updVisitor i g) (t.updVisitor i g) := by
  obtain ⟨n, o, rfl⟩ := h
  rw [State.updVisitor, State.updVisitor, heard_slot]
  cases (s.slot i).visitor <;> exact ⟨n, o, rfl⟩

theorem upTo_updQuota (i : Nat) (g : Quota → Quota) (h : UpToNotices s t) : UpToNotices (s.updQuota i g) (t.updQuota i g) :=
  upTo_updVisitor i _ h

theorem upTo_setAccount (i : Nat) (a : Option Account) (h : UpToNotices s t) :
    UpToNotices (s.setAccount i a) (t.setAccount i a) := by
  obtain ⟨n, o, rfl⟩ := h
  exact ⟨n, o, rfl⟩

theorem upTo_updAccount (i : Nat) (g : Account → Account) (h : UpToNotices s t) :
    UpToNotices (s.updAccount i g) (t.updAccount i g) := by
  obtain ⟨n, o, rfl⟩ := h
  rw [State.updAccount, State.updAccount, heard_account]
  cases s.account i <;> exact ⟨n, o, rfl⟩

theorem upTo_updVisitors (p : Option Nat) (g : Nat → Nat) (h : UpToNotices s t) :
    UpToNotices (s.updVisitors p g) (t.updVisitors p g) := by
  obtain ⟨n, o, rfl⟩ := h
  cases p with
  | none => exact ⟨n, o, rfl⟩
  | some p =>
    simp only [State.updVisitors, heard_partner]
    cases s.partner p <;> exact ⟨n, o, rfl⟩

theorem upTo_commitAccount (i : Nat) (a : Account) (hit : Bool) (h : UpToNotices s t) :
    UpToNotices (commitAccount i a hit s) (commitAccount i a hit t) := by
  unfold commitAccount
  split
  · exact upTo_giveNotice _ _ _ _ _ _ _ _ (upTo_setAccount _ _ h)
  · exact upTo_setAccount _ _ h

theorem upTo_closeOut (i : Nat) (p : Option Partner) (h : UpToNotices s t) :
    UpToNotices (closeOut i p s).1 (closeOut i p t).1 := by
  have h' := h
  obtain ⟨n, o, rfl⟩ := h
  have hrates : (p.map fun r => qget ((heard n o s).plan r.plan).rates (heard n o s).tariffInForce) =
      p.map fun r => qget (s.plan r.plan).rates s.tariffInForce := rfl
  simp only [closeOut, heard_account, hrates]
  cases s.account i with
  | none => exact h'
  | some a => exact upTo_commitAccount _ _ _ h'

/-! ### Exchanges -/

theorem upTo_exchangeNotice (i : Nat) (h : UpToNotices s t) : UpToNotices (exchangeNotice i s) (exchangeNotice i t) := by
  have h' := h
  obtain ⟨n, o, rfl⟩ := h
  simp only [exchangeNotice, heard_entry]
  cases (s.entry i).ex with
  | none => exact h'
  | some x => exact upTo_giveNotice _ _ _ _ _ _ _ _ h'

theorem upTo_noticeToSend (i : Nat) (h : UpToNotices s t) : UpToNotices (noticeToSend i s) (noticeToSend i t) := by
  have h' := h
  obtain ⟨n, o, rfl⟩ := h
  by_cases hel : s.anyControlEligible = true
  · have hel' : (heard n o s).anyControlEligible = true := hel
    rw [noticeToSend, noticeToSend, if_pos hel, if_pos hel']
    exact upTo_exchangeNotice i h'
  · have hel' : ¬ (heard n o s).anyControlEligible = true := hel
    rw [noticeToSend, noticeToSend, if_neg hel, if_neg hel']
    exact ⟨n, o, rfl⟩

theorem upTo_createExchange (i slot : Nat) (k : XKind) (h : UpToNotices s t) :
    UpToNotices (createExchange i slot k s) (createExchange i slot k t) := by
  obtain ⟨n, o, rfl⟩ := h
  exact upTo_noticeToSend i (upTo_updVisitor _ _ ⟨n, o, rfl⟩)

theorem upTo_requestExchange (slot : Nat) (k : XKind) (h : UpToNotices s t) :
    UpToNotices (requestExchange slot k s) (requestExchange slot k t) := by
  have h' := h
  obtain ⟨n, o, rfl⟩ := h
  simp only [requestExchange, heard_qxu]
  cases firstIndex xentryReset (fun e => e.ex.isNone) s.qxu.entries Config.exchanges 0 with
  | some i => exact upTo_createExchange i slot k h'
  | none => exact upTo_updVisitor _ _ ⟨n, o, rfl⟩

theorem upTo_serveDeferred (i : Nat) (h : UpToNotices s t) : UpToNotices (serveDeferred i s) (serveDeferred i t) := by
  have h' := h
  obtain ⟨n, o, rfl⟩ := h
  simp only [serveDeferred, heard_qxu]
  cases s.qxu.deferred with
  | nil => exact h'
  | cons w rest => exact upTo_createExchange _ _ _ ⟨n, o, rfl⟩

theorem upTo_freeEntry (i : Nat) (h : UpToNotices s t) : UpToNotices (freeEntry i s) (freeEntry i t) := by
  have h' := h
  obtain ⟨n, o, rfl⟩ := h
  simp only [freeEntry, heard_entry]
  cases (s.entry i).ex with
  | none => exact h'
  | some x => exact upTo_serveDeferred i (upTo_updVisitor _ _ ⟨n, o, rfl⟩)

theorem upTo_leaveDeferred (slot : Nat) (h : UpToNotices s t) : UpToNotices (leaveDeferred slot s) (leaveDeferred slot t) := by
  obtain ⟨n, o, rfl⟩ := h
  exact upTo_updVisitor _ _ ⟨n, o, rfl⟩

/-! ### The gate -/

theorem upTo_shutGate (slot : Nat) (c : Byte) (h : UpToNotices s t) : UpToNotices (shutGate slot c s) (shutGate slot c t) := by
  have h' := h
  obtain ⟨n, o, rfl⟩ := h
  simp only [shutGate, heard_quota]
  cases s.quota slot with
  | none => exact h'
  | some q =>
    simp only
    split
    · exact upTo_updQuota _ _ h'
    · exact upTo_giveNotice _ _ _ _ _ _ _ _ (upTo_updQuota _ _ h')

theorem upTo_gateEvaluation (slot : Nat) (h : UpToNotices s t) :
    UpToNotices (gateEvaluation slot s) (gateEvaluation slot t) := by
  have h' := h
  obtain ⟨n, o, rfl⟩ := h
  simp only [gateEvaluation, heard_visitor]
  cases s.visitor slot with
  | none => exact h'
  | some v =>
    simp only
    cases v.quota with
    | none => exact h'
    | some q =>
      simp only
      repeat' split
      · exact h'
      · exact upTo_updQuota _ _ h'
      · exact upTo_updQuota _ _ h'
      · exact upTo_updQuota _ _ h'
      · exact upTo_updQuota _ _ (upTo_requestExchange _ _ h')
      · exact upTo_shutGate _ _ h'

theorem upTo_becameActive (slot : Nat) (h : UpToNotices s t) : UpToNotices (becameActive slot s) (becameActive slot t) := by
  have h' := h
  obtain ⟨n, o, rfl⟩ := h
  simp only [becameActive, heard_visitor]
  cases s.visitor slot with
  | none => exact h'
  | some v =>
    simp only
    cases v.quota with
    | none => exact h'
    | some q =>
      refine upTo_gateEvaluation slot ?_
      by_cases hasks : (!hasExchange v) = true ∧ (!q.final) = true ∧ q.retry = none ∧
          (q.lastGrant = 0 ∨ q.remaining ≤ s.reorderLevel v q)
      · have hasks' : (!hasExchange v) = true ∧ (!q.final) = true ∧ q.retry = none ∧
            (q.lastGrant = 0 ∨ q.remaining ≤ (heard n o s).reorderLevel v q) := hasks
        rw [if_pos hasks, if_pos hasks']
        exact upTo_requestExchange _ _ h'
      · have hasks' : ¬ ((!hasExchange v) = true ∧ (!q.final) = true ∧ q.retry = none ∧
            (q.lastGrant = 0 ∨ q.remaining ≤ (heard n o s).reorderLevel v q)) := hasks
        rw [if_neg hasks, if_neg hasks']
        exact h'

/-! ### Retirement -/

theorem upTo_becomeFree (slot : Nat) (h : UpToNotices s t) : UpToNotices (becomeFree slot s) (becomeFree slot t) := by
  have h' := h
  obtain ⟨n, o, rfl⟩ := h
  simp only [becomeFree, heard_visitor]
  cases s.visitor slot with
  | none => exact h'
  | some v => exact upTo_updVisitors _ _ ⟨n, o, rfl⟩

theorem upTo_cancelled (i : Nat) (why : RetireReason) (h : UpToNotices s t) :
    UpToNotices (cancelled i why s) (cancelled i why t) := by
  obtain ⟨n, o, rfl⟩ := h
  have h' : UpToNotices (s.setSlot i { s.slot i with reason := some why })
      ((heard n o s).setSlot i { (heard n o s).slot i with reason := some why }) := ⟨n, o, rfl⟩
  have hex : ((heard n o s).setSlot i { (heard n o s).slot i with reason := some why }).exchangeOf i =
      (s.setSlot i { s.slot i with reason := some why }).exchangeOf i := rfl
  simp only [cancelled, hex]
  split
  · exact upTo_freeEntry _ h'
  · exact h'

theorem upTo_withdraw (i : Nat) (h : UpToNotices s t) : UpToNotices (withdraw i s) (withdraw i t) := by
  have hleft := upTo_leaveDeferred i h
  generalize hs : leaveDeferred i s = s', ht : leaveDeferred i t = t' at hleft
  simp only [withdraw, hs, ht]
  obtain ⟨n, o, rfl⟩ := hleft
  exact upTo_updQuota _ _ (upTo_updVisitor _ _ ⟨n, o, rfl⟩)

theorem upTo_closeAccount (i : Nat) (h : UpToNotices s t) : UpToNotices (closeAccount i s) (closeAccount i t) := by
  have h' := h
  obtain ⟨n, o, rfl⟩ := h
  have hpartner (v : Visitor) : v.partner.bind (heard n o s).partner = v.partner.bind s.partner := rfl
  simp only [closeAccount, heard_visitor, heard_slot, hpartner]
  split
  · split
    · exact h'
    · exact upTo_updAccount _ _ (upTo_closeOut _ _ h')
  · exact h'

theorem upTo_retireSteps (i : Nat) (why : RetireReason) (h : UpToNotices s t) :
    UpToNotices (retireSteps i why s) (retireSteps i why t) := by
  rw [retireSteps_eq, retireSteps_eq]
  exact upTo_closeAccount i (upTo_withdraw i (upTo_cancelled i why h))

theorem upTo_departOrFree (i : Nat) (h : UpToNotices s t) : UpToNotices (departOrFree i s) (departOrFree i t) := by
  have hdepart := upTo_updVisitor i (fun v => { v with state := .departing }) h
  have hex : (t.updVisitor i fun v => { v with state := .departing }).exchangeOf i =
      (s.updVisitor i fun v => { v with state := .departing }).exchangeOf i := by
    obtain ⟨n, o, hd⟩ := hdepart
    rw [hd]
    rfl
  have h' := h
  obtain ⟨n, o, rfl⟩ := h
  simp only [departOrFree, heard_owesReport, heard_exchangeOf, hex]
  split
  · split
    · exact hdepart
    · exact upTo_requestExchange _ _ hdepart
  · split
    · exact upTo_freeEntry _ (upTo_becomeFree i h')
    · exact upTo_becomeFree i h'

theorem upTo_stateByte (i : Nat) (h : UpToNotices s t) : t.slotStateByte i = s.slotStateByte i := by
  obtain ⟨n, o, rfl⟩ := h
  rfl

theorem upTo_retire (i : Nat) (why : RetireReason) (h : UpToNotices s t) : UpToNotices (retire i why s) (retire i why t) := by
  have hdone := upTo_departOrFree i (upTo_retireSteps i why h)
  simp only [retire, upTo_stateByte i hdone]
  split
  · exact upTo_giveNotice _ _ _ _ _ _ _ _ hdone
  · exact hdone

/-! ### The failure of exchanges -/

theorem upTo_activate (slot : Nat) (h : UpToNotices s t) : UpToNotices (activate slot s) (activate slot t) := by
  have h' := h
  obtain ⟨n, o, rfl⟩ := h
  exact upTo_updVisitor _ _ h'

theorem upTo_suspend (slot : Nat) (h : UpToNotices s t) : UpToNotices (suspend slot s) (suspend slot t) := by
  have h' := h
  obtain ⟨n, o, rfl⟩ := h
  exact upTo_updVisitor _ _ h'

theorem upTo_authorizationAdmit (slot : Nat) (b : Byte) (h : UpToNotices s t) :
    UpToNotices (authorizationAdmit slot b s) (authorizationAdmit slot b t) := by
  have h' := h
  obtain ⟨n, o, rfl⟩ := h
  simp only [authorizationAdmit, heard_visitor]
  cases s.visitor slot with
  | none => exact h'
  | some v =>
    have hnotice {x y : State} (hxy : UpToNotices x y) :
        UpToNotices (giveNotice .visitor (.slot slot) 3 b (x.slotStateByte slot) 0 0 0 x)
          (giveNotice .visitor (.slot slot) 3 b (y.slotStateByte slot) 0 0 0 y) := by
      rw [upTo_stateByte slot hxy]
      exact upTo_giveNotice _ _ _ _ _ _ _ _ hxy
    simp only
    by_cases hon : s.unitServing v.unit = true
    · have hon' : (heard n o s).unitServing v.unit = true := hon
      rw [if_pos hon, if_pos hon']
      exact hnotice (upTo_becameActive _ (upTo_activate _ h'))
    · have hon' : ¬ (heard n o s).unitServing v.unit = true := hon
      rw [if_neg hon, if_neg hon']
      exact hnotice (upTo_gateEvaluation _ (upTo_suspend _ h'))

theorem upTo_finalAfterQuota (slot : Nat) (h : UpToNotices s t) :
    UpToNotices (finalAfterQuota slot s) (finalAfterQuota slot t) := by
  have h' := h
  obtain ⟨n, o, rfl⟩ := h
  have hleft : (((heard n o s).slot slot).account.bind (heard n o s).account).map (·.unreported) =
      ((s.slot slot).account.bind s.account).map (·.unreported) := rfl
  simp only [finalAfterQuota, hleft]
  split
  · exact upTo_becomeFree _ h'
  · exact upTo_becomeFree _ h'
  · exact upTo_requestExchange _ _ h'

theorem upTo_refuseQuota (slot : Nat) (c : Byte) (h : UpToNotices s t) :
    UpToNotices (refuseQuota slot c s) (refuseQuota slot c t) := by
  have h' := h
  obtain ⟨n, o, rfl⟩ := h
  exact upTo_shutGate _ _ (upTo_updQuota _ _ h')

theorem upTo_applySecondFailure (x : Exchange) (h : UpToNotices s t) :
    UpToNotices (applySecondFailure x s) (applySecondFailure x t) := by
  have h' := h
  obtain ⟨n, o, rfl⟩ := h
  have hpolicy : (((heard n o s).visitor x.slot).bind (·.partner)).bind (heard n o s).partner =
      ((s.visitor x.slot).bind (·.partner)).bind s.partner := rfl
  simp only [applySecondFailure, hpolicy]
  cases x.kind with
  | authorize =>
    simp only
    split
    · exact upTo_authorizationAdmit _ _ h'
    · exact upTo_retire _ _ h'
    · exact upTo_retire _ _ h'
  | quota =>
    simp only
    by_cases hd : s.departing x.slot = true
    · have hd' : (heard n o s).departing x.slot = true := hd
      rw [if_pos hd, if_pos hd']
      exact upTo_finalAfterQuota _ h'
    · have hd' : ¬ (heard n o s).departing x.slot = true := hd
      rw [if_neg hd, if_neg hd']
      exact upTo_refuseQuota _ _ h'
  | final => exact upTo_becomeFree _ (upTo_updAccount _ _ h')

theorem upTo_requeue (i : Nat) (x : Exchange) (h : UpToNotices s t) : UpToNotices (requeue i x s) (requeue i x t) := by
  obtain ⟨n, o, rfl⟩ := h
  exact upTo_noticeToSend i (upTo_updVisitor _ _ ⟨n, o, rfl⟩)

theorem upTo_failExchange (i : Nat) (h : UpToNotices s t) : UpToNotices (failExchange i s) (failExchange i t) := by
  have h' := h
  obtain ⟨n, o, rfl⟩ := h
  simp only [failExchange, heard_entry]
  cases (s.entry i).ex with
  | none => exact h'
  | some x =>
    simp only
    split
    · exact upTo_applySecondFailure x (upTo_freeEntry i h')
    · exact upTo_requeue i x h'

theorem upTo_foldl {α : Type} {g : State → α → State} (hg : ∀ {s t} x, UpToNotices s t → UpToNotices (g s x) (g t x))
    (xs : List α) (h : UpToNotices s t) : UpToNotices (xs.foldl g s) (xs.foldl g t) := by
  induction xs generalizing s t with
  | nil => exact h
  | cons x xs ih => exact ih (hg x h)

/-- Links leave eligibility alike whatever notices wait. -/
theorem upTo_linksLeave (lost : Link → Bool) (h : UpToNotices s t) : UpToNotices (linksLeave lost s) (linksLeave lost t) := by
  have horder : t.qxu.order = s.qxu.order := by rw [h.qxu]
  rw [linksLeave, linksLeave, horder]
  refine upTo_foldl (fun {s t} i h => ?_) _ h
  have h' := h
  obtain ⟨n, o, rfl⟩ := h
  simp only [heard_entry]
  split
  · split
    · split
      · exact upTo_failExchange i h'
      · exact h'
    · exact h'
  · exact h'

theorem linksLeave_giveNotice (lost : Link → Bool) (k : NoticeKind) (x : Subject) (d v1 v2 v3 v4 v5 : Byte) (s : State) :
    UpToNotices (linksLeave lost s) (linksLeave lost (giveNotice k x d v1 v2 v3 v4 v5 s)) := by
  refine upTo_linksLeave lost ?_
  unfold giveNotice
  split
  · exact ⟨_, s.rqp.overflow, rfl⟩
  · exact ⟨s.rqp.notices, true, rfl⟩

end Sys2Proof.Machine
end

section
/-! PROOFS. A link's change of state, with all that follows it (R103), as one fact (chapter 5). -/

namespace Sys2Proof.Machine

variable {s t u : State} {i : Link} {l x new : LinkRec} {cause : LinkCause} {b : Byte} {old st : LinkState}

/-! ### The record that a change leaves -/

/-- The record a change of state leaves: without its drill on the way to HELD or OFF (R118). -/
def landed (l : LinkRec) : LinkRec := if isHeld l.state ∨ l.state = .off then dropDrill l else l

theorem dropDrill_eq (l : LinkRec) :
    dropDrill l = { l with drill := (dropDrill l).drill, monitors := (dropDrill l).monitors } := by
  unfold dropDrill
  split <;> rfl

@[simp] theorem dropDrill_state (l : LinkRec) : (dropDrill l).state = l.state := by rw [dropDrill_eq]

@[simp] theorem dropDrill_cfg (l : LinkRec) : (dropDrill l).cfg = l.cfg := by rw [dropDrill_eq]

@[simp] theorem landed_state (l : LinkRec) : (landed l).state = l.state := by
  unfold landed
  split
  · exact dropDrill_state l
  · rfl

theorem isHeld_iff : isHeld st = true ↔ ∃ c, st = .held c := by
  cases st <;> simp [isHeld]

theorem isHeld_eq_false_iff : isHeld st = false ↔ ∀ c, st ≠ .held c := by
  cases st <;> simp [isHeld]

theorem usable_iff : usable st = true ↔ st = .up ∨ st = .degraded := by
  cases st <;> simp [usable]

theorem inUse_iff : inUse st = true ↔ st = .probing ∨ st = .up ∨ st = .degraded := by
  cases st <;> simp [inUse]

theorem landed_of_dropped (h : isHeld l.state = true ∨ l.state = .off) : landed l = dropDrill l := if_pos h

theorem landed_of_kept (hh : isHeld l.state = false) (ho : l.state ≠ .off) : landed l = l :=
  if_neg (by simp [hh, ho])

/-! ### What the shore exchanges are told -/

/-- A link enters HELD or OFF from another state. -/
def Leaves (old new : LinkState) : Prop := (new = .off ∧ old ≠ .off) ∨ ((∃ c, new = .held c) ∧ ∀ c, old ≠ .held c)

/-- A link enters UP or DEGRADED from another state. -/
def Enters (old new : LinkState) : Prop := (new = .up ∨ new = .degraded) ∧ ¬ (old = .up ∨ old = .degraded)

/-- What the shore exchange unit does when a link's state has changed (R79, R89). -/
def shoreTold (i : Link) (old new : LinkState) (s : State) : State :=
  if (isHeld new && !isHeld old) || (new == .off && old != .off) then linksLeave (· == i) s
  else if usable new && !usable old && s.controlEligible i then giveOwed s
  else s

theorem shoreTold_left (h : Leaves old st) : shoreTold i old st s = linksLeave (· == i) s := by
  refine if_pos ?_
  rcases h with ⟨hnew, hold⟩ | ⟨hnew, hold⟩
  · simp [hnew, hold]
  · simp [isHeld_iff.mpr hnew, isHeld_eq_false_iff.mpr hold]

theorem shoreTold_not_left (h : ¬ Leaves old st) :
    shoreTold i old st s = if usable st && !usable old && s.controlEligible i then giveOwed s else s := by
  refine if_neg ?_
  simp only [Leaves, not_or, not_and_or, ← isHeld_iff, ← isHeld_eq_false_iff] at h
  obtain ⟨hoff, hheld⟩ := h
  simp only [Bool.or_eq_true, Bool.and_eq_true, beq_iff_eq, bne_iff_ne, Bool.not_eq_true', not_or, not_and_or]
  exact ⟨hheld, hoff⟩

theorem changeLink_eq : changeLink i new cause s =
    reselectAll .link (shoreTold i (s.link i).state new.state
      (linkNotice i (s.link i).state new.state cause (s.setLink i (landed new)))) := rfl

theorem shoreTold_frame : (shoreTold i old st s).lmn = s.lmn ∧ (shoreTold i old st s).rte = s.rte := by
  unfold shoreTold
  split
  · simp
  · split <;> simp

theorem told_shoreTold {q : Rqp} (h : Told q s) : Told q (shoreTold i old st s) := by
  unfold shoreTold
  split
  · exact told_linksLeave _ h
  · split
    · exact told_giveOwed h
    · exact h

/-! ### A change of state -/

theorem qset_qset {α : Type} (q : Quad α) (i : Fin 4) (v w : α) : qset (qset q i v) i w = qset q i w := by
  fin_cases i <;> rfl

theorem setLink_setLink : (s.setLink i x).setLink i l = s.setLink i l := by
  simp only [State.setLink, State.withLmn, qset_qset]

theorem setLink_self : s.setLink i (s.link i) = s := by
  simp only [State.setLink, State.link, qset_qget_self]
  rfl

/-- The notices behind the LINK notice follow it. -/
theorem linkNotice_first {q : State} (hq : q.rqp = s.rqp) (h : Told (linkNotice i old st cause q).rqp t) :
    s.rqp.notices.length < 128 → ∃ more, t.rqp.notices = s.rqp.notices ++
      ⟨.link, .link i, 1, linkStateByte old, linkStateByte st, holdCauseByte st, linkCauseByte cause, 0,
        s.rqp.shipTime⟩ :: more := by
  intro hroom
  obtain ⟨-, more, hmore⟩ := h
  have hgiven := gives_giveNotice_of_rqp (z := q) hq .link (.link i) 1 (linkStateByte old) (linkStateByte st)
    (holdCauseByte st) (linkCauseByte cause) 0
  refine ⟨more, ?_⟩
  have hnotices := (hgiven (by simpa using hroom)).1
  rw [hmore, linkNotice, hnotices, List.append_assoc]
  rfl

theorem not_leaves_of_usable (h : st = .up ∨ st = .degraded) : ¬ Leaves old st := by
  rintro (⟨hoff, -⟩ | ⟨⟨c, hheld⟩, -⟩)
  · simp [hoff] at h
  · simp [hheld] at h

/-- Whether a link is eligible for exchanges, once it holds its new record (R79). -/
theorem controlEligible_noticed : (linkNotice i old st cause (s.setLink i l)).controlEligible i = true ↔
    i ∈ s.settings.control ∧ (l.state = .up ∨ l.state = .degraded) ∧ s.permitInForce.getLsbD i.val = true := by
  have hlink : (linkNotice i old st cause (s.setLink i l)).link i = l := by
    rw [State.link, linkNotice_lmn, ← State.link, State.setLink_link_self]
  have hpermit : (linkNotice i old st cause (s.setLink i l)).permitInForce = s.permitInForce := by
    rw [State.permitInForce, State.zoneInForce, State.zone, linkNotice_zne]
    rfl
  have hcontrol : (linkNotice i old st cause (s.setLink i l)).settings.control = s.settings.control := by
    rw [State.settings, linkNotice_rqp_settings]
    rfl
  simp only [State.controlEligible, State.eligible, hlink, hpermit, hcontrol, inSet, Bool.and_eq_true, usable_iff,
    List.contains_iff_mem]

/-- A change of a link's state (R103), where only that link's record was touched before. -/
theorem changeLink_moved_on (hx : x.state = (s.link i).state) (hl : landed new = l) :
    LinkMoved s (changeLink i new cause (s.setLink i x)) i l (linkCauseByte cause) := by
  subst hl
  have hchange : changeLink i new cause (s.setLink i x) = reselectAll .link (shoreTold i (s.link i).state new.state
      (linkNotice i (s.link i).state new.state cause (s.setLink i (landed new)))) := by
    rw [changeLink_eq, State.setLink_link_self, hx, setLink_setLink]
  have hinner : Told (linkNotice i (s.link i).state new.state cause (s.setLink i (landed new))).rqp
      (changeLink i new cause (s.setLink i x)) := by
    rw [hchange]
    exact told_reselectAll _ (told_shoreTold (told_self _))
  have htold : Told s.rqp (changeLink i new cause (s.setLink i x)) := told_changeLink _ _ _ (told_setLink _ _ (told_self s))
  obtain ⟨hlmn, hrte⟩ := shoreTold_frame (i := i) (old := (s.link i).state) (st := new.state)
    (s := linkNotice i (s.link i).state new.state cause (s.setLink i (landed new)))
  unfold LinkMoved
  intro old inUse left entered told
  have hstate : (landed new).state = new.state := landed_state new
  have htoldEq : told = linkNotice i (s.link i).state new.state cause (s.setLink i (landed new)) := by
    simp only [told, old, hstate]
    rfl
  have hleft : left ↔ Leaves old new.state := by
    simp only [left, hstate]
    exact Iff.rfl
  have hentered : entered ↔ (usable new.state && !usable old && (linkNotice i (s.link i).state new.state cause
      (s.setLink i (landed new))).controlEligible i) = true := by
    simp only [entered, inUse, hstate, Bool.and_eq_true, Bool.not_eq_true', ← Bool.not_eq_true, usable_iff,
      controlEligible_noticed]
    exact ⟨fun ⟨hnew, hold, hlist, hpermit⟩ => ⟨⟨hnew, hold⟩, hlist, hnew, hpermit⟩,
      fun ⟨⟨hnew, hold⟩, hlist, _, hpermit⟩ => ⟨hnew, hold, hlist, hpermit⟩⟩
  refine ⟨?_, ?_, htold.portKept, ?_, ?_, ?_, ?_, ?_, fun h => ?_, fun h => ?_, fun h h' => ?_⟩
  · rw [hchange, reselectAll_lmn, hlmn, linkNotice_lmn]
    rfl
  · rw [hstate]
    exact linkNotice_first (q := s.setLink i (landed new)) rfl hinner
  · rw [hchange]
    refine (routesKept_of_rte ?_).trans (routesKept_reselectAll _ _)
    rw [hrte, linkNotice_rte]
    rfl
  · rw [changeLink_zne]
    rfl
  · rw [changeLink_rdc]
    rfl
  · rw [changeLink_base]
    rfl
  · rw [changeLink_pending]
    rfl
  · rw [hchange, htoldEq, shoreTold_left (hleft.mp h)]
  · rw [hchange, htoldEq, shoreTold_not_left (not_leaves_of_usable (hstate ▸ h.1)), if_pos (hentered.mp h)]
  · rw [hchange, htoldEq, shoreTold_not_left (mt hleft.mpr h), if_neg (mt hentered.mpr h')]

theorem changeLink_moved (hl : landed new = l) : LinkMoved s (changeLink i new cause s) i l (linkCauseByte cause) := by
  have h := changeLink_moved_on (s := s) (x := s.link i) (cause := cause) rfl hl
  rwa [setLink_self] at h

/-! ### What follows from a change -/

theorem LinkMoved.link (h : LinkMoved s t i l b) : t.link i = l := by
  rw [State.link, h.1, qget_qset_self]

theorem LinkMoved.link_other (h : LinkMoved s t i l b) {j : Link} (hj : j ≠ i) : t.link j = s.link j := by
  rw [State.link, h.1]
  exact qget_qset_other _ _ hj.symm

theorem LinkMoved.portKept (h : LinkMoved s t i l b) : PortKept s t := h.2.2.1

theorem LinkMoved.routesKept (h : LinkMoved s t i l b) : RoutesKept s t := h.2.2.2.1

/-- A link that left eligibility fails the SENT exchanges on it and does nothing else to the visitor side (R89). -/
theorem LinkMoved.left (h : LinkMoved s t i l b) (hleft : Leaves (s.link i).state l.state) : LinkLeft s t i l := by
  obtain ⟨-, -, -, -, -, -, -, -, hl, -, -⟩ := h
  have ht := hl hleft
  obtain ⟨hvrg, hchu, hqxu, -⟩ := outsideRoutes_reselectAll .link (linksLeave (fun k => k == i)
    (giveNotice .link (.link i) 1 (linkStateByte (s.link i).state) (linkStateByte l.state) (holdCauseByte l.state) b 0
      (s.setLink i l)))
  have hup := linksLeave_giveNotice (fun k => k == i) .link (.link i) 1 (linkStateByte (s.link i).state)
    (linkStateByte l.state) (holdCauseByte l.state) b 0 (s.setLink i l)
  exact ⟨by rw [ht, hvrg, hup.vrg], by rw [ht, hchu, hup.chu], by rw [ht, hqxu, hup.qxu]⟩

theorem giveOwed_qxu (s : State) : (giveOwed s).qxu = { s.qxu with owed := false } := by
  unfold giveOwed
  split
  · dsimp only
    split <;> simp
  next h =>
    rw [Bool.not_eq_true] at h
    rw [← h]

/-- A link that did not leave eligibility leaves the visitor side alone, but for an owed EXCHANGE notice (R79). -/
theorem LinkMoved.visitorsKept (h : LinkMoved s t i l b) (hleft : ¬ Leaves (s.link i).state l.state) : VisitorsKept s t := by
  obtain ⟨-, -, -, -, -, -, -, -, -, he, hn⟩ := h
  by_cases hent : (l.state = .up ∨ l.state = .degraded) ∧ ¬ ((s.link i).state = .up ∨ (s.link i).state = .degraded) ∧
      i ∈ s.settings.control ∧ s.permitInForce.getLsbD i.val = true
  · rw [he hent]
    refine ⟨by simp, by simp, ?_⟩
    rw [reselectAll_qxu, giveOwed_qxu]
    simp
  · rw [hn hleft hent]
    refine ⟨by simp, by simp, by simp⟩

/-- A link that neither left eligibility nor came into it leaves the visitor side alone. -/
theorem LinkMoved.quiet (h : LinkMoved s t i l b) (hleft : ¬ Leaves (s.link i).state l.state)
    (hent : ¬ Enters (s.link i).state l.state) : VisitorsKept s t ∧ t.qxu = s.qxu := by
  obtain ⟨-, -, -, -, -, -, -, -, -, -, hn⟩ := h
  have ht := hn hleft fun he => hent ⟨he.1, he.2.1⟩
  have hqxu : t.qxu = s.qxu := by
    rw [ht]
    simp
  refine ⟨⟨?_, ?_, ?_⟩, hqxu⟩
  · rw [ht]
    simp
  · rw [ht]
    simp
  · rw [hqxu]

end Sys2Proof.Machine
end

section
/-! PROOFS. O40 and the holds of O42: LENABLE, LDISABLE, LLOSS, LHOLD and LRELEASE (chapter 5). -/

namespace Sys2Proof.Machine

variable {f : Frame} {s t : State} {i : Link} {l : LinkRec} {cause : LinkCause} {link b : Byte}

/-! ### A cancelled drill (R118) -/

theorem drillCancelled : Claims.DrillCancelled := by
  refine fun l => ⟨fun hnone => ?_, fun d hd => ⟨?_, fun m => ?_⟩⟩
  · simp only [dropDrill, hnone]
  · simp only [dropDrill, hd]
  · simp only [dropDrill, hd, mget_mset, eq_comm (a := m)]
    split
    next h =>
      subst h
      rfl
    next => rfl

/-! ### Taking a link's name -/

theorem exec_link {i : Instr} {k : RequestKind} {body : Byte → State → Reply} (ht : Takes f k s)
    (hexec : Takes f k s → exec i s = .next (deliver k f.tag (body link (arrive f s))))
    (hbody : ∀ s, linkOf link = none → body link s = reply .badArg s) (hlink : 3 < link.toNat) :
    exec i s = .next (pushAnswer k.code f.tag [0x20] (arrive f s)) := by
  rw [hexec ht, hbody _ (linkOf_eq_none.mpr hlink)]
  rfl

theorem linkMoved_arrive (h : LinkMoved (arrive f s) t i l b) (hl : ¬ Leaves (s.link i).state l.state)
    (he : ¬ Enters (s.link i).state l.state) : VisitorsKept s t ∧ t.qxu = s.qxu := by
  rw [← arrive_link f s i] at hl he
  have hq := h.quiet hl he
  rw [VisitorsKept, arrive_vrg, arrive_chu, arrive_qxu] at hq
  exact hq

/-- A change of a link's state only adds notices. -/
theorem linkMoved_noticesKept (h : LinkMoved s t i l b) : NoticesKept s t := by
  obtain ⟨-, -, -, -, -, -, -, -, hl, he, hn⟩ := h
  have htold : Told s.rqp (giveNotice .link (.link i) 1 (linkStateByte (s.link i).state) (linkStateByte l.state)
      (holdCauseByte l.state) b 0 (s.setLink i l)) := told_giveNotice _ _ _ _ _ _ _ _ (told_setLink _ _ (told_self s))
  refine Told.noticesKept ?_
  by_cases hleft : Leaves (s.link i).state l.state
  · rw [hl hleft]
    exact told_reselectAll _ (told_linksLeave _ htold)
  · by_cases hent : (l.state = .up ∨ l.state = .degraded) ∧ ¬ ((s.link i).state = .up ∨ (s.link i).state = .degraded) ∧
        i ∈ s.settings.control ∧ s.permitInForce.getLsbD i.val = true
    · rw [he hent]
      exact told_reselectAll _ (told_giveOwed htold)
    · rw [hn hleft hent]
      exact told_reselectAll _ htold

/-! ### Holds (R110–R112) -/

/-- The record of a link that becomes HELD for FAILURE (R110, R111). -/
def failed (l : LinkRec) : LinkRec :=
  dropDrill { l with state := .held .failure, stale := none, hold := some l.cfg.holdTime }

@[simp] theorem failed_state (l : LinkRec) : (failed l).state = .held .failure := dropDrill_state _

@[simp] theorem failed_cfg (l : LinkRec) : (failed l).cfg = l.cfg := dropDrill_cfg _

/-- The record of a link whose hold ended as it began, its hold time being 0 (R112). -/
def passed (l : LinkRec) : LinkRec :=
  { failed l with state := .probing, good := 0, hold := none, stale := staleLoad l.cfg }

theorem toProbing_failed (l : LinkRec) : toProbing (failed l) = passed l := by
  rw [toProbing, passed, failed_cfg]

theorem endHold_moved : LinkMoved s (endHold i s) i (toProbing (s.link i)) 8 :=
  changeLink_moved (new := toProbing (s.link i)) (cause := .holdExpired) (landed_of_kept rfl nofun)

theorem not_leaves_probing (st : LinkState) : ¬ Leaves st .probing := by
  rintro (⟨h, -⟩ | ⟨⟨c, h⟩, -⟩)
  · exact nomatch h
  · exact nomatch h

theorem not_enters_probing (st : LinkState) : ¬ Enters st .probing := by
  rintro ⟨h | h, -⟩
  · exact nomatch h
  · exact nomatch h

theorem leaves_failed {st : LinkState} (h : st = .probing ∨ st = .up ∨ st = .degraded) (l : LinkRec) :
    Leaves st (failed l).state := by
  refine .inr ⟨⟨.failure, failed_state l⟩, fun c hc => ?_⟩
  simp [hc] at h

/-- A hold time above 0: the link is HELD for FAILURE. -/
theorem holdForFailure_held (hhold : 0 < (s.link i).cfg.holdTime) :
    LinkMoved s (holdForFailure i cause s) i (failed (s.link i)) (linkCauseByte cause) := by
  have hne : ¬ (s.link i).cfg.holdTime = 0 := Nat.pos_iff_ne_zero.mp hhold
  rw [holdForFailure, if_neg hne]
  exact changeLink_moved (landed_of_dropped (.inl rfl))

/-- A hold time of 0: the link is HELD for FAILURE and PROBING at once (log entry 14, DEDUCED). -/
theorem holdForFailure_at_once (hhold : (s.link i).cfg.holdTime = 0) :
    ∃ u, LinkMoved s u i (failed (s.link i)) (linkCauseByte cause) ∧
      LinkMoved u (holdForFailure i cause s) i (passed (s.link i)) 8 := by
  refine ⟨changeLink i { s.link i with state := .held .failure, stale := none, hold := some (s.link i).cfg.holdTime } cause s,
    changeLink_moved (landed_of_dropped (.inl rfl)), ?_⟩
  rw [holdForFailure, if_pos hhold]
  have hmoved := changeLink_moved (s := s) (i := i) (cause := cause)
    (new := { s.link i with state := .held .failure, stale := none, hold := some (s.link i).cfg.holdTime })
    (l := failed (s.link i)) (landed_of_dropped (.inl rfl))
  have hend := endHold_moved (i := i)
    (s := changeLink i { s.link i with state := .held .failure, stale := none, hold := some (s.link i).cfg.holdTime } cause s)
  rwa [hmoved.link, toProbing_failed] at hend

/-- Either way the SENT exchanges on the link fail (R89). -/
theorem holdForFailure_left (hst : (s.link i).state = .probing ∨ (s.link i).state = .up ∨ (s.link i).state = .degraded) :
    LinkLeft s (holdForFailure i cause s) i (failed (s.link i)) := by
  by_cases hhold : (s.link i).cfg.holdTime = 0
  · obtain ⟨u, hheld, hfree⟩ := holdForFailure_at_once (cause := cause) hhold
    obtain ⟨⟨hvrg, hchu, -⟩, hqxu⟩ := hfree.quiet (not_leaves_probing _) (not_enters_probing _)
    obtain ⟨hvrg', hchu', hqxu'⟩ := hheld.left (leaves_failed hst _)
    exact ⟨hvrg.trans hvrg', hchu.trans hchu', hqxu.trans hqxu'⟩
  · exact (holdForFailure_held (Nat.pos_of_ne_zero hhold)).left (leaves_failed hst _)

/-! ### LENABLE and LDISABLE (R104, R105) -/

theorem enableDisable : Claims.EnableDisable := by
  intro f link s
  have henable : Takes f kLenable s → exec (.lenable f link) s =
      .next (deliver kLenable f.tag (doLenable link (arrive f s))) := fun ht => exec_taken rfl ht
  have hdisable : Takes f kLdisable s → exec (.ldisable f link) s =
      .next (deliver kLdisable f.tag (doLdisable link (arrive f s))) := fun ht => exec_taken rfl ht
  refine ⟨fun ht h => exec_link (body := doLenable) ht henable (fun _ hn => by rw [doLenable, hn]) h,
    fun ht h => exec_link (body := doLdisable) ht hdisable (fun _ hn => by rw [doLdisable, hn]) h, fun i hlink => ?_⟩
  have hname := linkOf_of_toNat hlink
  intro l fresh clear
  have hl : (arrive f s).link i = l := arrive_link ..
  refine ⟨fun ht => ⟨fun hoff => ?_, fun hoff => ?_⟩, fun ht => ⟨fun hoff => ?_, fun hoff => ?_⟩⟩
  · have hdone : doLenable link (arrive f s) = reply .state (arrive f s) := by
      simp only [doLenable, hname, hl, if_neg hoff]
    rw [henable ht, hdone]
    rfl
  · have hdone : doLenable link (arrive f s) = reply .ok (changeLink i
        { l with state := .probing, good := 0, monitors := freshMonitors l.monitors, stale := staleLoad l.cfg } .enabled
        (arrive f s)) := by
      simp only [doLenable, hname, hl, if_pos hoff]
    rw [henable ht, hdone]
    have hmoved := changeLink_moved (s := arrive f s) (i := i) (cause := .enabled)
      (new := { l with state := .probing, good := 0, monitors := freshMonitors l.monitors, stale := staleLoad l.cfg })
      (landed_of_kept rfl nofun)
    exact ⟨_, rfl, hmoved, linkMoved_arrive hmoved (not_leaves_probing _) (not_enters_probing _)⟩
  · have hdone : doLdisable link (arrive f s) = reply .ok ((arrive f s).setLink i (clearSeen l)) := by
      simp only [doLdisable, hname, hl, if_pos hoff]
    rw [hdisable ht, hdone]
    rfl
  · have hdone : doLdisable link (arrive f s) = reply .ok (changeLink i (disabledLink l) .disabled (arrive f s)) := by
      simp only [doLdisable, hname, hl, if_neg hoff]
    rw [hdisable ht, hdone]
    have hmoved := changeLink_moved (s := arrive f s) (i := i) (cause := .disabled) (new := disabledLink l)
      (landed_of_dropped (.inr rfl))
    exact ⟨_, rfl, hmoved, hmoved.left (.inl ⟨rfl, hl ▸ hoff⟩)⟩

/-! ### LLOSS (R111, R112) -/

theorem lossOfCarrier : Claims.LossOfCarrier := by
  intro f link s ht
  have hexec : Takes f kLloss s → exec (.lloss f link) s =
      .next (deliver kLloss f.tag (doLloss link (arrive f s))) := fun ht => exec_taken rfl ht
  refine ⟨fun h => exec_link (body := doLloss) ht hexec (fun _ hn => by rw [doLloss, hn]) h, fun i hlink => ?_⟩
  have hname := linkOf_of_toNat hlink
  intro l held
  have hl : (arrive f s).link i = l := arrive_link ..
  rw [hexec ht]
  refine ⟨fun hst => ?_, fun hst => ?_, fun hst => ?_, fun hst => ?_⟩
  · simp only [doLloss, hname, hl, hst]
    rfl
  · simp only [doLloss, hname, hl, hst]
    rfl
  · simp only [doLloss, hname, hl, hst]
    rfl
  · have hdone : doLloss link (arrive f s) = reply .ok (holdForFailure i .loss (arrive f s)) := by
      rcases hst with hst | hst | hst <;> simp only [doLloss, hname, hl, hst]
    have hst' := hst
    rw [← hl] at hst'
    rw [hdone]
    have hleft := holdForFailure_left (cause := .loss) hst'
    rw [hl] at hleft
    refine ⟨_, rfl, hleft, fun hhold => ?_, fun hhold => ?_⟩
    · rw [← hl] at hhold
      have hheld := holdForFailure_held (cause := .loss) hhold
      rwa [hl] at hheld
    · rw [← hl] at hhold
      obtain ⟨u, hheld, hfree⟩ := holdForFailure_at_once (cause := .loss) hhold
      rw [hl] at hheld hfree
      refine ⟨⟨u, hheld, hfree⟩, hfree.link, fun j hj => ?_, ?_, ?_, fun hroom => ?_⟩
      · rw [hfree.link_other hj, hheld.link_other hj, arrive_link]
      · exact (routesKept_of_rte (arrive_rte ..)).trans (hheld.routesKept.trans hfree.routesKept)
      · exact hheld.portKept.trans hfree.portKept
      · obtain ⟨more, hmore⟩ := hheld.2.1 (by simpa using hroom)
        obtain ⟨rest, hrest⟩ := linkMoved_noticesKept hfree
        refine ⟨more ++ rest, ?_⟩
        rw [hrest, hmore]
        simp only [arrive_notices, arrive_shipTime, arrive_link, failed_state, List.append_assoc, List.cons_append]
        rfl

/-! ### LHOLD and LRELEASE (R113, R114) -/

theorem holdRelease : Claims.HoldRelease := by
  intro f link s
  have hhold : Takes f kLhold s → exec (.lhold f link) s =
      .next (deliver kLhold f.tag (doLhold link (arrive f s))) := fun ht => exec_taken rfl ht
  have hrelease : Takes f kLrelease s → exec (.lrelease f link) s =
      .next (deliver kLrelease f.tag (doLrelease link (arrive f s))) := fun ht => exec_taken rfl ht
  refine ⟨fun ht h => exec_link (body := doLhold) ht hhold (fun _ hn => by rw [doLhold, hn]) h,
    fun ht h => exec_link (body := doLrelease) ht hrelease (fun _ hn => by rw [doLrelease, hn]) h, fun i hlink => ?_⟩
  have hname := linkOf_of_toNat hlink
  intro l
  have hl : (arrive f s).link i = l := arrive_link ..
  refine ⟨fun ht => ⟨fun hst => ?_, fun hoff hop => ?_⟩, fun ht c hst => ?_, fun ht hst => ?_⟩
  · have hdone : doLhold link (arrive f s) = reply .state (arrive f s) := by
      rcases hst with hst | hst <;> simp only [doLhold, hname, hl, hst]
    rw [hhold ht, hdone]
    rfl
  · have hdone : doLhold link (arrive f s) = reply .ok (changeLink i
        { l with state := .held .operator, stale := none, hold := none } .operatorHold (arrive f s)) := by
      simp only [doLhold, hname, hl]
      cases hst : l.state with
      | off => exact absurd hst hoff
      | held c =>
        cases c with
        | failure => rfl
        | operator => exact absurd hst hop
      | probing => rfl
      | up => rfl
      | degraded => rfl
    rw [hhold ht, hdone]
    have hmoved := changeLink_moved (s := arrive f s) (i := i) (cause := .operatorHold)
      (new := { l with state := .held .operator, stale := none, hold := none }) (landed_of_dropped (.inl rfl))
    refine ⟨_, rfl, hmoved, fun hfail => ?_, fun hfail => ?_⟩
    · refine linkMoved_arrive hmoved ?_ ?_
      · rw [dropDrill_state]
        rintro (⟨h, -⟩ | ⟨-, h⟩)
        · exact nomatch h
        · exact h _ hfail
      · rw [dropDrill_state]
        rintro ⟨h | h, -⟩
        · exact nomatch h
        · exact nomatch h
    · refine hmoved.left (.inr ⟨⟨.operator, dropDrill_state _⟩, fun c => ?_⟩)
      rw [hl]
      cases c with
      | failure => exact hfail
      | operator => exact hop
  · have hdone : doLrelease link (arrive f s) = reply .ok (changeLink i (toProbing l) .released (arrive f s)) := by
      simp only [doLrelease, hname, hl, hst, isHeld, if_true]
    rw [hrelease ht, hdone]
    have hmoved := changeLink_moved (s := arrive f s) (i := i) (cause := .released) (new := toProbing l)
      (landed_of_kept rfl nofun)
    exact ⟨_, rfl, hmoved, linkMoved_arrive hmoved (not_leaves_probing _) (not_enters_probing _)⟩
  · have hfree : isHeld l.state = false := isHeld_eq_false_iff.mpr hst
    have hdone : doLrelease link (arrive f s) = reply .state (arrive f s) := by
      simp only [doLrelease, hname, hl, hfree]
      rfl
    rw [hrelease ht, hdone]
    rfl

/-- Settles O40. -/
theorem linkCommands : Obligations.LinkCommands := ⟨drillCancelled, enableDisable, lossOfCarrier, holdRelease⟩

end Sys2Proof.Machine
end

section
/-! PROOFS. The timers of a link and its drill (O42, chapter 5). -/

namespace Sys2Proof.Machine

variable {f : Frame} {s t : State} {i : Link} {l : LinkRec} {cause : LinkCause} {link b : Byte} {old st : LinkState}

theorem not_leaves_of_used (h : st = .probing ∨ st = .up ∨ st = .degraded) : ¬ Leaves old st := by
  rintro (⟨hoff, -⟩ | ⟨⟨c, hheld⟩, -⟩)
  · simp [hoff] at h
  · simp [hheld] at h

theorem not_enters_of_used (h : old = .up ∨ old = .degraded) : ¬ Enters old st := fun he => he.2 h

/-! ### The stale timer and the hold timer (R110, R112) -/

theorem linkTimers : Claims.LinkTimers := by
  intro i s l
  refine ⟨fun h => ?_, fun h => ?_, fun h hst => ?_, fun h hst => ?_⟩
  · have hidle : stalePasses i s = s := if_neg (by simp [show (s.link i).stale = none from h])
    exact congrArg Host.Outcome.next hidle
  · have hidle : holdPasses i s = s := if_neg (by simp [show (s.link i).hold = none from h])
    exact congrArg Host.Outcome.next hidle
  · have hpasses : stalePasses i s = holdForFailure i .stale s := by
      refine if_pos ?_
      rw [Bool.and_eq_true, inUse_iff]
      exact ⟨h, hst⟩
    refine ⟨_, congrArg Host.Outcome.next hpasses, holdForFailure_left hst, fun hhold => holdForFailure_held hhold,
      fun hhold => ?_⟩
    obtain ⟨u, hheld, hfree⟩ := holdForFailure_at_once (cause := .stale) hhold
    exact ⟨u, hheld, hfree⟩
  · have hpasses : holdPasses i s = endHold i s := by
      refine if_pos ?_
      rw [Bool.and_eq_true, beq_iff_eq]
      exact ⟨h, hst⟩
    exact ⟨_, congrArg Host.Outcome.next hpasses, endHold_moved,
      endHold_moved.quiet (not_leaves_probing _) (not_enters_probing _)⟩

/-! ### LDRILL (R115, R116) -/

theorem monitorOf_eq_none : monitorOf b = none ↔ 2 < b.toNat := by
  unfold monitorOf
  split
  next h => simp [h]
  next h => simp [h]
  next h => simp [h]
  next h0 h1 h2 =>
    have hne : b.toNat ≠ 0 ∧ b.toNat ≠ 1 ∧ b.toNat ≠ 2 := ⟨h0, h1, h2⟩
    exact ⟨fun _ => by omega, fun _ => rfl⟩

theorem exists_link {p : Link → Prop} : (∃ j, p j) ↔ p 0 ∨ p 1 ∨ p 2 ∨ p 3 := by
  simp [Fin.exists_fin_succ]

theorem spareFor_iff : s.spareFor i = true ↔
    ∃ j, j ≠ i ∧ (s.link j).state = .up ∧ (s.zone s.zne.pos.zone).permit.getLsbD j.val = true := by
  simp only [State.spareFor, allLinks, List.any_cons, List.any_nil, Bool.or_false, Bool.or_eq_true, Bool.and_eq_true,
    bne_iff_ne, beq_iff_eq, exists_link, and_assoc]
  rfl

theorem drilling_iff : s.drilling = true ↔ ∃ j, (s.link j).drill.isSome = true := by
  simp only [State.drilling, allLinks, List.any_cons, List.any_nil, Bool.or_false, Bool.or_eq_true, exists_link]

theorem drillStarts : Claims.DrillStarts := by
  intro f link monitor duration s ht
  have hexec : exec (.ldrill f link monitor duration) s =
      .next (deliver kLdrill f.tag (doLdrill link monitor duration (arrive f s))) := exec_taken rfl ht
  intro refused
  refine ⟨fun hbad => ?_, fun i m hlink hm => ?_⟩
  · have hdone : doLdrill link monitor duration (arrive f s) = reply .badArg (arrive f s) := by
      rw [← linkOf_eq_none, ← monitorOf_eq_none] at hbad
      unfold doLdrill
      split
      next hl hm => simp [hl, hm] at hbad
      next => rfl
    exact hexec.trans (by rw [hdone]; rfl)
  · have hname := linkOf_of_toNat hlink
    intro l spare seconds
    have hl : (arrive f s).link i = l := arrive_link ..
    have hspare : (arrive f s).spareFor i = true ↔ spare := by
      rw [spareFor_iff]
      simp only [arrive_link, arrive_zone, arrive_zne]
      exact Iff.rfl
    have hdrill : (arrive f s).drilling = true ↔ ∃ j, (s.link j).drill.isSome = true := by
      rw [drilling_iff]
      simp only [arrive_link]
    refine ⟨fun hst => ?_, fun hst hno => ?_, fun hst hyes hrun => ?_, fun hst hyes hrun => ?_⟩
    · simp only [refused, hexec, doLdrill, hname, hm, hl, ne_eq, hst, not_false_eq_true, if_true]
      rfl
    · have hno' : (arrive f s).spareFor i = false := by rwa [← hspare, Bool.not_eq_true] at hno
      simp only [refused, hexec, doLdrill, hname, hm, hl, ne_eq, hst, not_true, if_false, hno', Bool.not_false, if_true]
      rfl
    · simp only [refused, hexec, doLdrill, hname, hm, hl, ne_eq, hst, not_true, if_false, hspare.mpr hyes, Bool.not_true,
        Bool.false_eq_true, hdrill.mpr hrun, if_true]
      rfl
    · have hrun' : (arrive f s).drilling = false := by
        rw [← Bool.not_eq_true, hdrill]
        rintro ⟨j, hj⟩
        simp [hrun j] at hj
      have hseconds : clampNat 1 600 duration.toNat = seconds := rfl
      rw [hexec]
      simp only [doLdrill, hname, hm, hl, ne_eq, hst, not_true, if_false, hspare.mpr hyes, Bool.not_true,
        Bool.false_eq_true, hrun', hseconds]
      have hmoved := changeLink_moved (s := arrive f s) (i := i) (cause := .drillStart) (new := drilled l m seconds)
        (landed_of_kept rfl nofun)
      refine ⟨changeLink i (drilled l m seconds) .drillStart (arrive f s), ?_, hmoved,
        linkMoved_arrive hmoved (not_leaves_of_used (.inr (.inr rfl))) (not_enters_of_used (.inl hst))⟩
      by_cases hs : seconds = duration.toNat
      · simp only [hs, decide_not, decide_true, Bool.not_true, if_true]
        rfl
      · simp only [hs, decide_not, decide_false, Bool.not_false, if_false]
        rfl

/-! ### The end of a drill (R117) -/

theorem anyFault_iff : anyFault l = true ↔ ∃ m, (mget l.monitors m).fault = true ∧ mget l.cfg.mask m = false := by
  simp only [anyFault, Bool.or_eq_true, faultOf_iff]
  constructor
  · rintro ((h | h) | h)
    · exact ⟨_, h⟩
    · exact ⟨_, h⟩
    · exact ⟨_, h⟩
  · rintro ⟨m, h⟩
    cases m with
    | delay => exact .inl (.inl h)
    | loss => exact .inl (.inr h)
    | level => exact .inr h

theorem runs_not_absent {α : Type} {o : Option α} (h : o.isSome = true) : ¬ o.isNone = true := by
  cases o with
  | none => exact nomatch h
  | some => exact nofun

theorem drillEnds : Claims.DrillEnds := by
  intro i s l r faulty
  have hfault : anyFault r = true ↔ faulty := by
    rw [anyFault_iff]
    simp only [r, dropDrill_cfg]
    exact Iff.rfl
  refine ⟨fun h => ?_, fun h hst hf => ?_, fun h hst hf => ?_⟩
  · have hidle : drillPasses i s = s := if_pos (by simp [show (s.link i).drill = none from h])
    exact congrArg Host.Outcome.next hidle
  · have hdrill : ¬ (s.link i).drill.isNone = true := runs_not_absent h
    have hpasses : drillPasses i s = linkNotice i .degraded .degraded .drillEnd (s.setLink i r) := by
      rw [← hst]
      exact (if_neg hdrill).trans (if_pos (hfault.mpr hf))
    refine ⟨_, congrArg Host.Outcome.next hpasses, ?_, ?_, ?_⟩
    · unfold linkNotice giveNotice
      split <;> rfl
    · rw [linkNotice]
      exact gives_giveNotice_of_rqp (s := s) (z := s.setLink i r) rfl _ _ _ _ _ _ _ _
    · exact (told_giveNotice _ _ _ _ _ _ _ _ (told_setLink i r (told_self s))).portKept
  · have hdrill : ¬ (s.link i).drill.isNone = true := runs_not_absent h
    have hpasses : drillPasses i s = changeLink i { r with state := .up } .drillEnd s :=
      (if_neg hdrill).trans (if_neg (mt hfault.mp hf))
    have hmoved := changeLink_moved (s := s) (i := i) (cause := .drillEnd) (new := { r with state := .up })
      (landed_of_kept rfl nofun)
    exact ⟨_, congrArg Host.Outcome.next hpasses, hmoved,
      hmoved.quiet (not_leaves_of_used (.inr (.inl rfl))) (not_enters_of_used (.inr hst))⟩

end Sys2Proof.Machine
end

section
/-! PROOFS. O42: the exchanges of links that leave eligibility (R89, chapter 4). -/

namespace Sys2Proof.Machine

variable {s t u : State} {lost : Link → Bool} {i : Nat} {x : Exchange}

/-- A SENT exchange on a link that leaves. -/
def onLost (lost : Link → Bool) (s : State) (i : Nat) : Bool :=
  (s.entry i).ex.any fun x => x.sent && (currentLink x).any lost

/-- What a lost link does to one entry. -/
def loseEntry (lost : Link → Bool) (s : State) (i : Nat) : State := if onLost lost s i then failExchange i s else s

theorem loseEntry_of_not (h : onLost lost s i = false) : loseEntry lost s i = s := by
  rw [loseEntry, h]
  exact if_neg Bool.false_ne_true

theorem loseEntry_of_hit (h : onLost lost s i = true) : loseEntry lost s i = failExchange i s := if_pos h

theorem linksLeave_eq (lost : Link → Bool) (s : State) : linksLeave lost s = s.qxu.order.foldl (loseEntry lost) s := by
  rw [linksLeave]
  congr 1
  funext s i
  unfold loseEntry
  split
  next x hx =>
    simp only [onLost, hx, Option.any_some]
    split
    next l hl =>
      rw [hl]
      rfl
    next hl => simp [hl]
  next hx => simp [onLost, hx]

/-- A re-queued exchange, whoever its visitor is (R90). -/
theorem failExchange_first (hx : (s.entry i).ex = some x) (hfirst : x.second = false) :
    let t := failExchange i s
    (∀ j, t.entry j = if i = j then
      ⟨(s.entry i).use + 1, some { x with sent := false, second := true, timer := s.settings.timeout }⟩ else s.entry j) ∧
      t.qxu.order = s.qxu.order.filter (· != i) ++ [i] ∧ t.qxu.deferred = s.qxu.deferred ∧ t.chu = s.chu ∧
      OutsideVisitors s t ∧ PortKept s t ∧ NoticesKept s t := by
  intro t
  let z := s.setEntry i ⟨(s.entry i).use + 1, some { x with sent := false, second := true, timer := s.settings.timeout }⟩
  let u := (z.withQxu { z.qxu with order := z.qxu.order.filter (· != i) ++ [i] }).updVisitor x.slot
    fun v => { v with xref := some ⟨i, (s.entry i).use + 1⟩ }
  have ht : t = noticeToSend i u := by
    show failExchange i s = _
    simp only [failExchange, hx, hfirst, Bool.false_eq_true, if_false]
    rfl
  have huqxu : u.qxu = { z.qxu with order := z.qxu.order.filter (· != i) ++ [i] } := by simp [u]
  have huentry (j : Nat) : u.entry j = z.entry j := by
    rw [State.entry, huqxu]
    rfl
  have hqxu : t.qxu = { u.qxu with owed := t.qxu.owed } := by
    rw [ht]
    have hui : (u.entry i).ex = some { x with sent := false, second := true, timer := s.settings.timeout } := by
      rw [huentry, State.setEntry_entry, if_pos rfl]
    exact (noticeToSend_leaves hui).1
  have htold : Told s.rqp t := by
    rw [ht]
    refine told_noticeToSend _ (told_updVisitor _ _ (told_withQxu _ ?_))
    exact told_setEntry _ _ (told_self s)
  refine ⟨fun j => ?_, ?_, ?_, ?_, ?_, htold.portKept, htold.noticesKept⟩
  · rw [State.entry, hqxu]
    exact (huentry j).trans (State.setEntry_entry ..)
  · rw [hqxu, huqxu]
    rfl
  · rw [hqxu, huqxu]
    rfl
  · rw [ht]
    simp [u, z]
  · rw [ht]
    exact outside_of_stage (by simp [stage, u, z]) (by simp [u, z])

/-! ### One entry after another -/

theorem onLost_congr (h : t.entry i = s.entry i) : onLost lost t i = onLost lost s i := by
  rw [onLost, onLost, h]

theorem foldl_loseEntry_of_not {xs : List Nat} (h : ∀ i ∈ xs, onLost lost s i = false) : xs.foldl (loseEntry lost) s = s := by
  induction xs with
  | nil => rfl
  | cons i xs ih =>
    rw [List.foldl_cons, loseEntry_of_not (h i List.mem_cons_self)]
    exact ih fun j hj => h j (List.mem_cons_of_mem _ hj)

/-- What the loss of links leaves, over a list of entries whose exchanges on them are at attempt 1. -/
structure Requeues (lost : Link → Bool) (xs : List Nat) (s t : State) : Prop where
  queued : ∀ i ∈ xs, ∀ x, onLost lost s i = true → (s.entry i).ex = some x →
    t.entry i = ⟨(s.entry i).use + 1, some { x with sent := false, second := true, timer := s.settings.timeout }⟩
  others : ∀ i, i ∉ xs ∨ onLost lost s i = false → t.entry i = s.entry i
  order : t.qxu.order = s.qxu.order.filter (fun i => !(xs.contains i && onLost lost s i)) ++ xs.filter (onLost lost s)
  deferred : t.qxu.deferred = s.qxu.deferred
  chu : t.chu = s.chu
  outside : OutsideVisitors s t
  port : PortKept s t
  notices : NoticesKept s t

theorem OutsideVisitors.trans (h : OutsideVisitors s t) (h' : OutsideVisitors t u) : OutsideVisitors s u := by
  obtain ⟨a1, a2, a3, a4, a5, a6⟩ := h
  obtain ⟨b1, b2, b3, b4, b5, b6⟩ := h'
  exact ⟨b1.trans a1, b2.trans a2, b3.trans a3, b4.trans a4, b5.trans a5, b6.trans a6⟩

theorem NoticesKept.trans (h : NoticesKept s t) (h' : NoticesKept t u) : NoticesKept s u := by
  obtain ⟨new, hnew⟩ := h
  obtain ⟨more, hmore⟩ := h'
  exact ⟨new ++ more, by rw [hmore, hnew, List.append_assoc]⟩

theorem settings_of_portKept (h : PortKept s t) : t.settings = s.settings := by
  rw [State.settings, h]
  rfl

theorem requeues_foldl {xs : List Nat} (hnodup : xs.Nodup)
    (hfirst : ∀ i ∈ xs, ∀ x, onLost lost s i = true → (s.entry i).ex = some x → x.second = false) :
    Requeues lost xs s (xs.foldl (loseEntry lost) s) := by
  induction xs generalizing s with
  | nil =>
    exact ⟨nofun, fun _ _ => rfl, by simp, rfl, rfl, ⟨rfl, rfl, rfl, rfl, rfl, rfl⟩, (told_self s).portKept,
      (told_self s).noticesKept⟩
  | cons i xs ih =>
    obtain ⟨hi, hxs⟩ := List.nodup_cons.mp hnodup
    rw [List.foldl_cons]
    cases hhit : onLost lost s i with
    | false =>
      rw [loseEntry_of_not hhit]
      have hrest := ih hxs fun j hj => hfirst j (List.mem_cons_of_mem _ hj)
      refine ⟨fun j hj x hj' hx => ?_, fun j hj => ?_, ?_, hrest.deferred, hrest.chu, hrest.outside, hrest.port, hrest.notices⟩
      · rcases List.mem_cons.mp hj with rfl | hj
        · simp [hhit] at hj'
        · exact hrest.queued j hj x hj' hx
      · by_cases hj' : j ∈ xs
        · refine hrest.others j (.inr (hj.resolve_left fun hn => hn (List.mem_cons_of_mem _ hj')))
        · exact hrest.others j (.inl hj')
      · rw [hrest.order, List.filter_cons_of_neg (by simp [hhit])]
        congr 1
        refine List.filter_congr fun j _ => ?_
        by_cases hj : j = i
        · subst hj
          simp [hhit]
        · simp [hj]
    | true =>
      rw [loseEntry_of_hit hhit]
      obtain ⟨x, hx⟩ : ∃ x, (s.entry i).ex = some x := by
        cases hx : (s.entry i).ex with
        | none => simp [onLost, hx] at hhit
        | some x => exact ⟨x, rfl⟩
      obtain ⟨hentry, horder, hdeferred, hchu, hout, hport, hnotices⟩ :=
        failExchange_first hx (hfirst i List.mem_cons_self x hhit hx)
      have hother {j : Nat} (hj : j ∈ xs) : (failExchange i s).entry j = s.entry j := by
        rw [hentry, if_neg]
        rintro rfl
        exact hi hj
      have hlost {j : Nat} (hj : j ∈ xs) : onLost lost (failExchange i s) j = onLost lost s j := onLost_congr (hother hj)
      have hrest := ih (s := failExchange i s) hxs fun j hj y hy hex => by
        rw [hlost hj] at hy
        rw [hother hj] at hex
        exact hfirst j (List.mem_cons_of_mem _ hj) y hy hex
      refine ⟨fun j hj y hj' hy => ?_, fun j hj => ?_, ?_, hrest.deferred.trans hdeferred, hrest.chu.trans hchu,
        hout.trans hrest.outside, hport.trans hrest.port, hnotices.trans hrest.notices⟩
      · rcases List.mem_cons.mp hj with rfl | hj
        · rw [hrest.others j (.inl hi), hentry, if_pos rfl]
          rw [hx] at hy
          cases hy
          rfl
        · rw [← hlost hj] at hj'
          rw [← hother hj] at hy
          rw [hrest.queued j hj y hj' hy, hother hj, settings_of_portKept hport]
      · have hne : i ≠ j := by
          rintro rfl
          rcases hj with hj | hj
          · exact hj List.mem_cons_self
          · simp [hhit] at hj
        have hkept : (failExchange i s).entry j = s.entry j := by rw [hentry, if_neg hne]
        by_cases hj' : j ∈ xs
        · rw [hrest.others j (.inr ?_), hkept]
          rw [hlost hj']
          exact hj.resolve_left fun hn => hn (List.mem_cons_of_mem _ hj')
        · rw [hrest.others j (.inl hj'), hkept]
      · have hkeep (j : Nat) (hj : j ≠ i) : onLost lost (failExchange i s) j = onLost lost s j :=
          onLost_congr (by rw [hentry, if_neg hj.symm])
        have htail : xs.filter (onLost lost (failExchange i s)) = xs.filter (onLost lost s) :=
          List.filter_congr fun j hj => hlost hj
        have hhead : (s.qxu.order.filter (· != i)).filter
            (fun j => !(xs.contains j && onLost lost (failExchange i s) j)) =
            s.qxu.order.filter (fun j => !((i :: xs).contains j && onLost lost s j)) := by
          rw [List.filter_filter]
          refine List.filter_congr fun j _ => ?_
          by_cases hj : j = i
          · subst hj
            simp [hhit]
          · rw [hkeep j hj]
            simp [hj]
        rw [hrest.order, horder, List.filter_append, hhead, htail, List.filter_cons_of_pos hhit, List.append_assoc,
          List.filter_cons_of_pos (by simp [hi])]
        rfl

theorem exchangesLoseLinks : Claims.ExchangesLoseLinks := by
  intro lost s hit t
  have ht : t = s.qxu.order.foldl (loseEntry lost) s := linksLeave_eq lost s
  refine ⟨fun h => ht.trans (foldl_loseEntry_of_not h), fun before i horder hbefore hi => ?_, fun hnodup hfirst => ?_⟩
  · rw [ht, horder, List.foldl_append, foldl_loseEntry_of_not hbefore]
    exact loseEntry_of_hit hi
  · have hq := requeues_foldl hnodup hfirst
    rw [← ht] at hq
    refine ⟨hq.queued, hq.others, ?_, hq.deferred, hq.chu, hq.outside, hq.port, hq.notices⟩
    rw [hq.order]
    congr 1
    refine List.filter_congr fun j hj => ?_
    simp [hj, hit, onLost]

/-- Settles O42. -/
theorem linkTimersAndDrill : Obligations.LinkTimersAndDrill := ⟨linkTimers, drillStarts, drillEnds, exchangesLoseLinks⟩

end Sys2Proof.Machine
end

section
/-! PROOFS. O41: a measurement taken (R106–R109, chapter 5). -/

namespace Sys2Proof.Machine

variable {f : Frame} {s t : State} {i : Link} {l x r : LinkRec} {b : Byte} {old st : LinkState} {bad : Bool}

/-! ### The evaluation of a link (R108, R109) -/

/-- The record the evaluation of a link leaves (R109). -/
def evaluated (l : LinkRec) : LinkRec :=
  match l.state with
  | .up | .degraded => { l with state := if shouldDegrade l then .degraded else .up }
  | .off | .probing | .held _ => l

/-- What a change to a record with a cause leaves, and what it leaves where the state is kept. -/
structure Settled (s t : State) (i : Link) (r : LinkRec) (b : Byte) : Prop where
  kept : r.state = (s.link i).state → t = s.setLink i r
  moved : r.state ≠ (s.link i).state → LinkMoved s t i r b ∧ VisitorsKept s t

theorem Settled.link (h : Settled s t i r b) : t.link i = r := by
  by_cases hst : r.state = (s.link i).state
  · rw [h.kept hst, State.setLink_link_self]
  · exact (h.moved hst).1.link

theorem settled_kept (hst : r.state = (s.link i).state) : Settled s (s.setLink i r) i r b :=
  ⟨fun _ => rfl, fun hne => absurd hst hne⟩

theorem settled_moved (hne : r.state ≠ (s.link i).state) (hm : LinkMoved s t i r b)
    (hl : ¬ Leaves (s.link i).state r.state) : Settled s t i r b :=
  ⟨fun hst => absurd hst hne, fun _ => ⟨hm, hm.visitorsKept hl⟩⟩

theorem evaluateLink_settled (hx : x.state = (s.link i).state) :
    Settled s (evaluateLink i (s.setLink i x)) i (evaluated x) (if (evaluated x).state = .degraded then 4 else 5) ∧
      ¬ Enters (s.link i).state (evaluated x).state := by
  have hlink : (s.setLink i x).link i = x := State.setLink_link_self ..
  have hkeep (he : evaluated x = x) (hk : evaluateLink i (s.setLink i x) = s.setLink i x)
      (hn : ¬ (x.state = .up ∨ x.state = .degraded)) :
      Settled s (evaluateLink i (s.setLink i x)) i (evaluated x) (if (evaluated x).state = .degraded then 4 else 5) ∧
        ¬ Enters (s.link i).state (evaluated x).state := by
    rw [he, hk]
    exact ⟨settled_kept hx, fun h => hn h.1⟩
  cases hst : x.state with
  | off => exact hkeep (by simp only [evaluated, hst]) (by simp only [evaluateLink, hlink, hst]) (by simp [hst])
  | probing => exact hkeep (by simp only [evaluated, hst]) (by simp only [evaluateLink, hlink, hst]) (by simp [hst])
  | held c => exact hkeep (by simp only [evaluated, hst]) (by simp only [evaluateLink, hlink, hst]) (by simp [hst])
  | up =>
    have hold : (s.link i).state = .up := hx.symm.trans hst
    refine ⟨?_, not_enters_of_used (.inl hold)⟩
    cases hd : shouldDegrade x with
    | true =>
      have he : evaluated x = { x with state := .degraded } := by simp only [evaluated, hst, hd, if_true]
      rw [he]
      refine settled_moved (by rw [hold]; exact nofun) ?_ (not_leaves_of_used (.inr (.inr rfl)))
      simp only [evaluateLink, hlink, hst, hd, if_true]
      exact changeLink_moved_on (cause := .fault) hx (landed_of_kept rfl nofun)
    | false =>
      have he : evaluated x = x := by
        simp only [evaluated, hst, hd, Bool.false_eq_true, if_false]
        rw [← hst]
      have hk : evaluateLink i (s.setLink i x) = s.setLink i x := by
        simp only [evaluateLink, hlink, hst, hd, Bool.false_eq_true, if_false]
      rw [he, hk]
      exact settled_kept hx
  | degraded =>
    have hold : (s.link i).state = .degraded := hx.symm.trans hst
    refine ⟨?_, not_enters_of_used (.inr hold)⟩
    cases hd : shouldDegrade x with
    | true =>
      have he : evaluated x = x := by
        simp only [evaluated, hst, hd, if_true]
        rw [← hst]
      have hk : evaluateLink i (s.setLink i x) = s.setLink i x := by
        simp only [evaluateLink, hlink, hst, hd, if_true]
      rw [he, hk]
      exact settled_kept hx
    | false =>
      have he : evaluated x = { x with state := .up } := by
        simp only [evaluated, hst, hd, Bool.false_eq_true, if_false]
      rw [he]
      refine settled_moved (by rw [hold]; exact nofun) ?_ (not_leaves_of_used (.inr (.inl rfl)))
      simp only [evaluateLink, hlink, hst, hd, Bool.false_eq_true, if_false]
      exact changeLink_moved_on (cause := .cleared) hx (landed_of_kept rfl nofun)

/-- The record a measurement in PROBING leaves (R108). -/
def probed (l : LinkRec) (bad : Bool) : LinkRec :=
  if bad then { l with good := 0 }
  else if l.cfg.probe ≤ l.good + 1 then { l with good := 0, state := if anyFault l then .degraded else .up }
  else { l with good := l.good + 1 }

theorem judgeProbe_settled (hx : x.state = (s.link i).state) (hst : x.state = .probing) :
    Settled s (judgeProbe i bad (s.setLink i x)) i (probed x bad) 3 := by
  have hlink : (s.setLink i x).link i = x := State.setLink_link_self ..
  have hold : (s.link i).state = .probing := hx.symm.trans hst
  unfold judgeProbe probed
  simp only [hlink]
  cases bad with
  | true =>
    simp only [if_true, setLink_setLink]
    exact settled_kept hx
  | false =>
    simp only [Bool.false_eq_true, if_false]
    by_cases hprobe : x.cfg.probe ≤ x.good + 1
    · simp only [if_pos hprobe]
      have hnew : (if anyFault x then LinkState.degraded else .up) = .up ∨
          (if anyFault x then LinkState.degraded else .up) = .degraded := by
        split <;> simp
      refine settled_moved ?_ (changeLink_moved_on (cause := .probed) hx (landed_of_kept ?_ ?_))
        (not_leaves_of_used (.inr hnew))
      · intro heq
        rw [hold] at heq
        rcases hnew with h | h <;> rw [h] at heq <;> exact nomatch heq
      · rcases hnew with h | h <;> rw [h] <;> rfl
      · rcases hnew with h | h <;> rw [h] <;> exact nofun
    · simp only [if_neg hprobe, setLink_setLink]
      exact settled_kept hx

/-- The record a measurement leaves once the monitors are updated (R106 step 4). -/
def acted (l : LinkRec) (bad : Bool) : LinkRec := if l.state = .probing then probed l bad else evaluated l

theorem actOnMeasurement_settled (hx : x.state = (s.link i).state) :
    Settled s (actOnMeasurement i bad (s.setLink i x)) i (acted x bad)
      (if x.state = .probing then 3 else if (acted x bad).state = .degraded then 4 else 5) := by
  have hlink : (s.setLink i x).link i = x := State.setLink_link_self ..
  by_cases hp : x.state = .probing
  · have hact : actOnMeasurement i bad (s.setLink i x) = judgeProbe i bad (s.setLink i x) := by
      simp only [actOnMeasurement, hlink, hp]
    rw [hact, acted, if_pos hp, if_pos hp]
    exact judgeProbe_settled hx hp
  · have hact : actOnMeasurement i bad (s.setLink i x) = evaluateLink i (s.setLink i x) := by
      simp only [actOnMeasurement, hlink]
      cases hst : x.state with
      | probing => exact absurd hst hp
      | up => rfl
      | degraded => rfl
      | off => simp only [evaluateLink, hlink, hst]
      | held c => simp only [evaluateLink, hlink, hst]
    rw [hact, acted, if_neg hp, if_neg hp]
    exact (evaluateLink_settled hx).1

/-! ### The record that is left, field by field -/

theorem evaluated_eq (l : LinkRec) : evaluated l = { l with state := (evaluated l).state } := by
  unfold evaluated
  split <;> rfl

theorem evaluated_used (h : l.state = .up ∨ l.state = .degraded) :
    (evaluated l).state = if shouldDegrade l then .degraded else .up := by
  rcases h with h | h <;> simp only [evaluated, h]

theorem evaluated_unused (h : ¬ (l.state = .up ∨ l.state = .degraded)) : evaluated l = l := by
  unfold evaluated
  split
  next h' => exact absurd (.inl h') h
  next h' => exact absurd (.inr h') h
  all_goals rfl

theorem probed_eq (l : LinkRec) (bad : Bool) :
    probed l bad = { l with state := (probed l bad).state, good := (probed l bad).good } := by
  unfold probed
  split
  · rfl
  · split <;> rfl

theorem acted_eq (l : LinkRec) (bad : Bool) :
    acted l bad = { l with state := (acted l bad).state, good := (acted l bad).good } := by
  unfold acted
  split
  · exact probed_eq l bad
  · rw [evaluated_eq]

theorem measured_monitors (l : LinkRec) (m : Measurement) (k : Monitor) : mget (measured l m).monitors k =
    if l.drill.map (·.monitor) = some k then mget l.monitors k
    else judgeMonitor (mget l.monitors k) (mget (badValues l.cfg m) k) (mget l.cfg.debounce k) := by
  cases k <;> rfl

theorem badMeasurement_iff {c : LinkConfig} {v : PerMonitor Bool} :
    badMeasurement c v = true ↔ ∃ m, mget v m = true ∧ mget c.mask m = false := by
  simp only [badMeasurement, Bool.or_eq_true, Bool.and_eq_true, Bool.not_eq_true']
  constructor
  · rintro ((h | h) | h)
    · exact ⟨.delay, h⟩
    · exact ⟨.loss, h⟩
    · exact ⟨.level, h⟩
  · rintro ⟨m, h⟩
    cases m with
    | delay => exact .inl (.inl h)
    | loss => exact .inl (.inr h)
    | level => exact .inr h

theorem undrilled {d : Option Drill} {m : Monitor} (h : ∀ e, d = some e → e.monitor ≠ m) : ¬ d.map (·.monitor) = some m := by
  cases d with
  | none => exact nofun
  | some e => exact fun he => h e rfl (Option.some.inj he)

/-- The states a measurement leads to (R108, R109). -/
theorem acted_states (l : LinkRec) (bad : Bool) :
    (∀ c, l.state = .held c → (acted l bad).state = l.state ∧ (acted l bad).good = l.good) ∧
      (l.state = .probing → bad = true → (acted l bad).state = .probing ∧ (acted l bad).good = 0) ∧
      (l.state = .probing → ¬ bad = true → l.good + 1 < l.cfg.probe →
        (acted l bad).state = .probing ∧ (acted l bad).good = l.good + 1) ∧
      (l.state = .probing → ¬ bad = true → l.cfg.probe ≤ l.good + 1 → (acted l bad).good = 0 ∧
        (anyFault l = true → (acted l bad).state = .degraded) ∧ (¬ anyFault l = true → (acted l bad).state = .up)) ∧
      (l.state = .up ∨ l.state = .degraded → (acted l bad).good = l.good ∧
        (anyFault l = true ∨ l.drill.isSome = true → (acted l bad).state = .degraded) ∧
        (¬ anyFault l = true → l.drill = none → (acted l bad).state = .up)) := by
  have hprobed (h : l.state = .probing) : acted l bad = probed l bad := if_pos h
  refine ⟨fun c h => ?_, fun h hb => ?_, fun h hb hlt => ?_, fun h hb hle => ?_, fun h => ?_⟩
  · have hev : acted l bad = evaluated l := if_neg (by rw [h]; exact nofun)
    rw [hev, evaluated_unused (by simp [h])]
    exact ⟨rfl, rfl⟩
  · rw [hprobed h, probed, if_pos hb]
    exact ⟨h, rfl⟩
  · rw [hprobed h, probed, if_neg hb, if_neg (Nat.not_le.mpr hlt)]
    exact ⟨h, rfl⟩
  · rw [hprobed h, probed, if_neg hb, if_pos hle]
    exact ⟨rfl, fun hf => if_pos hf, fun hf => if_neg hf⟩
  · have hev : acted l bad = evaluated l := if_neg (by rcases h with h | h <;> rw [h] <;> exact nofun)
    rw [hev, evaluated_used h]
    refine ⟨by rw [evaluated_eq], fun hf => if_pos ?_, fun hf hd => if_neg ?_⟩
    · simpa [shouldDegrade] using hf
    · simp [shouldDegrade, hf, hd]

/-- Settles O41. -/
theorem measurementTaken : Obligations.MeasurementTaken := by
  intro f link delay loss level s ht e
  have hexec : e = .next (deliver kLmeasure f.tag (doLmeasure link delay loss level (arrive f s))) := exec_taken rfl ht
  refine ⟨fun h => ?_, fun i hlink => ?_⟩
  · simp only [hexec, doLmeasure, linkOf_eq_none.mpr h]
    rfl
  have hname := linkOf_of_toNat hlink
  intro l x bad
  have hl : (arrive f s).link i = l := arrive_link ..
  have hx : measurementOf delay loss level s.rqp.shipTime = x := by
    simp only [measurementOf, clampNat, clampInt, Nat.zero_max, x]
  have hbad (m : Monitor) : mget (badValues l.cfg x) m = bad m := by cases m <;> rfl
  refine ⟨fun hoff => ?_, fun hoff => ?_⟩
  · simp only [hexec, doLmeasure, hname, hl, if_pos hoff]
    rfl
  let y := measured l x
  let whole := badMeasurement l.cfg (badValues l.cfg x)
  let t := actOnMeasurement i whole ((arrive f s).setLink i y)
  have hy : y.state = l.state := rfl
  have hset : Settled (arrive f s) t i (acted y whole)
      (if y.state = .probing then 3 else if (acted y whole).state = .degraded then 4 else 5) :=
    actOnMeasurement_settled (hy.trans (congrArg LinkRec.state hl.symm))
  have hr := acted_eq y whole
  generalize hrr : acted y whole = r at hset hr
  have hmonitors : r.monitors = y.monitors := by rw [hr]
  have hstale : r.stale = y.stale := by rw [hr]
  have hwhole : whole = true ↔ ∃ m, bad m = true ∧ mget l.cfg.mask m = false := by
    simp only [whole, badMeasurement_iff, hbad]
  have hfaulty : anyFault y = true ↔ ∃ m, (mget r.monitors m).fault = true ∧ mget l.cfg.mask m = false := by
    rw [anyFault_iff, hmonitors]
    exact Iff.rfl
  have hstep : e = .next (deliver kLmeasure f.tag (replyWith .ok (measureBytes r) t)) := by
    rw [hexec]
    simp only [doLmeasure, hname, hl, if_neg hoff, arrive_shipTime, hx]
    rw [← hset.link]
  refine ⟨t, r, hstep.trans rfl, hset.link, ?_, ?_, fun m => ⟨?_, fun hd => ⟨?_, ?_, ?_⟩⟩, ?_, fun hst => ?_, fun hst => ?_⟩
  · rw [hr]
    rfl
  · rw [hstale]
    simp only [y, measured, updateMonitors, ← inUse_iff, Bool.and_eq_true, decide_eq_true_eq]
  · rintro ⟨d, hd, hdm⟩
    rw [hmonitors, measured_monitors, if_pos]
    rw [hd, Option.map_some, hdm]
  · intro hsame
    rw [hmonitors, measured_monitors, if_neg (undrilled hd), hbad]
    exact if_pos hsame
  · intro hdiff hcount
    rw [hmonitors, measured_monitors, if_neg (undrilled hd), hbad]
    exact (if_neg hdiff).trans (if_pos hcount)
  · intro hdiff hcount
    rw [hmonitors, measured_monitors, if_neg (undrilled hd), hbad]
    exact (if_neg hdiff).trans (if_neg hcount)
  · rw [← hfaulty, ← hwhole, ← hrr]
    exact acted_states y whole
  · exact hset.kept (by rw [hl, hst])
  · obtain ⟨hmoved, hkept⟩ := hset.moved (by rwa [hl])
    rw [VisitorsKept, arrive_vrg, arrive_chu, arrive_qxu] at hkept
    exact ⟨hmoved, hkept⟩

end Sys2Proof.Machine
end

section
/-! PROOFS. O39: LCONF (R101, R102, chapter 5). -/

namespace Sys2Proof.Machine

variable {f : Frame} {s t : State} {i : Link} {l x r : LinkRec} {b : Byte}

theorem reconfigured_monitors (l : LinkRec) (w : LinkConfig) : (reconfigured l w).monitors =
    let count := fun m => if mget w.debounce m = mget l.cfg.debounce m then (mget l.monitors m).count else 0
    ⟨{ l.monitors.delay with count := count .delay }, { l.monitors.loss with count := count .loss },
      { l.monitors.level with count := count .level }⟩ := by
  have hone (old new : Nat) (m : MonitorState) :
      rebounce old new m = { m with count := if new = old then m.count else 0 } := by
    by_cases h : old = new
    · rw [rebounce, if_pos h, if_pos h.symm]
    · rw [rebounce, if_neg h, if_neg (Ne.symm h)]
  simp only [reconfigured, hone]
  rfl

theorem reconfigured_stale (l : LinkRec) (w : LinkConfig) : (reconfigured l w).stale =
    if (l.stale.isSome ∨ l.state = .probing ∨ l.state = .up ∨ l.state = .degraded) ∧ w.staleTime ≠ 0 then some w.staleTime
    else none := by
  simp only [reconfigured, Bool.or_eq_true, inUse_iff, staleLoad]
  by_cases hrun : l.stale.isSome = true ∨ l.state = .probing ∨ l.state = .up ∨ l.state = .degraded
  · rw [if_pos hrun]
    by_cases h0 : w.staleTime = 0
    · rw [if_pos h0, if_neg (fun h => h.2 h0)]
    · rw [if_neg h0, if_pos ⟨hrun, h0⟩]
  · rw [if_neg hrun, if_neg (fun h => hrun h.1)]

theorem shouldDegrade_reconfigured (l : LinkRec) (w : LinkConfig) : shouldDegrade (reconfigured l w) = true ↔
    (∃ m, (mget l.monitors m).fault = true ∧ mget w.mask m = false) ∨ l.drill.isSome := by
  have hfault (m : Monitor) : (mget (reconfigured l w).monitors m).fault = (mget l.monitors m).fault := by
    rw [reconfigured_monitors]
    cases m <;> rfl
  rw [shouldDegrade, Bool.or_eq_true, anyFault_iff]
  simp only [hfault]
  exact Iff.rfl

/-- Settles O39. -/
theorem configureLink : Obligations.ConfigureLink := by
  intro f c s ht
  have hexec : exec (.lconf f c) s = .next (deliver kLconf f.tag (doLconf c (arrive f s))) := exec_taken rfl ht
  refine ⟨fun h => ?_, fun i hlink => ?_⟩
  · rw [hexec, doLconf, linkOf_eq_none.mpr h]
    rfl
  have hname := linkOf_of_toNat hlink
  intro l w inRange count running faulty r
  have hl : (arrive f s).link i = l := arrive_link ..
  have hcfg : linkConfigOf c = (w, !decide inRange) := by
    have hdelay : clampNat 1 65535 c.delayT.toNat = w.delayT := by
      simp only [clampNat, w]
      have := c.delayT.isLt
      omega
    rw [← decide_not]
    simp only [linkConfigOf, hdelay]
    simp only [clampNat, Nat.zero_max, inRange, w, not_and_or, Bool.decide_or, ne_eq, Bool.or_assoc]
    rfl
  let y := reconfigured l w
  let t := evaluateLink i ((arrive f s).setLink i y)
  have hdone : doLconf c (arrive f s) = reply (okOrClamped (!decide inRange)) t := by
    simp only [doLconf, hname, hl, hcfg]
    rfl
  have hyl : y.state = l.state := rfl
  have hset := evaluateLink_settled (s := arrive f s) (i := i) (x := y)
    (hyl.trans (congrArg LinkRec.state hl.symm))
  have hused (h : l.state = .up ∨ l.state = .degraded) : r.state = .up ∨ r.state = .degraded := by
    simp only [r, if_pos h]
    by_cases hf : faulty
    · exact .inr (if_pos hf)
    · exact .inl (if_neg hf)
  have hstate : (evaluated y).state = r.state := by
    by_cases h : l.state = .up ∨ l.state = .degraded
    · rw [evaluated_used (l := y) h]
      simp only [r, if_pos h]
      by_cases hf : faulty
      · rw [if_pos hf, if_pos ((shouldDegrade_reconfigured l w).mpr hf)]
      · rw [if_neg hf, if_neg (mt (shouldDegrade_reconfigured l w).mp hf)]
    · rw [evaluated_unused (l := y) h]
      exact (if_neg h).symm
  have hmonitors : y.monitors = r.monitors := reconfigured_monitors l w
  have hstale : y.stale = r.stale := reconfigured_stale l w
  have hr : evaluated y = r :=
    calc evaluated y = { y with state := (evaluated y).state } := evaluated_eq y
      _ = { l with cfg := w, monitors := y.monitors, stale := y.stale, state := (evaluated y).state } := rfl
      _ = r := by rw [hmonitors, hstale, hstate]
  rw [hr] at hset
  obtain ⟨hsettled, hent⟩ := hset
  refine ⟨t, ?_, fun hst => ?_, fun hst => ?_⟩
  · rw [hexec, hdone]
    by_cases hin : inRange
    · rw [decide_eq_true hin, if_pos hin]
      rfl
    · rw [decide_eq_false hin, if_neg hin]
      rfl
  · exact hsettled.kept (hst.trans (congrArg LinkRec.state hl.symm))
  · have hst' : r.state ≠ ((arrive f s).link i).state := by rwa [hl]
    obtain ⟨hmoved, hkept⟩ := hsettled.moved hst'
    have hold : l.state = .up ∨ l.state = .degraded := by
      by_contra h
      exact hst (if_neg h)
    have hquiet := linkMoved_arrive hmoved (not_leaves_of_used (.inr (hused hold))) (not_enters_of_used hold)
    exact ⟨hmoved, hquiet⟩

end Sys2Proof.Machine
end

section
/-! PROOFS. O38: DSET and the preference list it carries (R204, R205, R209, chapter 9). -/

namespace Sys2Proof.Machine

variable {f : Frame} {s t : State} {b : Byte} {ls : List Link} {bs : List Byte}

/-! ### A preference list field (R209) -/

theorem distinctLinks_iff : distinctLinks ls = true ↔ ls.Nodup := by
  induction ls with
  | nil => simp [distinctLinks]
  | cons l ls ih => simp [distinctLinks, ih]

theorem linksOf_eq_some : linksOf bs = some ls ↔ ls.map linkByte = bs := by
  induction bs generalizing ls with
  | nil => simp [linksOf, eq_comm]
  | cons b bs ih =>
    unfold linksOf
    constructor
    · intro h
      split at h
      next l ms hl hms =>
        obtain rfl := Option.some.inj h
        rw [List.map_cons, ih.mp hms, linkOf_eq_some.mp hl]
      next => exact nomatch h
    · intro h
      cases ls with
      | nil => exact nomatch h
      | cons l ms =>
        obtain ⟨hb, hbs⟩ := List.cons.inj h
        rw [← hb, linkOf_linkByte, ih.mpr hbs]

theorem preferenceLists : Claims.PreferenceLists := by
  intro p ls
  have hmap : ls.map (fun l => BitVec.ofNat 8 l.val) = ls.map linkByte := rfl
  rw [hmap, ← linksOf_eq_some, ← distinctLinks_iff]
  unfold prefsOf
  by_cases hcount : p.count.toNat > 4
  · rw [if_pos hcount]
    exact ⟨nofun, fun h => absurd h.1 (not_le.mpr hcount)⟩
  · rw [if_neg hcount]
    cases hls : linksOf ([p.l0, p.l1, p.l2, p.l3].take p.count.toNat) with
    | none => exact ⟨nofun, fun h => nomatch h.2.1⟩
    | some ms =>
      simp only
      constructor
      · intro h
        split at h
        next hd =>
          obtain rfl := Option.some.inj h
          exact ⟨not_lt.mp hcount, rfl, hd⟩
        next => exact nomatch h
      · rintro ⟨-, hms, hd⟩
        obtain rfl := Option.some.inj hms
        exact if_pos hd

/-! ### DSET (R204, R205) -/

theorem stalePolicyOf_eq (b : Byte) :
    stalePolicyOf b = if 1 < b.toNat then none else some (if b.toNat = 0 then .mute else .keep) := by
  unfold stalePolicyOf
  split
  next h => simp [h]
  next h => simp [h]
  next h0 h1 =>
    have hne : b.toNat ≠ 0 ∧ b.toNat ≠ 1 := ⟨h0, h1⟩
    rw [if_pos (by omega)]

theorem busSpeedOf_eq (b : Byte) :
    busSpeedOf b = if 1 < b.toNat then none else some (if b.toNat = 0 then .khz100 else .khz400) := by
  unfold busSpeedOf
  split
  next h => simp [h]
  next h => simp [h]
  next h0 h1 =>
    have hne : b.toNat ≠ 0 ∧ b.toNat ≠ 1 := ⟨h0, h1⟩
    rw [if_pos (by omega)]

theorem settingsStored : Claims.SettingsStored := by
  intro f d s ht hmode bad idle
  have hexec : exec (.dset f d) s = .next (deliver kDset f.tag (doDset d (arrive f s))) := exec_taken rfl ht
  have hmode' : ¬ (arrive f s).rqp.mode = .service := by
    rw [arrive_mode, hmode]
    exact nofun
  refine ⟨fun hbad => ?_, fun hgood ls hls => ?_⟩
  · have hdone : doDset d (arrive f s) = reply .badArg (arrive f s) := by
      unfold doDset
      rw [if_neg hmode']
      split
      next st ls sp hst hls hsp =>
        refine if_pos ?_
        have h1 : ¬ 1 < d.stalePolicy.toNat := fun h => by simp [stalePolicyOf_eq, h] at hst
        have h2 : ¬ 1 < d.busSpeed.toNat := fun h => by simp [busSpeedOf_eq, h] at hsp
        simpa [bad, h1, h2, hls] using hbad
      next => rfl
    rw [hexec, hdone]
    rfl
  · intro w inRange
    simp only [bad, not_or] at hgood
    obtain ⟨hst, -, hcrew, hemergency, hmask, hspeed⟩ := hgood
    have hidle (n : Nat) : clampIdle n = idle n := rfl
    have hset : settingsOf d w.stalePolicy ls w.busSpeed = (w, !decide inRange) := by
      rw [← decide_not]
      simp only [settingsOf, hidle, clampNat, Nat.zero_max, inRange, w, not_and_or, Bool.decide_or, ne_eq, Bool.or_assoc]
      rfl
    have hdone : doDset d (arrive f s) =
        replyWith (okOrClamped (!decide inRange)) (settingsBytes w) (storeSettings w (arrive f s)) := by
      simp only [doDset, if_neg hmode', stalePolicyOf_eq, if_neg hst, busSpeedOf_eq, if_neg hspeed, hls]
      rw [if_neg (by simp [hcrew, hemergency, hmask])]
      rw [show settingsOf d _ ls _ = _ from hset]
    rw [hexec, hdone]
    by_cases hin : inRange
    · rw [decide_eq_true hin, if_pos hin]
      simp only [storeSettings, arrive_chu]
      rfl
    · rw [decide_eq_false hin, if_neg hin]
      simp only [storeSettings, arrive_chu]
      rfl

/-- Settles O38. -/
theorem storeSettings_settled : Obligations.StoreSettings := ⟨preferenceLists, settingsStored⟩

end Sys2Proof.Machine
end

section
/-! PROOFS. O48: the NAV line (R148–R151, chapter 7). -/

namespace Sys2Proof.Machine

variable {s t : State} {x : LineByte} {b : Byte} {noisy mark : Bool} {bs : List Byte}

/-! ### The bits of a byte time (R148) -/

theorem majority_iff (y : Samples) : majority y = true ↔ 2 ≤ y[0].toNat + y[1].toNat + y[2].toNat := by
  revert y
  decide

theorem agreed_iff (y : Samples) : agreed y = true ↔ y[0] = y[1] ∧ y[1] = y[2] := by
  revert y
  decide

/-- The number that bits spell, the first of them the lowest. -/
def spelled (bs : List Bool) : Nat := bs.foldr Nat.bit 0

theorem testBit_spelled (bs : List Bool) (k : Nat) : (spelled bs).testBit k = bs[k]?.getD false := by
  induction bs generalizing k with
  | nil => simp [spelled]
  | cons b bs ih =>
    cases k with
    | zero => simp [spelled]
    | succ k =>
      rw [spelled, List.foldr_cons, Nat.testBit_bit_succ]
      exact (ih k).trans (by simp)

/-- The samples of the eight data bits of a byte time. -/
def dataBits (x : LineByte) : List Samples := [x.d0, x.d1, x.d2, x.d3, x.d4, x.d5, x.d6, x.d7]

theorem lineValue_eq (x : LineByte) : lineValue x = BitVec.ofNat 8 (spelled ((dataBits x).map majority)) := by
  unfold lineValue
  congr 1
  simp only [spelled, dataBits, List.map_cons, List.map_nil, List.foldr_cons, List.foldr_nil, Nat.bit_val]
  omega

theorem lineValue_bit {k : Nat} {y : Samples} (h : (dataBits x)[k]? = some y) : (lineValue x).getLsbD k = majority y := by
  have hk : k < 8 := by
    obtain ⟨hk, -⟩ := List.getElem?_eq_some_iff.mp h
    exact hk
  rw [lineValue_eq, BitVec.getLsbD_ofNat, testBit_spelled, List.getElem?_map, h]
  simp [hk]

theorem lineValue_eq_zero : lineValue x = 0#8 ↔ ∀ y ∈ dataBits x, ¬ majority y = true := by
  constructor
  · intro h y hy
    obtain ⟨k, hk⟩ := List.mem_iff_getElem?.mp hy
    rw [← lineValue_bit hk, h]
    simp
  · intro h
    have hnone (b : Bool) (hb : b ∈ (dataBits x).map majority) : b = false := by
      obtain ⟨y, hy, rfl⟩ := List.mem_map.mp hb
      exact Bool.eq_false_iff.mpr (h y hy)
    have hall : (dataBits x).map majority = List.replicate 8 false := List.eq_replicate_iff.mpr ⟨rfl, hnone⟩
    rw [lineValue_eq, hall]
    rfl

theorem lineClean_iff : lineClean x = true ↔
    agreed x.start = true ∧ (∀ y ∈ dataBits x, agreed y = true) ∧ agreed x.stop = true := by
  simp only [lineClean, dataBits, Bool.and_eq_true, List.forall_mem_cons, List.not_mem_nil, false_implies, implies_true,
    and_assoc, and_true]

theorem byteOutcome : Claims.ByteOutcome := by
  intro x high steady data clean
  have hhigh (y : Samples) : high y ↔ majority y = true := (majority_iff y).symm
  have hclean : clean ↔ lineClean x = true := by
    rw [lineClean_iff]
    simp only [agreed_iff]
    exact Iff.rfl
  have hzero : (∀ y ∈ data, ¬ high y) ↔ lineValue x = 0#8 := by
    rw [lineValue_eq_zero]
    simp only [hhigh]
    exact Iff.rfl
  rw [hzero, hclean]
  simp only [hhigh]
  refine ⟨fun k y hy => ?_, fun h => if_pos h, fun h h' => ⟨fun hc => ?_, fun hc => ?_⟩, fun h h' => ⟨fun hz hl => ?_, fun hz => ?_⟩⟩
  · rw [lineValue_bit hy]
  · rw [lineOutcome, if_neg h, if_pos h', if_pos hc]
  · rw [lineOutcome, if_neg h, if_pos h', if_neg hc]
  · rw [lineOutcome, if_neg h, if_neg h', if_pos]
    rw [hz, hl]
    rfl
  · rw [lineOutcome, if_neg h, if_neg h', if_neg]
    rw [Bool.and_eq_true, beq_iff_eq]
    exact hz

/-! ### A received byte (R149–R151) -/

theorem sum_bytes (bs : List Byte) : (bs.foldl (fun a b => a + b) 0#8).toNat = (bs.map fun y => y.toNat).sum % 256 := by
  have hfrom (a : Byte) : (bs.foldl (fun a b => a + b) a).toNat = (a.toNat + (bs.map fun y => y.toNat).sum) % 256 := by
    induction bs generalizing a with
    | nil => simp [Nat.mod_eq_of_lt a.isLt]
    | cons b bs ih =>
      rw [List.foldl_cons, ih, BitVec.toNat_add, List.map_cons, List.sum_cons]
      omega
  simpa using hfrom 0#8

theorem sum_bytes_eq_zero (bs : List Byte) :
    bs.foldl (fun a b => a + b) 0#8 = 0 ↔ (bs.map fun y => y.toNat).sum % 256 = 0 := by
  rw [← sum_bytes]
  exact ⟨fun h => by rw [h]; rfl, fun h => BitVec.eq_of_toNat_eq h⟩

theorem lineByte_idle (h : s.zne.nav.rx = .disabled ∨ lineOutcome x = .falseStart) : lineByte x s = s := by
  rcases h with h | h
  · simp only [lineByte, h]
  · simp only [lineByte, h]
    split <;> rfl

/-- The line's status back at IDLE (R150). -/
def lineIdle (s : State) : State := s.setNav { s.zne.nav with lineBreak := false }

theorem lineByte_byte (h : s.zne.nav.rx ≠ .disabled) (ho : lineOutcome x = if noisy = true then .noisy b else .good b) :
    lineByte x s = takeByte b noisy (lineIdle s) := by
  unfold lineByte
  split
  next h' => exact absurd h' h
  all_goals
    cases noisy with
    | true =>
      rw [if_pos rfl] at ho
      simp only [ho]
      rfl
    | false =>
      rw [if_neg Bool.false_ne_true] at ho
      simp only [ho]
      rfl

theorem lineByte_framing (h : s.zne.nav.rx ≠ .disabled) (ho : lineOutcome x = .framing) :
    lineByte x s = endReception .framing (lineIdle s) := by
  unfold lineByte
  split
  next h' => exact absurd h' h
  all_goals
    simp only [ho]
    rfl

theorem lineByte_broken (h : s.zne.nav.rx ≠ .disabled) (ho : lineOutcome x = .broken) :
    lineByte x s = breakStatus (endReception .broken s) := by
  unfold lineByte
  split
  next h' => exact absurd h' h
  all_goals simp only [ho]

/-! ### A complete message (R151) -/

theorem takeByte_assembling {n : Nav} (hn : s.zne.nav = n) (h : n.rx = .assembling bs mark) :
    (¬ 10 ≤ (bs ++ [b]).length →
      takeByte b noisy s = s.setNav { n with rx := .assembling (bs ++ [b]) (mark || noisy) }) ∧
    (10 ≤ (bs ++ [b]).length → takeByte b noisy s = disposeMessage (bs ++ [b]) (mark || noisy) s) := by
  subst hn
  refine ⟨fun hl => ?_, fun hl => ?_⟩
  · simp only [takeByte, h, if_neg hl]
  · simp only [takeByte, h, if_pos hl]

theorem messageFault_eq (msg : List Byte) (last : Option Byte) (held : Nat) : messageFault msg last held =
    if ((msg.drop 1).map fun y => y.toNat).sum % 256 ≠ 0 then some .check
    else if (byteAt msg 8).toNat = 0 ∨ 2 < (byteAt msg 8).toNat then some .quality
    else if last = some (byteAt msg 1) then some .duplicate
    else if 2 ≤ held then some .overrun
    else none := by
  have hzero : (byteAt msg 8 = 0) = ((byteAt msg 8).toNat = 0) :=
    propext ⟨fun h => by rw [h]; rfl, fun h => BitVec.eq_of_toNat_eq h⟩
  simp only [messageFault, ne_eq, sum_bytes_eq_zero, hzero]
  rfl

theorem disposeMessage_fault {msg : List Byte} {why : NavDiscard} {n : Nav} (hn : s.zne.nav = n)
    (h : messageFault msg n.lastSeq s.zne.fifo.length = some why) :
    disposeMessage msg mark s = s.setNav (navDrop why n) := by
  subst hn
  simp only [disposeMessage, h]

theorem disposeMessage_fix {msg : List Byte} {n : Nav} (hn : s.zne.nav = n)
    (h : messageFault msg n.lastSeq s.zne.fifo.length = none) :
    disposeMessage msg mark s = s.withZne { s.zne with
      nav := { n with rx := .hunting, lastSeq := some (byteAt msg 1) }, fifo := s.zne.fifo ++ [messageFix msg mark] } := by
  subst hn
  simp only [disposeMessage, h]

theorem byteReceived : Claims.ByteReceived := by
  intro x s n e idle drop out
  have he : e = .next (lineByte x s) := rfl
  refine ⟨rfl, rfl, fun h => by rw [he, lineByte_idle h], fun hrx => ⟨fun b noisy ho => ?_, fun ho => ?_, fun ho => ?_⟩⟩
  · have hbyte := lineByte_byte hrx ho
    refine ⟨fun hh hb => ?_, fun hh hb => ?_, fun bs mark hh => ?_⟩
    · simp only [out, he, hbyte]
      have hh' : (lineIdle s).zne.nav.rx = .hunting := hh
      simp only [takeByte, hh', if_pos hb]
      rw [hb]
      rfl
    · simp only [out, he, hbyte]
      have hh' : (lineIdle s).zne.nav.rx = .hunting := hh
      simp only [takeByte, hh', if_neg hb]
      rfl
    · intro msg failed sum quality
      obtain ⟨hshort, hfull⟩ := takeByte_assembling (s := lineIdle s) (n := idle) (b := b) (noisy := noisy) rfl hh
      refine ⟨fun hl => ?_, fun hl => ?_⟩
      · simp only [out, he, hbyte, hshort (Nat.not_le.mpr hl)]
        rfl
      · have hfifo : (lineIdle s).zne.fifo = s.zne.fifo := rfl
        have hfault (why : NavDiscard) (h : messageFault msg n.lastSeq s.zne.fifo.length = some why) : failed why := by
          have hdropped := disposeMessage_fault (s := lineIdle s) (n := idle) (mark := mark || noisy) rfl h
          exact he.trans (congrArg Host.Outcome.next (hbyte.trans ((hfull hl).trans hdropped)))
        have hmessage := messageFault_eq msg n.lastSeq s.zne.fifo.length
        refine ⟨fun hsum => hfault _ ?_, fun hsum hq => hfault _ ?_, fun hsum h1 h2 => ?_⟩
        · rw [hmessage]
          exact if_pos hsum
        · rw [hmessage, if_neg (not_not.mpr hsum)]
          exact if_pos hq
        · have hq : ¬ ((byteAt msg 8).toNat = 0 ∨ 2 < (byteAt msg 8).toNat) := by
            simp only [quality] at h1 h2
            omega
          rw [if_neg (not_not.mpr hsum), if_neg hq] at hmessage
          refine ⟨fun hd => hfault _ ?_, fun hd hf => hfault _ ?_, fun hd hf => ?_⟩
          · rw [hmessage]
            exact if_pos hd
          · rw [hmessage, if_neg hd]
            exact if_pos hf
          · rw [if_neg hd, if_neg (Nat.not_le.mpr hf)] at hmessage
            have htaken := disposeMessage_fix (s := lineIdle s) (n := idle) (mark := mark || noisy) rfl hmessage
            exact he.trans (congrArg Host.Outcome.next (hbyte.trans ((hfull hl).trans htaken)))
  · have hbyte := lineByte_framing hrx ho
    refine ⟨fun hh => ?_, fun bs mark hh => ?_⟩
    · have hh' : (lineIdle s).zne.nav.rx = .hunting := hh
      simp only [out, he, hbyte, endReception, hh']
      rfl
    · have hh' : (lineIdle s).zne.nav.rx = .assembling bs mark := hh
      simp only [out, he, hbyte, endReception, hh']
      rfl
  · have hbyte := lineByte_broken hrx ho
    intro m
    have hend : endReception .broken s = s.setNav m ∧ m.lineBreak = n.lineBreak := by
      cases hh : s.zne.nav.rx with
      | disabled => exact absurd hh hrx
      | hunting =>
        simp only [endReception, m, n, hh]
        exact ⟨rfl, trivial⟩
      | assembling bs mark =>
        simp only [endReception, m, n, hh]
        exact ⟨rfl, rfl⟩
    obtain ⟨hended, hstatus⟩ := hend
    have hnav : (s.setNav m).zne.nav.lineBreak = n.lineBreak := hstatus
    rw [hended] at hbyte
    refine ⟨fun hh => ?_, fun hh => ?_⟩
    · refine he.trans (congrArg Host.Outcome.next (hbyte.trans (if_pos ?_)))
      rw [hnav, hh]
    · refine he.trans (congrArg Host.Outcome.next (hbyte.trans (if_neg ?_)))
      rw [hnav, hh]
      exact Bool.false_ne_true

theorem messageIsItsBytes : Claims.MessageIsItsBytes :=
  fun b _ s => ⟨rfl, lineByte b s, rfl, rfl⟩

/-- Settles O48. -/
theorem navLine : Obligations.NavLine := ⟨byteOutcome, byteReceived, messageIsItsBytes⟩

end Sys2Proof.Machine
end

section
/-! PROOFS. What the radio controller leaves alone when it acts: the position, the probe and the operator mute, and all of
the port but new notices (chapter 8). -/

namespace Sys2Proof.Machine

variable {s t u : State}

/-- The radio controller has acted between two states. -/
structure Aired (s t : State) : Prop where
  place : SamePlace s t
  told : Told s.rqp t

theorem Told.trans (h : Told s.rqp t) (h' : Told t.rqp u) : Told s.rqp u := by
  obtain ⟨hkept, new, hnew⟩ := h
  obtain ⟨hkept', more, hmore⟩ := h'
  refine ⟨?_, new ++ more, by rw [hmore, hnew, List.append_assoc]⟩
  rw [hkept', hkept]

theorem Aired.refl (s : State) : Aired s s := ⟨⟨rfl, rfl, rfl, rfl, rfl⟩, told_self s⟩

theorem Aired.trans (h : Aired s t) (h' : Aired t u) : Aired s u := ⟨h.place.trans h'.place, h.told.trans h'.told⟩

theorem Aired.after (h : Aired t u) (h' : Aired s t) : Aired s u := h'.trans h

theorem aired_foldl {α : Type} {g : State → α → State} (hg : ∀ s x, Aired s (g s x)) (xs : List α) (s : State) :
    Aired s (xs.foldl g s) := by
  induction xs generalizing s with
  | nil => exact .refl s
  | cons x xs ih => exact (hg s x).trans (ih _)

/-! ### Marks and notices -/

theorem aired_setUnit (i : Nat) (v : UnitRec) (s : State) : Aired s (s.setUnit i v) :=
  ⟨⟨rfl, rfl, rfl, rfl, rfl⟩, told_of_rqp (s := s) rfl (told_self s)⟩

theorem aired_setMark (i : Nat) (m : Option Mark) (s : State) : Aired s (setMark i m s) := aired_setUnit ..

theorem aired_placeMark (i : Nat) (m : Mark) (s : State) : Aired s (placeMark i m s) := by
  unfold placeMark
  split
  · exact .refl s
  · exact aired_setUnit ..

theorem aired_giveNotice (k : NoticeKind) (x : Subject) (d v1 v2 v3 v4 v5 : Byte) (s : State) :
    Aired s (giveNotice k x d v1 v2 v3 v4 v5 s) :=
  ⟨samePlace_of_stage (stage_giveNotice ..), told_giveNotice _ _ _ _ _ _ _ _ (told_self s)⟩

theorem aired_radioNotice (d v1 v2 v3 v4 v5 : Byte) (s : State) : Aired s (radioNotice d v1 v2 v3 v4 v5 s) :=
  aired_giveNotice ..

theorem aired_withRdc {r : Rdc} (hop : r.opMute = s.rdc.opMute) (hprobe : r.probe = s.rdc.probe) : Aired s (s.withRdc r) :=
  ⟨⟨rfl, rfl, rfl, hop, hprobe⟩, told_of_rqp (s := s) rfl (told_self s)⟩

theorem aired_assertRfoff (s : State) : Aired s (assertRfoff s) := aired_withRdc rfl rfl

theorem aired_changeUnit (i : Nat) (new : UnitState) (cause : UnitCause) (s : State) : Aired s (changeUnit i new cause s) := by
  refine ⟨changeUnit_samePlace .., ?_⟩
  unfold changeUnit
  dsimp only
  split
  · exact told_self s
  · refine told_giveNotice _ _ _ _ _ _ _ _ ?_
    refine told_of_rqp (s := s) ?_ (told_self s)
    repeat' split
    all_goals simp

/-! ### The end check and the rules of a completion -/

theorem aired_endCheck (s : State) : Aired s (endCheck s) := by
  unfold endCheck
  split
  · split
    · exact .refl s
    · exact (aired_radioNotice ..).after (aired_withRdc rfl rfl)
  · split
    · exact .refl s
    · exact (aired_radioNotice ..).after (aired_withRdc rfl rfl)
  · exact .refl s
  · exact .refl s

theorem aired_commandNoackRule (i : Nat) (m : Mark) (s : State) : Aired s (commandNoackRule i m s) := by
  unfold commandNoackRule
  dsimp only
  split
  · exact .refl s
  · split
    · exact aired_setMark ..
    · exact (aired_setMark ..).after (aired_changeUnit ..)

theorem aired_pollNoackRule (i : Nat) (s : State) : Aired s (pollNoackRule i s) := by
  unfold pollNoackRule
  dsimp only
  split
  · split
    · exact (aired_changeUnit ..).after (aired_setUnit ..)
    · exact aired_setUnit ..
  · split
    · exact (aired_changeUnit ..).after (aired_setUnit ..)
    · exact aired_setUnit ..
  all_goals exact .refl s

theorem aired_noackRule (i : Nat) (m : Mark) (f : BusFailure) (s : State) : Aired s (noackRule i m f s) := by
  unfold noackRule
  dsimp only
  refine (aired_endCheck _).after ?_
  split
  · exact (aired_pollNoackRule ..).after (aired_setUnit ..)
  all_goals exact (aired_commandNoackRule ..).after (aired_setUnit ..)

/-! ### The arbiter -/

theorem aired_busCheck (s : State) : Aired s (busCheck s).2 := by
  refine ⟨busCheck_samePlace, ?_⟩
  unfold busCheck
  dsimp only
  split
  · exact told_giveNotice _ _ _ _ _ _ _ _ (told_of_rqp (s := s) rfl (told_self s))
  · split
    · exact told_giveNotice _ _ _ _ _ _ _ _ (told_of_rqp (s := s) rfl (told_self s))
    · exact told_of_rqp (s := s) rfl (told_self s)

theorem aired_arbitrate (fuel : Nat) (s : State) : Aired s (arbitrate fuel s) := by
  induction fuel generalizing s with
  | zero => exact .refl s
  | succ fuel ih =>
    unfold arbitrate
    dsimp only
    split
    · exact .refl s
    · split
      next i m _ =>
        have hcheck : Aired s (busCheck (setMark i none s)).2 := (aired_busCheck _).after (aired_setMark ..)
        split
        · exact hcheck.trans (aired_withRdc rfl rfl)
        · exact (ih _).after ((aired_noackRule ..).after hcheck)
      next => exact .refl s

theorem endProbe_none (h : s.rdc.probe = none) : endProbe s = s := by
  simp only [endProbe, h]

/-- With no probe in flight the arbiter alone runs. -/
theorem settleBus_quiet (h : s.rdc.probe = none) : settleBus s = arbitrate arbiterFuel s :=
  endProbe_none ((aired_arbitrate arbiterFuel s).place.probe.trans h)

theorem aired_settleBus (h : s.rdc.probe = none) : Aired s (settleBus s) := by
  rw [settleBus_quiet h]
  exact aired_arbitrate ..

/-! ### MUTING and UNMUTING -/

theorem aired_startOfMuting (s : State) : Aired s (startOfMuting s).1 := by
  refine ⟨⟨by simp, by simp, by simp, ?_, ?_⟩, told_startOfMuting (told_self s)⟩
  · rw [startOfMuting_rdc]
  · rw [startOfMuting_rdc]

theorem aired_muteMarks (i : Nat) (s : State) : Aired s (muteMarks i s) := by
  unfold muteMarks
  dsimp only
  split
  · exact aired_placeMark ..
  · exact aired_placeMark ..
  · split
    · exact aired_setMark ..
    · exact .refl s
  · split
    · exact aired_setMark ..
    · exact .refl s
  · split
    · exact aired_setMark ..
    · exact .refl s
  · exact .refl s

theorem aired_unmuteMarks (i : Nat) (s : State) : Aired s (unmuteMarks i s) := by
  unfold unmuteMarks
  dsimp only
  split
  · split
    · exact aired_setMark ..
    · exact .refl s
  · exact aired_setMark ..
  · split
    · exact aired_setMark ..
    · exact .refl s
  all_goals exact .refl s

theorem aired_beginMuting (cause : PolicyCause) (s : State) : Aired s (beginMuting cause s) := by
  unfold beginMuting
  extract_lets b s1
  have hstart : Aired s (startOfMuting s1).1 := (aired_startOfMuting _).after (aired_withRdc rfl rfl)
  generalize startOfMuting s1 = p at hstart ⊢
  obtain ⟨x, n, m⟩ := p
  dsimp only at hstart ⊢
  have hnotice : Aired s (radioNotice 1 (BitVec.ofNat 8 (n / 256)) (BitVec.ofNat 8 n) (BitVec.ofNat 8 (m / 256))
      (BitVec.ofNat 8 m) (policyCauseByte cause) x) := (aired_radioNotice ..).after hstart
  generalize radioNotice 1 (BitVec.ofNat 8 (n / 256)) (BitVec.ofNat 8 n) (BitVec.ofNat 8 (m / 256)) (BitVec.ofNat 8 m)
    (policyCauseByte cause) x = y at hnotice ⊢
  have hmarks : Aired s (unitKeys.foldl (fun s u => muteMarks u s) y) :=
    hnotice.trans (aired_foldl (fun s i => aired_muteMarks i s) _ _)
  generalize unitKeys.foldl (fun s u => muteMarks u s) y = z at hmarks ⊢
  have hlast {x : State} (hx : Aired s x) (d : Option Nat) : Aired s (endCheck (x.withRdc { x.rdc with deadline := d })) :=
    (aired_endCheck _).after (hx.trans (aired_withRdc rfl rfl))
  refine hlast ?_ _
  split
  · exact hmarks.trans (aired_assertRfoff _)
  · exact hmarks

theorem aired_beginUnmuting (cause : PolicyCause) (s : State) : Aired s (beginUnmuting cause s) := by
  unfold beginUnmuting
  dsimp only
  refine (aired_endCheck _).after ((aired_foldl (fun s i => aired_unmuteMarks i s) _ _).after ?_)
  exact (aired_radioNotice ..).after (aired_withRdc rfl rfl)

/-- The policy turned, with no probe in flight. -/
theorem aired_policyTurned (before : Policy) (cause : PolicyCause) (h : s.rdc.probe = none) :
    Aired s (policyTurned before cause s) := by
  have hmute : Aired s (settleBus (beginMuting cause s)) :=
    (aired_beginMuting cause s).trans (aired_settleBus ((aired_beginMuting cause s).place.probe.trans h))
  have hunmute : Aired s (settleBus (beginUnmuting cause s)) :=
    (aired_beginUnmuting cause s).trans (aired_settleBus ((aired_beginUnmuting cause s).place.probe.trans h))
  unfold policyTurned
  dsimp only
  split
  · exact .refl s
  · split
    · exact hmute
    · exact hmute
    · exact hunmute
    · exact hunmute
    all_goals exact .refl s

end Sys2Proof.Machine
end

section
/-! PROOFS. The hand-on of changed values in force (R166, chapter 7). -/

namespace Sys2Proof.Machine

variable {s t u n : State} {old : InForce}

/-! ### The permit mask -/

theorem handOnPermit_same {m : LinkSet} (h : s.permitInForce = m) : handOnPermit m s = s := if_pos h

/-- The links that left the mask. -/
def lostLinks (old new : LinkSet) : Link → Bool := fun l => old.getLsbD l.val && !new.getLsbD l.val

/-- A changed mask handed on, but for the reselection. -/
def permitTold (old : LinkSet) (s : State) : State :=
  let t := linksLeave (lostLinks old s.permitInForce) s
  if t.settings.control.any (fun l => inSet s.permitInForce l && !inSet old l && usable (t.link l).state) then giveOwed t else t

theorem handOnPermit_changed {m : LinkSet} (h : s.permitInForce ≠ m) :
    handOnPermit m s = reselectAll .zone (permitTold m s) := if_neg h

theorem linksLeave_link (lost : Link → Bool) (s : State) (l : Link) : (linksLeave lost s).link l = s.link l := by
  rw [State.link, linksLeave_lmn]
  rfl

theorem permitHandedOn_handOnPermit (m : LinkSet) (s : State) : PermitHandedOn m s.permitInForce s (handOnPermit m s) := by
  unfold PermitHandedOn
  intro lost entered
  refine ⟨fun h => handOnPermit_same h, fun h => ?_⟩
  rw [handOnPermit_changed h, permitTold]
  have hcontrol : (linksLeave (lostLinks m s.permitInForce) s).settings.control = s.settings.control := by
    rw [State.settings, linksLeave_rqp_settings]
    rfl
  have hentered : (linksLeave (lostLinks m s.permitInForce) s).settings.control.any (fun l => inSet s.permitInForce l &&
      !inSet m l && usable ((linksLeave (lostLinks m s.permitInForce) s).link l).state) = true ↔ entered := by
    simp only [hcontrol, linksLeave_link, List.any_eq_true, Bool.and_eq_true, Bool.not_eq_true', usable_iff, and_assoc]
    exact Iff.rfl
  by_cases he : entered
  · simp only [if_pos he, if_pos (hentered.mpr he)]
    rfl
  · simp only [if_neg he, if_neg (mt hentered.mp he)]
    rfl

theorem permitTold_rte (m : LinkSet) (s : State) : (permitTold m s).rte = s.rte := by
  unfold permitTold
  dsimp only
  split <;> simp

theorem told_permitTold {q : Rqp} (m : LinkSet) (h : Told q s) : Told q (permitTold m s) := by
  unfold permitTold
  dsimp only
  split
  · exact told_giveOwed (told_linksLeave _ h)
  · exact told_linksLeave _ h

theorem told_handOnPermit {q : Rqp} (m : LinkSet) (h : Told q s) : Told q (handOnPermit m s) := by
  by_cases hm : s.permitInForce = m
  · rwa [handOnPermit_same hm]
  · rw [handOnPermit_changed hm]
    exact told_reselectAll _ (told_permitTold m h)

theorem routesKept_handOnPermit (m : LinkSet) (s : State) : RoutesKept s (handOnPermit m s) := by
  by_cases hm : s.permitInForce = m
  · rw [handOnPermit_same hm]
    exact .refl s
  · rw [handOnPermit_changed hm]
    exact (routesKept_of_rte (permitTold_rte m s)).trans (routesKept_reselectAll _ _)

/-- The visitor side of a changed mask, where the state given differs from `u` in its notices alone. -/
theorem linksLost_handOnPermit {m : LinkSet} (h : s.permitInForce ≠ m) (hu : UpToNotices u s) :
    LinksLost (lostLinks m s.permitInForce) u (handOnPermit m s) := by
  have hup := upTo_linksLeave (lostLinks m s.permitInForce) hu
  have hkept : (permitTold m s).vrg = (linksLeave (lostLinks m s.permitInForce) s).vrg ∧
      (permitTold m s).chu = (linksLeave (lostLinks m s.permitInForce) s).chu ∧
      (permitTold m s).qxu = { (linksLeave (lostLinks m s.permitInForce) s).qxu with owed := (permitTold m s).qxu.owed } := by
    unfold permitTold
    dsimp only
    split
    · refine ⟨by simp, by simp, ?_⟩
      rw [giveOwed_qxu]
    · exact ⟨rfl, rfl, rfl⟩
  obtain ⟨hvrg, hchu, hqxu⟩ := hkept
  rw [handOnPermit_changed h]
  refine ⟨?_, ?_, ?_⟩
  · rw [reselectAll_vrg, hvrg, hup.vrg]
  · rw [reselectAll_chu, hchu, hup.chu]
  · rw [reselectAll_qxu, hqxu, hup.qxu]

/-! ### The radio policy -/

theorem handOnPolicy_same {p : Policy} (h : s.policyInForce = p) : handOnPolicy p s = s := if_pos h

theorem policyHandedOn_handOnPolicy {p : Policy} (h : s.policyInForce ≠ p) : PolicyHandedOn s (handOnPolicy p s) := by
  have hturn : handOnPolicy p s = policyTurned (if s.rdc.opMute then .mute else p) .policy s := if_neg h
  unfold PolicyHandedOn
  intro stands
  rw [hturn]
  cases hop : s.rdc.opMute with
  | true =>
    have hidle : policyTurned (if true = true then .mute else p) .policy s = s := by
      rw [policyTurned, if_pos]
      rw [State.effectivePolicy, hop]
      rfl
    exact ⟨fun _ => hidle, fun hn => absurd (.inl hop) hn⟩
  | false =>
    have hnow : s.effectivePolicy = s.policyInForce := by
      rw [State.effectivePolicy, hop]
      exact if_neg Bool.false_ne_true
    have hstands : stands ↔ (silencing s.rdc.radio = true ↔ s.policyInForce = .mute) := by
      simp [stands, hop]
    rw [hstands, if_neg Bool.false_ne_true, policyTurned, hnow, if_neg h]
    cases s.policyInForce <;> cases s.rdc.radio <;> simp [silencing]

theorem aired_handOnPolicy {p : Policy} (h : s.rdc.probe = none ∨ s.policyInForce = p) : Aired s (handOnPolicy p s) := by
  by_cases hp : s.policyInForce = p
  · rw [handOnPolicy_same hp]
    exact .refl s
  · rw [handOnPolicy, if_neg hp]
    exact aired_policyTurned _ _ (h.resolve_right hp)

/-! ### Both -/

theorem handOnPermit_policy (m : LinkSet) (s : State) : (handOnPermit m s).policyInForce = s.policyInForce := by
  simp only [State.policyInForce, State.zoneInForce, State.zone, State.settings_eq, handOnPermit_zne,
    handOnPermit_rqp_settings]

/-- The hand-on, mask first and then the policy. -/
theorem handOn_rule (old : InForce) (s : State) : ∃ w, PermitHandedOn old.permit s.permitInForce s w ∧
    (s.policyInForce = old.policy → handOn old s = w) ∧
    (s.policyInForce ≠ old.policy → w.policyInForce = s.policyInForce ∧ PolicyHandedOn w (handOn old s)) := by
  have hpolicy := handOnPermit_policy old.permit s
  refine ⟨handOnPermit old.permit s, permitHandedOn_handOnPermit .., fun h => ?_, fun h => ⟨hpolicy, ?_⟩⟩
  · exact handOnPolicy_same (hpolicy.trans h)
  · exact policyHandedOn_handOnPolicy (by rwa [hpolicy])

/-- What the hand-on leaves alone, with no probe in flight or with the policy kept. -/
structure HandedOn (old : InForce) (s t : State) : Prop where
  told : Told s.rqp t
  routes : RoutesKept s t
  zne : t.zne = s.zne
  lmn : t.lmn = s.lmn
  base : t.base = s.base
  pending : t.pending = s.pending
  rte : s.permitInForce = old.permit → t.rte = s.rte
  rdc : s.policyInForce = old.policy → t.rdc = s.rdc
  lost : s.permitInForce ≠ old.permit → s.policyInForce = old.policy →
    ∀ u, UpToNotices u s → LinksLost (lostLinks old.permit s.permitInForce) u t
  quiet : s.permitInForce = old.permit → s.policyInForce = old.policy → t = s

theorem handOn_handedOn (h : s.rdc.probe = none ∨ s.policyInForce = old.policy) : HandedOn old s (handOn old s) := by
  have hpolicy := handOnPermit_policy old.permit s
  have hprobe : (handOnPermit old.permit s).rdc.probe = none ∨ (handOnPermit old.permit s).policyInForce = old.policy := by
    rwa [hpolicy, handOnPermit_rdc]
  have haired : Aired (handOnPermit old.permit s) (handOn old s) := aired_handOnPolicy hprobe
  have hsame (hp : s.policyInForce = old.policy) : handOn old s = handOnPermit old.permit s :=
    handOnPolicy_same (hpolicy.trans hp)
  refine ⟨(told_handOnPermit old.permit (told_self s)).trans haired.told, ?_, ?_, handOn_lmn .., handOn_base ..,
    handOn_pending .., fun hm => ?_, fun hp => ?_, fun hm hp u hu => ?_, fun hm hp => ?_⟩
  · exact (routesKept_handOnPermit _ _).trans (routesKept_of_rte (handOnPolicy_rte ..))
  · rw [haired.place.zne, handOnPermit_zne]
  · rw [handOn, handOnPolicy_rte, handOnPermit_same hm]
  · rw [hsame hp, handOnPermit_rdc]
  · rw [hsame hp]
    exact linksLost_handOnPermit hm hu
  · rw [hsame hp, handOnPermit_same hm]

end Sys2Proof.Machine
end

section
/-! PROOFS. O50: ZSET (R156, R157, chapter 7). -/

namespace Sys2Proof.Machine

variable {f : Frame} {s t u : State} {b : Byte} {i : Nat}

theorem policyOf_eq_none : policyOf b = none ↔ 1 < b.toNat := by
  unfold policyOf
  split
  next h => simp [h]
  next h => simp [h]
  next h0 h1 =>
    have hne : b.toNat ≠ 0 ∧ b.toNat ≠ 1 := ⟨h0, h1⟩
    exact ⟨fun _ => by omega, fun _ => rfl⟩

theorem tariffOf_of_toNat {z : TariffZone} (h : b.toNat = z.val) : tariffOf b = some z := by
  have hlt : b.toNat < 4 := h ▸ z.isLt
  rw [tariffOf, dif_pos hlt]
  exact congrArg some (Fin.ext h)

theorem linkSetOf_of_toNat {m : LinkSet} (h : b.toNat = m.toNat) : linkSetOf b = some m := by
  have hlt : b.toNat < 16 := h ▸ m.isLt
  rw [linkSetOf, if_pos hlt, h, BitVec.ofNat_toNat, BitVec.setWidth_eq]

theorem linkSetOf_eq_none : linkSetOf b = none ↔ 15 < b.toNat := by
  unfold linkSetOf
  split
  · exact ⟨nofun, fun h => by omega⟩
  · exact ⟨fun _ => by omega, fun _ => rfl⟩

/-- A ZONE notice comes before all that is handed on behind it. -/
theorem handOn_first {old : InForce} {k : NoticeKind} {x : Subject} {d v1 v2 v3 v4 v5 : Byte} {q : Rqp} (hq : u.rqp = q)
    (h : HandedOn old (giveNotice k x d v1 v2 v3 v4 v5 u) t) (hroom : q.notices.length < 128) :
    ∃ more, t.rqp.notices = q.notices ++ ⟨k, x, d, v1, v2, v3, v4, v5, q.shipTime⟩ :: more := by
  subst hq
  obtain ⟨more, hmore⟩ := h.told.behind
  refine ⟨more, ?_⟩
  rw [hmore, (gives_giveNotice k x d v1 v2 v3 v4 v5 u (by simpa using hroom)).1, List.append_assoc]
  rfl

theorem upTo_noticed (k : NoticeKind) (x : Subject) (d v1 v2 v3 v4 v5 : Byte) (u : State) :
    UpToNotices u (giveNotice k x d v1 v2 v3 v4 v5 u) := by
  unfold giveNotice
  split
  · exact ⟨_, u.rqp.overflow, rfl⟩
  · exact ⟨u.rqp.notices, true, rfl⟩

theorem policyInForce_noticed (k : NoticeKind) (x : Subject) (d v1 v2 v3 v4 v5 : Byte) (u : State) :
    (giveNotice k x d v1 v2 v3 v4 v5 u).policyInForce = u.policyInForce := by
  obtain ⟨n, o, h⟩ := upTo_noticed k x d v1 v2 v3 v4 v5 u
  rw [h]
  rfl

theorem permitInForce_noticed (k : NoticeKind) (x : Subject) (d v1 v2 v3 v4 v5 : Byte) (u : State) :
    (giveNotice k x d v1 v2 v3 v4 v5 u).permitInForce = u.permitInForce := by
  obtain ⟨n, o, h⟩ := upTo_noticed k x d v1 v2 v3 v4 v5 u
  rw [h]
  rfl

theorem portKept_of_told_noticed {k : NoticeKind} {x : Subject} {d v1 v2 v3 v4 v5 : Byte} {q : State} (hq : u.rqp = q.rqp)
    (h : Told (giveNotice k x d v1 v2 v3 v4 v5 u).rqp t) : PortKept q t := by
  have hgiven : Told q.rqp (giveNotice k x d v1 v2 v3 v4 v5 u) :=
    told_giveNotice _ _ _ _ _ _ _ _ (told_of_rqp hq (told_self q))
  exact (hgiven.trans h).portKept

/-- Settles O50. -/
theorem setZone : Obligations.SetZone := by
  intro f x s ht
  have hexec : exec (.zset f x) s = .next (deliver kZset f.tag (doZset x (arrive f s))) := exec_taken rfl ht
  refine ⟨fun hbad => ?_, fun policy tariff permit hzone hpolicy htariff hpermit => ?_⟩
  · have hdone : doZset x (arrive f s) = reply .badArg (arrive f s) := by
      rw [← policyOf_eq_none, ← tariffOf_eq_none, ← linkSetOf_eq_none] at hbad
      unfold doZset
      split
      next hp htr hpm =>
        refine if_pos ?_
        simpa [hp, htr, hpm] using hbad
      next => rfl
    rw [hexec, hdone]
    rfl
  · intro i last w code a u hprobe
    have hold : a.inForce = s.inForce := by
      have hzne : a.zne = s.zne := arrive_zne ..
      have hset : a.settings = s.settings := arrive_settings ..
      simp only [State.inForce, State.policyInForce, State.tariffInForce, State.permitInForce, State.zoneInForce, State.zone,
        hzne, hset]
    let kept := last ∨ (w.radius = x.radius.toNat ∧ w.entry = x.entry.toNat)
    have hzoned : zoneOf (s.zone i) x policy tariff permit = (w, !decide kept) := by
      by_cases h31 : last
      · have hkept : kept := .inl h31
        have hw : w = { s.zone i with policy := policy, tariff := tariff, permit := permit } := by
          rw [show i = 31 from h31]
          exact if_pos h31
        rw [decide_eq_true hkept, hw, zoneOf]
        exact if_pos h31
      · have hw : w = ⟨x.enable[0], x.east.toInt, x.north.toInt, min 1048575 x.radius.toNat, x.hysteresis.toNat, policy,
            tariff, permit, max 1 (min 8 x.entry.toNat)⟩ := if_neg h31
        have hkept : (!decide kept) = (decide (min 1048575 x.radius.toNat ≠ x.radius.toNat) ||
            decide (max 1 (min 8 x.entry.toNat) ≠ x.entry.toNat)) := by
          rw [← decide_not]
          simp only [kept, h31, false_or, hw, not_and_or, Bool.decide_or, ne_eq]
        rw [hkept, hw, zoneOf]
        refine (if_neg h31).trans ?_
        simp only [clampNat, Nat.zero_max]
        rfl
    have hza : a.zne = s.zne := arrive_zne f s
    have hsettings : u.settings = s.settings := arrive_settings f s
    have hdone : doZset x a = reply (okOrClamped (!decide kept)) (editInForce i s.inForce u) := by
      have hzone' : ¬ 31 < x.zone.toNat := not_lt.mpr hzone
      have haz : a.zone x.zone.toNat = s.zone i := arrive_zone ..
      simp only [doZset, hpolicy, tariffOf_of_toNat htariff, linkSetOf_of_toNat hpermit, if_neg hzone', haz]
      rw [show zoneOf (s.zone i) x policy tariff permit = _ from hzoned]
      simp only [writeZone, hold, hza]
      rfl
    have hanswer (t : State) : deliver kZset f.tag (reply (okOrClamped (!decide kept)) t) = pushAnswer 0x73 f.tag [code] t := by
      by_cases hk : kept
      · rw [decide_eq_true hk, show code = 0x00 from if_pos hk]
        rfl
      · rw [decide_eq_false hk, show code = 0x01 from if_neg hk]
        rfl
    have hother (hne : i ≠ s.zne.pos.zone) : u.inForce = s.inForce := by
      have hz : u.zone s.zne.pos.zone = s.zone s.zne.pos.zone := by
        have hset : u.zone s.zne.pos.zone = a.zone s.zne.pos.zone := tget_tset_other _ _ _ hne
        rw [hset]
        exact arrive_zone ..
      have hz' : u.zoneInForce = s.zoneInForce := hz
      have hpos : u.zne.pos.state = s.zne.pos.state := rfl
      simp only [State.inForce, State.policyInForce, State.tariffInForce, State.permitInForce, hz', hpos, hsettings]
    have huzne : (editInForce i s.inForce u).zne = u.zne ∧ (u.inForce ≠ s.inForce →
        HandedOn s.inForce (giveNotice .zone (.zone i) 3 0 0 0 0 u.valuesByte u) (editInForce i s.inForce u)) := by
      by_cases hne : u.inForce = s.inForce
      · exact ⟨congrArg State.zne (if_pos hne), fun h => absurd hne h⟩
      · have hedit : editInForce i s.inForce u = handOn s.inForce (giveNotice .zone (.zone i) 3 0 0 0 0 u.valuesByte u) :=
          if_neg hne
        have hquiet : (giveNotice .zone (.zone i) 3 0 0 0 0 u.valuesByte u).rdc.probe = none ∨
            (giveNotice .zone (.zone i) 3 0 0 0 0 u.valuesByte u).policyInForce = s.inForce.policy := by
          rw [policyInForce_noticed, giveNotice_rdc]
          refine hprobe.imp (fun h => ?_) fun h => ?_
          · rw [← h]
            exact congrArg Rdc.probe (arrive_rdc f s)
          · have hmute (t : State) (ht : t.zne.pos.state = .noFix) : t.policyInForce = .mute := by
              simp only [State.policyInForce, ht]
            rw [hmute u h]
            exact (hmute s h).symm
        have hhanded := handOn_handedOn hquiet
        rw [hedit]
        exact ⟨hhanded.zne.trans (giveNotice_zne ..), fun _ => hhanded⟩
    refine ⟨editInForce i s.inForce u, by rw [hexec, hdone, hanswer], huzne.1, fun h => if_pos h,
      fun h => if_pos (hother h), fun hne => ?_⟩
    have hhanded := huzne.2 hne
    have hpermitN : (giveNotice .zone (.zone i) 3 0 0 0 0 u.valuesByte u).permitInForce = u.permitInForce :=
      permitInForce_noticed ..
    have hpolicyN : (giveNotice .zone (.zone i) 3 0 0 0 0 u.valuesByte u).policyInForce = u.policyInForce :=
      policyInForce_noticed ..
    have hnotices : u.rqp.notices = s.rqp.notices := arrive_notices f s
    have htime : u.rqp.shipTime = s.rqp.shipTime := arrive_shipTime f s
    refine ⟨fun hroom => ?_, portKept_of_told_noticed (u := u) rfl hhanded.told, ?_, ?_, ?_, ?_, fun hm => ?_, fun hm hp => ?_,
      fun hm hp => ?_, ?_⟩
    · have hfirst := handOn_first (u := u) rfl hhanded (by rwa [hnotices])
      rwa [hnotices, htime] at hfirst
    · refine (routesKept_of_rte ?_).trans hhanded.routes
      rw [giveNotice_rte]
      exact arrive_rte f s
    · rw [hhanded.lmn, giveNotice_lmn]
      exact arrive_lmn f s
    · rw [hhanded.base, giveNotice_base]
      exact arrive_base f s
    · rw [hhanded.pending, giveNotice_pending]
      exact arrive_pending f s
    · rw [hhanded.rte (hpermitN.trans hm), giveNotice_rte]
      exact arrive_rte f s
    · have hlost := hhanded.lost (by rwa [hpermitN]) (hpolicyN.trans hp) u (upTo_noticed ..)
      rw [hpermitN] at hlost
      refine ⟨?_, hlost⟩
      rw [hhanded.rdc (hpolicyN.trans hp), giveNotice_rdc]
      exact arrive_rdc f s
    · rw [hhanded.quiet (hpermitN.trans hm) (hpolicyN.trans hp)]
      simp only [giveNotice_vrg, giveNotice_chu, giveNotice_qxu, giveNotice_rdc]
      exact ⟨arrive_vrg f s, arrive_chu f s, arrive_qxu f s, arrive_rdc f s⟩
    · obtain ⟨z, hz, hkept', hturned⟩ := handOn_rule s.inForce (giveNotice .zone (.zone i) 3 0 0 0 0 u.valuesByte u)
      rw [hpermitN] at hz
      rw [hpolicyN] at hkept' hturned
      have hedit : editInForce i s.inForce u = handOn s.inForce (giveNotice .zone (.zone i) 3 0 0 0 0 u.valuesByte u) :=
        if_neg hne
      rw [hedit]
      exact ⟨z, hz, hkept', hturned⟩

end Sys2Proof.Machine
end

section
/-! PROOFS. O49: the evaluation of the position (R152, R159–R164, chapter 7). -/

namespace Sys2Proof.Machine

variable {s t u : State} {k i : Nat} {x : Fix} {c : ChangeClass}

/-! ### The candidate and the values in force (R159, R160) -/

theorem candidateRule : Claims.CandidateRule := by
  intro x s reach inside
  have hreach (i : Nat) : ((s.testRadius i : Nat) : Int) = reach i := by
    simp only [State.testRadius, reach]
    by_cases h : s.zne.pos.zone = i ∧ s.zne.pos.state ≠ .noFix
    · rw [if_pos h, if_pos h.symm]
    · rw [if_neg h, if_neg (fun hn => h hn.symm), Nat.add_zero]
  have hpass (i : Nat) : s.zonePasses x i = true ↔ inside i := by
    simp only [State.zonePasses, Bool.and_eq_true, decide_eq_true_eq, hreach, inside, pow_two]
  refine ⟨fun k hk hin hlow => ?_, fun hnone => ?_⟩
  · have hfind : (List.range Config.defaultZone).find? (fun i => s.zonePasses x i) = some k := by
      rw [List.find?_range_eq_some]
      refine ⟨(hpass k).mpr hin, List.mem_range.mpr hk, fun j hj => ?_⟩
      rw [Bool.not_eq_true', ← Bool.not_eq_true, hpass]
      exact hlow j hj
    rw [State.candidateOf, hfind]
    rfl
  · have hfind : (List.range Config.defaultZone).find? (fun i => s.zonePasses x i) = none := by
      rw [List.find?_eq_none]
      intro k hk hp
      exact hnone k (List.mem_range.mp hk) ((hpass k).mp hp)
    rw [State.candidateOf, hfind]
    rfl

theorem valuesInForce : Claims.ValuesInForce := by
  intro s z
  refine ⟨rfl, rfl, fun h => ?_, fun h h' => ?_, fun h h' => ?_, fun h => ?_⟩
  · simp only [State.policyInForce, h]
  · simp only [State.policyInForce, h, h']
  · simp only [State.policyInForce, h, h']
    rfl
  · simp only [State.policyInForce, h]
    rfl

/-! ### The taking of a fix (R152, R161–R163) -/

theorem classify_mute (h : s.policyInForce = .serve) (h' : (s.zone k).policy = .mute) : s.classify k = .mute := by
  simp only [State.classify, h, h']

theorem classify_lift (h : s.policyInForce = .mute) (h' : (s.zone k).policy = .serve) : s.classify k = .lift := by
  simp only [State.classify, h, h']

theorem classify_kept (h : (s.zone k).policy = s.policyInForce) :
    s.classify k = if k = s.zne.pos.zone then .back else .other := by
  unfold State.classify
  split
  next h1 h2 => exact absurd (h2.symm.trans (h.trans h1)) nofun
  next h1 h2 => exact absurd (h2.symm.trans (h.trans h1)) nofun
  all_goals rfl

theorem cleanFix_iff : cleanFix x = true ↔ (∃ n, x.source = .nav n) ∧ x.noisy = false ∧ x.quality = 1 := by
  unfold cleanFix
  split
  next n h => simp [h]
  next h => simp [h]

/-- How a wanted change ends: whether it takes effect on this fix, and whether the fix counts (R162). -/
theorem wantChange_rule (k : Nat) (x : Fix) (s : State) :
    let before := s.policyInForce
    let after := (s.zone k).policy
    let lift := before = .mute ∧ after = .serve
    let clean := (∃ n, x.source = .nav n) ∧ x.noisy = false ∧ x.quality = 1
    let atOnce := (before = .serve ∧ after = .mute) ∨ (k = s.zne.pos.zone ∧ ¬ lift)
    let counts := ¬ atOnce ∧ (lift → clean)
    let done := atOnce ∨ (counts ∧ s.entryCount k ≤ s.zne.pos.confirm + 1)
    let code : Byte := if before = .serve ∧ after = .mute then 0 else if before = .mute ∧ after = .serve then 1
      else if k = s.zne.pos.zone then 2 else 3
    (¬ done → (counts → wantChange k x s = s.setPos { s.zne.pos with confirm := s.zne.pos.confirm + 1 }) ∧
      (¬ counts → wantChange k x s = s)) ∧
    (done → ∃ c, changeClassByte c = code ∧ wantChange k x s = takeEffect k c s) := by
  intro before after lift clean atOnce counts done code
  have hcounted (c : ChangeClass) (hat : ¬ atOnce) (hwant : wantChange k x s = countFix k c s) (hcode : changeClassByte c = code)
      (hlift : lift → clean) :
      (¬ done → (counts → wantChange k x s = s.setPos { s.zne.pos with confirm := s.zne.pos.confirm + 1 }) ∧
        (¬ counts → wantChange k x s = s)) ∧
      (done → ∃ c, changeClassByte c = code ∧ wantChange k x s = takeEffect k c s) := by
    have hcounts : counts := ⟨hat, hlift⟩
    refine ⟨fun hn => ⟨fun _ => ?_, fun hno => absurd hcounts hno⟩, fun hd => ⟨c, hcode, ?_⟩⟩
    · exact hwant.trans (if_neg fun hle => hn (.inr ⟨hcounts, hle⟩))
    · exact hwant.trans (if_pos (hd.resolve_left hat).2)
  have htaken (c : ChangeClass) (hat : atOnce) (hwant : wantChange k x s = takeEffect k c s) (hcode : changeClassByte c = code) :
      (¬ done → (counts → wantChange k x s = s.setPos { s.zne.pos with confirm := s.zne.pos.confirm + 1 }) ∧
        (¬ counts → wantChange k x s = s)) ∧
      (done → ∃ c, changeClassByte c = code ∧ wantChange k x s = takeEffect k c s) :=
    ⟨fun hn => absurd (.inl hat) hn, fun _ => ⟨c, hcode, hwant⟩⟩
  by_cases hmute : before = .serve ∧ after = .mute
  · refine htaken .mute (.inl hmute) ?_ (if_pos hmute).symm
    simp only [wantChange, classify_mute hmute.1 hmute.2]
  · by_cases hl : lift
    · have hat : ¬ atOnce := fun h => (h.resolve_left hmute).2 hl
      have hcode : changeClassByte .lift = code := ((if_neg hmute).trans (if_pos hl)).symm
      have hwant : wantChange k x s = if cleanFix x then countFix k .lift s else s := by
        simp only [wantChange, classify_lift hl.1 hl.2]
      by_cases hclean : cleanFix x = true
      · exact hcounted .lift hat (hwant.trans (if_pos hclean)) hcode fun _ => cleanFix_iff.mp hclean
      · have hno : ¬ counts := fun h => hclean (cleanFix_iff.mpr (h.2 hl))
        have hdone : ¬ done := fun h => hno (h.resolve_left hat).1
        exact ⟨fun _ => ⟨fun h => absurd h hno, fun _ => hwant.trans (if_neg hclean)⟩, fun h => absurd h hdone⟩
    · have hkept : after = before := by
        cases hb : before with
        | serve =>
          cases ha : after with
          | serve => rfl
          | mute => exact absurd ⟨hb, ha⟩ hmute
        | mute =>
          cases ha : after with
          | mute => rfl
          | serve => exact absurd ⟨hb, ha⟩ hl
      have hclass := classify_kept (s := s) (k := k) hkept
      have hcode : code = if k = s.zne.pos.zone then 2 else 3 := (if_neg hmute).trans (if_neg hl)
      by_cases hz : k = s.zne.pos.zone
      · rw [if_pos hz] at hclass hcode
        refine htaken .back (.inr ⟨hz, hl⟩) ?_ hcode.symm
        simp only [wantChange, hclass]
      · rw [if_neg hz] at hclass hcode
        refine hcounted .other (fun h => ?_) ?_ hcode.symm fun h => absurd h hl
        · exact hz (h.resolve_left hmute).1
        · simp only [wantChange, hclass]

theorem fixTaken : Claims.FixTaken := by
  intro s
  refine ⟨fun h => ?_, fun x rest h => ?_⟩
  · have hidle : takeFix s = s := by simp only [takeFix, h]
    exact congrArg Host.Outcome.next hidle
  intro p k seen leaves before after lift clean atOnce counts held needed done code
  let s1 := s.withZne { s.zne with fifo := rest }
  have hconfig (hm : s.rqp.mode = .config) : takeFix s = s1 := by simp only [takeFix, h, State.withZne_rqp, hm, s1]
  have hservice (hm : s.rqp.mode = .service) : takeFix s = evaluateFix x s1 := by simp only [takeFix, h, State.withZne_rqp, hm, s1]
  refine ⟨fun hm => congrArg Host.Outcome.next (hconfig hm), fun hm hst hk => ?_, fun hm hne => ?_⟩
  · have heval : evaluateFix x s1 = s.withZne { s.zne with fifo := rest, pos := { seen with candidate := none, confirm := 0 } } :=
      if_pos ⟨hst, hk⟩
    exact congrArg Host.Outcome.next ((hservice hm).trans heval)
  let base := s.withZne { s.zne with fifo := rest, pos := { seen with candidate := some k, confirm := held } }
  have heval : evaluateFix x s1 = wantChange k x base := by
    have hstart : (if p.candidate = some k then s.withZne { s.zne with fifo := rest, pos := seen }
        else s.withZne { s.zne with fifo := rest, pos := { seen with candidate := some k, confirm := 0 } }) = base := by
      by_cases hc : p.candidate = some k
      · have hseen : ({ seen with candidate := some k, confirm := held } : Position) = seen := by
          rw [show held = p.confirm from if_pos hc, ← hc]
        exact (if_pos hc).trans (congrArg (fun q => s.withZne { s.zne with fifo := rest, pos := q }) hseen.symm)
      · have hheld : held = 0 := if_neg hc
        exact (if_neg hc).trans (congrArg (fun m => s.withZne { s.zne with
          fifo := rest, pos := { seen with candidate := some k, confirm := m } }) hheld.symm)
    exact (if_neg hne).trans (congrArg (wantChange k x) hstart)
  obtain ⟨hnot, heffect⟩ := wantChange_rule k x base
  refine ⟨fun hd => ⟨fun hcounts => ?_, fun hcounts => ?_⟩, fun hd hprobe => ?_⟩
  · exact congrArg Host.Outcome.next ((hservice hm).trans (heval.trans ((hnot hd).1 hcounts)))
  · exact congrArg Host.Outcome.next ((hservice hm).trans (heval.trans ((hnot hd).2 hcounts)))
  obtain ⟨c, hc, htake⟩ := heffect hd
  have hcode : changeClassByte c = code := hc
  let z := s.withZne { s.zne with
    fifo := rest, pos := { seen with state := .fixed, zone := k, candidate := none, confirm := 0 } }
  let n := giveNotice .zone (.zone k) 1 (BitVec.ofNat 8 p.zone) (BitVec.ofNat 8 k) (positionByte p.state) code z.valuesByte z
  have hdone : takeFix s = handOn base.inForce n := by
    rw [hservice hm, heval, htake]
    simp only [n, ← hcode]
    rfl
  have hpolicyN : n.policyInForce = after := policyInForce_noticed ..
  have hpermitN : n.permitInForce = (s.zone k).permit := permitInForce_noticed ..
  have hhanded : HandedOn base.inForce n (handOn base.inForce n) := by
    refine handOn_handedOn (.inl ?_)
    rw [giveNotice_rdc]
    exact hprobe
  have hzne : (handOn base.inForce n).zne = z.zne := hhanded.zne.trans (giveNotice_zne ..)
  have hz : s.withZne (handOn base.inForce n).zne = z := by rw [hzne]; rfl
  refine ⟨_, congrArg Host.Outcome.next hdone, hzne, fun hroom => ?_, portKept_of_told_noticed (u := z) rfl hhanded.told,
    ?_, ?_, ?_, ?_, fun hp hmask => ?_, fun hp hmask => ?_, ?_⟩
  · exact handOn_first (u := z) rfl hhanded hroom
  · have hnoted : n.rte = s.rte := giveNotice_rte ..
    exact (routesKept_of_rte hnoted).trans hhanded.routes
  · rw [hhanded.lmn, giveNotice_lmn]
    rfl
  · rw [hhanded.base, giveNotice_base]
    rfl
  · rw [hhanded.pending, giveNotice_pending]
    rfl
  · have hlost := hhanded.lost (by rw [hpermitN]; exact hmask.symm) (hpolicyN.trans hp) z (upTo_noticed ..)
    rw [hpermitN] at hlost
    rw [hz]
    refine ⟨?_, hlost⟩
    rw [hhanded.rdc (hpolicyN.trans hp), giveNotice_rdc]
    rfl
  · rw [hhanded.quiet (hpermitN.trans hmask.symm) (hpolicyN.trans hp)]
    simp only [n, giveNotice_vrg, giveNotice_chu, giveNotice_qxu, giveNotice_rte, giveNotice_rdc]
    exact ⟨rfl, rfl, rfl, rfl, rfl⟩
  · obtain ⟨w, hw, hkept, hturned⟩ := handOn_rule base.inForce n
    rw [hpermitN] at hw
    rw [hpolicyN] at hkept hturned
    rw [hz]
    exact ⟨w, hw, hkept, hturned⟩

/-! ### The position stale timer (R164) -/

theorem positionStale : Claims.PositionStale := by
  intro s p q kept
  refine ⟨fun h => ?_, fun h hst => ?_, fun h hst hprobe => ?_⟩
  · have hidle : positionPasses s = s := if_pos (by simp [show s.zne.pos.stale = none from h])
    exact congrArg Host.Outcome.next hidle
  · have hpasses : positionPasses s = s.setPos q := by
      refine (if_neg (runs_not_absent h)).trans ?_
      dsimp only
      split
      next h' => exact absurd h' hst
      all_goals rfl
    exact congrArg Host.Outcome.next hpasses
  · let z := s.setPos { q with state := .stale }
    let n := giveNotice .zone (.zone p.zone) 2 0 0 0 0 z.valuesByte z
    have hold : s.policyInForce = (s.zone p.zone).policy := (valuesInForce s).2.2.2.2.2 hst
    have hnow : z.policyInForce = if kept then (s.zone p.zone).policy else .mute := by
      by_cases hk : kept
      · rw [if_pos hk]
        cases hsp : s.settings.stalePolicy with
        | mute =>
          have hm : (s.zone p.zone).policy = .mute := hk.resolve_left (by rw [hsp]; exact nofun)
          rw [hm]
          exact (valuesInForce z).2.2.2.1 rfl hsp
        | keep => exact (valuesInForce z).2.2.2.2.1 rfl hsp
      · rw [if_neg hk]
        have hsp : s.settings.stalePolicy = .mute := by
          cases hsp : s.settings.stalePolicy with
          | mute => rfl
          | keep => exact absurd (.inl hsp) hk
        exact (valuesInForce z).2.2.2.1 rfl hsp
    have hpasses : positionPasses s = handOnPolicy s.policyInForce n := by
      refine (if_neg (runs_not_absent h)).trans ?_
      dsimp only
      split
      · rfl
      next h' => exact absurd (hst.symm.trans h') nofun
      next h' => exact absurd (hst.symm.trans h') nofun
    have hn : n.policyInForce = z.policyInForce := policyInForce_noticed ..
    have haired : Aired n (handOnPolicy s.policyInForce n) := by
      refine aired_handOnPolicy (.inl ?_)
      rw [giveNotice_rdc]
      exact hprobe
    have hsame (hk : kept) : handOnPolicy s.policyInForce n = n :=
      handOnPolicy_same (by rw [hn, hnow, if_pos hk, hold])
    have hzne : (handOnPolicy s.policyInForce n).zne = z.zne := haired.place.zne.trans (giveNotice_zne ..)
    have hz : s.withZne (handOnPolicy s.policyInForce n).zne = z := by rw [hzne]; rfl
    refine ⟨_, congrArg Host.Outcome.next hpasses, hzne, fun hroom => ?_, portKept_of_told_noticed (u := z) rfl haired.told,
      ?_, ?_, ?_, ?_, fun hk => ?_, n, ?_, hsame, fun hk => ⟨?_, ?_⟩⟩
    · have hvalues : z.valuesByte = BitVec.ofNat 8 ((if kept then (policyByte (s.zone p.zone).policy).toNat else 1) * 128 +
          (s.zone p.zone).tariff.val * 16 + (s.zone p.zone).permit.toNat) := by
        have hbyte : (policyByte z.policyInForce).toNat = if kept then (policyByte (s.zone p.zone).policy).toNat else 1 := by
          rw [hnow]
          by_cases hk : kept
          · rw [if_pos hk, if_pos hk]
          · rw [if_neg hk, if_neg hk]
            rfl
        rw [← hbyte]
        rfl
      obtain ⟨more, hmore⟩ := haired.told.behind
      refine ⟨more, ?_⟩
      rw [hmore, (gives_giveNotice_of_rqp (s := s) (z := z) rfl .zone (.zone p.zone) 2 0 0 0 0 z.valuesByte
        (by simpa using hroom)).1, ← hvalues, List.append_assoc]
      rfl
    · rw [handOnPolicy_rte, giveNotice_rte]
      rfl
    · rw [handOnPolicy_lmn, giveNotice_lmn]
      rfl
    · rw [handOnPolicy_base, giveNotice_base]
      rfl
    · rw [handOnPolicy_pending, giveNotice_pending]
      rfl
    · rw [hsame hk]
      simp only [n, giveNotice_vrg, giveNotice_chu, giveNotice_qxu, giveNotice_rdc]
      exact ⟨rfl, rfl, rfl, rfl⟩
    · rw [hz]
    · rw [hn, hnow, if_neg hk]
    · refine policyHandedOn_handOnPolicy ?_
      rw [hn, hnow, if_neg hk, hold]
      exact fun hm => hk (.inr hm.symm)

/-- Settles O49. -/
theorem zoneEvaluation : Obligations.ZoneEvaluation := ⟨candidateRule, valuesInForce, fixTaken, positionStale⟩

end Sys2Proof.Machine
end

section
/-! PROOFS. O37: STOP (R165, R188, R203, chapter 9). -/

namespace Sys2Proof.Machine

variable {f : Frame} {s t u : State} {i : Nat}

/-! ### The radio controller with nobody aboard -/

/-- Every visitor entry is FREE. -/
def Empty (s : State) : Prop := ∀ i, s.visitor i = none

theorem Empty.of_vrg (h : Empty s) (hv : t.vrg = s.vrg) : Empty t := by
  intro i
  rw [← h i, State.visitor, State.slot, hv]
  rfl

theorem foldl_fixed {α β : Type} {g : β → α → β} {b : β} (xs : List α) (h : ∀ x, g b x = b) : xs.foldl g b = b := by
  induction xs with
  | nil => rfl
  | cons x xs ih => rw [List.foldl_cons, h, ih]

theorem suspendUnit_empty (u : Nat) (h : Empty s) : suspendUnit u s = (s, 0) :=
  foldl_fixed _ fun i => by simp only [h i]

theorem startOfMuting_empty (h : Empty s) : startOfMuting s = (s, 0, 0) :=
  foldl_fixed _ fun i => by simp only [h i, Option.map_none]

theorem changeUnit_vrg_empty (u : Nat) (new : UnitState) (cause : UnitCause) (h : Empty s) :
    (changeUnit u new cause s).vrg = s.vrg := by
  have hsuspend : suspendUnit u (s.setUnit u { s.unit u with state := new }) =
      (s.setUnit u { s.unit u with state := new }, 0) := suspendUnit_empty u h
  unfold changeUnit
  dsimp only
  split
  · rfl
  · rw [giveNotice_vrg, hsuspend]
    repeat' split
    all_goals simp

theorem commandNoackRule_vrg_empty (u : Nat) (m : Mark) (h : Empty s) : (commandNoackRule u m s).vrg = s.vrg := by
  unfold commandNoackRule
  dsimp only
  split
  · rfl
  · split
    · exact setMark_vrg ..
    · rw [setMark_vrg, changeUnit_vrg_empty _ _ _ h]

theorem pollNoackRule_vrg_empty (u : Nat) (h : Empty s) : (pollNoackRule u s).vrg = s.vrg := by
  unfold pollNoackRule
  dsimp only
  split
  · split
    · exact changeUnit_vrg_empty _ _ _ h
    · rfl
  · split
    · exact changeUnit_vrg_empty _ _ _ h
    · rfl
  all_goals rfl

theorem noackRule_vrg_empty (u : Nat) (m : Mark) (f : BusFailure) (h : Empty s) : (noackRule u m f s).vrg = s.vrg := by
  unfold noackRule
  dsimp only
  rw [endCheck_vrg]
  split
  · exact pollNoackRule_vrg_empty _ h
  all_goals exact commandNoackRule_vrg_empty _ _ h

theorem arbitrate_vrg_empty (fuel : Nat) (h : Empty s) : (arbitrate fuel s).vrg = s.vrg := by
  induction fuel generalizing s with
  | zero => rfl
  | succ fuel ih =>
    unfold arbitrate
    dsimp only
    split
    · rfl
    · split
      next i m _ =>
        have hcheck : (busCheck (setMark i none s)).2.vrg = s.vrg := by rw [busCheck_vrg, setMark_vrg]
        split
        · exact hcheck
        · have hrule := noackRule_vrg_empty i m .bus (h.of_vrg hcheck)
          rw [ih (h.of_vrg (hrule.trans hcheck)), hrule, hcheck]
      next => rfl

theorem settleBus_vrg_empty (h : Empty s) : (settleBus s).vrg = s.vrg := by
  rw [settleBus, endProbe_vrg, arbitrate_vrg_empty _ h]

theorem beginMuting_empty (cause : PolicyCause) (h : Empty s) : (beginMuting cause s).vrg = s.vrg ∧
    (beginMuting cause s).chu = s.chu ∧ (beginMuting cause s).qxu = s.qxu := by
  have hstart := startOfMuting_empty (s := s.withRdc { s.rdc with radio := .muting }) h
  have hfold (x : State) : (unitKeys.foldl (fun s u => muteMarks u s) x).vrg = x.vrg ∧
      (unitKeys.foldl (fun s u => muteMarks u s) x).chu = x.chu ∧ (unitKeys.foldl (fun s u => muteMarks u s) x).qxu = x.qxu :=
    ⟨foldl_keeps State.vrg _ (fun s u => muteMarks_vrg u s) _ _, foldl_keeps State.chu _ (fun s u => muteMarks_chu u s) _ _,
      foldl_keeps State.qxu _ (fun s u => muteMarks_qxu u s) _ _⟩
  unfold beginMuting
  dsimp only
  rw [hstart]
  dsimp only
  generalize hx : radioNotice 1 _ _ _ _ _ _ = x
  have hx' : x.vrg = s.vrg ∧ x.chu = s.chu ∧ x.qxu = s.qxu := by
    rw [← hx]
    simp
  obtain ⟨h1, h2, h3⟩ := hfold x
  generalize unitKeys.foldl (fun s u => muteMarks u s) x = y at h1 h2 h3 ⊢
  rw [endCheck_vrg, endCheck_chu, endCheck_qxu]
  simp only [State.withRdc_vrg, State.withRdc_chu, State.withRdc_qxu]
  split <;> simp only [assertRfoff_vrg, assertRfoff_chu, assertRfoff_qxu, h1, h2, h3, hx', and_self]

/-! ### The exchanges with an empty table -/

theorem linksLeave_empty (lost : Link → Bool) (h : ∀ j, (s.entry j).ex = none) : linksLeave lost s = s := by
  rw [linksLeave_eq]
  exact foldl_loseEntry_of_not fun i _ => by rw [onLost, h i]; rfl

theorem visitorsKept_handOnPermit (m : LinkSet) (h : ∀ j, (s.entry j).ex = none) : VisitorsKept s (handOnPermit m s) := by
  by_cases hm : s.permitInForce = m
  · rw [handOnPermit_same hm]
    exact ⟨rfl, rfl, rfl⟩
  · rw [handOnPermit_changed hm, permitTold]
    rw [linksLeave_empty _ h]
    split
    · refine ⟨by simp, by simp, ?_⟩
      rw [reselectAll_qxu, giveOwed_qxu]
    · refine ⟨by simp, by simp, by simp⟩

/-! ### STOP -/

theorem registerEmpty_of (hc : canonical slotReset s.vrg.slots = true) (h : Empty s) : s.registerEmpty = true := by
  rw [State.registerEmpty, List.all_eq_true]
  rintro ⟨i, e⟩ he
  rw [Option.isNone_iff_eq_none, ← h i, State.visitor, State.slot, tget_of_mem hc he]

theorem not_registerEmpty (h : (s.visitor i).isSome = true) : s.registerEmpty = false := by
  rw [← Bool.not_eq_true, State.registerEmpty, List.all_eq_true]
  intro hall
  have hne : tget slotReset s.vrg.slots i ≠ slotReset := fun he => by
    rw [State.visitor, State.slot, he] at h
    exact nomatch h
  have hnone : (s.visitor i).isNone = true := hall _ (mem_of_tget_ne hne)
  exact runs_not_absent h hnone

theorem not_tableEmpty (h : (s.entry i).ex.isSome = true) : s.tableEmpty = false := by
  rw [← Bool.not_eq_true, State.tableEmpty, List.all_eq_true]
  intro hall
  have hne : tget xentryReset s.qxu.entries i ≠ xentryReset := fun he => by
    rw [State.entry, he] at h
    exact nomatch h
  have hnone : (s.entry i).ex.isNone = true := hall _ (mem_of_tget_ne hne)
  exact runs_not_absent h hnone

theorem tableEmpty_of (hc : canonical xentryReset s.qxu.entries = true) (h : ∀ j, (s.entry j).ex = none) :
    s.tableEmpty = true := by
  rw [State.tableEmpty, List.all_eq_true]
  rintro ⟨i, e⟩ he
  rw [Option.isNone_iff_eq_none, ← h i, State.entry, tget_of_mem hc he]

theorem obeys_arrive {f : Frame} (h : Obeys none s) : Obeys none (arrive f s) :=
  h.of_rdc ⟨arrive_mode f s, arrive_settings f s, arrive_zne f s, by rw [arrive_rdc], by rw [arrive_rdc]⟩ (arrive_rdc f s)

/-- The position as STOP sets it back, with its notice where there was a position (R165). -/
def stopTold (p : Position) (z : State) : State :=
  if p.state = .noFix then z
  else giveNotice .zone (.zone 31) 1 (BitVec.ofNat 8 p.zone) 31 (positionByte p.state) 4 z.valuesByte z

theorem stopTold_upTo (p : Position) (z : State) : UpToNotices z (stopTold p z) := by
  unfold stopTold
  split
  · exact .refl z
  · exact upTo_noticed ..

theorem told_stopTold {q : Rqp} (p : Position) (h : Told q s) : Told q (stopTold p s) := by
  unfold stopTold
  split
  · exact h
  · exact told_giveNotice _ _ _ _ _ _ _ _ h

theorem stopPosition_eq (s : State) :
    stopPosition s = handOn s.inForce (stopTold s.zne.pos (s.setPos positionReset)) := by
  have htold : (if s.zne.pos.state = .noFix then s.setPos positionReset
      else changedNotice s.zne.pos.zone s.zne.pos.state .stop (s.setPos positionReset)) =
      stopTold s.zne.pos (s.setPos positionReset) := by
    unfold stopTold
    split <;> rfl
  exact congrArg (handOn s.inForce) htold

/-- How STOP leaves service, from a state whose mode is CONFIG already. -/
theorem leaveService_eq (s : State) :
    let z := (s.withRqp { s.rqp with mode := .config }).setPos positionReset
    let w := handOn s.inForce (stopTold s.zne.pos z)
    leaveService s = w.withRdc { w.rdc with rfoff := true, poll := none } := by
  intro z w
  have hstop : stopPosition (s.withRqp { s.rqp with mode := .config }) = w := stopPosition_eq _
  unfold leaveService
  rw [hstop]
  clear_value w
  rfl

/-- What the policy of STOP, which is MUTE, does behind the changed mask (R175, R188). -/
theorem stop_turns {w : State} (hs : Obeys none s) (hrdc : u.rdc = s.rdc) (hpolicy : u.policyInForce = .mute)
    (hw : w = handOnPolicy s.policyInForce u) :
    (silencing s.rdc.radio = true → w = u) ∧ (silencing s.rdc.radio = false → w = settleBus (beginMuting .policy u)) := by
  subst hw
  have hturned : silencing s.rdc.radio = true ↔ s.effectivePolicy = .mute := hs.fits.turned
  cases hp : s.policyInForce with
  | mute =>
    have hmute : s.effectivePolicy = .mute := by
      rw [State.effectivePolicy, hp]
      split <;> rfl
    refine ⟨fun _ => handOnPolicy_same hpolicy, fun h => ?_⟩
    rw [hturned.mpr hmute] at h
    exact nomatch h
  | serve =>
    have hne : u.policyInForce ≠ .serve := by
      rw [hpolicy]
      exact nofun
    obtain ⟨hstands, hturns⟩ := policyHandedOn_handOnPolicy hne
    rw [hrdc, hpolicy] at hstands
    rw [hrdc, hpolicy] at hturns
    refine ⟨fun h => hstands (.inr (by simp [h])), fun h => hturns ?_⟩
    rintro (hop | hsil)
    · have hmute : s.effectivePolicy = .mute := if_pos hop
      rw [hturned.mpr hmute] at h
      exact nomatch h
    · rw [h] at hsil
      exact nomatch hsil.mpr rfl

/-- What the hand-on at STOP leaves alone, with nobody aboard and no exchange in the table. -/
theorem stop_kept {w : State} (hu : Empty u) (hw : w = u ∨ w = settleBus (beginMuting .policy u))
    (hprobe : u.rdc.probe = none) : w.vrg = u.vrg ∧ w.chu = u.chu ∧ w.qxu = u.qxu ∧ w.rdc.opMute = u.rdc.opMute := by
  rcases hw with hw | hw
  · rw [hw]
    exact ⟨rfl, rfl, rfl, rfl⟩
  · obtain ⟨hvrg, hchu, hqxu⟩ := beginMuting_empty .policy hu
    have hbegun := aired_beginMuting .policy u
    generalize beginMuting .policy u = m at hw hvrg hchu hqxu hbegun
    have hsettled := aired_settleBus (hbegun.place.probe.trans hprobe)
    rw [← hw] at hsettled
    refine ⟨?_, ?_, ?_, hsettled.place.opMute.trans hbegun.place.opMute⟩
    · rw [hw, settleBus_vrg_empty (hu.of_vrg hvrg), hvrg]
    · rw [hw, settleBus_chu, hchu]
    · rw [hw, settleBus_qxu, hqxu]

/-- Settles O37. -/
theorem leaveService_settled : Obligations.LeaveService := by
  intro f s ht hmode
  have hexec : exec (.stop f) s = .next (deliver kStop f.tag (doStop (arrive f s))) := exec_taken rfl ht
  have hservice : ¬ (arrive f s).rqp.mode = .config := by
    rw [arrive_mode, hmode]
    exact nofun
  refine ⟨fun hbusy => ?_, fun hcanon hsafe hempty hfree => ?_⟩
  · have hrefused : doStop (arrive f s) = reply .state (arrive f s) := by
      refine (if_neg hservice).trans (if_pos ?_)
      rcases hbusy with ⟨i, hi⟩ | ⟨j, hj⟩
      · rw [not_registerEmpty (i := i) (by rwa [arrive_visitor])]
        rfl
      · rw [not_tableEmpty (i := j) (by rwa [arrive_entry])]
        exact Bool.or_true _
    rw [hexec, hrefused]
    rfl
  · let a := arrive f s
    let b := a.withRqp { a.rqp with mode := .config }
    let z := b.setPos positionReset
    let n := stopTold s.zne.pos z
    let w := handOn s.inForce n
    obtain ⟨-, hslots, -, -, -, hentries, -⟩ := hcanon
    have hzne : a.zne = s.zne := arrive_zne f s
    have hrdc : a.rdc = s.rdc := arrive_rdc f s
    have hinForce : a.inForce = s.inForce := by
      have hset : a.settings = s.settings := arrive_settings f s
      simp only [State.inForce, State.policyInForce, State.tariffInForce, State.permitInForce, State.zoneInForce, State.zone,
        hzne, hset]
    have hleave : leaveService a = w.withRdc { w.rdc with rfoff := true, poll := none } := by
      rw [leaveService_eq]
      simp only [w, n, z, b, hzne, hinForce]
    have haEmpty : Empty a := fun i => (arrive_visitor f s i).trans (hempty i)
    have haFree (j : Nat) : (a.entry j).ex = none := (congrArg XEntry.ex (arrive_entry f s j)).trans (hfree j)
    have hdone : doStop a = reply .ok (leaveService a) := by
      refine (if_neg hservice).trans (if_neg ?_)
      rw [registerEmpty_of (by rw [arrive_vrg]; exact hslots) haEmpty,
        tableEmpty_of (by rw [arrive_qxu]; exact hentries) haFree]
      exact Bool.false_ne_true
    have hobeys : Obeys none s := obeys_iff.mpr hsafe
    have hprobe : s.rdc.probe = none := by
      cases hp : s.rdc.probe with
      | none => rfl
      | some r =>
        have hc := hobeys.placed.probing (by rw [hp]; rfl)
        rw [hmode] at hc
        exact nomatch hc
    obtain ⟨heardN, heardO, hn⟩ : UpToNotices z n := stopTold_upTo ..
    have hnrdc : n.rdc = s.rdc := by rw [hn]; exact hrdc
    have hnzne : n.zne = { s.zne with pos := positionReset } := by rw [hn, ← hzne]; rfl
    have hnpolicy : n.policyInForce = .mute := by rw [hn]; rfl
    have hnpermit : n.permitInForce = (s.zone 31).permit := by
      rw [hn, ← arrive_zone f s 31]
      rfl
    have hnprobe : n.rdc.probe = none := by rw [hnrdc, hprobe]
    have hhanded : HandedOn s.inForce n w := handOn_handedOn (.inl hnprobe)
    have hnTold : Told b.rqp n := told_stopTold _ (told_of_rqp (s := b) (t := z) rfl (told_self b))
    have htold : Told b.rqp w := hnTold.trans hhanded.told
    have hwzne : w.zne = { s.zne with pos := positionReset } := hhanded.zne.trans hnzne
    let u := handOnPermit s.permitInForce n
    have hurdc : u.rdc = s.rdc := (handOnPermit_rdc ..).trans hnrdc
    have hupolicy : u.policyInForce = .mute := (handOnPermit_policy ..).trans hnpolicy
    obtain ⟨hstay, hturn⟩ := stop_turns (w := w) hobeys hurdc hupolicy rfl
    have hnfree (j : Nat) : (n.entry j).ex = none := by rw [hn]; exact haFree j
    have hnEmpty : Empty n := by rw [hn]; exact haEmpty
    obtain ⟨huvrg, huchu, huqxu⟩ : VisitorsKept n u := visitorsKept_handOnPermit _ hnfree
    have hwu : w = u ∨ w = settleBus (beginMuting .policy u) := by
      cases hsil : silencing s.rdc.radio with
      | true => exact .inl (hstay hsil)
      | false => exact .inr (hturn hsil)
    obtain ⟨hwvrg, hwchu, hwqxu, hwop⟩ := stop_kept (hnEmpty.of_vrg huvrg) hwu (by rw [hurdc, hprobe])
    have hpermit : PermitHandedOn s.permitInForce (s.zone 31).permit n u := by
      rw [← hnpermit]
      exact permitHandedOn_handOnPermit ..
    have hnoted : n = if s.zne.pos.state = .noFix then z else giveNotice .zone (.zone 31) 1 (BitVec.ofNat 8 s.zne.pos.zone)
      31 (positionByte s.zne.pos.state) 4 z.valuesByte z := rfl
    clear_value w u
    clear_value n
    let t := w.withRdc { w.rdc with rfoff := true, poll := none }
    have hleft : leaveService a = t := hleave
    have hobeysT : Obeys none t := by
      rw [← hleft]
      exact obeys_leaveService ((arrive_mode f s).trans hmode) (obeys_arrive hobeys)
    have hnote : n.vrg = s.vrg ∧ n.chu = s.chu ∧ n.qxu = s.qxu ∧ n.lmn = s.lmn ∧ n.rte = s.rte ∧ n.base = s.base ∧
        n.pending = s.pending := by
      rw [hn]
      exact ⟨arrive_vrg f s, arrive_chu f s, arrive_qxu f s, arrive_lmn f s, arrive_rte f s, arrive_base f s,
        arrive_pending f s⟩
    obtain ⟨hnvrg, hnchu, hnqxu, hnlmn, hnrte, hnbase, hnpending⟩ := hnote
    have hz : b.withZne t.zne = z := by
      have htz : t.zne = z.zne := by
        rw [show t.zne = w.zne from rfl, hwzne, ← hzne]
        rfl
      rw [htz]
      rfl
    refine ⟨t, by rw [hexec, hdone, hleave]; rfl, ?_, hwzne, rfl, rfl, ?_, ?_, fun hsil => ?_, fun hst hroom => ?_,
      htold.kept, ⟨?_, ?_, ?_⟩, ?_, ?_, ?_, ?_, u, w, ?_, hstay, hturn, rfl⟩
    · exact congrArg Rqp.mode htold.kept
    · exact hwop.trans (congrArg Rdc.opMute hurdc)
    · refine hobeysT.fits.turned.mpr ?_
      have hpos : t.policyInForce = .mute := by
        have hst : t.zne.pos.state = .noFix := congrArg (fun z : Zne => z.pos.state) hwzne
        simp only [State.policyInForce, hst]
      rw [State.effectivePolicy, hpos]
      split <;> rfl
    · have hwrdc : w.rdc = s.rdc := by rw [hstay hsil, hurdc]
      rw [show t.rdc = { w.rdc with rfoff := true, poll := none } from rfl, hwrdc]
    · have hbehind := hhanded
      rw [hnoted, if_neg hst] at hbehind
      have hvalues : z.valuesByte = BitVec.ofNat 8 (128 + (s.zone 31).tariff.val * 16 + (s.zone 31).permit.toNat) := by
        rw [← arrive_zone f s 31]
        rfl
      have hnotices : z.rqp.notices = s.rqp.notices := arrive_notices f s
      have htime : z.rqp.shipTime = s.rqp.shipTime := arrive_shipTime f s
      have hfirst := handOn_first (u := z) rfl hbehind (by rwa [hnotices])
      rwa [hnotices, htime, hvalues] at hfirst
    · exact hwvrg.trans (huvrg.trans hnvrg)
    · exact hwchu.trans (huchu.trans hnchu)
    · rw [show t.qxu = w.qxu from rfl, hwqxu, huqxu, hnqxu]
    · exact hhanded.lmn.trans hnlmn
    · exact (routesKept_of_rte hnrte).trans (hhanded.routes.trans (routesKept_of_rte rfl))
    · exact hhanded.base.trans hnbase
    · exact hhanded.pending.trans hnpending
    · rw [hnoted] at hpermit
      rw [show (((arrive f s).withRqp { (arrive f s).rqp with mode := .config }).withZne t.zne) = z from hz]
      exact hpermit

end Sys2Proof.Machine
end

section
/-! PROOFS. O55: the wires of the cell bus and the completions of its transactions (R168, R173, R174, R184, R185). -/

namespace Sys2Proof.Machine

variable {s : State} {u a : Nat}

/-! ### The wires (R168, R230) -/

/-- A byte on the wires: 8 bits, the most significant first, and the pulse of the acknowledgement. -/
def bytePulses (n : Nat) : List BusSymbol :=
  ((List.range 8).map fun k => BusSymbol.pulse (n.testBit (7 - k))) ++ [.pulse true]

theorem sentPulses_ofNat (n : Nat) : sentPulses (BitVec.ofNat 8 n) = bytePulses n := by
  simp only [sentPulses, bitPulses, bytePulses, BitVec.getLsbD_ofNat, List.range_succ_eq_map, List.range_zero]
  simp

theorem busBytes_identify (u : Nat) :
    busBytes u .identify = [BitVec.ofNat 8 (2 * u), BitVec.ofNat 8 0x10, BitVec.ofNat 8 0] := by
  rw [busBytes, Nat.mul_comm]
  rfl

theorem busBytes_mute (u a : Nat) :
    busBytes u (.mute a) = [BitVec.ofNat 8 (2 * u), BitVec.ofNat 8 0x20, BitVec.ofNat 8 0] := by
  rw [busBytes, Nat.mul_comm]
  rfl

theorem busBytes_unmute (u a : Nat) :
    busBytes u (.unmute a) = [BitVec.ofNat 8 (2 * u), BitVec.ofNat 8 0x21, BitVec.ofNat 8 1] := by
  rw [busBytes, Nat.mul_comm]
  rfl

theorem busBytes_poll (u : Nat) : busBytes u .poll = [BitVec.ofNat 8 (2 * u + 1), BitVec.ofNat 8 0x30] := by
  rw [busBytes, Nat.mul_comm]
  rfl

/-- What the part drives for a mark that sends three bytes and reads none. -/
theorem wires_of_three {m : Mark} {b command argument : Nat}
    (hbytes : busBytes u m = [BitVec.ofNat 8 b, BitVec.ofNat 8 command, BitVec.ofNat 8 argument])
    (hstatus : statusPulses m = []) :
    let whole := [.start] ++ bytePulses b ++ bytePulses command ++ bytePulses argument ++ [.stop]
    wholeTransaction u m = whole ∧ failedTransaction u m .argument = whole ∧
      failedTransaction u m .address = [.start] ++ bytePulses b ++ [.stop] ∧
      failedTransaction u m .command = [.start] ++ bytePulses b ++ bytePulses command ++ [.stop] := by
  simp [wholeTransaction, failedTransaction, hbytes, hstatus, sentPulses_ofNat]

theorem wires_settled : Claims.Wires := by
  intro u _ a
  refine ⟨wires_of_three (busBytes_identify u) rfl, wires_of_three (busBytes_mute u a) rfl,
    wires_of_three (busBytes_unmute u a) rfl, ?_⟩
  have hwhole : wholeTransaction u .poll = [.start] ++ bytePulses (2 * u + 1) ++ bytePulses 0x30 ++
      List.replicate 8 (.pulse true) ++ [.pulse false] ++ List.replicate 9 (.pulse true) ++ [.stop] := by
    rw [wholeTransaction, busBytes_poll]
    simp [sentPulses_ofNat, statusPulses, receivedPulses, List.replicate]
  refine ⟨hwhole, hwhole, ?_, ?_⟩
  · rw [failedTransaction, busBytes_poll]
    simp [sentPulses_ofNat, bytePulses]
  · rw [failedTransaction, busBytes_poll]
    simp [sentPulses_ofNat, bytePulses]

/-! ### Which rule a completion runs -/

theorem completionRules_settled : Claims.CompletionRules := by
  intro wire failure first second s
  refine ⟨fun u m hbus hpoll => ?_, fun u hbus => ?_, fun hbus => ?_⟩
  · have hanswered : busAnswered wire s = completeBus (wholeTransaction u m) wire (commandAnsweredRule u m) s := by
      cases m with
      | poll => exact absurd rfl hpoll
      | identify | mute | unmute => simp only [busAnswered, hbus]
    have hnoack : busNoack failure wire s = completeBus (failedTransaction u m failure) wire (noackRule u m failure) s := by
      cases m with
      | poll => exact absurd rfl hpoll
      | identify | mute | unmute => simp only [busNoack, hbus]
    have hpolled : pollDone first second wire s = s := by
      cases m with
      | poll => exact absurd rfl hpoll
      | identify | mute | unmute => simp only [pollDone, hbus]
    have hfailed : pollFailed failure wire s = s := by
      cases m with
      | poll => exact absurd rfl hpoll
      | identify | mute | unmute => simp only [pollFailed, hbus]
    exact ⟨congrArg Host.Outcome.next hanswered, congrArg Host.Outcome.next hnoack, congrArg Host.Outcome.next hpolled,
      congrArg Host.Outcome.next hfailed⟩
  · refine ⟨fun h => congrArg Host.Outcome.next ?_, fun h => congrArg Host.Outcome.next ?_, congrArg Host.Outcome.next ?_,
      congrArg Host.Outcome.next ?_, congrArg Host.Outcome.next ?_⟩
    · simp only [pollDone, hbus, if_pos h]
      rfl
    · simp only [pollDone, hbus, if_neg h]
      rfl
    · simp only [pollFailed, hbus]
      rfl
    · simp only [busAnswered, hbus]
    · simp only [busNoack, hbus]
  · refine ⟨congrArg Host.Outcome.next ?_, congrArg Host.Outcome.next ?_, congrArg Host.Outcome.next ?_,
      congrArg Host.Outcome.next ?_⟩
    · simp only [busAnswered, hbus]
    · simp only [busNoack, hbus]
    · simp only [pollDone, hbus]
    · simp only [pollFailed, hbus]

/-! ### A command that was answered (R173) -/

theorem effectivePolicy_setUnit (u : Nat) (v : UnitRec) (s : State) : (s.setUnit u v).effectivePolicy = s.effectivePolicy :=
  (aired_setUnit u v s).place.policy

theorem effectivePolicy_changeUnit (u : Nat) (new : UnitState) (cause : UnitCause) (s : State) :
    (changeUnit u new cause s).effectivePolicy = s.effectivePolicy :=
  (changeUnit_samePlace ..).policy

/-- What an answered command comes to, by its mark and the state of its unit, on the state with the miss count cleared. -/
theorem commandAnsweredRule_excluded (m : Mark) (h : (s.unit u).state = .excluded) :
    commandAnsweredRule u m s = s.setUnit u { s.unit u with misses := 0 } := by
  cases m <;> simp only [commandAnsweredRule, State.setUnit_unit_self, h]

theorem commandAnsweredRule_identify : commandAnsweredRule u .identify s =
    if (s.unit u).state = .absent then placeMark u (.mute 1) (s.setUnit u { s.unit u with misses := 0 })
    else s.setUnit u { s.unit u with misses := 0 } := by
  cases h : (s.unit u).state <;> simp [commandAnsweredRule, h, firstMute]

theorem commandAnsweredRule_mute (hex : (s.unit u).state ≠ .excluded) (hfaulty : (s.unit u).state ≠ .faulty) :
    commandAnsweredRule u (.mute a) s = (if s.effectivePolicy = .serve then placeMark u (.unmute 1) else id)
      (changeUnit u .muted .muteAck (s.setUnit u { s.unit u with misses := 0 })) := by
  cases h : (s.unit u).state
  case excluded => exact absurd h hex
  case faulty => exact absurd h hfaulty
  all_goals
    simp only [commandAnsweredRule, State.setUnit_unit_self, h, effectivePolicy_changeUnit, effectivePolicy_setUnit]
    split <;> rfl

theorem commandAnsweredRule_unmute_placed (h : (s.unit u).state = .absent ∨ (s.unit u).state = .faulty) :
    commandAnsweredRule u (.unmute a) s = placeMark u (.mute 1) (s.setUnit u { s.unit u with misses := 0 }) := by
  rcases h with h | h <;> simp only [commandAnsweredRule, State.setUnit_unit_self, h, firstMute]

theorem commandAnsweredRule_unmute (hex : (s.unit u).state ≠ .excluded) (hfaulty : (s.unit u).state ≠ .faulty)
    (habsent : (s.unit u).state ≠ .absent) :
    commandAnsweredRule u (.unmute a) s = (if s.effectivePolicy = .mute then placeMark u (.mute 1) else id)
      (changeUnit u .serving .unmuteAck (s.setUnit u { s.unit u with misses := 0 })) := by
  cases h : (s.unit u).state
  case excluded => exact absurd h hex
  case faulty => exact absurd h hfaulty
  case absent => exact absurd h habsent
  all_goals
    simp only [commandAnsweredRule, State.setUnit_unit_self, h, effectivePolicy_changeUnit, effectivePolicy_setUnit]
    split <;> rfl

theorem answeredTable_settled : Claims.AnsweredTable := by
  intro u a s
  dsimp only
  refine ⟨fun h => ⟨commandAnsweredRule_excluded _ h, commandAnsweredRule_excluded _ h, commandAnsweredRule_excluded _ h⟩,
    commandAnsweredRule_identify, fun h => ?_, fun h => commandAnsweredRule_mute ?_ ?_,
    commandAnsweredRule_unmute_placed, fun h => commandAnsweredRule_unmute ?_ ?_ ?_⟩
  · simp only [commandAnsweredRule, State.setUnit_unit_self, h]
  all_goals
    intro hne
    rw [hne] at h
    simp at h

/-! ### A transaction that was not acknowledged (R174, R185) -/

/-- The state in which the way a transaction failed is recorded. -/
def failedAs (u : Nat) (failure : BusFailure) (s : State) : State :=
  s.setUnit u { s.unit u with lastFailure := some failure }

theorem failedAs_unit (u : Nat) (failure : BusFailure) (s : State) :
    (failedAs u failure s).unit u = { s.unit u with lastFailure := some failure } := State.setUnit_unit_self ..

theorem failedAs_policy (u : Nat) (failure : BusFailure) (s : State) :
    (failedAs u failure s).effectivePolicy = s.effectivePolicy := effectivePolicy_setUnit ..

/-- A unit still holds a command that failed, or its like. -/
def Commanded (r : UnitRec) : Prop := ∃ b, r.mark = some (.mute b) ∨ r.mark = some (.unmute b)

theorem commanded_iff (r : UnitRec) : Commanded r ↔ isMute r.mark = true ∨ isUnmute r.mark = true := by
  rcases hm : r.mark with - | (_ | _ | _ | _) <;> simp [Commanded, hm, isMute, isUnmute]

theorem faultShown_iff (r : UnitRec) : faultShown r = true ↔ ∃ x, r.lastStatus = some x ∧ x.fault = true := by
  cases h : r.lastStatus <;> simp [faultShown, h]

theorem stillWanted_mute_iff : s.stillWanted u (.mute a) = true ↔ s.effectivePolicy = .mute ∨
    (s.unit u).state = .absent ∨ (s.unit u).state = .faulty ∨ ∃ x, (s.unit u).lastStatus = some x ∧ x.fault = true := by
  rw [← faultShown_iff]
  simp [State.stillWanted, or_assoc]

theorem stillWanted_unmute_iff : s.stillWanted u (.unmute a) = true ↔
    s.effectivePolicy = .serve ∧ (s.unit u).state ≠ .faulty := by
  simp [State.stillWanted]

theorem commandNoackRule_idle {m : Mark}
    (h : (s.unit u).state = .excluded ∨ ¬ s.stillWanted u m = true ∨ Commanded (s.unit u)) : commandNoackRule u m s = s := by
  rw [commanded_iff] at h
  refine if_pos ?_
  simpa using h

theorem commandNoackRule_again {m m' : Mark} (hex : (s.unit u).state ≠ .excluded) (hw : s.stillWanted u m = true)
    (hc : ¬ Commanded (s.unit u)) (hn : nextAttempt m = some m') : commandNoackRule u m s = setMark u (some m') s := by
  rw [commanded_iff, not_or] at hc
  refine (if_neg ?_).trans ?_
  · simp [hex, hw, hc]
  · simp only [hn]

theorem commandNoackRule_lost {m : Mark} (hex : (s.unit u).state ≠ .excluded) (hw : s.stillWanted u m = true)
    (hc : ¬ Commanded (s.unit u)) (hn : nextAttempt m = none) :
    commandNoackRule u m s = setMark u none (changeUnit u .unresponsive .attempts s) := by
  rw [commanded_iff, not_or] at hc
  refine (if_neg ?_).trans ?_
  · simp [hex, hw, hc]
  · simp only [hn]

theorem noackRule_command {m : Mark} (hm : m ≠ .poll) (failure : BusFailure) (s : State) :
    noackRule u m failure s = endCheck (commandNoackRule u m (failedAs u failure s)) := by
  cases m with
  | poll => exact absurd rfl hm
  | identify | mute | unmute => rfl

theorem noackRule_poll (failure : BusFailure) (s : State) :
    noackRule u .poll failure s = endCheck (pollNoackRule u (failedAs u failure s)) := rfl

theorem pollNoackRule_counted (h : (s.unit u).state = .serving ∨ (s.unit u).state = .muted) (hmiss : (s.unit u).misses < 2) :
    pollNoackRule u s = s.setUnit u { s.unit u with misses := (s.unit u).misses + 1 } := by
  have hn : min 3 ((s.unit u).misses + 1) = (s.unit u).misses + 1 := by omega
  have hne : ¬ (s.unit u).misses + 1 = 3 := by omega
  rcases h with h | h <;> simp only [pollNoackRule, h, hn, if_neg hne]

theorem pollNoackRule_lost (h : (s.unit u).state = .serving ∨ (s.unit u).state = .muted) (hmiss : 2 ≤ (s.unit u).misses) :
    pollNoackRule u s = changeUnit u .unresponsive .missed (s.setUnit u { s.unit u with misses := 3 }) := by
  have hn : min 3 ((s.unit u).misses + 1) = 3 := by omega
  rcases h with h | h <;> simp only [pollNoackRule, h, hn, if_true]

theorem pollNoackRule_idle (hs : (s.unit u).state ≠ .serving) (hm : (s.unit u).state ≠ .muted) : pollNoackRule u s = s := by
  cases h : (s.unit u).state
  case serving => exact absurd h hs
  case muted => exact absurd h hm
  all_goals simp only [pollNoackRule, h]

theorem noackTable_settled : Claims.NoackTable := by
  intro u failure s
  dsimp only
  have hunit := failedAs_unit u failure s
  have hmute (a : Nat) : (failedAs u failure s).stillWanted u (.mute a) = true ↔ s.effectivePolicy = .mute ∨
      (s.unit u).state = .absent ∨ (s.unit u).state = .faulty ∨
        ∃ x, (s.unit u).lastStatus = some x ∧ x.fault = true := by
    rw [stillWanted_mute_iff, hunit, failedAs_policy]
  have hunmute (a : Nat) : (failedAs u failure s).stillWanted u (.unmute a) = true ↔
      s.effectivePolicy = .serve ∧ (s.unit u).state ≠ .faulty := by
    rw [stillWanted_unmute_iff, hunit, failedAs_policy]
  have hidle (m : Mark) (hm : m ≠ .poll) (h : (s.unit u).state = .excluded ∨
      ¬ (failedAs u failure s).stillWanted u m = true ∨ Commanded (s.unit u)) :
      noackRule u m failure s = endCheck (failedAs u failure s) := by
    rw [noackRule_command hm, commandNoackRule_idle (by rwa [hunit])]
  have hagain (m m' : Mark) (hm : m ≠ .poll) (hex : (s.unit u).state ≠ .excluded)
      (hw : (failedAs u failure s).stillWanted u m = true) (hc : ¬ Commanded (s.unit u)) (hn : nextAttempt m = some m') :
      noackRule u m failure s =
        endCheck ((failedAs u failure s).setUnit u { s.unit u with lastFailure := some failure, mark := some m' }) := by
    rw [noackRule_command hm, commandNoackRule_again (by rwa [hunit]) hw (by rwa [hunit]) hn, setMark, hunit]
  have hlost (m : Mark) (hm : m ≠ .poll) (hex : (s.unit u).state ≠ .excluded)
      (hw : (failedAs u failure s).stillWanted u m = true) (hc : ¬ Commanded (s.unit u)) (hn : nextAttempt m = none) :
      noackRule u m failure s =
        endCheck (setMark u none (changeUnit u .unresponsive .attempts (failedAs u failure s))) := by
    rw [noackRule_command hm, commandNoackRule_lost (by rwa [hunit]) hw (by rwa [hunit]) hn]
  refine ⟨?_, fun a h => ?_, fun a h => ?_, fun a hex hw hc => ⟨fun ha => ?_, fun ha => ?_⟩,
    fun a hex hw hc => ⟨fun ha => ?_, fun ha => ?_⟩, fun h => ⟨fun hmiss => ?_, fun hmiss => ?_⟩, fun hs hm => ?_⟩
  · exact hidle .identify Mark.noConfusion (.inr (.inl Bool.false_ne_true))
  · refine hidle _ Mark.noConfusion ?_
    rw [hmute]
    exact h
  · refine hidle _ Mark.noConfusion ?_
    rw [hunmute]
    exact h
  · exact hagain _ _ Mark.noConfusion hex ((hmute a).mpr hw) hc (if_pos ha)
  · exact hlost _ Mark.noConfusion hex ((hmute a).mpr hw) hc (if_neg (Nat.not_lt.mpr ha))
  · exact hagain _ _ Mark.noConfusion hex ((hunmute a).mpr hw) hc (if_pos ha)
  · exact hlost _ Mark.noConfusion hex ((hunmute a).mpr hw) hc (if_neg (Nat.not_lt.mpr ha))
  · rw [noackRule_poll, pollNoackRule_counted (by rwa [hunit]) (by rwa [hunit]), hunit]
    rfl
  · rw [noackRule_poll, pollNoackRule_lost (by rwa [hunit]) (by rwa [hunit]), hunit]
    rfl
  · rw [noackRule_poll, pollNoackRule_idle (by rwa [hunit]) (by rwa [hunit])]
    rfl

/-! ### A POLL that was answered (R184) -/

/-- The state in which the status of a POLL is recorded. -/
def polled (u : Nat) (radiating fault : Bool) (s : State) : State :=
  s.setUnit u { s.unit u with misses := 0, lastStatus := some ⟨radiating, fault, s.rqp.shipTime⟩ }

theorem serve_iff_not_mute (p : Policy) : p = .serve ↔ ¬ p = .mute := by
  cases p <;> simp

section
variable (radiating fault : Bool)

theorem pollAnswered_absent (h : (s.unit u).state = .absent) :
    pollAnsweredRule u radiating fault s = placeMark u (.mute 1) (polled u radiating fault s) := by
  simp only [pollAnsweredRule, State.setUnit_unit_self, h, firstMute, polled]

theorem pollAnswered_unresponsive (h : (s.unit u).state = .unresponsive) : pollAnsweredRule u radiating fault s =
    if fault = true ∨ s.effectivePolicy = .mute then placeMark u (.mute 1) (polled u radiating fault s)
    else placeMark u (.unmute 1) (polled u radiating fault s) := by
  simp only [pollAnsweredRule, State.setUnit_unit_self, h, firstMute, firstUnmute, polled, effectivePolicy_setUnit]
  cases fault <;> simp

theorem pollAnswered_fault (h : (s.unit u).state = .serving ∨ (s.unit u).state = .muted) :
    pollAnsweredRule u radiating true s =
      placeMark u (.mute 1) (changeUnit u .faulty .fault (polled u radiating true s)) := by
  rcases h with h | h <;> simp only [pollAnsweredRule, State.setUnit_unit_self, h, firstMute, polled, if_true]

theorem pollAnswered_faulty (h : (s.unit u).state = .faulty) : pollAnsweredRule u radiating true s =
    if radiating = true then placeMark u (.mute 1) (polled u radiating true s) else polled u radiating true s := by
  simp only [pollAnsweredRule, State.setUnit_unit_self, h, firstMute, polled, if_true]

theorem pollAnswered_cleared (h : (s.unit u).state = .faulty) : pollAnsweredRule u radiating false s =
    (if radiating = true then placeMark u (.mute 1) else if s.effectivePolicy = .mute then id else placeMark u (.unmute 1))
      (changeUnit u .muted .faultClear (polled u radiating false s)) := by
  simp only [pollAnsweredRule, State.setUnit_unit_self, h, firstMute, firstUnmute, polled, effectivePolicy_setUnit,
    serve_iff_not_mute]
  cases radiating <;> by_cases hp : s.effectivePolicy = .mute <;> simp [hp]

theorem pollAnswered_serving (h : (s.unit u).state = .serving) : pollAnsweredRule u radiating false s =
    if radiating = true ∧ s.effectivePolicy = .mute then placeMark u (.mute 1) (polled u radiating false s)
    else if radiating = false ∧ ¬ s.effectivePolicy = .mute then placeMark u (.unmute 1) (polled u radiating false s)
    else polled u radiating false s := by
  simp only [pollAnsweredRule, State.setUnit_unit_self, h, firstMute, firstUnmute, polled, effectivePolicy_setUnit,
    serve_iff_not_mute]
  cases radiating <;> simp

theorem pollAnswered_muted (h : (s.unit u).state = .muted) : pollAnsweredRule u radiating false s =
    if radiating = true ∧ s.effectivePolicy = .mute then placeMark u (.mute 1) (polled u radiating false s)
    else if ¬ s.effectivePolicy = .mute then placeMark u (.unmute 1) (polled u radiating false s)
    else polled u radiating false s := by
  simp only [pollAnsweredRule, State.setUnit_unit_self, h, firstMute, firstUnmute, polled, effectivePolicy_setUnit,
    serve_iff_not_mute]
  cases radiating <;> simp

end

theorem pollTable_settled : Claims.PollTable := by
  intro u radiating fault s
  dsimp only
  refine ⟨fun h => ?_, pollAnswered_absent _ _, pollAnswered_unresponsive _ _, fun h hf => ?_, fun h hf => ?_, fun h hf => ?_,
    fun h hf => ⟨fun hr hp => ?_, fun hr hp => ?_, fun hr hp => ?_, fun hr hp => ?_⟩⟩
  · simp only [pollAnsweredRule, State.setUnit_unit_self, h]
  all_goals subst hf
  · exact pollAnswered_fault _ h
  · exact pollAnswered_faulty _ h
  · exact pollAnswered_cleared _ h
  all_goals
    rcases h with h | h
    · rw [pollAnswered_serving _ h]
      simp [hr, hp, h, polled]
    · rw [pollAnswered_muted _ h]
      simp [hr, hp, h, polled]

/-- Settles O55. -/
theorem completions : Obligations.Completions :=
  ⟨wires_settled, completionRules_settled, answeredTable_settled, noackTable_settled, pollTable_settled⟩

end Sys2Proof.Machine
end

section
/-! PROOFS. O54: marks, the end check, the arbiter and the timers of the radio controller (R169, R171, R172, R179, R180,
R183). -/

namespace Sys2Proof.Machine

variable {s t : State} {u : Nat} {m : Mark}

/-! ### Marks (R171) and the end check (R179) -/

theorem placeMark_of_state (h : (s.unit u).state ≠ .excluded) :
    placeMark u m s = s.setUnit u { s.unit u with mark := some (placedOver (s.unit u).mark m) } := if_neg h

theorem markPlaced_settled : Claims.MarkPlaced := by
  intro u m s
  dsimp only
  refine ⟨fun h => if_pos h, fun hex => ?_⟩
  rw [placeMark_of_state hex]
  refine ⟨fun h => ?_, fun x h hx hm => ?_, fun x h hx hm => ?_, fun a b h hm => ?_, fun a h hm => ?_, fun a b h hm => ?_,
    fun a h hm => ?_⟩
  all_goals rw [h]
  · rfl
  · obtain ⟨a, rfl | rfl⟩ := hm
    all_goals rcases hx with rfl | rfl <;> rfl
  · rcases hm with rfl | rfl
    all_goals rcases hx with rfl | rfl <;> rfl
  · rw [hm]
    rfl
  · cases m with
    | unmute b => exact absurd rfl (hm b)
    | mute | poll | identify => rfl
  · rw [hm]
    rfl
  · cases m with
    | mute b => exact absurd rfl (hm b)
    | unmute | poll | identify => rfl

theorem anyMark_eq_true {p : Option Mark → Bool} : s.anyMark p = true ↔ ∃ u < 16, p (s.unit u).mark = true := by
  rw [State.anyMark, List.any_eq_true]
  exact exists_congr fun u => and_congr_left fun _ => List.mem_range

theorem commandOnBus_iff : s.commandOnBus = true ↔
    ∃ u a, s.rdc.onBus = some (u, .mute a) ∨ s.rdc.onBus = some (u, .unmute a) := by
  rcases h : s.rdc.onBus with _ | ⟨v, _ | _ | _ | _⟩ <;> simp [State.commandOnBus, h]

/-- What keeps a sequence from its end: a command of it on the bus or among the marks. -/
theorem awaited_iff {p : Option Mark → Bool} : (s.anyMark p || s.commandOnBus) = true ↔
    (∃ u a, s.rdc.onBus = some (u, .mute a) ∨ s.rdc.onBus = some (u, .unmute a)) ∨ ∃ u < 16, p (s.unit u).mark = true := by
  rw [Bool.or_eq_true, anyMark_eq_true, commandOnBus_iff, or_comm]

theorem endCheck_settled : Claims.EndCheck := by
  intro s
  dsimp only
  rw [← awaited_iff, ← awaited_iff]
  refine ⟨fun h => ?_, fun h => ⟨fun hw => ?_, fun hw => ?_⟩, fun h => ⟨fun hw => ?_, fun hw => ?_⟩⟩
  · rcases h with h | h <;> simp only [endCheck, h]
  · simp only [endCheck, h, if_pos hw]
  · simp only [endCheck, h, if_neg hw]
    rfl
  · simp only [endCheck, h, if_pos hw]
  · simp only [endCheck, h, if_neg hw]
    rfl

/-! ### The mark that goes next (R172) -/

/-- Whether a unit holds a mark of a class. -/
def State.holdsClass (s : State) (k u : Nat) : Bool :=
  match (s.unit u).mark with
  | some m => markClass m == k
  | none => false

/-- The unit of the lowest address that holds a mark of a class. -/
def State.firstHolder (s : State) (k : Nat) : Option Nat := unitKeys.find? (s.holdsClass k)

theorem nextMark_eq (s : State) : s.nextMark =
    ((s.firstHolder 0).orElse fun _ => (s.firstHolder 1).orElse fun _ => s.firstHolder 2).bind
      fun u => (s.unit u).mark.map fun m => (u, m) := by
  have h : s.nextMark =
    match (s.firstHolder 0).orElse fun _ => (s.firstHolder 1).orElse fun _ => s.firstHolder 2 with
    | some u => (s.unit u).mark.map fun m => (u, m)
    | none => none := rfl
  rw [h]
  cases (s.firstHolder 0).orElse fun _ => (s.firstHolder 1).orElse fun _ => s.firstHolder 2 <;> rfl

theorem firstHolder_some {k : Nat} (hu : u < 16) (h : s.holdsClass k u = true) (hlow : ∀ v < u, s.holdsClass k v = false) :
    s.firstHolder k = some u := by
  rw [State.firstHolder, unitKeys, List.find?_range_eq_some]
  exact ⟨h, List.mem_range.mpr hu, fun v hv => by rw [hlow v hv]; rfl⟩

theorem firstHolder_none {k : Nat} (h : ∀ v < 16, s.holdsClass k v = false) : s.firstHolder k = none := by
  rw [State.firstHolder, List.find?_eq_none]
  intro v hv
  rw [h v (List.mem_range.mp hv)]
  exact Bool.false_ne_true

theorem holdsClass_of_mark (h : (s.unit u).mark = some m) : s.holdsClass (markClass m) u = true := by
  simp [State.holdsClass, h]

theorem holdsClass_unmarked {k : Nat} (h : (s.unit u).mark = none) : s.holdsClass k u = false := by
  simp only [State.holdsClass, h]

theorem holdsClass_mute (h : ∀ a, (s.unit u).mark ≠ some (.mute a)) : s.holdsClass 0 u = false := by
  rcases hm : (s.unit u).mark with _ | (_ | _ | _ | _) <;> simp_all [State.holdsClass, markClass]

theorem holdsClass_unmute (h : ∀ a, (s.unit u).mark ≠ some (.unmute a)) : s.holdsClass 1 u = false := by
  rcases hm : (s.unit u).mark with _ | (_ | _ | _ | _) <;> simp_all [State.holdsClass, markClass]

theorem nextMark_none (h : ∀ v < 16, (s.unit v).mark = none) : s.nextMark = none := by
  have hk (k : Nat) : s.firstHolder k = none := firstHolder_none fun v hv => holdsClass_unmarked (h v hv)
  rw [nextMark_eq, hk, hk, hk]
  rfl

/-- MUTE before UNMUTE before POLL and IDENTIFY, and the lowest address within a class. -/
theorem nextMark_of (hu : u < 16) (hm : (s.unit u).mark = some m)
    (hfirst : (∃ a, m = .mute a) ∧ (∀ v < u, ∀ a, (s.unit v).mark ≠ some (.mute a)) ∨
      (∃ a, m = .unmute a) ∧ (∀ v < 16, ∀ a, (s.unit v).mark ≠ some (.mute a)) ∧
        (∀ v < u, ∀ a, (s.unit v).mark ≠ some (.unmute a)) ∨
      (m = .poll ∨ m = .identify) ∧ (∀ v < 16, (∀ a, (s.unit v).mark ≠ some (.mute a)) ∧
        ∀ a, (s.unit v).mark ≠ some (.unmute a)) ∧ (∀ v < u, (s.unit v).mark = none)) :
    s.nextMark = some (u, m) := by
  have hholds : s.holdsClass (markClass m) u = true := holdsClass_of_mark hm
  rw [nextMark_eq]
  rcases hfirst with ⟨⟨a, rfl⟩, hlow⟩ | ⟨⟨a, rfl⟩, hno, hlow⟩ | ⟨hclass, hno, hlow⟩
  · rw [firstHolder_some (k := 0) hu hholds fun v hv => holdsClass_mute (hlow v hv)]
    simp [hm]
  · rw [firstHolder_none fun v hv => holdsClass_mute (hno v hv),
      firstHolder_some (k := 1) hu hholds fun v hv => holdsClass_unmute (hlow v hv)]
    simp [hm]
  · have hthird : markClass m = 2 := by rcases hclass with rfl | rfl <;> rfl
    rw [hthird] at hholds
    rw [firstHolder_none fun v hv => holdsClass_mute (hno v hv).1,
      firstHolder_none fun v hv => holdsClass_unmute (hno v hv).2,
      firstHolder_some hu hholds fun v hv => holdsClass_unmarked (hlow v hv)]
    simp [hm]

/-! ### The arbiter (R169, R172) -/

theorem arbitrate_busy (n : Nat) (h : s.rdc.onBus.isSome = true) : arbitrate n s = s := by
  cases n with
  | zero => rfl
  | succ n => exact if_pos h

theorem arbitrate_unmarked (n : Nat) (h : ∀ v < 16, (s.unit v).mark = none) : arbitrate n s = s := by
  cases n with
  | zero => rfl
  | succ n =>
    simp only [arbitrate, nextMark_none h]
    split <;> rfl

theorem arbitrate_next (n : Nat) (hfree : s.rdc.onBus = none) (hnext : s.nextMark = some (u, m)) :
    let r := busCheck (setMark u none s)
    arbitrate (n + 1) s =
      if r.1 then r.2.withRdc { r.2.rdc with onBus := some (u, m) } else arbitrate n (noackRule u m .bus r.2) := by
  simp only [arbitrate, hnext, hfree, Option.isSome_none, Bool.false_eq_true, if_false]

theorem laterFindings_eq (w : List Nat) : laterFindings w = match w with | _ :: k :: later => k :: later | w => w := by
  rcases w with - | ⟨a, - | ⟨b, c⟩⟩ <;> rfl

theorem giveNotice_withRdc (k : NoticeKind) (x : Subject) (d v1 v2 v3 v4 v5 : Byte) (s : State) (r : Rdc) :
    (giveNotice k x d v1 v2 v3 v4 v5 s).withRdc r = giveNotice k x d v1 v2 v3 v4 v5 (s.withRdc r) := by
  unfold giveNotice
  by_cases h : s.rqp.notices.length < Config.noticeCapacity
  · rw [if_pos h, if_pos (show (s.withRdc r).rqp.notices.length < Config.noticeCapacity from h)]
    rfl
  · rw [if_neg h, if_neg (show ¬ (s.withRdc r).rqp.notices.length < Config.noticeCapacity from h)]
    rfl

/-- A data wire that is high within 9 pulses. -/
theorem busCheck_high (h : s.rdc.wire.headD 0 ≤ 9) : busCheck s = (true,
    (if s.rdc.busFault then radioNotice 7 0 0 0 0 0 else id) (s.withRdc { s.rdc with
      speed := s.settings.busSpeed, wire := laterFindings s.rdc.wire, busFault := false
      recovery := s.rdc.recovery ++ [(s.settings.busSpeed, recoveryPulses (s.rdc.wire.headD 0))] })) := by
  have hhigh : decide (wireFinding s.rdc.wire ≤ 9) = true := decide_eq_true h
  unfold busCheck
  simp only [hhigh]
  cases s.rdc.busFault <;> rfl

theorem busCheck_low (h : 9 < s.rdc.wire.headD 0) : busCheck s = (false,
    (if s.rdc.busFault then id else radioNotice 6 0 0 0 0 0) (s.withRdc { s.rdc with
      speed := s.settings.busSpeed, wire := laterFindings s.rdc.wire, busFault := true
      recovery := s.rdc.recovery ++ [(s.settings.busSpeed, recoveryPulses (s.rdc.wire.headD 0))] })) := by
  have hhigh : decide (wireFinding s.rdc.wire ≤ 9) = false := decide_eq_false (Nat.not_le.mpr h)
  unfold busCheck
  simp only [hhigh]
  cases s.rdc.busFault <;> rfl

theorem arbiter_settled : Claims.Arbiter := by
  intro n s
  refine ⟨rfl, arbitrate_busy n, arbitrate_unmarked n, fun u hu m hfree hm => ?_⟩
  intro noMute noUnmute hfirst
  have hnext := arbitrate_next n hfree (nextMark_of hu hm hfirst)
  intro needed t checked
  have hchecked (fault : Bool) : checked fault = t.withRdc { t.rdc with
      speed := t.settings.busSpeed, wire := laterFindings t.rdc.wire, busFault := fault
      recovery := t.rdc.recovery ++ [(t.settings.busSpeed, recoveryPulses (t.rdc.wire.headD 0))] } := by
    rw [laterFindings_eq]
    rfl
  clear_value checked
  refine ⟨fun h => ?_, fun h => ?_⟩
  · have hcheck := busCheck_high (s := t) h
    rw [← hchecked] at hcheck
    rw [hnext, show setMark u none s = t from rfl, hcheck]
    rw [show t.rdc.busFault = s.rdc.busFault from rfl]
    have hrdc : (radioNotice 7 0 0 0 0 0 (checked false)).rdc = (checked false).rdc := giveNotice_rdc ..
    cases s.rdc.busFault
    · rfl
    · refine Eq.trans ?_ (giveNotice_withRdc .radio .none 7 0 0 0 0 0 (checked false) _)
      rw [← hrdc]
      rfl
  · have hcheck := busCheck_low (s := t) h
    rw [← hchecked] at hcheck
    rw [hnext, show setMark u none s = t from rfl, hcheck]
    rfl

/-! ### The timers (R180, R183) -/

/-- The units still to be muted (R180). -/
def mutesLeft (s : State) : Nat :=
  ((List.range 16).filter fun u =>
    isMute (s.unit u).mark || (match s.rdc.onBus with | some (v, .mute _) => decide (v = u) | _ => false)).length

theorem unitsToMute_eq (s : State) : s.unitsToMute = mutesLeft s := by
  refine congrArg List.length (List.filter_congr fun u _ => congrArg (isMute (s.unit u).mark || ·) ?_)
  rcases h : s.rdc.onBus with _ | ⟨v, _ | _ | _ | _⟩ <;> simp only [State.muteOnBus, h]
  rfl

/-- A unit's record after a poll round (R183). -/
def roundMarked (r : UnitRec) : UnitRec :=
  if r.state = .excluded then r else { r with mark := some (placedOver r.mark (probeOf r.state)) }

theorem pollRound_unit_self (u : Nat) (s : State) :
    (placeMark u (probeOf (s.unit u).state) s).unit u = roundMarked (s.unit u) := by
  unfold placeMark roundMarked
  split
  · rfl
  · exact State.setUnit_unit_self ..

theorem pollRound_unit_other (u w : Nat) (s : State) (h : u ≠ w) :
    (placeMark u (probeOf (s.unit u).state) s).unit w = s.unit w := by
  unfold placeMark
  split
  · rfl
  · exact (State.setUnit_unit ..).trans (if_neg h)

/-- A POLL or IDENTIFY leaves a mark that is held. -/
theorem placedOver_probeOf (x : Mark) (st : UnitState) : placedOver (some x) (probeOf st) = x := by
  cases st <;> cases x <;> rfl

theorem roundMarked_eq (r : UnitRec) : roundMarked r = if r.state = .excluded ∨ r.mark.isSome then r
    else { r with mark := some (if r.state = .absent then .identify else .poll) } := by
  unfold roundMarked
  by_cases hex : r.state = .excluded
  · rw [if_pos hex, if_pos (.inl hex)]
  · rw [if_neg hex]
    rcases hm : r.mark with - | x
    · have hprobe : probeOf r.state = if r.state = .absent then .identify else .poll := by cases r.state <;> rfl
      rw [if_neg (by simp [hex]), hprobe]
      rfl
    · rw [if_pos (by simp), placedOver_probeOf, ← hm]

/-- A change of the controller alone. -/
theorem placeMark_withRdc (u : Nat) (m : Mark) (s : State) :
    placeMark u m s = s.withRdc { s.rdc with units := (placeMark u m s).rdc.units } := by
  unfold placeMark
  split <;> rfl

/-- A change of the unit table alone. -/
def UnitsMoved (s t : State) : Prop := t = s.withRdc { s.rdc with units := t.rdc.units }

theorem unitsMoved_foldl {g : Nat → State → State} (hg : ∀ u s, UnitsMoved s (g u s)) (l : List Nat) (s : State) :
    UnitsMoved s (l.foldl (fun s u => g u s) s) := by
  induction l generalizing s with
  | nil => rfl
  | cons u l ih =>
    have h := ih (g u s)
    unfold UnitsMoved at h
    rw [List.foldl_cons, UnitsMoved, h, hg u s]
    rfl

theorem radioTimers_settled : Claims.RadioTimers := by
  intro s
  refine ⟨fun h => ?_, fun h => ?_, fun h => ?_, fun h => ?_⟩
  · exact congrArg Host.Outcome.next (if_pos (by rw [h]; rfl))
  · refine congrArg Host.Outcome.next ((if_neg (runs_not_absent h)).trans ?_)
    rw [unitsToMute_eq]
    rfl
  · exact congrArg Host.Outcome.next (if_pos (by rw [h]; rfl))
  · let z := s.withRdc { s.rdc with poll := some s.settings.pollInterval }
    have hmoved : UnitsMoved z (pollRound z) := unitsMoved_foldl (fun u s => placeMark_withRdc u _ s) _ _
    have hunit (u : Nat) (hu : u < 16) : (pollRound z).unit u = roundMarked (s.unit u) :=
      unit_foldl_unitKeys (g := fun u s => placeMark u (probeOf (s.unit u).state) s) pollRound_unit_self
        pollRound_unit_other z hu
    have hpassed : pollPasses s = settleBus (pollRound z) := if_neg (runs_not_absent h)
    generalize pollRound z = x at hmoved hunit hpassed
    refine ⟨x, congrArg Host.Outcome.next hpassed, ?_, congrArg State.rdc hmoved,
      fun u hu => (hunit u hu).trans (roundMarked_eq _)⟩
    rw [UnitsMoved] at hmoved
    rw [hmoved]
    rfl

/-- Settles O54. -/
theorem marksAndBus : Obligations.MarksAndBus :=
  ⟨markPlaced_settled, endCheck_settled, arbiter_settled, radioTimers_settled⟩

end Sys2Proof.Machine
end

section
/-! PROOFS. O36: START and the presence probe (R186, R187, R202). -/

namespace Sys2Proof.Machine

variable {s t : State} {u : Nat} {m : Mark}

/-! ### The bus at the end of an event -/

theorem endProbe_busy (h : s.rdc.onBus.isSome = true) : endProbe s = s := by
  cases hp : s.rdc.probe with
  | none => exact endProbe_none hp
  | some r =>
    simp only [endProbe, hp]
    exact if_pos (by rw [h, Bool.or_true])

theorem settleBus_busy (h : s.rdc.onBus.isSome = true) : settleBus s = s := by
  rw [settleBus, arbitrate_busy _ h, endProbe_busy h]

/-- A check that finds the data wire high at once on a bus that is OK: no pulse, and no notice (R169). -/
theorem busCheck_quiet (hwire : s.rdc.wire = []) (hfault : s.rdc.busFault = false) : busCheck s =
    (true, s.withRdc { s.rdc with
      speed := s.settings.busSpeed, recovery := s.rdc.recovery ++ [(s.settings.busSpeed, [])] }) := by
  have hlater : laterFindings s.rdc.wire = s.rdc.wire := by rw [hwire]; rfl
  have hpulses : recoveryPulses (s.rdc.wire.headD 0) = [] := by rw [hwire]; rfl
  rw [busCheck_high (by rw [hwire]; exact Nat.zero_le 9), hlater, hpulses, if_neg (by rw [hfault]; exact Bool.false_ne_true)]
  exact congrArg (fun b => (true, s.withRdc { s.rdc with
    busFault := b, speed := s.settings.busSpeed, recovery := s.rdc.recovery ++ [(s.settings.busSpeed, [])] })) hfault.symm

/-- On a free bus with the data wire high and the bus OK, the next mark is on the bus and no notice is given. -/
theorem settleBus_next (hfree : s.rdc.onBus = none) (hwire : s.rdc.wire = []) (hfault : s.rdc.busFault = false)
    (hnext : s.nextMark = some (u, m)) : settleBus s = s.withRdc { s.rdc with
      units := (setMark u none s).rdc.units, onBus := some (u, m), speed := s.settings.busSpeed
      recovery := s.rdc.recovery ++ [(s.settings.busSpeed, [])] } := by
  have harbiter := arbitrate_next 63 hfree hnext
  rw [busCheck_quiet (s := setMark u none s) hwire hfault] at harbiter
  rw [settleBus, arbiterFuel, harbiter]
  exact endProbe_busy rfl

/-! ### The start of the probe (R186) -/

/-- A unit's record as the presence probe starts with it. -/
def probedUnit (r : UnitRec) : UnitRec := if r.state = .excluded then r else ⟨.absent, 0, some .identify, none, none⟩

theorem probeUnit_unit_self (u : Nat) (s : State) : (probeUnit u s).unit u = probedUnit (s.unit u) := by
  unfold probeUnit probedUnit
  split
  · rfl
  · exact State.setUnit_unit_self ..

theorem probeUnit_unit_other (u w : Nat) (s : State) (h : u ≠ w) : (probeUnit u s).unit w = s.unit w := by
  unfold probeUnit
  split
  · rfl
  · exact (State.setUnit_unit ..).trans (if_neg h)

theorem probeUnit_moved (u : Nat) (s : State) : UnitsMoved s (probeUnit u s) := by
  unfold probeUnit
  split <;> rfl

/-- The units as the presence probe starts with them, and the probe in flight. -/
def probeMarked (tag : Fin 16) (s : State) : State :=
  unitKeys.foldl (fun s u => probeUnit u s) (s.withRdc { s.rdc with probe := some ⟨tag, false⟩ })

theorem startProbe_eq (tag : Fin 16) (s : State) : startProbe tag s = settleBus (probeMarked tag s) := rfl

theorem probeMarked_unit (tag : Fin 16) (s : State) (hu : u < 16) : (probeMarked tag s).unit u = probedUnit (s.unit u) :=
  unit_foldl_unitKeys probeUnit_unit_self probeUnit_unit_other _ hu

theorem probeMarked_rest (tag : Fin 16) (s : State) : probeMarked tag s = s.withRdc { s.rdc with
    units := (probeMarked tag s).rdc.units, probe := some ⟨tag, false⟩ } := by
  have h : UnitsMoved (s.withRdc { s.rdc with probe := some ⟨tag, false⟩ }) (probeMarked tag s) :=
    unitsMoved_foldl probeUnit_moved _ _
  rw [UnitsMoved] at h
  exact h

/-- The mark of the lowest unit that is not EXCLUDED goes first. -/
theorem probeMarked_next {v : Nat} (tag : Fin 16) (hunmarked : ∀ u < 16, (s.unit u).state = .excluded → (s.unit u).mark = none)
    (hv : v < 16) (hstate : (s.unit v).state ≠ .excluded) (hlow : ∀ u < v, (s.unit u).state = .excluded) :
    (probeMarked tag s).nextMark = some (v, .identify) := by
  have hmark {u : Nat} (hu : u < 16) : ((probeMarked tag s).unit u).mark = none ∨
      ((probeMarked tag s).unit u).mark = some .identify := by
    rw [probeMarked_unit tag s hu, probedUnit]
    split
    next hex => exact .inl (hunmarked u hu hex)
    next => exact .inr rfl
  refine nextMark_of hv ?_ (.inr (.inr ⟨.inr rfl, fun u hu => ?_, fun u hu => ?_⟩))
  · rw [probeMarked_unit tag s hv, probedUnit, if_neg hstate]
  · rcases hmark hu with h | h <;> rw [h] <;> exact ⟨nofun, nofun⟩
  · have hu16 : u < 16 := hu.trans hv
    rw [probeMarked_unit tag s hu16, probedUnit, if_pos (hlow u hu)]
    exact hunmarked u hu16 (hlow u hu)

theorem probeStarts_settled : Claims.ProbeStarts := by
  intro f s ht hmode
  have hexec : exec (.start f) s = .next (deliver kStart f.tag (doStart f.tag (arrive f s))) := exec_taken rfl ht
  have hconfig : ¬ (arrive f s).rqp.mode = .service := by
    rw [arrive_mode, hmode]
    exact nofun
  have hrdc : (arrive f s).rdc = s.rdc := arrive_rdc f s
  refine ⟨fun hbusy => ?_, fun hradio hprobe hunmarked => ?_⟩
  · have hrefused : doStart f.tag (arrive f s) = reply .state (arrive f s) :=
      (if_neg hconfig).trans (if_pos (by rwa [hrdc]))
    rw [hexec, hrefused]
    rfl
  · have hstarts : doStart f.tag (arrive f s) = (settleBus (probeMarked f.tag (arrive f s)), none) := by
      refine (if_neg hconfig).trans ((if_neg ?_).trans ?_)
      · rw [hrdc, hprobe]
        simp [hradio]
      · rw [startProbe_eq]
    rw [hexec, hstarts, deliver_none]
    have hunit (u : Nat) (hu : u < 16) : (probeMarked f.tag (arrive f s)).unit u = probedUnit (s.unit u) := by
      rw [probeMarked_unit _ _ hu, arrive_unit]
    have hrest := probeMarked_rest f.tag (arrive f s)
    have hnext {v : Nat} (hv : v < 16) (hstate : (s.unit v).state ≠ .excluded) (hlow : ∀ u < v, (s.unit u).state = .excluded) :
        (probeMarked f.tag (arrive f s)).nextMark = some (v, .identify) := by
      refine probeMarked_next f.tag (fun u hu => ?_) hv ?_ fun u hu => ?_
      · rw [arrive_unit]
        exact hunmarked u hu
      · rwa [arrive_unit]
      · rw [arrive_unit]
        exact hlow u hu
    generalize probeMarked f.tag (arrive f s) = y at hunit hrest hnext
    have hyrdc : y.rdc = { s.rdc with units := y.rdc.units, probe := some ⟨f.tag, false⟩ } := by
      rw [← hrdc]
      exact congrArg State.rdc hrest
    have hset : y.settings = s.settings := by
      rw [hrest]
      exact arrive_settings f s
    refine ⟨fun x hx => ?_, fun v hv hfree hwire hfault hstate hlow => ?_⟩
    · have hbus : y.rdc.onBus.isSome = true := by
        rw [hyrdc, hx]
        rfl
      rw [settleBus_busy hbus]
      refine ⟨y, rfl, ?_, hyrdc, hunit⟩
      rw [hrest]
      rfl
    · have hsettled := settleBus_next (by rw [hyrdc]; exact hfree) (by rw [hyrdc]; exact hwire)
        (by rw [hyrdc]; exact hfault) (hnext hv hstate hlow)
      have hmarked (u : Nat) : (setMark v none y).unit u = if v = u then { y.unit v with mark := none } else y.unit u :=
        State.setUnit_unit ..
      generalize hz : setMark v none y = z at hsettled hmarked
      rw [hset] at hsettled
      refine ⟨_, congrArg Host.Outcome.next hsettled, ?_, ?_, fun u hu => (hmarked u).trans ?_⟩
      · rw [hrest]
        rfl
      · rw [State.withRdc_rdc, hyrdc]
      · by_cases huv : v = u
        · subst huv
          rw [if_pos rfl, if_neg hstate, if_pos rfl, hunit v hv, probedUnit, if_neg hstate]
        · rw [if_neg huv, if_neg (Ne.symm huv), hunit u hu, probedUnit]

/-! ### The end of the probe (R187) -/

theorem probeMark_iff (m : Option Mark) : probeMark m = true ↔ m = some .identify ∨ ∃ a, m = some (.mute a) := by
  rcases m with _ | (_ | _ | _ | _) <;> simp [probeMark]

theorem unitsIn_byte (st : UnitState) (s : State) : num 1 (s.unitsIn st) =
    [BitVec.ofNat 8 ((List.range 16).filter fun u => decide ((s.unit u).state = st)).length] := by
  rw [num_one]
  rfl

/-- The state in which a probe that has ended answers (R187). -/
def inService (s : State) : State :=
  ((s.withRqp { s.rqp with mode := .service }).withZne { s.zne with pos := positionReset }).withRdc
    { s.rdc with probe := none, poll := some s.settings.pollInterval }

theorem endProbe_done {r : InFlight} (hr : s.rdc.probe = some r)
    (hdone : ¬ (s.anyMark probeMark || s.rdc.onBus.isSome) = true) :
    endProbe s = answerInFlight kStart.code r (resultByte .ok :: (num 1 (s.unitsIn .muted) ++
      num 1 (s.unitsIn .unresponsive) ++ num 1 (s.unitsIn .absent))) (inService s) := by
  simp only [endProbe, hr]
  exact if_neg hdone

theorem probeEnds_settled : Claims.ProbeEnds := by
  intro s r hr
  dsimp only
  have hwaits : (s.anyMark probeMark || s.rdc.onBus.isSome) = true ↔
      s.rdc.onBus.isSome = true ∨ ∃ u < 16, (s.unit u).mark = some .identify ∨ ∃ a, (s.unit u).mark = some (.mute a) := by
    simp only [Bool.or_eq_true, anyMark_eq_true, probeMark_iff, or_comm]
  rw [← hwaits]
  refine ⟨fun h => ?_, fun h => ⟨_, endProbe_done hr h, ?_⟩⟩
  · simp only [endProbe, hr]
    exact if_pos h
  · rw [unitsIn_byte, unitsIn_byte, unitsIn_byte]
    simp only [answerInFlight_vrg, answerInFlight_chu, answerInFlight_qxu, answerInFlight_lmn, answerInFlight_rte,
      answerInFlight_zne, answerInFlight_rdc, answerInFlight_base, answerInFlight_pending]
    refine ⟨rfl, rfl, ?_, rfl, rfl, rfl, rfl, rfl, rfl, rfl⟩
    unfold answerInFlight
    cases r.dropped
    · rfl
    · exact (congrArg (fun l => { (inService s).rqp with answers := l }) (List.append_nil _)).symm

/-- Settles O36. -/
theorem startProbe_settled : Obligations.StartProbe := ⟨probeStarts_settled, probeEnds_settled⟩

end Sys2Proof.Machine
end

section
/-! PROOFS. The visitors when a unit is lost and at the start of MUTING (R23, R24). -/

namespace Sys2Proof.Machine

variable {s t x : State} {u i j : Nat} {v : Visitor}

/-! ### The keys of a canonical table -/

theorem keys_nodup_from {α : Type} [DecidableEq α] {d : α} {t : Table α} {lo : Nat} (h : canonicalFrom d lo t = true) :
    (t.map (·.1)).Nodup ∧ ∀ k ∈ t.map (·.1), lo ≤ k := by
  induction t generalizing lo with
  | nil => exact ⟨.nil, nofun⟩
  | cons e t ih =>
    simp only [canonicalFrom, Bool.and_eq_true, decide_eq_true_eq] at h
    obtain ⟨⟨hlo, -⟩, hrest⟩ := h
    obtain ⟨hnodup, hle⟩ := ih hrest
    refine ⟨List.nodup_cons.mpr ⟨fun hmem => ?_, hnodup⟩, fun k hk => ?_⟩
    · exact absurd (hle _ hmem) (Nat.not_succ_le_self _)
    · rcases List.mem_cons.mp hk with rfl | hk
      · exact hlo
      · exact hlo.trans (Nat.le_of_succ_le (hle k hk))

theorem slotKeys_nodup (hc : canonical slotReset s.vrg.slots = true) : s.slotKeys.Nodup := (keys_nodup_from hc).1

theorem mem_slotKeys (h : s.slot i ≠ slotReset) : i ∈ s.slotKeys :=
  List.mem_map_of_mem (f := Prod.fst) (mem_of_tget_ne h)

theorem mem_slotKeys_of_visitor (h : s.visitor i = some v) : i ∈ s.slotKeys := by
  refine mem_slotKeys fun hreset => ?_
  rw [State.visitor, hreset] at h
  exact nomatch h

/-- Entries counted by their keys are counted in the table. -/
theorem slotKeys_count (hc : canonical slotReset s.vrg.slots = true) (p : Slot → Bool) :
    (s.slotKeys.filter fun i => p (s.slot i)).length = (s.vrg.slots.filter fun e => p e.2).length := by
  rw [State.slotKeys, List.filter_map, List.length_map]
  refine congrArg List.length (List.filter_congr fun e he => ?_)
  exact congrArg p (tget_of_mem hc he)

/-! ### The loss of a unit (R24) -/

/-- An entry as the loss of a unit leaves it. -/
def strand (u : Nat) (s : State) (e : Slot) : Slot :=
  match e.visitor with
  | some v => if v.state = .active ∧ v.unit = u then { e with visitor := some (Claims.suspended s v) } else e
  | none => e

/-- Whether an entry holds an ACTIVE visitor on a unit. -/
def aboard (u : Nat) (e : Slot) : Bool :=
  match e.visitor with
  | some v => decide (v.state = .active ∧ v.unit = u)
  | none => false

theorem strand_of_not_aboard {e : Slot} (h : aboard u e = false) : strand u s e = e := by
  unfold aboard at h
  unfold strand
  split at h
  next => exact if_neg (of_decide_eq_false h)
  next => rfl

theorem strand_strand (u : Nat) (s : State) (e : Slot) : strand u s (strand u s e) = strand u s e := by
  cases h : aboard u e with
  | false => rw [strand_of_not_aboard h, strand_of_not_aboard h]
  | true =>
    refine strand_of_not_aboard ?_
    unfold aboard at h
    split at h
    next v hv =>
      have hactive := of_decide_eq_true h
      simp [strand, hv, hactive, aboard, Claims.suspended]
    next => exact nomatch h

/-- One entry at the loss of a unit, with the count. -/
def strandStep (u : Nat) (acc : State × Nat) (i : Nat) : State × Nat :=
  if aboard u (acc.1.slot i) then (suspend i acc.1, acc.2 + 1) else acc

theorem suspendUnit_eq (u : Nat) (s : State) : suspendUnit u s = s.slotKeys.foldl (strandStep u) (s, 0) := by
  unfold suspendUnit
  refine congrArg (fun g => List.foldl g (s, 0) s.slotKeys) (funext fun acc => funext fun i => ?_)
  unfold strandStep aboard
  rw [State.visitor]
  split <;> simp_all

theorem suspend_aboard (h : aboard u (x.slot i) = true) (hset : x.settings = s.settings) :
    suspend i x = x.setSlot i (strand u s (x.slot i)) := by
  unfold aboard at h
  split at h
  next v hv =>
    have hactive := of_decide_eq_true h
    have hvisitor : x.visitor i = some v := hv
    rw [suspend, updVisitor_of_visitor _ hvisitor, strand]
    simp only [hv, if_pos hactive, Claims.suspended, hset]
  next => exact nomatch h

/-- What a walk over some entries at the loss of a unit has come to. -/
structure Stranded (u : Nat) (s : State) (l : List Nat) (x : State) (n : Nat) (y : State × Nat) : Prop where
  slots : y.1 = x.withVrg { x.vrg with slots := y.1.vrg.slots }
  slot : ∀ i, y.1.slot i = if i ∈ l then strand u s (x.slot i) else x.slot i
  count : l.Nodup → y.2 = n + (l.filter fun i => aboard u (x.slot i)).length

theorem stranded_foldl (l : List Nat) (x : State) (n : Nat) (hset : x.settings = s.settings) :
    Stranded u s l x n (l.foldl (strandStep u) (x, n)) := by
  induction l generalizing x n with
  | nil => exact ⟨rfl, fun i => by simp, fun _ => rfl⟩
  | cons k l ih =>
    rw [List.foldl_cons]
    cases hk : aboard u (x.slot k) with
    | false =>
      rw [strandStep, hk, if_neg Bool.false_ne_true]
      obtain ⟨hslots, hslot, hcount⟩ := ih x n hset
      refine ⟨hslots, fun i => ?_, fun hnodup => ?_⟩
      · rw [hslot]
        by_cases hik : i = k
        · subst hik
          simp [strand_of_not_aboard hk]
        · simp [hik]
      · rw [hcount (List.nodup_cons.mp hnodup).2, List.filter_cons, hk]
        rfl
    | true =>
      rw [strandStep, hk, if_pos rfl, suspend_aboard hk hset]
      obtain ⟨hslots, hslot, hcount⟩ := ih (x.setSlot k (strand u s (x.slot k))) (n + 1) hset
      refine ⟨hslots, fun i => ?_, fun hnodup => ?_⟩
      · rw [hslot, State.setSlot_slot]
        by_cases hik : k = i
        · subst hik
          simp [strand_strand]
        · simp [hik, Ne.symm hik]
      · obtain ⟨hnot, hnodup⟩ := List.nodup_cons.mp hnodup
        have hothers : (l.filter fun i => aboard u ((x.setSlot k (strand u s (x.slot k))).slot i)) =
            l.filter fun i => aboard u (x.slot i) := by
          refine List.filter_congr fun i hi => ?_
          rw [State.setSlot_slot, if_neg fun (h : k = i) => hnot (h ▸ hi)]
        rw [hcount hnodup, hothers, List.filter_cons, if_pos hk, List.length_cons]
        omega

theorem stranded_suspendUnit (u : Nat) (s : State) : Stranded u s s.slotKeys s 0 (suspendUnit u s) := by
  rw [suspendUnit_eq]
  exact stranded_foldl _ _ _ rfl

theorem suspendUnit_slot (u : Nat) (s : State) (i : Nat) : (suspendUnit u s).1.slot i = strand u s (s.slot i) := by
  rw [(stranded_suspendUnit u s).slot]
  split
  · rfl
  next hmem =>
    have hreset : s.slot i = slotReset := Classical.byContradiction fun h => hmem (mem_slotKeys h)
    rw [hreset]
    rfl

theorem suspendUnit_vrg (u : Nat) (s : State) :
    (suspendUnit u s).1.vrg = { s.vrg with slots := (suspendUnit u s).1.vrg.slots } :=
  congrArg State.vrg (stranded_suspendUnit u s).slots

theorem suspendUnit_state (u : Nat) (s : State) : (suspendUnit u s).1 = s.withVrg (suspendUnit u s).1.vrg := by
  have h := (stranded_suspendUnit u s).slots
  rwa [← suspendUnit_vrg] at h

theorem suspendUnit_count (u : Nat) (hc : canonical slotReset s.vrg.slots = true) :
    (suspendUnit u s).2 = Claims.activeOn s u := by
  rw [(stranded_suspendUnit u s).count (slotKeys_nodup hc), Nat.zero_add, slotKeys_count hc]
  refine congrArg List.length (List.filter_congr fun e _ => ?_)
  unfold aboard
  cases e.2.visitor <;> rfl

theorem unitVisitorsSuspended_settled : Claims.UnitVisitorsSuspended := by
  intro u s
  refine ⟨suspendUnit_state u s, suspendUnit_vrg u s, fun ⟨_, hc, _⟩ => suspendUnit_count u hc,
    fun i => (suspendUnit_slot u s i).trans rfl⟩

/-! ### A cabin: an entry but for its exchange -/

/-- A visitor without its reference to an exchange and its deferred mark. -/
def plain (v : Visitor) : Visitor := { v with xref := none, deferred := false }

theorem eq_of_plain {w : Visitor} (h : plain w = plain v) : w = { v with xref := w.xref, deferred := w.deferred } :=
  congrArg (fun z : Visitor => { z with xref := w.xref, deferred := w.deferred }) h

/-- What an entry holds but for the exchange of its visitor: the visitor and the retire reason. -/
def cabins (s : State) (i : Nat) : Option Visitor × Option RetireReason := ((s.visitor i).map plain, (s.slot i).reason)

theorem cabins_of_vrg (h : t.vrg = s.vrg) : cabins t = cabins s := by
  funext i
  simp only [cabins, State.visitor, State.slot, h]

theorem cabins_of_slots (h : t.vrg.slots = s.vrg.slots) : cabins t = cabins s := by
  funext i
  simp only [cabins, State.visitor, State.slot, h]

theorem cabins_setSlot_other {e : Slot} (h : j ≠ i) : cabins (s.setSlot i e) j = cabins s j := by
  rw [cabins, State.visitor, setSlot_slot_other h]
  rfl

theorem cabins_setSlot_self (s : State) (i : Nat) (e : Slot) : cabins (s.setSlot i e) i = (e.visitor.map plain, e.reason) := by
  rw [cabins, State.visitor, State.setSlot_slot_self]

theorem cabins_updVisitor_other {g : Visitor → Visitor} (h : j ≠ i) : cabins (s.updVisitor i g) j = cabins s j := by
  unfold State.updVisitor
  split
  · exact cabins_setSlot_other h
  · rfl

theorem cabins_updVisitor_self (s : State) (i : Nat) (g : Visitor → Visitor) :
    cabins (s.updVisitor i g) i = ((s.visitor i).map fun v => plain (g v), (s.slot i).reason) := by
  unfold State.updVisitor
  split
  next v hv =>
    rw [cabins_setSlot_self, State.visitor, hv]
    rfl
  next hv =>
    rw [cabins, State.visitor, hv]
    rfl

theorem cabins_updVisitor_kept (i : Nat) {g : Visitor → Visitor} (h : ∀ v, plain (g v) = plain v) :
    cabins (s.updVisitor i g) = cabins s := by
  funext j
  by_cases hij : j = i
  · subst hij
    simp only [cabins_updVisitor_self, h]
    rfl
  · exact cabins_updVisitor_other hij

theorem cabins_createExchange (i slot : Nat) (k : XKind) (s : State) : cabins (createExchange i slot k s) = cabins s := by
  unfold createExchange
  dsimp only
  rw [cabins_of_vrg (noticeToSend_vrg ..)]
  exact (cabins_updVisitor_kept slot (by intro; rfl)).trans (cabins_of_vrg rfl)

theorem cabins_requestExchange (slot : Nat) (k : XKind) (s : State) : cabins (requestExchange slot k s) = cabins s := by
  unfold requestExchange
  split
  · exact cabins_createExchange ..
  · exact (cabins_updVisitor_kept slot (by intro; rfl)).trans (cabins_of_vrg rfl)

theorem cabins_freeEntry (i : Nat) (s : State) : cabins (freeEntry i s) = cabins s := by
  unfold freeEntry serveDeferred
  split
  next x _ =>
    have hfreed (z : State) (hz : z.vrg = s.vrg) : cabins (z.updVisitor x.slot fun v => { v with xref := none }) = cabins s :=
      (cabins_updVisitor_kept x.slot (by intro; rfl)).trans (cabins_of_vrg hz)
    dsimp only
    split
    · exact (cabins_createExchange ..).trans ((cabins_of_vrg rfl).trans (hfreed _ rfl))
    · exact hfreed _ rfl
  · rfl

/-! ### Retirement, by cabins (R20) -/

theorem cabins_becomeFree_other (h : j ≠ i) : cabins (becomeFree i s) j = cabins s j := by
  unfold becomeFree
  split
  · rw [cabins_of_vrg (State.updVisitors_vrg ..)]
    exact cabins_setSlot_other h
  · rfl

theorem cabins_becomeFree_self (i : Nat) (s : State) : cabins (becomeFree i s) i = (none, (cabins s i).2) := by
  unfold becomeFree
  split
  · rw [cabins_of_vrg (State.updVisitors_vrg ..)]
    exact cabins_setSlot_self ..
  next hv =>
    rw [cabins, hv]
    rfl

theorem cabins_cancelled (i : Nat) (why : RetireReason) (s : State) :
    cabins (cancelled i why s) = cabins (s.setSlot i { s.slot i with reason := some why }) := by
  unfold cancelled
  dsimp only
  split
  · exact cabins_freeEntry ..
  · rfl

theorem cabins_withActivity (s : State) (l : List Nat) : cabins (s.withVrg { s.vrg with activity := l }) = cabins s :=
  cabins_of_slots rfl

theorem cabins_withQxu (s : State) (q : Qxu) : cabins (s.withQxu q) = cabins s := cabins_of_vrg rfl

theorem cabins_withdraw_other (h : j ≠ i) : cabins (withdraw i s) j = cabins s j := by
  unfold withdraw stopQuota State.updQuota leaveDeferred
  dsimp only
  rw [cabins_updVisitor_other h, cabins_updVisitor_other h, cabins_withActivity, cabins_updVisitor_other h, cabins_withQxu]

theorem cabins_closeAccount (i : Nat) (s : State) : cabins (closeAccount i s) = cabins s := by
  unfold closeAccount
  split
  · split
    · rfl
    · exact cabins_of_vrg (by simp)
  · rfl

theorem cabins_retireSteps_other {why : RetireReason} (h : j ≠ i) : cabins (retireSteps i why s) j = cabins s j := by
  rw [retireSteps_eq, cabins_closeAccount, cabins_withdraw_other h, cabins_cancelled, cabins_setSlot_other h]

theorem cabins_updVisitor_reason (i : Nat) (g : Visitor → Visitor) (s : State) (j : Nat) :
    (cabins (s.updVisitor i g) j).2 = (cabins s j).2 := by
  by_cases hij : j = i
  · subst hij
    rw [cabins_updVisitor_self]
    rfl
  · rw [cabins_updVisitor_other hij]

theorem cabins_withdraw_reason (i : Nat) (s : State) (j : Nat) : (cabins (withdraw i s) j).2 = (cabins s j).2 := by
  unfold withdraw stopQuota State.updQuota leaveDeferred
  dsimp only
  rw [cabins_updVisitor_reason, cabins_updVisitor_reason, cabins_withActivity, cabins_updVisitor_reason, cabins_withQxu]

theorem cabins_retireSteps_reason (i : Nat) (why : RetireReason) (s : State) :
    (cabins (retireSteps i why s) i).2 = some why := by
  rw [retireSteps_eq, cabins_closeAccount, cabins_withdraw_reason, cabins_cancelled, cabins_setSlot_self]

theorem cabins_departOrFree_other (h : j ≠ i) : cabins (departOrFree i s) j = cabins s j := by
  unfold departOrFree
  split
  · dsimp only
    split
    · exact cabins_updVisitor_other h
    · rw [cabins_requestExchange, cabins_updVisitor_other h]
  · split
    · rw [cabins_freeEntry, cabins_becomeFree_other h]
    · exact cabins_becomeFree_other h

/-- A retired entry is FREE or DEPARTING. -/
def Retired (c : Option Visitor × Option RetireReason) (why : RetireReason) : Prop :=
  c.2 = some why ∧ ∀ v, c.1 = some v → v.state = .departing

theorem retired_departOrFree {why : RetireReason} (h : (cabins s i).2 = some why) :
    Retired (cabins (departOrFree i s) i) why := by
  have hdeparting : Retired (cabins (s.updVisitor i fun v => { v with state := .departing }) i) why := by
    rw [cabins_updVisitor_self]
    refine ⟨h, fun v hv => ?_⟩
    obtain ⟨w, -, rfl⟩ := Option.map_eq_some_iff.mp hv
    rfl
  have hfree : Retired (cabins (becomeFree i s) i) why := by
    rw [cabins_becomeFree_self]
    exact ⟨h, fun v (hv : none = some v) => nomatch hv⟩
  unfold departOrFree
  split
  · dsimp only
    split
    · exact hdeparting
    · rwa [cabins_requestExchange]
  · split
    · rwa [cabins_freeEntry]
    · exact hfree

theorem cabins_retire_eq (i : Nat) (why : RetireReason) (s : State) :
    cabins (retire i why s) = cabins (departOrFree i (retireSteps i why s)) := by
  unfold retire
  dsimp only
  split
  · exact cabins_of_vrg (giveNotice_vrg ..)
  · rfl

theorem cabins_retire_other {why : RetireReason} (h : j ≠ i) : cabins (retire i why s) j = cabins s j := by
  rw [cabins_retire_eq, cabins_departOrFree_other h, cabins_retireSteps_other h]

theorem retired_retire (i : Nat) (why : RetireReason) (s : State) : Retired (cabins (retire i why s) i) why := by
  rw [cabins_retire_eq]
  exact retired_departOrFree (cabins_retireSteps_reason i why s)

theorem cabins_suspend_other (h : j ≠ i) : cabins (suspend i s) j = cabins s j := cabins_updVisitor_other h

theorem cabins_suspend_self (hv : s.visitor i = some v) :
    (cabins (suspend i s) i).1 = some (plain (Claims.suspended s v)) := by
  rw [suspend, cabins_updVisitor_self, hv]
  rfl

/-! ### The start of MUTING (R23) -/

/-- The state of the visitor of an entry. -/
def standing (s : State) (i : Nat) : Option VisitorState := (s.visitor i).map (·.state)

theorem standing_of_cabins (h : cabins t i = cabins s i) : standing t i = standing s i := by
  have hplain : (t.visitor i).map plain = (s.visitor i).map plain := congrArg Prod.fst h
  have hstate := congrArg (Option.map Visitor.state) hplain
  rwa [Option.map_map, Option.map_map] at hstate

/-- The entries in a state among some. -/
def inStanding (s : State) (st : VisitorState) (l : List Nat) : Nat := (l.filter fun i => decide (standing s i = some st)).length

/-- What one cabin comes to at the start of MUTING. -/
def Mustered (s : State) (i : Nat) (c : Option Visitor × Option RetireReason) : Prop :=
  (∀ v, s.visitor i = some v → v.state = .active → c.1 = some (plain (Claims.suspended s v))) ∧
  (standing s i = some .authorizing → Retired c .muted) ∧
  (standing s i ≠ some .active → standing s i ≠ some .authorizing → c = cabins s i)

/-- One entry at the start of MUTING, with the two counts. -/
def musterStep (acc : State × Nat × Nat) (i : Nat) : State × Nat × Nat :=
  if standing acc.1 i = some .active then (suspend i acc.1, acc.2.1 + 1, acc.2.2)
  else if standing acc.1 i = some .authorizing then (retire i .muted acc.1, acc.2.1, acc.2.2 + 1)
  else acc

theorem startOfMuting_eq (s : State) : startOfMuting s = s.slotKeys.foldl musterStep (s, 0, 0) := by
  unfold startOfMuting
  refine congrArg (fun g => List.foldl g (s, 0, 0) s.slotKeys) (funext fun acc => funext fun i => ?_)
  unfold musterStep standing
  cases hv : acc.1.visitor i with
  | none => rfl
  | some v => cases hst : v.state <;> simp [hst]

theorem musterStep_other {acc : State × Nat × Nat} (h : j ≠ i) : cabins (musterStep acc i).1 j = cabins acc.1 j := by
  unfold musterStep
  split
  · dsimp only
    rw [cabins_suspend_other h]
  · split
    · dsimp only
      rw [cabins_retire_other h]
    · rfl

theorem musterStep_settings (acc : State × Nat × Nat) (i : Nat) : (musterStep acc i).1.settings = acc.1.settings := by
  unfold musterStep
  split
  · simp [State.settings_eq]
  · split
    · simp [State.settings_eq]
    · rfl

theorem musterStep_self {acc : State × Nat × Nat} (hset : acc.1.settings = s.settings) (h : cabins acc.1 i = cabins s i) :
    Mustered s i (cabins (musterStep acc i).1 i) := by
  have hstanding := standing_of_cabins h
  unfold musterStep
  rw [hstanding]
  refine ⟨fun v hv hactive => ?_, fun hauth => ?_, fun hna hnu => ?_⟩
  · rw [if_pos (by rw [standing, hv, Option.map_some, hactive])]
    have hplain : (acc.1.visitor i).map plain = some (plain v) := by
      rw [show (acc.1.visitor i).map plain = (s.visitor i).map plain from congrArg Prod.fst h, hv]
      rfl
    obtain ⟨w, hw, hwv⟩ := Option.map_eq_some_iff.mp hplain
    rw [cabins_suspend_self hw]
    have hsuspended : plain (Claims.suspended acc.1 w) = { plain w with
        state := .suspended, retire := some acc.1.settings.muteHold } := rfl
    rw [hsuspended, hwv, hset]
    rfl
  · rw [if_neg (by rw [hauth]; exact nofun), if_pos hauth]
    dsimp only
    exact retired_retire i .muted acc.1
  · rw [if_neg hna, if_neg hnu]
    exact h

theorem foldl_musterStep {l : List Nat} (hl : l.Nodup) (acc : State × Nat × Nat) (hset : acc.1.settings = s.settings)
    (hsame : ∀ i ∈ l, cabins acc.1 i = cabins s i) :
    (l.foldl musterStep acc).2 = (acc.2.1 + inStanding s .active l, acc.2.2 + inStanding s .authorizing l) ∧
    (∀ i ∈ l, Mustered s i (cabins (l.foldl musterStep acc).1 i)) ∧
    ∀ i, i ∉ l → cabins (l.foldl musterStep acc).1 i = cabins acc.1 i := by
  induction l generalizing acc with
  | nil => exact ⟨rfl, nofun, fun _ _ => rfl⟩
  | cons k l ih =>
    obtain ⟨hk, hl⟩ := List.nodup_cons.mp hl
    have hkeep (i : Nat) (hi : i ≠ k) : cabins (musterStep acc k).1 i = cabins acc.1 i := musterStep_other hi
    obtain ⟨hcount, hin, hout⟩ := ih hl (musterStep acc k) ((musterStep_settings ..).trans hset) fun i hi =>
      (hkeep i fun h => hk (h ▸ hi)).trans (hsame i (List.mem_cons_of_mem _ hi))
    rw [List.foldl_cons]
    refine ⟨?_, fun i hi => ?_, fun i hi => ?_⟩
    · have hstanding := standing_of_cabins (hsame k List.mem_cons_self)
      rw [hcount, musterStep, hstanding]
      unfold inStanding
      simp only [List.filter_cons, decide_eq_true_eq]
      by_cases ha : standing s k = some .active
      · simp [ha, Nat.add_assoc, Nat.add_comm 1]
      · by_cases hb : standing s k = some .authorizing
        · simp [hb, Nat.add_assoc, Nat.add_comm 1]
        · simp [ha, hb]
    · rcases List.mem_cons.mp hi with rfl | hi
      · rw [hout i hk]
        exact musterStep_self hset (hsame i List.mem_cons_self)
      · exact hin i hi
    · rw [List.mem_cons, not_or] at hi
      rw [hout i hi.2, hkeep i hi.1]

/-- The entries of the table in a state. -/
def inState (s : State) (st : VisitorState) : Nat :=
  (s.vrg.slots.filter fun e => decide (e.2.visitor.map (·.state) = some st)).length

theorem inStanding_slotKeys (hc : canonical slotReset s.vrg.slots = true) (st : VisitorState) :
    inStanding s st s.slotKeys = inState s st :=
  slotKeys_count hc fun e => decide (e.visitor.map (·.state) = some st)

theorem startOfMuting_counts (hc : canonical slotReset s.vrg.slots = true) :
    (startOfMuting s).2 = (inState s .active, inState s .authorizing) := by
  obtain ⟨hcount, -, -⟩ := foldl_musterStep (slotKeys_nodup hc) (s, 0, 0) rfl fun _ _ => rfl
  rw [startOfMuting_eq, hcount, inStanding_slotKeys hc, inStanding_slotKeys hc]
  simp

theorem mustered_startOfMuting (hc : canonical slotReset s.vrg.slots = true) (hi : i ∈ s.slotKeys) :
    Mustered s i (cabins (startOfMuting s).1 i) := by
  obtain ⟨-, hin, -⟩ := foldl_musterStep (slotKeys_nodup hc) (s, 0, 0) rfl fun _ _ => rfl
  rw [startOfMuting_eq]
  exact hin i hi

/-- A cabin that holds a visitor. -/
theorem visitor_of_cabin (h : (cabins t i).1 = some (plain v)) :
    ∃ w, t.visitor i = some w ∧ w = { v with xref := w.xref, deferred := w.deferred } := by
  obtain ⟨w, hw, hplain⟩ := Option.map_eq_some_iff.mp h
  exact ⟨w, hw, eq_of_plain hplain⟩

theorem visitorsMuted_settled : Claims.VisitorsMuted := by
  intro s ⟨_, hc, _⟩
  refine ⟨startOfMuting_counts hc, fun i v hv => ?_⟩
  obtain ⟨hactive, hauth, hother⟩ := mustered_startOfMuting hc (mem_slotKeys_of_visitor hv)
  have hstanding : standing s i = some v.state := by rw [standing, hv, Option.map_some]
  refine ⟨fun h => visitor_of_cabin (hactive v hv h), fun h => visitor_of_cabin ?_, fun h => ?_⟩
  · rw [hother (by rw [hstanding]; rcases h with h | h <;> simp [h]) (by rw [hstanding]; rcases h with h | h <;> simp [h]),
      cabins, hv]
    rfl
  · obtain ⟨hreason, hdeparting⟩ := hauth (by rw [hstanding, h])
    refine ⟨hreason, ?_⟩
    cases hw : (startOfMuting s).1.visitor i with
    | none => exact .inl rfl
    | some w => exact .inr ⟨w, rfl, hdeparting (plain w) (by rw [cabins, hw]; rfl)⟩

end Sys2Proof.Machine
end

section
/-! PROOFS. O53: UCMD and the change of a unit's state (R170, R181, R182, R189). -/

namespace Sys2Proof.Machine

variable {f : Frame} {unit : Byte} {s t x y : State} {u : Nat} {m : Mark} {new : UnitState} {cause : UnitCause}

/-! ### A change of state (R170, R182) -/

theorem changeUnit_found (hne : (s.unit u).state ≠ new) (hl : lostState new = false) : changeUnit u new cause s =
    giveNotice .radio (.unit u) 8 (unitStateByte (s.unit u).state) (unitStateByte new) (unitCauseByte cause) 0 0
      (s.setUnit u { s.unit u with state := new }) := by
  have hkept : ¬ ((new = .unresponsive ∨ new = .excluded) ∧ (s.rdc.radio = .muting ∨ s.rdc.radio = .muted)) := by
    rintro ⟨h | h, -⟩ <;> rw [h] at hl <;> exact nomatch hl
  unfold changeUnit
  dsimp only
  simp only [if_neg hne, hl, Bool.false_eq_true, if_false]
  exact congrArg _ (if_neg hkept)

/-- RFOFF once a unit is lost (R181). -/
def rfoffAfter (new : UnitState) (s : State) : Bool := s.rdc.rfoff || (decide (new ≠ .faulty) && silencing s.rdc.radio)

theorem assertRfoff_eq (h : lostState new = true) (hrdc : y.rdc.rfoff = s.rdc.rfoff) (hradio : y.rdc.radio = s.rdc.radio) :
    (if (new = .unresponsive ∨ new = .excluded) ∧ (y.rdc.radio = .muting ∨ y.rdc.radio = .muted) then assertRfoff y else y) =
      y.withRdc { y.rdc with rfoff := rfoffAfter new s } := by
  have hon : ((new = .unresponsive ∨ new = .excluded) ∧ (y.rdc.radio = .muting ∨ y.rdc.radio = .muted)) ↔
      (decide (new ≠ .faulty) && silencing s.rdc.radio) = true := by
    rw [hradio, Bool.and_eq_true, decide_eq_true_eq]
    refine and_congr ?_ ?_
    · cases new <;> simp_all [lostState]
    · cases s.rdc.radio <;> simp [silencing]
  by_cases hc : (decide (new ≠ .faulty) && silencing s.rdc.radio) = true
  · rw [if_pos (hon.mpr hc), rfoffAfter, hc, Bool.or_true]
    rfl
  · rw [if_neg (mt hon.mp hc), rfoffAfter, Bool.eq_false_iff.mpr hc, Bool.or_false, ← hrdc]
    rfl

theorem changeUnit_lost (hne : (s.unit u).state ≠ new) (hl : lostState new = true) :
    let p := suspendUnit u (s.setUnit u { s.unit u with state := new })
    changeUnit u new cause s =
      giveNotice .radio (.unit u) 8 (unitStateByte (s.unit u).state) (unitStateByte new) (unitCauseByte cause)
        (BitVec.ofNat 8 (p.2 / 256)) (BitVec.ofNat 8 p.2) (p.1.withRdc { p.1.rdc with rfoff := rfoffAfter new s }) := by
  intro p
  have hrdc : p.1.rdc = (s.setUnit u { s.unit u with state := new }).rdc := (suspendUnit_samePlace u).1
  have hoff := assertRfoff_eq (y := p.1) (s := s) hl (by rw [hrdc]; rfl) (by rw [hrdc]; rfl)
  rw [← hoff]
  unfold changeUnit
  dsimp only
  simp only [if_neg hne, hl, if_true]
  rfl

theorem unitChanges_settled : Claims.UnitChanges := by
  intro u new cause s
  refine ⟨fun h => if_pos h, fun hne h => changeUnit_found hne ?_, fun hne h => changeUnit_lost hne ?_⟩
  · rcases h with rfl | rfl | rfl <;> rfl
  · rcases h with rfl | rfl | rfl <;> rfl

/-! ### The end check told (R179) -/

/-- The notice of an end check whose radio state moved. -/
def endTold (s t : State) : List Notice :=
  if t.rdc.radio = s.rdc.radio then []
  else [⟨.radio, .none, if t.rdc.radio = .muted then 3 else 4, 0, 0, 0, 0, 0, s.rqp.shipTime⟩]

theorem gives_endCheck (s : State) : Gives s (endCheck s) (endTold s (endCheck s)) := by
  have hstays (h : endCheck s = s) : Gives s (endCheck s) (endTold s (endCheck s)) := by
    rw [h, endTold, if_pos rfl]
    exact gives_nil rfl rfl
  obtain ⟨hidle, hmuting, hunmuting⟩ := endCheck_settled s
  cases hradio : s.rdc.radio with
  | muted => exact hstays (hidle (.inl hradio))
  | serving => exact hstays (hidle (.inr hradio))
  | muting =>
    obtain ⟨hwaits, hdone⟩ := hmuting hradio
    by_cases hw : (∃ u a, s.rdc.onBus = some (u, .mute a) ∨ s.rdc.onBus = some (u, .unmute a)) ∨
        ∃ u < 16, isMute (s.unit u).mark = true
    · exact hstays (hwaits hw)
    · have hmuted : (endCheck s).rdc.radio = .muted := by rw [hdone hw, giveNotice_rdc]; rfl
      rw [endTold, hmuted, hradio, if_neg nofun, if_pos rfl, hdone hw]
      exact gives_giveNotice_of_rqp (s := s) (z := s.withRdc { s.rdc with radio := .muted, deadline := none }) rfl
        .radio .none 3 0 0 0 0 0
  | unmuting =>
    obtain ⟨hwaits, hdone⟩ := hunmuting hradio
    by_cases hw : (∃ u a, s.rdc.onBus = some (u, .mute a) ∨ s.rdc.onBus = some (u, .unmute a)) ∨
        ∃ u < 16, isUnmute (s.unit u).mark = true
    · exact hstays (hwaits hw)
    · have hserving : (endCheck s).rdc.radio = .serving := by rw [hdone hw, giveNotice_rdc]; rfl
      rw [endTold, hserving, hradio, if_neg nofun, if_neg nofun, hdone hw]
      exact gives_giveNotice_of_rqp (s := s) (z := s.withRdc { s.rdc with radio := .serving }) rfl .radio .none 4 0 0 0 0 0

/-- What the end check moves of the controller: the radio state and the deadline. -/
theorem endCheck_rdc (s : State) : (endCheck s).rdc =
    { s.rdc with radio := (endCheck s).rdc.radio, deadline := (endCheck s).rdc.deadline } := by
  unfold endCheck
  split
  · split
    · rfl
    · rw [radioNotice_rdc]
      rfl
  · split
    · rfl
    · rw [radioNotice_rdc]
      rfl
  · rfl
  · rfl

theorem endCheck_unit (s : State) (v : Nat) : (endCheck s).unit v = s.unit v := by
  rw [State.unit, endCheck_rdc]
  rfl

theorem setUnit_setUnit (u : Nat) (v w : UnitRec) (s : State) : (s.setUnit u v).setUnit u w = s.setUnit u w := by
  have h := tset_tset unitReset s.rdc.units u v w
  exact congrArg (fun x => s.withRdc { s.rdc with units := x }) h

/-! ### The visitors of a lost unit depend on the register and the settings -/

theorem strandStep_congr {p q : State × Nat} (hv : p.1.vrg = q.1.vrg) (hs : p.1.settings = q.1.settings) (hn : p.2 = q.2)
    (i : Nat) : (strandStep u p i).1.vrg = (strandStep u q i).1.vrg ∧
      (strandStep u p i).1.settings = (strandStep u q i).1.settings ∧ (strandStep u p i).2 = (strandStep u q i).2 := by
  have hslot : p.1.slot i = q.1.slot i := by rw [State.slot, hv]; rfl
  unfold strandStep
  rw [hslot]
  split
  next h =>
    dsimp only
    rw [suspend_aboard (s := q.1) (by rwa [hslot]) hs, suspend_aboard (s := q.1) h rfl, hslot, hn]
    exact ⟨by simp only [State.setSlot, hv]; rfl, hs, rfl⟩
  next => exact ⟨hv, hs, hn⟩

theorem suspendUnit_congr (u : Nat) (hv : t.vrg = s.vrg) (hs : t.settings = s.settings) :
    (suspendUnit u t).1.vrg = (suspendUnit u s).1.vrg := by
  have hkeys : t.slotKeys = s.slotKeys := by rw [State.slotKeys, hv]; rfl
  rw [suspendUnit_eq, suspendUnit_eq, hkeys]
  have main (l : List Nat) (p q : State × Nat) (hv : p.1.vrg = q.1.vrg) (hs : p.1.settings = q.1.settings)
      (hn : p.2 = q.2) : (l.foldl (strandStep u) p).1.vrg = (l.foldl (strandStep u) q).1.vrg := by
    induction l generalizing p q with
    | nil => exact hv
    | cons i l ih =>
      obtain ⟨h1, h2, h3⟩ := strandStep_congr (u := u) hv hs hn i
      exact ih _ _ h1 h2 h3
  exact main _ _ _ hv hs rfl

/-! ### UCMD EXCLUDE (R189) -/

/-- A unit is EXCLUDED and its mark dropped, up to the end check. -/
def struckOff (u : Nat) (s : State) : State := setMark u none (changeUnit u .excluded .exclude s)

theorem excludeUnit_eq (u : Nat) (s : State) : excludeUnit u s = settleBus (endCheck (struckOff u s)) := rfl

theorem struckOff_unit_self (u : Nat) (s : State) :
    (struckOff u s).unit u = { s.unit u with state := .excluded, mark := none } := by
  rw [struckOff, setMark, State.setUnit_unit_self, changeUnit_unit, if_pos rfl]

theorem struckOff_unit_other {v : Nat} (h : v ≠ u) (s : State) : (struckOff u s).unit v = s.unit v := by
  rw [struckOff, setMark, State.setUnit_unit, if_neg (Ne.symm h), changeUnit_unit, if_neg (Ne.symm h)]

theorem aired_struckOff (u : Nat) (s : State) : Aired s (struckOff u s) := (aired_setMark ..).after (aired_changeUnit ..)

/-- What an exclusion leaves, and the notice it gives. -/
theorem struckOff_eq (hne : (s.unit u).state ≠ .excluded) :
    let p := suspendUnit u (s.setUnit u { s.unit u with state := .excluded })
    (struckOff u s).rdc.rfoff = (s.rdc.rfoff || silencing s.rdc.radio) ∧ (struckOff u s).rdc.radio = s.rdc.radio ∧
      (struckOff u s).rdc.onBus = s.rdc.onBus ∧ (struckOff u s).vrg = p.1.vrg ∧
      Gives s (struckOff u s) [⟨.radio, .unit u, 8, unitStateByte (s.unit u).state, 5, 7, BitVec.ofNat 8 (p.2 / 256),
        BitVec.ofNat 8 p.2, s.rqp.shipTime⟩] := by
  intro p
  have hlost : changeUnit u .excluded .exclude s = giveNotice .radio (.unit u) 8 (unitStateByte (s.unit u).state) 5 7
      (BitVec.ofNat 8 (p.2 / 256)) (BitVec.ofNat 8 p.2) (p.1.withRdc { p.1.rdc with rfoff := rfoffAfter .excluded s }) :=
    changeUnit_lost hne rfl
  have hrqp : p.1.rqp = s.rqp := suspendUnit_rqp ..
  refine ⟨?_, changeUnit_radio .., changeUnit_onBus .., ?_, ?_⟩
  · show (changeUnit u .excluded .exclude s).rdc.rfoff = _
    rw [hlost, giveNotice_rdc]
    rfl
  · show (changeUnit u .excluded .exclude s).vrg = _
    rw [hlost, giveNotice_vrg]
    rfl
  · have hgives := gives_giveNotice_of_rqp (s := s) (z := p.1.withRdc { p.1.rdc with rfoff := rfoffAfter .excluded s }) hrqp
      .radio (.unit u) 8 (unitStateByte (s.unit u).state) 5 7 (BitVec.ofNat 8 (p.2 / 256)) (BitVec.ofNat 8 p.2)
    rw [← hlost] at hgives
    exact hgives

theorem settleBus_unmarked (h : ∀ v < 16, (s.unit v).mark = none) (hp : s.rdc.probe = none) : settleBus s = s := by
  rw [settleBus, arbitrate_unmarked _ h, endProbe_none hp]

/-- With the bus busy, or no mark held and no probe, the exclusion starts nothing. -/
theorem excludeUnit_quiet
    (h : s.rdc.onBus.isSome = true ∨ (∀ v < 16, (s.unit v).mark = none) ∧ s.rdc.probe = none) :
    excludeUnit u s = endCheck (struckOff u s) := by
  have haired : Aired s (endCheck (struckOff u s)) := (aired_endCheck _).after (aired_struckOff u s)
  rw [excludeUnit_eq]
  rcases h with h | ⟨hmarks, hprobe⟩
  · refine settleBus_busy ?_
    rw [endCheck_rdc]
    exact (congrArg Option.isSome (changeUnit_onBus ..)).trans h
  · refine settleBus_unmarked (fun v hv => ?_) (haired.place.probe.trans hprobe)
    rw [endCheck_unit]
    by_cases hvu : v = u
    · rw [hvu, struckOff_unit_self]
    · rw [struckOff_unit_other hvu, hmarks v hv]

/-! ### UCMD INCLUDE and PROBE (R189) -/

theorem includeUnit_eq (h : (s.unit u).state = .excluded) : includeUnit u s = endCheck (giveNotice .radio (.unit u) 8 5 0 8 0 0
    (s.setUnit u { s.unit u with state := .absent, misses := 0, lastStatus := none })) := by
  let z := s.setUnit u { s.unit u with misses := 0, lastStatus := none }
  have hunit : z.unit u = { s.unit u with misses := 0, lastStatus := none } := State.setUnit_unit_self ..
  have hstate : (z.unit u).state = .excluded := by rw [hunit]; exact h
  have hchange := changeUnit_found (cause := .incl) (s := z) (u := u) (new := .absent) (by rw [hstate]; exact nofun) rfl
  rw [hstate, hunit] at hchange
  have htwice : z.setUnit u { s.unit u with state := .absent, misses := 0, lastStatus := none } =
      s.setUnit u { s.unit u with state := .absent, misses := 0, lastStatus := none } := setUnit_setUnit ..
  rw [htwice] at hchange
  exact congrArg endCheck hchange

/-- The mark a probe of a unit that is not EXCLUDED places. -/
theorem probeOf_eq (st : UnitState) : probeOf st = if st = .absent then .identify else .poll := by cases st <;> rfl

theorem placeProbe_eq (h : (s.unit u).state ≠ .excluded) (m : Mark) (hm : m = probeOf (s.unit u).state) :
    placeMark u m s = s.setUnit u { s.unit u with mark := if (s.unit u).mark = none then some m else (s.unit u).mark } := by
  rw [placeMark_of_state h]
  rcases hmark : (s.unit u).mark with - | k
  · rfl
  · rw [hm, placedOver_probeOf]
    rfl

/-- A probe placed on a free bus with no mark held: its transaction starts, and the unit holds no mark again. -/
theorem settleBus_probe (hu : u < 16) (hfree : s.rdc.onBus = none) (hmarks : ∀ v < 16, (s.unit v).mark = none)
    (hwire : s.rdc.wire = []) (hfault : s.rdc.busFault = false) (hm : m = .poll ∨ m = .identify) :
    settleBus (s.setUnit u { s.unit u with mark := some m }) =
      (s.setUnit u (s.unit u)).withRdc { (s.setUnit u (s.unit u)).rdc with
        onBus := some (u, m), speed := s.settings.busSpeed
        recovery := s.rdc.recovery ++ [(s.settings.busSpeed, [])] } := by
  let y := s.setUnit u { s.unit u with mark := some m }
  have hunit (v : Nat) : y.unit v = if u = v then { s.unit u with mark := some m } else s.unit v := State.setUnit_unit ..
  have hother {v : Nat} (hv : v < 16) : (y.unit v).mark = none ∨ (y.unit v).mark = some m := by
    rw [hunit]
    split
    · exact .inr rfl
    · exact .inl (hmarks v hv)
  have hself : (y.unit u).mark = some m := by rw [hunit, if_pos rfl]
  have hnext : y.nextMark = some (u, m) := by
    refine nextMark_of hu hself (.inr (.inr ⟨hm, fun v hv => ?_, fun v hv => ?_⟩))
    · rcases hother hv with h | h
      · rw [h]
        exact ⟨nofun, nofun⟩
      · rw [h]
        rcases hm with rfl | rfl <;> exact ⟨nofun, nofun⟩
    · rw [hunit, if_neg (Nat.ne_of_gt hv)]
      exact hmarks v (hv.trans hu)
  have hback : setMark u none y = s.setUnit u (s.unit u) := by
    have hrecord : { y.unit u with mark := none } = s.unit u := by
      rw [hunit, if_pos rfl, ← hmarks u hu]
    rw [setMark, hrecord]
    exact setUnit_setUnit ..
  have hsettled := settleBus_next (s := y) hfree hwire hfault hnext
  rw [hback] at hsettled
  exact hsettled

/-! ### UCMD -/

/-- What an exclusion that starts nothing leaves. -/
theorem excludeUnit_leaves (hne : (s.unit u).state ≠ .excluded)
    (hquiet : s.rdc.onBus.isSome = true ∨ (∀ v < 16, (s.unit v).mark = none) ∧ s.rdc.probe = none) :
    let t := excludeUnit u s
    t.unit u = { s.unit u with state := .excluded, mark := none } ∧ (∀ v, v ≠ u → t.unit v = s.unit v) ∧
      (silencing s.rdc.radio = true → t.rdc.rfoff = true) ∧ (silencing s.rdc.radio = false → t.rdc.rfoff = s.rdc.rfoff) ∧
      t.rdc.onBus = s.rdc.onBus ∧ t.vrg = (suspendUnit u s).1.vrg ∧ t.chu = s.chu ∧ t.qxu = s.qxu ∧ t.lmn = s.lmn ∧
      t.rte = s.rte ∧ t.zne = s.zne ∧ Told s.rqp t ∧
      (canonical slotReset s.vrg.slots = true → Gives s t (⟨.radio, .unit u, 8, unitStateByte (s.unit u).state, 5, 7,
        BitVec.ofNat 8 (Claims.activeOn s u / 256), BitVec.ofNat 8 (Claims.activeOn s u), s.rqp.shipTime⟩ ::
          (if t.rdc.radio = s.rdc.radio then []
            else [⟨.radio, .none, if t.rdc.radio = .muted then 3 else 4, 0, 0, 0, 0, 0, s.rqp.shipTime⟩]))) := by
  rw [excludeUnit_quiet hquiet]
  intro t
  let z := s.setUnit u { s.unit u with state := .excluded }
  obtain ⟨hoff, hradio, hbus, hvrg, hgives⟩ := struckOff_eq hne
  have haired : Aired s t := (aired_endCheck _).after (aired_struckOff u s)
  have hrdc := endCheck_rdc (struckOff u s)
  have hrfoff : t.rdc.rfoff = (s.rdc.rfoff || silencing s.rdc.radio) := (congrArg Rdc.rfoff hrdc).trans hoff
  refine ⟨?_, fun v hv => ?_, fun h => ?_, fun h => ?_, (congrArg Rdc.onBus hrdc).trans hbus, ?_, ?_, ?_, ?_, ?_, ?_,
    haired.told, fun hc => ?_⟩
  · rw [endCheck_unit, struckOff_unit_self]
  · rw [endCheck_unit, struckOff_unit_other hv]
  · rw [hrfoff, h, Bool.or_true]
  · rw [hrfoff, h, Bool.or_false]
  · rw [endCheck_vrg, hvrg]
    exact suspendUnit_congr u rfl rfl
  · rw [endCheck_chu, struckOff, setMark_chu, changeUnit_chu]
  · rw [endCheck_qxu, struckOff, setMark_qxu, changeUnit_qxu]
  · rw [endCheck_lmn, struckOff, setMark_lmn, changeUnit_lmn]
  · rw [endCheck_rte, struckOff, setMark_rte, changeUnit_rte]
  · rw [endCheck_zne, struckOff, setMark_zne, changeUnit_zne]
  · have hcount : (suspendUnit u z).2 = Claims.activeOn s u := suspendUnit_count u (s := z) hc
    rw [hcount] at hgives
    have htime : (struckOff u s).rqp.shipTime = s.rqp.shipTime := by rw [(aired_struckOff u s).told.kept]
    have hend := gives_endCheck (struckOff u s)
    rw [endTold, hradio, htime] at hend
    exact hgives.trans hend

/-! ### The work of each command, for a unit that exists -/

theorem doExclude_of (hu : unit.toNat ≤ 15) : doExclude unit s =
    if (s.unit unit.toNat).state = .excluded then reply .state s else reply .ok (excludeUnit unit.toNat s) :=
  if_neg (Nat.not_lt.mpr hu)

theorem doInclude_of (hu : unit.toNat ≤ 15) : doInclude unit s =
    if (s.unit unit.toNat).state = .excluded then reply .ok (includeUnit unit.toNat s) else reply .state s :=
  if_neg (Nat.not_lt.mpr hu)

theorem doProbe_of (hu : unit.toNat ≤ 15) : doProbe unit s =
    if (s.unit unit.toNat).state = .excluded then reply .state s
    else replyWith .ok [if (s.unit unit.toNat).mark = none then 0 else 1]
      (settleBus (placeMark unit.toNat (probeOf (s.unit unit.toNat).state) s)) := by
  refine (if_neg (Nat.not_lt.mpr hu)).trans ?_
  cases (s.unit unit.toNat).mark <;> rfl

theorem unitCommands_settled : Claims.UnitCommands := by
  intro f unit s ht u r a answers quiet
  have hexclude : exec (.ucmdExclude f unit) s = .next (deliver kUcmd f.tag (doExclude unit a)) := exec_taken rfl ht
  have hinclude : exec (.ucmdInclude f unit) s = .next (deliver kUcmd f.tag (doInclude unit a)) := exec_taken rfl ht
  have hprobe : exec (.ucmdProbe f unit) s = .next (deliver kUcmd f.tag (doProbe unit a)) := exec_taken rfl ht
  have hrdc : a.rdc = s.rdc := arrive_rdc f s
  have hunit (v : Nat) : a.unit v = s.unit v := arrive_unit f s v
  have done {c : Instr} {x y : Reply} (h : exec c s = .next (deliver kUcmd f.tag x)) (hx : x = y) :
      exec c s = .next (deliver kUcmd f.tag y) := hx ▸ h
  have hself : a.unit unit.toNat = r := hunit u
  refine ⟨fun hu => ⟨done hexclude (if_pos hu), done hinclude (if_pos hu), done hprobe (if_pos hu)⟩,
    fun hu hex => ?_, fun hu hex => ?_⟩
  · have hstate : (a.unit unit.toNat).state = .excluded := by rwa [hself]
    refine ⟨done hexclude ((doExclude_of hu).trans (if_pos hstate)), done hprobe ((doProbe_of hu).trans (if_pos hstate)),
      includeUnit u a, done hinclude ((doInclude_of hu).trans (if_pos hstate)), ?_⟩
    rw [includeUnit_eq hstate, hunit]
  · have hstate : (a.unit unit.toNat).state ≠ .excluded := by rwa [hself]
    have hexcluded := done hexclude ((doExclude_of hu).trans (if_neg hstate))
    have hprobed := done hprobe ((doProbe_of hu).trans (if_neg hstate))
    rw [hself, probeOf_eq] at hprobed
    refine ⟨done hinclude ((doInclude_of hu).trans (if_neg hstate)), ⟨_, hexcluded, rfl⟩, fun hq => ?_, hprobed,
      fun hbusy => ?_, fun hfree hmarks hwire hfault => ?_⟩
    · have hquiet : a.rdc.onBus.isSome = true ∨ (∀ v < 16, (a.unit v).mark = none) ∧ a.rdc.probe = none := by
        simp only [hrdc, hunit]
        exact hq
      obtain ⟨hstruck, hothers, hsilent, hloud, hbus, hvrg, hchu, hqxu, hlmn, hrte, hzne, htold, hgives⟩ :=
        excludeUnit_leaves (u := u) hstate hquiet
      have hactive : Claims.activeOn a u = Claims.activeOn s u := by
        rw [Claims.activeOn, arrive_vrg]
        rfl
      rw [hunit] at hstruck hgives
      rw [hrdc] at hsilent hloud hbus hgives
      rw [arrive_vrg, hactive] at hgives
      refine ⟨excludeUnit u a, hexcluded, hstruck, fun v hv => (hothers v hv).trans (hunit v), hsilent, hloud, hbus,
        hvrg.trans (suspendUnit_congr u (arrive_vrg f s) (arrive_settings f s)), hchu.trans (arrive_chu f s),
        hqxu.trans (arrive_qxu f s), hlmn.trans (arrive_lmn f s), hrte.trans (arrive_rte f s), hzne.trans (arrive_zne f s),
        htold.portKept, ?_, fun ⟨_, hc, _⟩ => ?_⟩
      · obtain ⟨new, hnew⟩ := htold.noticesKept
        exact ⟨new, by rw [hnew, arrive_notices]⟩
      · have hgiven := hgives hc
        rw [show a.rqp.shipTime = s.rqp.shipTime from arrive_shipTime f s] at hgiven
        exact Gives.congr hgiven (arrive_notices f s).symm (arrive_overflow f s).symm rfl rfl
    · have hbusy' : (placeMark u (if r.state = .absent then .identify else .poll) a).rdc.onBus.isSome = true := by
        rw [placeMark_of_state hstate]
        exact (congrArg (fun c : Rdc => c.onBus.isSome) hrdc).trans hbusy
      have hplaced := placeProbe_eq hstate (if r.state = .absent then .identify else .poll) (by rw [hself, probeOf_eq])
      rw [settleBus_busy hbusy', hplaced, hself] at hprobed
      exact hprobed
    · have hmark : r.mark = none := hmarks u (Nat.lt_succ_of_le hu)
      have hplaced : placeMark u (if r.state = .absent then .identify else .poll) a =
          a.setUnit u { a.unit u with mark := some (if r.state = .absent then .identify else .poll) } := by
        rw [placeMark_of_state hstate, hself, hmark]
        rfl
      have hset : a.settings = s.settings := arrive_settings f s
      have hstarted := settleBus_probe (s := a) (m := if r.state = .absent then .identify else .poll)
        (Nat.lt_succ_of_le hu) (by rw [hrdc]; exact hfree) (fun v hv => by rw [hunit]; exact hmarks v hv)
        (by rw [hrdc]; exact hwire) (by rw [hrdc]; exact hfault) (by split <;> simp)
      rw [← hplaced, hself, hset, hrdc] at hstarted
      rw [hstarted, if_pos hmark] at hprobed
      exact hprobed

/-- Settles O53. -/
theorem unitCommands : Obligations.UnitCommands := ⟨unitChanges_settled, unitCommands_settled⟩

end Sys2Proof.Machine
end

section
/-! PROOFS. O52: RMUTE, RRELEASE, and the beginning of MUTING and UNMUTING (R23, R24, R175–R178). -/

namespace Sys2Proof.Machine

variable {f : Frame} {s t x y : State} {u : Nat} {cause : PolicyCause}

/-! ### The port at the start of MUTING (R23) -/

theorem standing_not_authorizing (h : inState s .authorizing = 0) (i : Nat) : standing s i ≠ some .authorizing := by
  intro hst
  have hne : s.slot i ≠ slotReset := by
    intro hreset
    rw [standing, State.visitor, hreset] at hst
    exact nomatch hst
  have hmem := mem_of_tget_ne hne
  have hin : (i, s.slot i) ∈ s.vrg.slots.filter fun e => decide (e.2.visitor.map (·.state) = some .authorizing) :=
    List.mem_filter.mpr ⟨hmem, decide_eq_true hst⟩
  exact absurd h (List.length_pos_of_mem hin).ne'

theorem standing_suspend (i j : Nat) (s : State) (h : standing s j ≠ some .authorizing) :
    standing (suspend i s) j ≠ some .authorizing := by
  by_cases hij : j = i
  · subst hij
    rw [standing, suspend, visitor_updVisitor, if_pos rfl, Option.map_map]
    cases s.visitor j <;> simp
  · rwa [standing_of_cabins (cabins_suspend_other hij)]

/-- With no AUTHORIZING visitor nobody is retired, and the port stands. -/
theorem startOfMuting_rqp_of_none (h : inState s .authorizing = 0) : (startOfMuting s).1.rqp = s.rqp := by
  rw [startOfMuting_eq]
  have main (l : List Nat) (acc : State × Nat × Nat) (hacc : ∀ i, standing acc.1 i ≠ some .authorizing) :
      (l.foldl musterStep acc).1.rqp = acc.1.rqp := by
    induction l generalizing acc with
    | nil => rfl
    | cons i l ih =>
      rw [List.foldl_cons]
      have hstep : (musterStep acc i).1.rqp = acc.1.rqp ∧ ∀ j, standing (musterStep acc i).1 j ≠ some .authorizing := by
        unfold musterStep
        split
        · exact ⟨suspend_rqp .., fun j => standing_suspend i j _ (hacc j)⟩
        · rw [if_neg (hacc i)]
          exact ⟨rfl, hacc⟩
      rw [ih _ hstep.2, hstep.1]
  exact main _ (s, 0, 0) (standing_not_authorizing h)

/-! ### MUTING begins (R177) -/

/-- The state in which MUTING has begun for the visitors. -/
def mutingStarted (s : State) : State × Nat × Nat := startOfMuting (s.withRdc { s.rdc with radio := .muting })

/-- The visitors have been told of, with the notice MUTING. -/
def mutingTold (cause : PolicyCause) (s : State) : State :=
  let p := mutingStarted s
  radioNotice 1 (BitVec.ofNat 8 (p.2.1 / 256)) (BitVec.ofNat 8 p.2.1) (BitVec.ofNat 8 (p.2.2 / 256)) (BitVec.ofNat 8 p.2.2)
    (policyCauseByte cause) p.1

/-- A unit is lost that the start of MUTING cannot command (R177 step 5). -/
def SomeLost (s : State) : Prop := ∃ u < 16, (s.unit u).state = .unresponsive ∨ (s.unit u).state = .excluded

theorem unitsIn_pos_iff (st : UnitState) : 0 < s.unitsIn st ↔ ∃ u < 16, (s.unit u).state = st := by
  constructor
  · intro h
    obtain ⟨u, hu⟩ := List.exists_mem_of_length_pos h
    obtain ⟨hmem, hst⟩ := List.mem_filter.mp hu
    exact ⟨u, List.mem_range.mp hmem, by simpa using hst⟩
  · rintro ⟨u, hu, hst⟩
    exact unitsIn_pos hu hst

theorem someLost_iff (s : State) : SomeLost s ↔ 0 < s.unitsIn .unresponsive + s.unitsIn .excluded := by
  rw [Nat.add_pos_iff_pos_or_pos, unitsIn_pos_iff, unitsIn_pos_iff, ← exists_or]
  exact exists_congr fun u => by rw [← and_or_left]

theorem someLost_congr (h : ∀ u < 16, (t.unit u).state = (s.unit u).state) : SomeLost t ↔ SomeLost s :=
  exists_congr fun u => and_congr_right fun hu => by rw [h u hu]

theorem muteMarks_moved (u : Nat) (s : State) : UnitsMoved s (muteMarks u s) := by
  unfold muteMarks placeMark
  dsimp only
  repeat' split
  all_goals rfl

theorem unmuteMarks_moved (u : Nat) (s : State) : UnitsMoved s (unmuteMarks u s) := by
  unfold unmuteMarks
  dsimp only
  repeat' split
  all_goals rfl

/-- RFOFF asserted where a unit is lost (R177 step 5). -/
def coverLost (s : State) : State := if 0 < s.unitsIn .unresponsive + s.unitsIn .excluded then assertRfoff s else s

theorem beginMuting_eq (cause : PolicyCause) (s : State) :
    let z := coverLost (unitKeys.foldl (fun s u => muteMarks u s) (mutingTold cause s))
    beginMuting cause s = endCheck (z.withRdc { z.rdc with deadline := some z.settings.muteDeadline }) := by
  unfold beginMuting mutingTold mutingStarted coverLost
  dsimp only

theorem coverLost_rdc (s : State) : ∃ off, coverLost s = s.withRdc { s.rdc with rfoff := off } ∧
    (SomeLost s → off = true) ∧ (¬ SomeLost s → off = s.rdc.rfoff) := by
  unfold coverLost
  rw [someLost_iff]
  by_cases h : 0 < s.unitsIn .unresponsive + s.unitsIn .excluded
  · exact ⟨true, if_pos h, fun _ => rfl, fun hn => absurd h hn⟩
  · exact ⟨s.rdc.rfoff, if_neg h, fun hp => absurd hp h, fun _ => rfl⟩

theorem mutingTold_rdc (cause : PolicyCause) (s : State) : (mutingTold cause s).rdc = { s.rdc with radio := .muting } :=
  (giveNotice_rdc ..).trans (startOfMuting_rdc (s.withRdc { s.rdc with radio := .muting }))

theorem mutingTold_settings (cause : PolicyCause) (s : State) : (mutingTold cause s).settings = s.settings := by
  simp [State.settings_eq, mutingTold, mutingStarted]

/-- The state MUTING leaves up to the end check: the units' marks, RFOFF where a unit is lost, and the deadline. -/
theorem beginMuting_shape (cause : PolicyCause) (s : State) : ∃ (units : Table UnitRec) (off : Bool),
    beginMuting cause s = endCheck ((mutingTold cause s).withRdc { s.rdc with
      units := units, radio := .muting, rfoff := off, deadline := some s.settings.muteDeadline }) ∧
    (∀ u < 16, tget unitReset units u = silenced (s.unit u)) ∧
    (SomeLost s → off = true) ∧ (¬ SomeLost s → off = s.rdc.rfoff) := by
  have hshape := beginMuting_eq cause s
  have hnrdc := mutingTold_rdc cause s
  have hnset := mutingTold_settings cause s
  generalize mutingTold cause s = n at hshape hnrdc hnset ⊢
  have hy : UnitsMoved n (unitKeys.foldl (fun s u => muteMarks u s) n) := unitsMoved_foldl muteMarks_moved _ _
  have hunit (u : Nat) (hu : u < 16) : (unitKeys.foldl (fun s u => muteMarks u s) n).unit u = silenced (s.unit u) := by
    have hn : n.unit u = s.unit u := by rw [State.unit, hnrdc]; rfl
    rw [← hn]
    exact unit_foldl_unitKeys muteMarks_unit_self muteMarks_unit_other n hu
  generalize unitKeys.foldl (fun s u => muteMarks u s) n = y at hshape hy hunit
  rw [UnitsMoved, hnrdc] at hy
  have hlost : SomeLost y ↔ SomeLost s := someLost_congr fun u hu => by rw [hunit u hu, silenced_state]
  have hoff : y.rdc.rfoff = s.rdc.rfoff := by rw [hy]; rfl
  obtain ⟨off, hcover, hyes, hno⟩ := coverLost_rdc y
  rw [hlost] at hyes hno
  rw [hoff] at hno
  refine ⟨y.rdc.units, off, ?_, hunit, hyes, hno⟩
  rw [hshape, hcover]
  refine congrArg endCheck ?_
  have hset : y.settings = s.settings := by rw [hy]; exact hnset
  show y.withRdc { y.rdc with rfoff := off, deadline := some y.settings.muteDeadline } = _
  rw [hset]
  generalize y.rdc.units = units at hy
  rw [hy]
  rfl

/-- A command of a sequence is on the bus. -/
def CommandOnBus (s : State) : Prop := ∃ u a, s.rdc.onBus = some (u, .mute a) ∨ s.rdc.onBus = some (u, .unmute a)

/-- How the end check of MUTING turns out, told by what it leaves (R179). -/
theorem endCheck_muting {d : Nat} (h : s.rdc.radio = .muting) (hd : s.rdc.deadline = some d) :
    let t := endCheck s
    let busy := (∃ u < 16, isMute (t.unit u).mark = true) ∨ CommandOnBus s
    (busy → t.rdc.radio = .muting ∧ t.rdc.deadline = some d) ∧ (¬ busy → t.rdc.radio = .muted ∧ t.rdc.deadline = none) := by
  intro t busy
  obtain ⟨-, hmuting, -⟩ := endCheck_settled s
  obtain ⟨hwaits, hdone⟩ := hmuting h
  have hbusy : busy ↔ CommandOnBus s ∨ ∃ u < 16, isMute (s.unit u).mark = true := by
    simp only [busy, t, endCheck_unit, or_comm]
  rw [hbusy]
  refine ⟨fun hw => ?_, fun hw => ?_⟩
  · rw [show t = s from hwaits hw]
    exact ⟨h, hd⟩
  · rw [show t = _ from hdone hw, giveNotice_rdc]
    exact ⟨rfl, rfl⟩

theorem endCheck_unmuting (h : s.rdc.radio = .unmuting) :
    let t := endCheck s
    let busy := (∃ u < 16, isUnmute (t.unit u).mark = true) ∨ CommandOnBus s
    (busy → t.rdc.radio = .unmuting) ∧ (¬ busy → t.rdc.radio = .serving) ∧ t.rdc.deadline = s.rdc.deadline := by
  intro t busy
  obtain ⟨-, -, hunmuting⟩ := endCheck_settled s
  obtain ⟨hwaits, hdone⟩ := hunmuting h
  have hbusy : busy ↔ CommandOnBus s ∨ ∃ u < 16, isUnmute (s.unit u).mark = true := by
    simp only [busy, t, endCheck_unit, or_comm]
  rw [hbusy]
  by_cases hw : CommandOnBus s ∨ ∃ u < 16, isUnmute (s.unit u).mark = true
  · rw [show t = s from hwaits hw]
    exact ⟨fun _ => h, fun hn => absurd hw hn, rfl⟩
  · rw [show t = _ from hdone hw, giveNotice_rdc]
    exact ⟨fun hp => absurd hp hw, fun _ => rfl, rfl⟩

/-- The mark of a unit at the start of MUTING (R177 step 4). -/
def silencedMark (r : UnitRec) : Option Mark :=
  match r.state with
  | .serving | .faulty => if isMute r.mark then r.mark else some (.mute 1)
  | .unresponsive | .absent => if isUnmute r.mark then some (.mute 1) else r.mark
  | .muted => if isUnmute r.mark then none else r.mark
  | .excluded => r.mark

/-- A MUTE placed keeps a MUTE that is held and replaces any other mark. -/
theorem placedOver_firstMute (m : Option Mark) :
    some (placedOver m firstMute) = if isMute m then m else some (.mute 1) := by
  rcases m with _ | (_ | _ | _ | _) <;> rfl

theorem silenced_eq (r : UnitRec) : silenced r = { r with mark := silencedMark r } := by
  obtain ⟨st, misses, mark, status, failure⟩ := r
  unfold silenced silencedMark
  cases st with
  | serving | faulty => exact congrArg (fun m => UnitRec.mk _ misses m status failure) (placedOver_firstMute mark)
  | unresponsive | absent | muted =>
    dsimp only
    split <;> rfl
  | excluded => rfl

/-- The notice MUTING and what it stands behind. -/
theorem gives_mutingTold (cause : PolicyCause) (hc : canonical slotReset s.vrg.slots = true) :
    Gives (mutingStarted s).1 (mutingTold cause s)
      [⟨.radio, .none, 1, BitVec.ofNat 8 (inState s .active / 256), BitVec.ofNat 8 (inState s .active),
        BitVec.ofNat 8 (inState s .authorizing / 256), BitVec.ofNat 8 (inState s .authorizing), policyCauseByte cause,
        s.rqp.shipTime⟩] := by
  have hcounts : (mutingStarted s).2 = (inState s .active, inState s .authorizing) :=
    startOfMuting_counts (s := s.withRdc { s.rdc with radio := .muting }) hc
  have htime : (mutingStarted s).1.rqp.shipTime = s.rqp.shipTime :=
    startOfMuting_rqp_shipTime (s.withRdc { s.rdc with radio := .muting })
  unfold mutingTold
  generalize mutingStarted s = p at hcounts htime ⊢
  obtain ⟨w, a, b⟩ := p
  obtain ⟨rfl, rfl⟩ := Prod.mk.inj hcounts
  rw [← htime]
  exact gives_giveNotice .radio .none 1 _ _ _ _ _ w

theorem mutingBegins_settled : Claims.MutingBegins := by
  intro cause s t lost busy z inState' hi lo begun done
  obtain ⟨units, off, hshape, hunits, hyes, hno⟩ := beginMuting_shape cause s
  have htold := fun hc => gives_mutingTold (s := s) cause hc
  have haired : Aired s t := aired_beginMuting cause s
  have hkept : (mutingTold cause s).vrg = z.vrg ∧ (mutingTold cause s).chu = z.chu ∧ (mutingTold cause s).qxu = z.qxu :=
    ⟨giveNotice_vrg .., giveNotice_chu .., giveNotice_qxu ..⟩
  have hframe : t.lmn = s.lmn ∧ t.rte = s.rte ∧ t.zne = s.zne ∧ t.base = s.base ∧ t.pending = s.pending :=
    ⟨beginMuting_lmn .., beginMuting_rte .., beginMuting_zne .., beginMuting_base .., beginMuting_pending ..⟩
  have htime : (mutingTold cause s).rqp.shipTime = s.rqp.shipTime := by simp [mutingTold, mutingStarted]
  have hquiet : inState s .authorizing = 0 → z.rqp = s.rqp :=
    startOfMuting_rqp_of_none (s := s.withRdc { s.rdc with radio := .muting })
  have hz : z = (mutingStarted s).1 := rfl
  rw [← hz] at htold
  have ht : t = beginMuting cause s := rfl
  rw [← ht] at hshape
  clear_value t z
  generalize mutingTold cause s = n at hshape htold hkept htime
  let y := n.withRdc { s.rdc with
    units := units, radio := .muting, rfoff := off, deadline := some s.settings.muteDeadline }
  have hty : t = endCheck y := hshape
  obtain ⟨hvrg, hchu, hqxu⟩ := hkept
  obtain ⟨hlmn, hrte, hzne, hbase, hpending⟩ := hframe
  have hend := endCheck_muting (s := y) rfl rfl
  have hgives := gives_endCheck y
  have hrdc := endCheck_rdc y
  have hunit (u : Nat) : t.unit u = tget unitReset units u := by
    rw [hty, endCheck_unit]
    rfl
  have hvisitors : t.vrg = z.vrg ∧ t.chu = z.chu ∧ t.qxu = z.qxu := by
    rw [hty, endCheck_vrg, endCheck_chu, endCheck_qxu]
    exact ⟨hvrg, hchu, hqxu⟩
  rw [← hty] at hend hgives hrdc
  obtain ⟨hbusy, hidle⟩ := hend
  have hoff : t.rdc.rfoff = off := congrArg Rdc.rfoff hrdc
  have hbus : t.rdc.onBus = s.rdc.onBus := (congrArg Rdc.onBus hrdc).trans rfl
  have hpoll : t.rdc.poll = s.rdc.poll := (congrArg Rdc.poll hrdc).trans rfl
  have hprobe : t.rdc.probe = s.rdc.probe := (congrArg Rdc.probe hrdc).trans rfl
  obtain ⟨htvrg, htchu, htqxu⟩ := hvisitors
  refine ⟨htvrg, htchu, htqxu, fun ⟨_, hc, _⟩ => ?_, hquiet, fun u hu => ?_, fun h => hoff.trans (hyes h),
    fun h => hoff.trans (hno h), hbusy, hidle, hbus, hpoll, hprobe,
    hlmn, hrte, hzne, hbase, hpending, haired.told.portKept, haired.told.noticesKept⟩
  · have hdone : endTold y t = done := by
      have hradio : y.rdc.radio = .muting := rfl
      rw [endTold, hradio, show y.rqp.shipTime = s.rqp.shipTime from htime]
      by_cases hb : busy
      · rw [if_pos (hbusy hb).1]
        exact (if_neg (by rw [(hbusy hb).1]; exact nofun)).symm
      · have hm : t.rdc.radio = .muted := (hidle hb).1
        rw [if_neg (by rw [hm]; exact nofun), if_pos hm]
        exact (if_pos hm).symm
    rw [hdone] at hgives
    exact (htold hc).trans hgives
  · rw [hunit, hunits u hu, silenced_eq]
    rfl

/-! ### UNMUTING begins (R178) -/

/-- The radio unmutes, with its notice. -/
def unmutingTold (cause : PolicyCause) (s : State) : State :=
  radioNotice 2 0 0 0 0 (policyCauseByte cause)
    (s.withRdc { s.rdc with radio := .unmuting, deadline := none, rfoff := false })

theorem beginUnmuting_shape (cause : PolicyCause) (s : State) : ∃ units : Table UnitRec,
    beginUnmuting cause s = endCheck ((unmutingTold cause s).withRdc { s.rdc with
      units := units, radio := .unmuting, rfoff := false, deadline := none }) ∧
    ∀ u < 16, tget unitReset units u = released (s.unit u) := by
  have hshape : beginUnmuting cause s = endCheck (unitKeys.foldl (fun s u => unmuteMarks u s) (unmutingTold cause s)) := by
    unfold beginUnmuting unmutingTold
    rfl
  have hnrdc : (unmutingTold cause s).rdc = { s.rdc with radio := .unmuting, deadline := none, rfoff := false } :=
    giveNotice_rdc ..
  generalize unmutingTold cause s = n at hshape hnrdc ⊢
  have hy : UnitsMoved n (unitKeys.foldl (fun s u => unmuteMarks u s) n) := unitsMoved_foldl unmuteMarks_moved _ _
  have hunit (u : Nat) (hu : u < 16) : (unitKeys.foldl (fun s u => unmuteMarks u s) n).unit u = released (s.unit u) := by
    have hn : n.unit u = s.unit u := by rw [State.unit, hnrdc]; rfl
    rw [← hn]
    exact unit_foldl_unitKeys unmuteMarks_unit_self unmuteMarks_unit_other n hu
  generalize unitKeys.foldl (fun s u => unmuteMarks u s) n = y at hshape hy hunit
  rw [UnitsMoved, hnrdc] at hy
  exact ⟨y.rdc.units, hshape.trans (congrArg endCheck hy), hunit⟩

/-- The end check moves the controller and the port alone. -/
theorem endCheck_state (s : State) : endCheck s = (s.withRdc (endCheck s).rdc).withRqp (endCheck s).rqp := by
  have hmoved (k : NoticeKind) (d : Byte) (r : Rdc) : giveNotice k .none d 0 0 0 0 0 (s.withRdc r) =
      (s.withRdc (giveNotice k .none d 0 0 0 0 0 (s.withRdc r)).rdc).withRqp
        (giveNotice k .none d 0 0 0 0 0 (s.withRdc r)).rqp := by
    unfold giveNotice
    split <;> rfl
  unfold endCheck radioNotice
  split
  · split
    · rfl
    · exact hmoved ..
  · split
    · rfl
    · exact hmoved ..
  · rfl
  · rfl

theorem unmutingTold_state (cause : PolicyCause) (s : State) :
    unmutingTold cause s = (s.withRdc (unmutingTold cause s).rdc).withRqp (unmutingTold cause s).rqp := by
  unfold unmutingTold radioNotice giveNotice
  split <;> rfl

/-- What the start of UNMUTING makes of a unit's record, by its state (R178 step 5). -/
theorem released_cases (r : UnitRec) :
    (r.state = .serving → released r = { r with mark := if isMute r.mark then none else r.mark }) ∧
    (r.state = .muted → released r = { r with mark := some (.unmute 1) }) ∧
    (r.state = .unresponsive → isMute r.mark = true → faultShown r = false →
      released r = { r with mark := some (.unmute 1) }) ∧
    (r.state = .unresponsive → isMute r.mark = false ∨ faultShown r = true → released r = r) ∧
    (r.state = .faulty ∨ r.state = .absent ∨ r.state = .excluded → released r = r) := by
  refine ⟨fun h => ?_, fun h => ?_, fun h hm hf => ?_, fun h hm => ?_, fun h => ?_⟩
  · obtain ⟨st, misses, mark, status, failure⟩ := r
    cases h
    simp only [released]
    split <;> rfl
  · simp only [released, h, firstUnmute]
  · simp only [released, h, hm, hf, firstUnmute, Bool.not_false, Bool.and_true, if_true]
  · simp only [released, h]
    refine if_neg ?_
    rcases hm with hm | hm <;> simp [hm]
  · rcases h with h | h | h <;> simp only [released, h]

theorem unmutingBegins_settled : Claims.UnmutingBegins := by
  intro cause s t faulty busy done
  obtain ⟨units, hshape, hunits⟩ := beginUnmuting_shape cause s
  have haired : Aired s t := aired_beginUnmuting cause s
  have htold : Gives s (unmutingTold cause s)
      [⟨.radio, .none, 2, 0, 0, 0, 0, policyCauseByte cause, s.rqp.shipTime⟩] :=
    gives_giveNotice_of_rqp (s := s) (z := s.withRdc { s.rdc with radio := .unmuting, deadline := none, rfoff := false }) rfl
      .radio .none 2 0 0 0 0 (policyCauseByte cause)
  have htime : (unmutingTold cause s).rqp.shipTime = s.rqp.shipTime := giveNotice_rqp_shipTime ..
  have hstate := unmutingTold_state cause s
  have ht : t = beginUnmuting cause s := rfl
  rw [← ht] at hshape
  clear_value t
  generalize unmutingTold cause s = n at hshape htold htime hstate
  let y := n.withRdc { s.rdc with units := units, radio := .unmuting, rfoff := false, deadline := none }
  have hty : t = endCheck y := hshape
  have hend := endCheck_unmuting (s := y) rfl
  have hgives := gives_endCheck y
  have hrdc := endCheck_rdc y
  have hmoved := endCheck_state y
  have hunit (u : Nat) (hu : u < 16) : t.unit u = released (s.unit u) := by
    rw [hty, endCheck_unit]
    exact hunits u hu
  rw [← hty] at hend hgives hrdc hmoved
  obtain ⟨hbusy, hidle, hdeadline⟩ := hend
  refine ⟨fun u hu => ?_, hbusy, hidle, ?_, ?_, ?_, haired.told.portKept⟩
  · rw [hunit u hu]
    dsimp only
    have hshown := faultShown_iff (s.unit u)
    generalize s.unit u = r at hshown
    obtain ⟨hserving, hmuted, hresponds, hstays, hothers⟩ := released_cases r
    refine ⟨hserving, hmuted, fun hst hmute hclear => hresponds hst hmute ?_, fun hst h => hstays hst ?_, hothers⟩
    · exact Bool.eq_false_iff.mpr (mt hshown.mp hclear)
    · exact h.imp_right hshown.mpr
  · have htable : t.rdc.units = units := congrArg Rdc.units hrdc
    rw [hdeadline] at hrdc
    rw [htable]
    exact hrdc
  · have hdone : endTold y t = done := by
      have hradio : y.rdc.radio = .unmuting := rfl
      rw [endTold, hradio, show y.rqp.shipTime = s.rqp.shipTime from htime]
      by_cases hb : busy
      · rw [if_pos (hbusy hb)]
        exact (if_neg (by rw [hbusy hb]; exact nofun)).symm
      · have hm : t.rdc.radio = .serving := hidle hb
        rw [if_neg (by rw [hm]; exact nofun), if_neg (by rw [hm]; exact nofun)]
        exact (if_pos hm).symm
    rw [hdone] at hgives
    exact htold.trans hgives
  · refine hmoved.trans ?_
    have hy : y = (s.withRdc y.rdc).withRqp y.rqp := by
      simp only [y]
      rw [hstate]
      rfl
    rw [hy]
    rfl

/-! ### RMUTE and RRELEASE (R175, R176) -/

/-- The operator mute set, and nothing else of the controller. -/
def withOpMute (b : Bool) (s : State) : State := s.withRdc { s.rdc with opMute := b }

theorem operatorMute_changed {b : Bool} (h : s.rdc.opMute ≠ b) :
    operatorMute b s = policyTurned s.effectivePolicy .operator (withOpMute b s) := if_neg h

theorem policyTurned_kept {before : Policy} (h : s.effectivePolicy = before) : policyTurned before cause s = s := if_pos h

theorem policyTurned_mute {before : Policy} (hb : before = .serve) (h : s.effectivePolicy = .mute) :
    policyTurned before cause s = if silencing s.rdc.radio = true then s else settleBus (beginMuting cause s) := by
  unfold policyTurned
  simp only [h, hb]
  cases hr : s.rdc.radio <;> simp [silencing]

theorem policyTurned_serve {before : Policy} (hb : before = .mute) (h : s.effectivePolicy = .serve) :
    policyTurned before cause s = if silencing s.rdc.radio = true then settleBus (beginUnmuting cause s) else s := by
  unfold policyTurned
  simp only [h, hb]
  cases hr : s.rdc.radio <;> simp [silencing]

theorem effectivePolicy_muted (h : s.rdc.opMute = true) : s.effectivePolicy = .mute := by
  rw [State.effectivePolicy, h, if_pos rfl]

theorem effectivePolicy_free (h : s.rdc.opMute = false) : s.effectivePolicy = s.policyInForce := by
  rw [State.effectivePolicy, h, if_neg Bool.false_ne_true]

theorem operatorRequests_settled : Claims.OperatorRequests := by
  intro f s a with' rmute rrelease
  have hrdc : a.rdc = s.rdc := arrive_rdc f s
  have hpolicy : a.policyInForce = s.policyInForce := by
    have hzne : a.zne = s.zne := arrive_zne f s
    have hset : a.settings = s.settings := arrive_settings f s
    simp only [State.policyInForce, State.zoneInForce, State.zone, hzne, hset]
  have hwith (b : Bool) : withOpMute b a = with' b := by
    rw [withOpMute, hrdc]
  refine ⟨fun ht => ?_, fun ht => ?_⟩
  · have hexec : exec (.rmute f) s = .next (deliver kRmute f.tag (doRmute a)) := exec_taken rfl ht
    have done {x : State} (h : operatorMute true a = x) : rmute x := by
      rw [← h]
      exact hexec
    refine ⟨fun hop => done (if_pos ?_), fun hop h => ?_, fun hop hserve hloud => ?_⟩
    · rw [hrdc, hop]
    · refine done ((operatorMute_changed (by rw [hrdc, hop]; exact nofun)).trans ?_)
      rw [effectivePolicy_free (by rw [hrdc, hop]), hpolicy, hwith]
      have hmute : (with' true).effectivePolicy = .mute := effectivePolicy_muted rfl
      cases hp : s.policyInForce with
      | mute => exact policyTurned_kept hmute
      | serve =>
        have hsilent : silencing s.rdc.radio = true := h.resolve_left (by rw [hp]; exact nofun)
        exact (policyTurned_mute rfl hmute).trans (if_pos hsilent)
    · refine done ((operatorMute_changed (by rw [hrdc, hop]; exact nofun)).trans ?_)
      rw [effectivePolicy_free (by rw [hrdc, hop]), hpolicy, hwith]
      exact (policyTurned_mute hserve (effectivePolicy_muted rfl)).trans
        (if_neg (show ¬ silencing s.rdc.radio = true by rw [hloud]; exact Bool.false_ne_true))
  · have hexec : exec (.rrelease f) s = .next (deliver kRrelease f.tag (doRrelease a)) := exec_taken rfl ht
    have done {x : State} (h : operatorMute false a = x) : rrelease x := by
      rw [← h]
      exact hexec
    have hfree : (with' false).effectivePolicy = s.policyInForce := (effectivePolicy_free rfl).trans hpolicy
    refine ⟨fun hop => done (if_pos ?_), fun hop h => ?_, fun hop hserve hsilent => ?_⟩
    · rw [hrdc, hop]
    · refine done ((operatorMute_changed (by rw [hrdc, hop]; exact nofun)).trans ?_)
      rw [effectivePolicy_muted (by rw [hrdc, hop]), hwith]
      cases hp : s.policyInForce with
      | mute => exact policyTurned_kept (hfree.trans hp)
      | serve =>
        have hloud : silencing s.rdc.radio = false := h.resolve_left (by rw [hp]; exact nofun)
        exact (policyTurned_serve rfl (hfree.trans hp)).trans
          (if_neg (show ¬ silencing s.rdc.radio = true by rw [hloud]; exact Bool.false_ne_true))
    · refine done ((operatorMute_changed (by rw [hrdc, hop]; exact nofun)).trans ?_)
      rw [effectivePolicy_muted (by rw [hrdc, hop]), hwith]
      exact (policyTurned_serve rfl (hfree.trans hserve)).trans (if_pos hsilent)

/-- Settles O52. -/
theorem operatorMute_settled : Obligations.OperatorMute :=
  ⟨visitorsMuted_settled, unitVisitorsSuspended_settled, mutingBegins_settled, unmutingBegins_settled,
    operatorRequests_settled⟩

end Sys2Proof.Machine
end
